-- ==== Sys2Proof/Word.lean ====
section
/-! DEFINITION. The word and byte types of the register and memory interfaces (R8). -/

namespace Sys2Proof

/-- A register of BAR0: 32 bits (R8). -/
abbrev Word := BitVec 32

/-- One byte of the BAR2 memories. -/
abbrev Byte := BitVec 8

end Sys2Proof
end

