-- ==== Sys2Proof/Syntax.lean ====
section
/-! DEFINITION. The commands of the block: one constructor of `Instr` per row of the opcode table, with the operands
that the row's event or access carries, and the message types that travel on its lanes. -/

namespace Sys2Proof

/-! ### Index ranges (R6) -/
abbrev Cell := Fin 24
abbrev Gate := Fin 192
abbrev LegPair := Fin 96
abbrev Chan := Fin 72
abbrev Group := Fin 8
abbrev Engine := Fin 8
abbrev Conv := Fin 8
abbrev Bank := Fin 8
abbrev Lane := Fin 8
abbrev Node := Fin 64
abbrev Queue := Fin 32
abbrev Point := Fin 4

/-- A source of BAR0 writes with its own key slot (R627). -/
inductive Src where
  | pcie | tunnel | list
deriving DecidableEq, Repr

/-- A host access through BAR2 (R449): bytes written, or a number of bytes to read. -/
inductive Bar2 where
  | write (bytes : List Byte)
  | read (n : Nat)
deriving DecidableEq, Repr

/-- A main-domain supply watched by R604. -/
inductive Rail where
  | vddCore | vddSram | vddIo18 | vddLane | vddhLane
deriving DecidableEq, Repr

/-- An output pin of the block that is no pad of a cell. -/
inductive Pin where
  | ready | tripO0 | tripO1 | ppsOut | tpo (n : Nat) | mpo (n : Nat) | hbOut
deriving DecidableEq, Repr

/-- The settings of a timed pulse output taken at ARM (R108); instants in 50 ps units, period and width in ns. -/
structure Tpo where
  first : Nat
  start : Nat
  per : Nat
  wid : Nat
  periodic : Bool
  activeLow : Bool
deriving DecidableEq, Repr

/-- An IEEE 1588 message as the time block reads it (R98); stamps and corrections in 50 ps units. -/
inductive PtpMsg where
  /-- Announce: the data set of its grandmaster in comparison order, lower is better -/
  | announce (dataSet : List Nat)
  /-- Sync with the origin stamp of a one-step clock -/
  | sync (seq : Nat) (origin corr : Int)
  /-- Sync of a two-step clock, whose origin stamp follows -/
  | syncTwoStep (seq : Nat) (corr : Int)
  /-- Follow_Up with the origin stamp -/
  | followUp (seq : Nat) (origin corr : Int)
  /-- Delay_Resp: departure of the request and its arrival at the master -/
  | delayResp (t3 t4 : Int)
  /-- Pdelay_Resp with the four stamps of the exchange -/
  | pdelayResp (t1 t2 t3 t4 : Int)
  /-- Pdelay_Req of a peer -/
  | pdelayReq
  /-- a management or unsupported message, discarded -/
  | other
deriving DecidableEq, Repr

/-- A message with its transport: UDP over IPv4, else Ethernet (R98). -/
structure PtpPacket where
  udp : Bool
  msg : PtpMsg
deriving DecidableEq, Repr

/-- A time-transfer set with the four times of R103, in 50 ps units: far departure, local arrival, local departure,
far arrival. -/
structure TimeSet where
  t1 : Int
  t2 : Int
  t3 : Int
  t4 : Int
deriving DecidableEq, Repr

/-- The latch vector of R408. -/
structure LatchVec where
  switches : Nat
  cells : Nat
  causes : List Nat
  ts32 : Word
  seq : Nat
deriving DecidableEq, Repr

/-- A stack trip set (R263). -/
structure TripSet where
  node : Node
  role : Bool
  cause : Fin 16
  seq : Fin 16
deriving DecidableEq, Repr

/-- A period frame on a lane (R254): hop count and COPY of its start block, the 212 bytes of payload, and whether its
terminate block carries /E/. -/
structure Frame where
  ttl : BitVec 8
  copy : Bool := false
  payload : List Byte
  stomped : Bool := false
deriving DecidableEq, Repr

/-- A discovery set (R570) with its remaining hops. `sender` tells the physical devices apart; it is not on the wire. -/
structure Disc where
  node : Node
  role : Bool
  state : BitVec 4
  rcd : Word
  img : BitVec 16
  ttl : BitVec 8
  sender : Nat
deriving DecidableEq, Repr

/-! ### Geode checkpoints (R405) -/

/-- A binary rational m × 2^e. -/
structure Dy where
  m : Int := 0
  e : Int := 0
deriving DecidableEq, Repr

/-- The accumulators a checkpoint carries (R405): of each point EIMP, EEXP, wrap counts, IIMP, IEXP and one more than
the start of the interval they belong to (0 before the first); of each pulse output its count, its backlog and the energy below one
pulse; the counts of the pulse inputs. -/
structure MtrAcc where
  points : List (List Nat) := []
  mpo : List (Nat × Nat × Nat) := []
  mpi : List Nat := []
deriving DecidableEq, Repr

/-- The PWM content of a leg pair: live ON, WID and dead times, ADT_R, ADT_F and their clean counts. -/
structure CkptPair where
  on : Word := 0
  wid : Word := 0
  dt : Word := 0
  adtR : Nat := 0
  adtF : Nat := 0
  cleanR : Nat := 0
  cleanF : Nat := 0
deriving DecidableEq, Repr

/-- The WEAR content of a capacitor or its history: C, ESR, whether they are valid. -/
structure CkptCap where
  c : Word := 0
  esr : Word := 0
  valid : Bool := false
deriving DecidableEq, Repr

/-- A Geode checkpoint (R405). Header fields and the CRC at its end stand as on the wire. Engines: VTX_BSEL and the words of each segment's region. Digests are the first and the second 32 bits. `part`: only a
part of it has arrived so far. -/
structure Ckpt where
  part : Bool := false
  magic : Word := 0x444f4547
  ver : BitVec 16 := 0x0100
  final : Bool := false
  seq : Word := 0
  length : Word := 0
  capK : Int := 0
  capTs : Word := 0
  digest : Word × Word := (0, 0)
  crc : Word := 0
  engines : List (Word × List (Nat × List Word)) := []
  pwm : List CkptPair := []
  swLatch : List Word := []
  swInfo : List Word := []
  cellFs : Word := 0
  cellInfo : List Word := []
  mtr : MtrAcc := {}
  caps : List CkptCap := []
  hist : List (Nat × List (Nat × Dy)) := []
  rate : List (Nat × Word) := []
  time : List Word := []
deriving DecidableEq, Repr

/-! ### Host queues and the tunnel (chapter 18) -/

/-- A descriptor toward the device (R519) but for its STATUS; `rsv` is the word at 0x1C. -/
structure Desc where
  addr : Nat := 0
  len : Nat := 0
  op : Nat := 0
  node : Nat := 0
  dflags : Nat := 0
  dofs : Nat := 0
  tag : Word := 0
  rsv : Word := 0
deriving DecidableEq, Repr

/-- A record relayed over the ring (R518). -/
structure RelayRec where
  code : Nat
  unit : Nat
  data : List Word
  ts32 : Word
  src : Nat
  seq : Nat
  lost : Bool
deriving DecidableEq, Repr

/-- A message of the ring tunnel (R509, R511, R518, R519). -/
inductive Tun where
  /-- a window read of a BAR0 offset with its tag, and its response; none: completed as an unsupported request there -/
  | read (off tag : Nat)
  | response (off tag : Nat) (v : Option Word)
  /-- a posted window write, and a key write with the write that follows it -/
  | write (off : Nat) (v : Word)
  | pair (key : Word) (off : Nat) (v : Word)
  /-- a relayed record of a queue -/
  | record (q : Nat) (r : RelayRec)
  /-- a descriptor of a queue with its number and buffer data, and the acknowledgement with its STATUS and read data -/
  | desc (q no : Nat) (d : Desc) (data : List Byte)
  | ack (q no : Nat) (status : Word) (data : List Byte)
deriving DecidableEq, Repr

/-- A message on a serial lane. -/
inductive Msg where
  /-- a period frame (R254) -/
  | frame (f : Frame)
  /-- a time-transfer set: its sequence number, T_DEP, and T_ECHO as arrival and departure stamp of the neighbour's last
  set (R103) -/
  | timeSet (seq : Nat) (dep arrival stamp : Int)
  /-- a ring-state set (R252) -/
  | ringState (node lane : Nat) (up : Bool)
  /-- a discovery set (R570) -/
  | disc (d : Disc)
  /-- a stack trip set (R263) -/
  | trip (t : TripSet)
  /-- a latch vector (R408) -/
  | latch (v : LatchVec)
  /-- a Geode checkpoint (R405, R406) -/
  | ckpt (c : Ckpt)
  /-- a health report (R402) with the image digest (R53) and the qualified lock of the sender's L3 receive direction (R497) -/
  | health (w : Word) (digest : Word × Word) (l3 : Bool)
  /-- the handover message that names period s (R416) -/
  | handover (period : Int)
  /-- a lane-state set: the sender's node, role and L2 QLOCK (R486) -/
  | laneState (node : Nat) (role l2 : Bool)
  /-- a tunnel message between two nodes of the ring (R509) -/
  | tunnel (src dst : Nat) (m : Tun)
deriving DecidableEq, Repr

/-! ### Control graphs (R152 to R155, R183 to R220) -/

/-- An input operand of a block (R185). -/
inductive Opnd where
  /-- a word of the input area that the window selects (R172), by byte offset -/
  | area (off : Nat)
  /-- an output at a byte offset of a bank: the present execution's value when forwarded, else segment `seg`'s live bank -/
  | out (off seg : Nat) (fwd : Bool)
  /-- word `i` of the engine's parameter copy (R186) -/
  | par (i : Nat)
  /-- a constant in graph memory -/
  | const (w : Word)
deriving DecidableEq, Repr

/-- A released field of a cell record (R257). -/
inductive RecField where
  | vhv | vlv | imf | tj | deg | gf
deriving DecidableEq, Repr

/-- Where a released output goes (R155). -/
inductive Dest where
  | obs (i : Fin 64)
  | record (c : Cell) (f : RecField)
  | ord
  | armref (asInt : Bool)
  | armsgn
  /-- wear registers of switch `g`, word 0 ACC low, 1 ACC high, 2 CNT (R220, R542) -/
  | wear (g : Gate) (word : Fin 3)
  /-- a word of graph telemetry on HQ1 (R634) -/
  | telemetry
deriving DecidableEq, Repr

/-- A release of output `out` of a block, or of one bit of it. -/
structure Release where
  out : Nat
  bit : Option Nat := none
  dest : Dest
deriving DecidableEq, Repr

/-- The condition of an FSM transition (R216). -/
inductive Cond where
  | input (i : Fin 16) (pol : Bool)
  | always
  | dwell (n : Nat)
deriving DecidableEq, Repr

/-- A transition of an FSM (R216). -/
structure Trans where
  frm : Option (Fin 16)
  cond : Cond
  dst : Fin 16
deriving DecidableEq, Repr

/-- A block of a graph: type code and size (R183), DEFER flag (R167), operands in the order of the block's rule, the byte
offsets of its outputs and of its state words in a bank, constants of its structure, and what it releases. -/
structure Block where
  code : BitVec 8
  size : Nat := 0
  defer : Bool := false
  ins : List Opnd := []
  rst : Option Opnd := none
  pars : List Opnd := []
  extra : List Nat := []
  trans : List Trans := []
  outs : Nat := 0
  st : Nat := 0
  rel : List Release := []
deriving DecidableEq, Repr

/-- A segment: its blocks, and the byte range of its region in each bank (R152, R153). -/
structure Segment where
  blocks : List Block
  base : Nat
  len : Nat
deriving DecidableEq, Repr

/-- The four types of block values (R187). -/
inductive ParType where
  | real | unsigned | signed | bool
deriving DecidableEq, Repr

/-- A parameter as the structure declares it: its type and its range (R186). -/
structure ParDecl where
  type : ParType := .real
  lo : Word
  hi : Word
deriving DecidableEq, Repr

/-- The graph of an engine: segments by number, where its parameter copy lies in data memory, and the declaration of each
parameter (R40, R186). -/
structure Graph where
  segs : List (Option Segment) := []
  parBase : Nat := 0
  pars : List ParDecl := []
deriving DecidableEq, Repr

/-- What a word of an input area is taken from (R146, R163, R210, R225, R229, R241). -/
inductive RouteSrc where
  /-- sinc3 result of a channel, its VALID flag, its age -/
  | sd (ch : Chan) (scale : Word)
  | sdValid (ch : Chan)
  | sdAge (ch : Chan)
  /-- ADC result slot, regular or injected, its NEW flag, and its sample offset -/
  | adc (k : Conv) (slot : Fin 20) (scale : Word)
  | adcNew (k : Conv) (slot : Fin 20)
  | adcOfs (k : Conv) (slot : Fin 20)
  /-- GPR_IN word, declared F32 or not -/
  | gpr (i : Fin 64) (real : Bool)
  /-- governing results of Strata and node 0 -/
  | nav (r : Fin 16)
  | sumv (r : Fin 16)
  | rank (r : Fin 16) (c : Cell)
  | snapVhv (c : Cell)
  /-- the snapshot availability of the engine's cells, of which `c` is the first: bit j is cell c + j (R211, R231) -/
  | avl (c : Cell)
  | ord
  /-- arm fields of the owner of group `r`: ARMREF, ARMSGN, |N| and N ≥ 0 of an I32 reference -/
  | armref (r : Fin 16)
  | armsgn (r : Fin 16)
  | armAbs (r : Fin 16)
  | armPol (r : Fin 16)
  /-- latched switches and faulted channels of a cell (R212) -/
  | swf (c : Cell)
  | chf (c : Cell)
deriving DecidableEq, Repr

/-- An entry of ROUTE: engine, byte offset in the input area, and source. -/
structure Route where
  engine : Engine
  off : Nat
  src : RouteSrc
deriving DecidableEq, Repr

/-- A sample of an MF period (R435, R543): what it covers in 50 ps units, the IMF, VHV and VLV codes, and the commanded
states s + 1 of the HV and the LV bridge. -/
structure MfSample where
  dt : Nat
  imf : Int
  vhv : Int
  bridge : Fin 3
  vlv : Int := 0
  bridgeLv : Fin 3 := 1
deriving DecidableEq, Repr

/-! ### Wear and supply (chapter 19) -/

/-- What a PMBus request is answered with (R538, R539): a NACK, a packet error, or READ_VOUT in µV and whether
STATUS_WORD shows a fault. -/
inductive Pmbus where
  | nack
  | pec
  | read (microvolt : Nat) (fault : Bool)
deriving DecidableEq, Repr

/-- The WEAR section (R542 to R545) but for the registers it loads: the MINER instance of each switch as engine and
offset of its state words in a bank; C0 in F, ESR0 in Ω and estimation enable per capacitor; IMIN in A; the limits of
R544 in % and of R545 in % and mV; EYE0 in mV. All values are F32. -/
structure WearSec where
  miner : List (Option (Engine × Nat)) := []
  c0 : List Word := []
  esr0 : List Word := []
  capOn : List Bool := []
  imin : Word := 0
  cdropEol : Word := 0x40a00000
  esrEol : Word := 0x42c80000
  ageEol : Word := 0x41000000
  eyeMin : Word := 0x42200000
  eye0 : Word := 0
deriving DecidableEq, Repr

/-! ### The SAFE section (R388) -/

/-- The role of a safety input pair (R370). -/
inductive PairRole where
  | unused | func | sapreq | deen | reset
deriving DecidableEq, Repr

/-- A safety input pair: role, function mask ([0] SGI, [1] SST, [2] SAP), T_FILT and T_DISC in 100 µs steps. -/
structure SafePair where
  role : PairRole := .unused
  mask : Nat := 0
  tFilt : Nat := 10
  tDisc : Nat := 500
deriving DecidableEq, Repr

/-- The items of a SAFE section with its version and CRC-32C (R388). Functions are numbered 0 SGI, 1 SST, 2 SAP. -/
structure Safe where
  major : Nat := 1
  minor : Nat := 0
  crc : Word := 0
  crcOk : Bool := true
  enable : Nat := 0
  outs : List (Option Nat) := [none, none, none, none]
  manual : Nat := 7
  frame : Nat := 0
  pairs : List SafePair := []
  /-- T_WD in ms, T_SKEW in 0.5 ms, T_TEST in s, T_RBS in 20 µs, T_SAP_DLY in s -/
  tWd : Nat := 20
  tSkew : Nat := 10
  tTest : Nat := 10
  tRbs : Nat := 5
  tSapDly : Nat := 300
  etherType : BitVec 16 := 0x88b5
  multicast : Option (BitVec 48) := none
  connId : Word := 0
  /-- reset sources: RESET pairs, frames, host -/
  srcPairs : Bool := true
  srcFrames : Bool := false
  srcHost : Bool := false
deriving DecidableEq, Repr

/-! ### Fuses (chapter 2) -/

/-- What the fuses hold (R43 to R45, R63, R574): OWNER_EN, SVN_MIN, the two key digest slots and the revoke fuse of each;
REV and variant of GLB_ID, and the word CFG_SEC shows, whose layout the spec does not give. -/
structure Fuses where
  ownerEn : Bool := false
  svnMin : Nat := 0
  digests : List (List Byte) := [[], []]
  revoked : List Bool := [false, false]
  variant : BitVec 16 := 0
  sec : Word := 0
deriving DecidableEq, Repr

/-! ### The content of an image (chapter 2) -/

/-- What the section bodies of an image say, as the device reads them: the spec gives their content but no byte format.
Version and CRC-32C of SAFE are read from the bytes. -/
structure ImageContent where
  /-- the first section whose SECT_VER the device does not support -/
  badVer : Option (BitVec 16) := none
  /-- the first section body that cannot be interpreted, and the byte offset in it (code 0x16) -/
  badBody : Option (BitVec 16 × Word) := none
  /-- a patch carries halt-only content in a section that may also be live (R50, R51) -/
  haltOnly : Bool := false
  /-- TOPO.COMPAT_EXP (R66) -/
  compatExp : Bool := false
  /-- the registers the sections set: BAR0 address and value -/
  regs : List (Nat × Word) := []
  /-- populated cells of this node and of every node of the stack, fail-safe pattern type FSP_BYPASS, graphs, parameter
  banks, routes, the margin inputs of R34, arm, checkpoint size -/
  pop : BitVec 24 := 0
  stackPop : List (BitVec 24) := []
  bypass : Bool := false
  graphs : List (Engine × Graph) := []
  params : List (Engine × List Word) := []
  routes : List Route := []
  margin : List (Nat × Nat) := []
  marginLv : Option (Nat × Nat) := none
  arm : Option (Fin 16) := none
  ckptSize : Word := 0
  safe : Safe := {}
  wear : Option WearSec := none
deriving DecidableEq, Repr

/-- The commands of the block, in the order of the opcode table. -/
inductive Instr where
  /-- MAIN_POWER_ON_RESET (R554): The main-domain supplies come into range or leave it, asserting or releasing the main-domain power-on reset. -/
  | mainPowerOnReset (asserted : Bool) (straps : BitVec 10) (fuses : Fuses)
  /-- SUPPLY_UNDERVOLTAGE (R604): A main supply stays below its threshold for 2 µs and the main-domain power-on reset asserts. -/
  | supplyUndervoltage (rail : Rail)
  /-- PRST_N_RESET (R566): PRST_N is held low for at least 1 µs and resets the main domain. -/
  | prstNReset
  /-- RESET_PAD_HOLD_END (R567): The 10 µs fail-safe hold after a PRST_N or soft reset of an active device expires, and every GATE_O and BYP_O goes low. -/
  | resetPadHoldEnd
  /-- BIST_COMPLETE (R557): Built-in self-test completes, and READY is either asserted or held low with event 0x1001. -/
  | bistComplete (items : BitVec 5) (banks : BitVec 8) (trim : Bool)
  /-- GIO_SUPPLY_FAULT (R581): A VDD_GIOb serving a populated cell stays out of range for 1 µs while the gate outputs are enabled, causing a cluster fault with cause 6. -/
  | gioSupplyFault (b : Bank)
  /-- PCIE_PERST (R590): PCIE_PERST_N changes level, holding the PCI Express core and the HQ block in reset or releasing them. -/
  | pciePerst (low : Bool)
  /-- REFERENCE_LOST (R69): Two expected reference edges are missing, the reference loses its qualification, and the MDLL coasts if it was the selected reference. -/
  | referenceLost (refB : Bool)
  /-- REFERENCE_QUALIFIED (R69): A reference has been present and in frequency range for QUAL_T and becomes qualified. -/
  | referenceQualified (refB : Bool)
  /-- REF_FREQ_INTERVAL (R69): A 65,536-cycle frequency measurement interval of a reference ends and its frequency is checked. -/
  | refFreqInterval (refB : Bool) (offset : Int)
  /-- REVERT_TIMER (R71): The preferred reference has been qualified for REVERT_T, and the device returns to it through coasting and a phase walk. -/
  | revertTimer
  /-- BAND_SEARCH_START (R73): After a reset, band search starts once a reference is qualified. -/
  | bandSearchStart
  /-- LOCK_DECLARED (R74): The phase error stays within the window for COUNT reference cycles, and lock is declared. -/
  | lockDeclared (codes : List (BitVec 10)) (code : BitVec 10)
  /-- BAND_SEARCH_FAILED (R74): Lock is not declared within 50 µs of the start of the search; event 0x0113 is raised and READY stays low. -/
  | bandSearchFailed (band : Fin 32)
  /-- LOSS_OF_LOCK (R75): The phase error lies outside the window for LOSS_N cycles, raising a clock integrity fault. -/
  | lossOfLock (err : Int)
  /-- FLINT_FS_DT_TURN_ON (R84): The FOSC-counted FS_DT delay of a Flint override expires, and a switch held on by the fail-safe pattern turns on. -/
  | flintFsDtTurnOn (g : Gate)
  /-- PHASE_WALK_START (R80): The θ measurement over 64 reference cycles completes; the delay is set, injection starts and the state becomes WALKING. -/
  | phaseWalkStart (theta : Fin 12800)
  /-- WALK_STEP (R80): The reference-path delay moves one 0.5 ps step, at most once every 8 reference cycles. -/
  | walkStep
  /-- CLK_RELOCK (R73): The keyed CLK_CTRL.RELOCK command starts a band search, and is refused unless the device is halted. -/
  | clkRelock (src : Src)
  /-- CLK_SWITCH (R71): The keyed CLK_CTRL.SWITCH command moves the device to the other reference if that reference is qualified. -/
  | clkSwitch (src : Src)
  /-- SCLK_WINDOW_END (R83): A Flint window of 1,000 FOSC cycles ends and its SCLK count is checked against 180–211. -/
  | sclkWindowEnd (count : Nat)
  /-- SCLK_STOPPED (R83): No SCLK edge has arrived for 8 FOSC cycles, raising a clock integrity fault. -/
  | sclkStopped
  /-- EPOCH_MARK (R94): TIME_NS carries into TIME_S, and the epoch-mark record is emitted. -/
  | epochMark
  /-- TIM_STEP (R92): The keyed TIM_CTRL.STEP command steps stack time to TIM_SET_*, only while halted. -/
  | timStep (src : Src)
  /-- TIM_SNAP (R115): A write to TIM_SNAP latches the current time into TIM_SNAP_*. -/
  | timSnap (src : Src) (v : Word)
  /-- TIM_RATE_WRITE (R100): A write of TIM_RATE by the external servo, refused unless EXT is set and the value is within range. -/
  | timRateWrite (src : Src) (v : Word)
  /-- TIM_SLEW_WRITE (R100): A write of TIM_SLEW orders a bounded slew, refused unless EXT is set. -/
  | timSlewWrite (src : Src) (v : Word)
  /-- PTP_MESSAGE (R98): An IEEE 1588 message is received on L4 or L5 and processed by the time block and its servo. -/
  | ptpMessage (port : Fin 2) (domain : BitVec 8) (m : PtpPacket)
  /-- TIME_SOURCE_TIMEOUT (R101): No valid source measurement arrives for 4 expected intervals, and the device enters HOLDOVER. -/
  | timeSourceTimeout
  /-- HOLDOVER_LIMIT (R102): HOLDOVER lasts longer than TIM_ALIGN.HOLD, raising a time alignment fault. -/
  | holdoverLimit
  /-- TIME_TRANSFER_SET (R103): A ring time-transfer set is received, and the link delay and offset are updated. -/
  | timeTransferSet (lane : Lane) (t : TimeSet)
  /-- TPO_ARM (R108): A write of ARM to TIM_TPO_CFG[n] reads and checks the TPO settings, or stops the output. -/
  | tpoArm (src : Src) (n : Fin 8) (v : Word)
  /-- TPO_PULSE_EDGE (R109): A timed pulse output reaches its start or end instant and changes level. -/
  | tpoPulseEdge (n : Fin 8) (leading : Bool)
  /-- TCAP_EDGE (R111): A selected edge on TCAP[n] or PPS_IN is stamped into the FIFO, or lost if the FIFO is full. -/
  | tcapEdge (n : Fin 5) (rising : Bool) (fine : Fin 64)
  /-- TCAP_POP (R111): A read of TIM_TCAP_S[n] pops the oldest FIFO entry into the holding set. -/
  | tcapPop (n : Fin 5)
  /-- PPS_OUT_PULSE (R113): PPS_OUT rises at a stack second shifted by OFS, or falls after WID. -/
  | ppsOutPulse (rising : Bool)
  /-- SINC3_RESULT (R124): A sinc3 decimation frame of a sigma-delta channel completes and its result becomes available: the
  bits of the stream, the measured rate in kb/s and whether a faulted stream is qualified again. -/
  | sinc3Result (ch : Chan) (bits : List (Option Bool)) (rate : BitVec 16 × Bool)
  /-- SD_LOSS_OF_TRANSITION (R121): SD_I[s] shows no transition for 313 ticks, raising a channel fault with cause LOT:
  the channel, and whether 64 valid bits have ended an earlier fault; so for the two faults below. -/
  | sdLossOfTransition (ch : Chan × Bool)
  /-- SD_CODE_VIOLATION_FAULT (R120): Sixteen code violations within 256 bit periods raise a channel fault with cause CV: the channel
  and the violations in the frame that has not ended yet. -/
  | sdCodeViolationFault (ch : Chan × Nat × Bool)
  /-- SD_RATE_FAULT (R119): A stream lies outside ±5 % for 256 consecutive bits, raising a channel fault with cause RATE: the
  channel and the measured rate in kb/s. -/
  | sdRateFault (ch : Chan × BitVec 16 × Bool)
  /-- SD_CHANNEL_RECOVERED (R123): A faulted channel regains VALID after qualification and filter settling, raising event 0x0402. -/
  | sdChannelRecovered (ch : Chan)
  /-- SD_CHANNEL_SETTLED (R123): A channel enabled by an image load first becomes VALID after 3 × OSR3 bits. -/
  | sdChannelSettled (ch : Chan)
  /-- FAST_COMPARATOR_ASSERT (R126): CMP_HI or CMP_LO asserts on the sinc2 output and goes straight to protection: the
  bits of the stream, and whether 2 × OSR2 of them followed a recovery or a load. -/
  | fastComparatorAssert (ch : Chan) (hi : Bool) (bits : List (Option Bool) × Bool)
  /-- ADC_TRIGGER_FIRE (R133): A trigger's delay after its source event runs out, and the trigger starts conversions. -/
  | adcTriggerFire (t : Fin 16)
  /-- ADC_TIMER_TRIGGER (R132): A timer trigger source fires every PER ticks from the control epoch. -/
  | adcTimerTrigger (t : Fin 16)
  /-- ADC_SW_TRIGGER (R132): A write of 1 to ADC_SW_TRIG bit t fires a software trigger. -/
  | adcSwTrigger (src : Src) (v : Word)
  /-- ADC_SAMPLE_INSTANT (R130): The required tracking time is complete, and the converter samples (possibly deferred for a simultaneous set). -/
  | adcSampleInstant (k : Conv)
  /-- ADC_CONVERSION_COMPLETE (R130): A conversion completes and its result, flags and offset are written. -/
  | adcConversionComplete (k : Conv) (nanovolt : Int)
  /-- ADC_CAL_CMD (R140): A write of a converter mask to ADC_CAL_CMD requests self-calibration. -/
  | adcCalCmd (src : Src) (v : Word)
  /-- ADC_CAL_START (R140): The injected queue has drained, and calibration of a converter starts. -/
  | adcCalStart (k : Conv)
  /-- ADC_CAL_COMPLETE (R140): Calibration completes after 163,840 ACLK cycles, and the corrections are stored. -/
  | adcCalComplete (k : Conv) (offset gain : Word) (weights : List Word)
  /-- CONTROL_PERIOD_BOUNDARY (R171): A control period boundary falls and starts the period's fixed boundary actions. -/
  | controlPeriodBoundary
  /-- CHECKPOINT_STAGING_DONE (R404): The engine state copy into the Geode staging buffer completes, and streaming proceeds. -/
  | checkpointStagingDone
  /-- CHECKPOINT_SENT (R406): The streamer finishes sending a checkpoint over L3. -/
  | checkpointSent
  /-- MID_PERIOD_LATCH (R145): The mid-period measurement set is latched and the mid input areas are filled. -/
  | midPeriodLatch
  /-- SLOT_WINDOW_START (R174): A slot window's effective start is reached, and the engine starts the named segment. -/
  | slotWindowStart (e : Fin 64)
  /-- BLOCK_COMPLETE (R165): A block ends execution; its outputs are checked, and it is recomputed on a residue mismatch. -/
  | blockComplete (k : Engine) (mismatch : Fin 3)
  /-- WINDOW_END (R156): A slot window ends, and the segment either commits or overruns. -/
  | windowEnd (e : Fin 64)
  /-- VTX_DRY (R160): The keyed VTX_CTRL.DRY command on engine 0 enables dry-run of all engines while halted. -/
  | vtxDry (src : Src)
  /-- GPR_HOLD (R226): A write of GPR_CTL.HOLD freezes the words that the fills copy, or releases them. -/
  | gprHold (src : Src) (v : Word)
  /-- PERIOD_FRAME_RECEIVED (R262): A period frame arrives on a ring lane; it is forwarded, checked and entered in the snapshot. -/
  | periodFrameReceived (lane : Lane) (f : Frame)
  /-- PARTNER_FRAME_RECEIVED (R250): A frame mirrored or to be copied arrives over the partner lanes; it is entered, or copied onto the device's own ring. -/
  | partnerFrameReceived (lane : Lane) (f : Frame)
  /-- RING_STATE_SET (R252): A ring-state set is received and forwarded, and the link map is updated. -/
  | ringStateSet (lane : Lane) (node : Node) (far : Lane) (up : Bool)
  /-- STACK_TRIP_RECEIVED (R265): A stack trip set arrives; it is latched, forwarded and acted upon. -/
  | stackTripReceived (lane : Lane) (d1 d2 d3 : BitVec 8)
  /-- RNG_TRIP (R263): The keyed RNG_CTRL.TRIP command originates a stack trip with cause 0x3. -/
  | rngTrip (src : Src)
  /-- RNG_TRIPCLR (R266): The keyed RNG_CTRL.TRIPCLR command clears the stack trip latch unless an originated cause is still present. -/
  | rngTripclr (src : Src)
  /-- STRATA_SORT_DONE (R274): Strata completes the result set of a closed snapshot. -/
  | strataSortDone (cycles : Nat)
  /-- DISCOVERY_SEND (R570): Once per millisecond the device sends a discovery set on both ring lanes. -/
  | discoverySend
  /-- DISCOVERY_RECEIVED (R570): A discovery set is received and recorded in GLB_DISC, with duplicates marked. -/
  | discoveryReceived (lane : Lane) (d : Disc)
  /-- PWM_LOAD (R292): A write to PWM_LOAD performs a LOAD_ALL, copying dirty shadows to pending. -/
  | pwmLoad (src : Src) (v : Word)
  /-- PWM_SHADOW_WRITE (R292): A write to PWM_ON or PWM_WID marks the pair dirty. -/
  | pwmShadowWrite (src : Src) (q : LegPair) (wid : Bool) (v : Word)
  /-- PENDING_SET_CLOSE (R294): The pending set of a commit point closes 32 ticks before it. -/
  | pendingSetClose (g : Group)
  /-- PWM_GROUP_BOUNDARY (R289): A PWM group period boundary or mid-period event falls; it acts as an ADC source and may start pairs. -/
  | pwmGroupBoundary (g : Group) (mid : Bool)
  /-- COMMAND_TRANSITION (R299): A transition of u′ turns one switch off and starts the dead time of the other. -/
  | commandTransition (q : LegPair) (pos : Nat)
  /-- DEAD_TIME_EXPIRY (R299): A dead time runs out and the pending switch turns on. -/
  | deadTimeExpiry (q : LegPair)
  /-- ADT_SAMPLE (R307): SPT ticks after a turn-on, DSAT_I is sampled and the adaptive dead time adjusted. -/
  | adtSample (g : Gate) (level : Bool)
  /-- REPLICA_BIAS_UPDATE (R312): A bank's replica loop updates its bias code every 256 ticks, with range supervision. -/
  | replicaBiasUpdate (loop : Fin 9) (code : Nat) (atEnd : Bool)
  /-- CAL_MEASUREMENT_DONE (R313): A tap measurement of an idle delay line completes and its tap map entry is rewritten. -/
  | calMeasurementDone (line : Fin 200) (tap : Fin 80)
  /-- LINE_AGE_EXCEEDED (R314): A delay line's age exceeds AGE_MAX, raising event 0x0705. -/
  | lineAgeExceeded (line : Fin 200)
  /-- SWITCH_FAULT_QUALIFIED (R322): DSAT_I reads high in QUAL + 1 consecutive evaluating samples, and the switch is latched off. -/
  | switchFaultQualified (g : Gate) (hard : Bool)
  /-- FS_DT_TURN_ON (R335): A switch held on by a pattern has satisfied FS_DT and turns on. -/
  | fsDtTurnOn (g : Gate)
  /-- TRIP_INPUT_ASSERTED (R338): An enabled TRIP_I stays asserted for 2 ticks; it is latched and the cluster pattern applied. -/
  | tripInputAsserted (n : Fin 4)
  /-- TRIP_O1_PULSE_END (R67): Under COMPAT high, the 3,125-tick TRIP_O[1] pulse of a cluster fault ends. -/
  | tripO1PulseEnd
  /-- BYP_FB_ACCEPTED (R340): A BYP_FB level that has been stable for DEB × 10 µs is accepted and supervised. -/
  | bypFbAccepted (c : Cell) (closed : Bool)
  /-- BYPASS_TCLOSE_TIMEOUT (R341): A bypass does not change state within T_CLOSE, raising event 0x0810. -/
  | bypassTcloseTimeout (c : Cell)
  /-- CLEAR_SWITCH (R344): A keyed GPR_CLR with scope SWITCH clears a switch latch unless refused. -/
  | clearSwitch (src : Src) (g : BitVec 8) (dsat : Bool)
  /-- CLEAR_CELL (R344): A keyed GPR_CLR with scope CELL clears a cell fail-safe state and its latches unless refused. -/
  | clearCell (src : Src) (c : BitVec 8) (dsat : BitVec 8)
  /-- CLEAR_CLUSTER (R344): A keyed GPR_CLR with scope CLUSTER clears the cluster latch while halted, unless a cause remains. -/
  | clearCluster (src : Src)
  /-- CLEAR_TRIP (R344): A keyed GPR_CLR with scope TRIP clears a trip input latch unless the input is asserted. -/
  | clearTrip (src : Src) (n : BitVec 8) (level : Bool)
  /-- FLINT_POWER_ON_RESET (R362): Flint's own power-on reset resets and fills it and runs its full diagnostics. -/
  | flintPowerOnReset (asserted : Bool) (node : Node)
  /-- FLINT_CYCLE (R384): Flint runs its 100 µs function cycle and evaluates the function state transitions. -/
  | flintCycle
  /-- SIN_LEVEL_ACCEPTED (R371): A safety input channel level that has been stable for T_FILT is accepted. -/
  | sinLevelAccepted (n : Fin 8) (b level : Bool)
  /-- SAFETY_FRAME (R380): A safety frame reaches a Flint mailbox and is validated: the network it arrives on, its
  destination address, EtherType and payload. -/
  | safetyFrame (net : Fin 2) (dst : BitVec 48) (etherType : BitVec 16) (p : List Byte)
  /-- NETWORK_SILENCE (R383): A network has no valid frame for T_WD and demands every frame-controlled function. -/
  | networkSilence (net : Fin 2)
  /-- UNPAIRED_FRAME_TIMEOUT (R383): A valid frame finds no partner within T_SKEW and is counted. -/
  | unpairedFrameTimeout (net : Fin 2)
  /-- READBACK_COMPARE (R377): Every 20 µs after T_RBS a readback is compared, and 8 mismatches give a readback fault. -/
  | readbackCompare (n : Fin 4) (low level settled : Bool)
  /-- TEST_PULSE_START (R378): Every T_TEST an output's tested switch is turned off at a cycle boundary. -/
  | testPulseStart (n : Fin 4)
  /-- FLINT_WATCHDOG_EXPIRY (R366): The Flint window watchdog expires and turns every SOUT off by hardware. -/
  | flintWatchdogExpiry
  /-- VDD_FLINT_OUT_OF_WINDOW (R366): VDD_FLINT leaves its window, every SOUT goes off and Flint is held in reset. -/
  | vddFlintOutOfWindow
  /-- FLINT_MEMORY_ERROR (R366): An uncorrectable error in Flint memory locks every function. -/
  | flintMemoryError
  /-- FLINT_DIAGNOSTIC_STEP (R366): A rotating Flint diagnostic (background read, march or logic self-test) advances. -/
  | flintDiagnosticStep (kind : Fin 3) (pass : Bool)
  /-- FLINT_INPUT_TEST (R366): Each SIN channel is pulled to demand internally for 20 µs and read back. -/
  | flintInputTest (bad : BitVec 8)
  /-- SGI_SET (R387): The keyed GLB_FLTREQ.SGI_SET command sets the SGI request in Flint. -/
  | sgiSet (src : Src)
  /-- SGI_CLR (R387): The keyed GLB_FLTREQ.SGI_CLR command withdraws the SGI request. -/
  | sgiClr (src : Src)
  /-- FLINT_RST_REQUEST (R387): The keyed GLB_FLTREQ.RST command is a reset event if host reset is enabled. -/
  | flintRstRequest (src : Src)
  /-- FRESET (R387): The keyed GLB_FLTREQ.FRESET command resets Flint, refused while any function is in RUN. -/
  | freset (src : Src)
  /-- HEARTBEAT_ALIVE (R22): HB_IN passes the four-edge test, and a takeover in progress before B_r is abandoned. -/
  | heartbeatAlive
  /-- DUAL_ACTIVE_TIMEOUT (R28): An active device sees the partner heartbeat alive for 20 µs; a ROLE=B device becomes standby. -/
  | dualActiveTimeout
  /-- PARTNER_LOSS (R410): HB_IN has no rising edge for HBTO, and an eligible standby enters TAKING. -/
  | partnerLoss
  /-- TAKEOVER_PREPARE_DONE (R411): The taking device loads the newest checkpoint and latches into its banks within T_PREP. -/
  | takeoverPrepareDone
  /-- CHECKPOINT_RECEIVED (R407): A checkpoint is received, validated and written to its Geode buffer. -/
  | checkpointReceived (c : Ckpt)
  /-- LATCH_VECTOR_RECEIVED (R408): The standby receives and keeps the newest latch vector. -/
  | latchVectorReceived (v : LatchVec)
  /-- HEALTH_REPORT_SEND (R402): Every 100 µs the device sends a health report over L2/L3. -/
  | healthReportSend
  /-- HEALTH_REPORT_RECEIVED (R400): A partner health report is stored; a report showing ACTIVE is handled as dual active:
  its word, the image digest, and whether the sender's L3 receive direction is locked. -/
  | healthReportReceived (w : Word) (digest : (Word × Word) × Bool)
  /-- SELFTEST_STEP (R401): A standby runs the next partition of its continuous self-test. -/
  | selftestStep (item : Fin 5) (pass last : Bool)
  /-- PAR_HANDOVER (R416): The keyed PAR_CTRL.HANDOVER command requests a planned handover. -/
  | parHandover (src : Src)
  /-- HANDOVER_TIMEOUT (R416): LOADED does not arrive within HO_TMO, and the handover is abandoned. -/
  | handoverTimeout
  /-- ARM_DECISION (R399): A ROLE=B device's 100 µs wait after ARM ends, and it decides between ACTIVE and STANDBY. -/
  | armDecision
  /-- METER_SAMPLE (R426): A metering point sample is taken; power is computed and energy is accumulated. -/
  | meterSample (k : Point) (t : Nat)
  /-- METER_INTERVAL_END (R429): A metering interval ends and the interval record is closed. -/
  | meterIntervalEnd (k : Point)
  /-- REPORT_WINDOW_END (R431): A report window ends and the mean, RMS and power results update. -/
  | reportWindowEnd (k : Point)
  /-- ZERO_CROSSING_ABSENT (R434): No positive-going crossing arrives for ZC_TMO, raising event 0x0B01. -/
  | zeroCrossingAbsent (k : Point)
  /-- MF_PERIOD_END (R435): An MF period of a cell ends and its link quantities are computed. -/
  | mfPeriodEnd (c : Cell) (start : Nat) (l : List MfSample)
  /-- MPO_PULSE_END (R437): An energy pulse or its low interval ends, and the next backlog pulse may start. -/
  | mpoPulseEnd (n : Fin 4)
  /-- MPI_TRANSITION (R439): A debounced pulse input transition is accepted and counted. -/
  | mpiTransition (n : Fin 4) (level : Bool)
  /-- CHECK_WINDOW_END (R440): A cross-check window ends and the input is compared with its register. -/
  | checkWindowEnd (n : Fin 4)
  /-- SAVE_TIMER (R441): SAVE_INT or the 1 s retry expires and a save is attempted against hold-up energy. -/
  | saveTimer
  /-- SAVE_NOW (R441): The keyed MTR_CTRL.SAVE_NOW command starts a save. -/
  | saveNow (src : Src)
  /-- SAVE_COMPLETE (R442): A save's write and read-back finish, and the record becomes the newest or event 0x0B05 is raised. -/
  | saveComplete (result : Fin 3)
  /-- MTR_LOAD (R443): The keyed MTR_CTRL.LOAD command copies the newest valid record to MTR_RREC. -/
  | mtrLoad (src : Src)
  /-- MTR_LOAD_DONE (R443): The record load finishes and LOADED or LOAD_NONE is set. -/
  | mtrLoadDone (l : List (List Byte))
  /-- MTR_RESTORE (R443): The keyed MTR_CTRL.RESTORE command adds the checked record into the accumulators. -/
  | mtrRestore (src : Src)
  /-- MTR_SNAP (R444): A write of a point mask to MTR_SNAP latches counters at the next sample boundary. -/
  | mtrSnap (src : Src) (v : Word)
  /-- MEMORY_FILL_DONE (R452): The hardware fill of the memories completes and MEM_STAT.FILLED is set. -/
  | memoryFillDone
  /-- UNCORRECTABLE_ERROR (R450): A read finds an uncorrectable error, and the reader reacts under R355. -/
  | uncorrectableError (reader : Fin 15) (word : Fin 2097152)
  /-- CORRECTION_LOG_UPDATE (R454): A corrected read updates the correction log, possibly writing back at the threshold. -/
  | correctionLogUpdate (l : List (Fin 15 × Fin 2097152))
  /-- MEM_LOGCLR (R454): A write to MEM_LOGCLR clears all log entries. -/
  | memLogclr (src : Src) (v : Word)
  /-- SCRUB_GO (R457): A write of GO starts a scrub over the configured range, or is refused. -/
  | scrubGo (src : Src) (wb : Bool)
  /-- SCRUB_ABORT (R459): A write of ABORT ends a running scrub. -/
  | scrubAbort (src : Src) (last : Fin 2097152)
  /-- SCRUB_DONE (R459): A scrub reaches its end and leaves its summary. -/
  | scrubDone
  /-- MEM_TEST_EN (R460): The keyed MEM_TEST.EN write enters or leaves checker test mode. -/
  | memTestEn (src : Src) (en : Bool)
  /-- ARB_REQUEST (R465): A requester's transfer or lock request arrives at an SSM bank arbiter. -/
  | arbRequest (r : Fin 12) (bank : Fin 16) (beats : Nat) (lock late : Bool) (addr : Nat) (data : List Nat)
  /-- ARB_GRANT_DECISION (R465): In a transfer's last beat the arbiter decides the next grant. -/
  | arbGrantDecision (bank : Fin 16) (late : Bool)
  /-- ARB_URGENT (R464): A request's age reaches 1,023 and it becomes urgent. -/
  | arbUrgent (r : Fin 12) (bank : Fin 16)
  /-- ARB_CLASS_WRITE (R467): A write to ARB_CLASS[r] changes a requester's class from the next cycle. -/
  | arbClassWrite (src : Src) (r : Fin 12) (v : Word)
  /-- ARB_HOLD_CUTOFF (R473): In SERVICE mode a grant held beyond ARB_HOLD is cut off and the requester demoted. -/
  | arbHoldCutoff (r : Fin 12) (bank : Fin 16)
  /-- ARB_WITHDRAW (R473): A requester withdraws its request in the cycle of its grant. -/
  | arbWithdraw (r : Fin 12) (bank : Fin 16)
  /-- LOCK_RELEASE (R470): A lock sequence releases its banks and its writes take effect together. -/
  | lockRelease (r : Fin 12)
  /-- BLOCK_LOCK_GAINED (R482): A receiver sees 128 consecutive valid headers and declares block lock. -/
  | blockLockGained (lane : Lane)
  /-- BLOCK_LOCK_LOST (R482): Invalid headers or loss of signal end block lock, and QLOCK clears. -/
  | blockLockLost (lane : Lane) (signal : Bool) (invalid : Nat)
  /-- QLOCK_SET (R483): Block lock has held for LINK_HOLD and QLOCK sets. -/
  | qlockSet (lane : Lane)
  /-- SINGLE_LANE_EXIT (R486): Both devices have reported L2 QLOCK for 1 s, and normal service returns. -/
  | singleLaneExit
  /-- PRBS_LOCK_CHANGE (R488): A PRBS checker gains or loses pattern lock. -/
  | prbsLockChange (lane : Lane) (gained : Bool) (errors : Nat)
  /-- LAN_CTL_WRITE (R491): A write to LAN_CTL starts tests, loopback, freeze or counter clear, or is refused on a lane with traffic. -/
  | lanCtlWrite (src : Src) (lane : Lane) (v : Word)
  /-- EYE_MEASUREMENT (R494): Once per second an awake receiver measures its eye. -/
  | eyeMeasurement (lane : Lane) (h v : Byte) (rxeq : Word × BitVec 16)
  /-- LANE_WAKE (R496): Signal detect has been present for 1 µs, or the use changes, and a lane direction wakes. -/
  | laneWake (lane : Lane) (tx : Bool)
  /-- LANE_SLEEP_TIMEOUT (R495): An AUTO receive direction without signal for 1 ms goes to sleep. -/
  | laneSleepTimeout (lane : Lane)
  /-- ETH_LINK_CHANGE (R501): A station Ethernet port's link goes up or down. -/
  | ethLinkChange (port : Fin 2) (status : BitVec 4)
  /-- ETH_FRAME_RECEIVED (R500): A station Ethernet frame is filtered and passed by content, answered or discarded. -/
  | ethFrameReceived (port : Fin 2) (frame : List Byte)
  /-- HQ_DOORBELL (R513): A write of HQ_TAIL on a queue toward the device makes new descriptors available. -/
  | hqDoorbell (src : Src) (q : Queue) (v : Word) (l : List Desc)
  /-- HQ_QUEUE_ENABLE (R514): A write of HQ_QCFG.EN enables or disables a queue and resets its pointers. -/
  | hqQueueEnable (src : Src) (q : Queue) (v : Word)
  /-- HQ_HEAD_WRITE (R514): Firmware advances HQ_HEAD of a queue toward the host, or is refused. -/
  | hqHeadWrite (src : Src) (q : Queue) (v : Word)
  /-- IMAGE_CHUNK (R520): An OP 0x01 descriptor delivers image bytes at the expected offset. -/
  | imageChunk (data : List Byte)
  /-- COMMAND_LIST (R521): An OP 0x02 descriptor applies a list of BAR0 writes in order. -/
  | commandList (l : List (Nat × Word))
  /-- MEMORY_WRITE_TRANSFER (R522): An OP 0x03 descriptor writes host data into a BAR2 offset. -/
  | memoryWriteTransfer (data : List Byte)
  /-- MEMORY_READ_TRANSFER (R522): An OP 0x04 descriptor reads a BAR2 range to host memory and places a result record. -/
  | memoryReadTransfer (bad : Option (Fin 2097152))
  /-- RECORD_WRITE (R515): A buffered record is written to its host queue and the pointer shadow updated, once there is room and a link. -/
  | recordWrite (q : Queue)
  /-- RECORD_RELAY (R518): A device with RELAY set sends a record over the tunnel to node 0. -/
  | recordRelay (q : Queue)
  /-- INTERRUPT_MODERATION (R523): The CNT or TIME threshold of a queue is reached and its MSI-X vector signals. -/
  | interruptModeration (q : Queue)
  /-- WINDOW_READ (R510): A BAR4 read to a node window is sent through the tunnel, or refused. -/
  | windowRead (n : Node) (off : Nat)
  /-- WINDOW_WRITE (R509): A posted BAR4 write travels through the tunnel to the target node. -/
  | windowWrite (n : Node) (off : Nat) (v : Word)
  /-- TUNNEL_RESPONSE (R510): A window read response arrives and completes the host read. -/
  | tunnelResponse (n : Node) (off : Nat) (v : Nat × Option Word)
  /-- TUNNEL_READ_TIMEOUT (R510): No response arrives within TMO, and the read completes with completer abort. -/
  | tunnelReadTimeout (n : Node) (off : Nat)
  /-- TUNNEL_MESSAGE_RECEIVED (R511): A tunnel message applies a window access or a keyed pair at the far device. -/
  | tunnelMessageReceived (lane : Lane) (src dst : Node) (m : Tun)
  /-- KEY_PAIR_TIMEOUT (R511): A key write not followed by a write to the same window within 1 µs is sent alone. -/
  | keyPairTimeout (n : Node)
  /-- PCIE_LINK_CHANGE (R524): The PCI Express link goes down or up, stopping or resuming queue traffic. -/
  | pcieLinkChange (up : Bool) (width : Fin 8) (rate : Fin 8)
  /-- FUNCTION_LEVEL_RESET (R525): A PCI Express function-level reset clears the HQ block. -/
  | functionLevelReset
  /-- SENSOR_CONVERSION (R529): Every 50 µs the temperature sensors convert and the maximum is evaluated. -/
  | sensorConversion (codes : List Int)
  /-- SENSOR_SELFCHECK (R531): Once per second each sensor converts its reference points. -/
  | sensorSelfcheck (dev : List (Int × Int))
  /-- SENS_CLR (R532): The keyed THW_CTRL.SENS_CLR command clears a broken sensor, or is refused. -/
  | sensClr (src : Src) (sensor : Fin 16)
  /-- WEAR_RESTORE (R548): The keyed THW_CTRL.RESTORE command applies THW_RREC, or is refused. -/
  | wearRestore (src : Src)
  /-- AVS_RESUME (R539): The keyed THW_CTRL.AVS_RESUME command resumes supply adaptation. -/
  | avsResume (src : Src)
  /-- CPM_REPORT (R537): A 1 µs slack report arrives, triggering an emergency raise below SLACK_EMG. -/
  | cpmReport (mon : Fin 32) (slack : Nat)
  /-- AVS_INTERVAL_END (R537): A 1 ms evaluation interval ends and a voltage request may be sent. -/
  | avsIntervalEnd
  /-- PMBUS_READBACK (R538): 500 µs after a request, READ_VOUT and STATUS_WORD are read and judged. -/
  | pmbusReadback (a : Pmbus)
  /-- PMBUS_RETRY (R539): 1 ms after a failure the request is retried, and a second failure stops adaptation. -/
  | pmbusRetry (ack : Bool)
  /-- WEAR_HISTORY_SAMPLE (R541): At each WIN / 32 spacing, damage, rate and remaining life are computed and reported. -/
  | wearHistorySample
  /-- CAP_ESTIMATE_WINDOW (R543): A capacitor estimation window of 16,384 MF periods ends and C and ESR are updated. -/
  | capEstimateWindow (j : Fin 48)
  /-- AGEING_MEASUREMENT (R545): The hourly ageing monitor measurement updates the device wear term. -/
  | ageingMeasurement (l : List (Nat × Nat))
  /-- LOAD_FULL_IMAGE (R48): The keyed CFG_LOAD full-image command starts reception, refused while not halted. -/
  | loadFullImage (src : Src) (source : Fin 4)
  /-- LOAD_PATCH (R51): The keyed CFG_LOAD patch command starts reception of a patch. -/
  | loadPatch (src : Src) (source : Fin 4)
  /-- LOAD_ABORT (R49): The keyed CFG_LOAD abort command ends a load with code 0x13. -/
  | loadAbort (src : Src)
  /-- RECEPTION_TIMEOUT (R47): No image byte arrives for 100 ms, and the load ends with code 0x12. -/
  | receptionTimeout
  /-- IMAGE_CHECK_DONE (R48): The checks after reception complete; the image is applied or refused all-or-nothing. -/
  | imageCheckDone (c : ImageContent)
  /-- COMMIT_GROUP (R56): A CFG_COMMIT naming one group starts its checks. -/
  | commitGroup (src : Src) (cls inst : BitVec 8)
  /-- COMMIT_ALL (R58): A CFG_COMMIT with ALL starts checks of every changed group. -/
  | commitAll (src : Src)
  /-- COMMIT_CHECK_DONE (R59): Commit checks complete, and the group becomes pending or is refused. -/
  | commitCheckDone
  /-- SHADOW_WRITE (R54): A write to a shadow copy is accepted or refused with codes 0x25 or 0x23. -/
  | shadowWrite (src : Src) (a : Nat) (v : Word)
  /-- LIVE_COPY_WRITE (R12): A write to a live copy is refused with code 0x24. -/
  | liveCopyWrite (src : Src) (a : Nat) (v : Word)
  /-- GLB_ARM (R563): The keyed GLB_CTRL.ARM command checks the arming conditions and arms or refuses. -/
  | glbArm (src : Src)
  /-- GLB_HALT (R565): The keyed GLB_CTRL.HALT command, forced or not, halts the device. -/
  | glbHalt (src : Src) (force : Bool)
  /-- SOFT_RESET (R566): The keyed GLB_CTRL.SOFTRST command resets the main domain. -/
  | softReset (src : Src)
  /-- GLB_KEY (R627): A write to GLB_KEY arms the key slot of its source. -/
  | glbKey (src : Src) (v : Word)
  /-- KEY_SLOT_EXPIRY (R628): A key slot disarms 64 FCLK cycles after arming. -/
  | keySlotExpiry (src : Src)
  /-- EVT_QCODE (R631): A write of EVT_QCODE returns the class of the code in EVT_QCLASS. -/
  | evtQcode (src : Src) (v : Word)
  /-- EVT_LAST_READ (R632): A read of EVT_LAST[0] latches words 1–7 until EVT_LAST[7] is read. -/
  | evtLastRead (i : Fin 8)
  /-- RC_REGISTER_READ (R10): A read of an RC field returns its value and clears it. -/
  | rcRegisterRead (a : Nat)
  /-- REGISTER_WRITE (R10): A write to a register with no row of its own acts by its access code. -/
  | registerWrite (src : Src) (a : Nat) (v : Word)
  /-- PRST_N_RELEASE (R554): PRST_N returns high, releasing the main-domain reset, latching the straps and starting the start-up sequence. -/
  | prstNRelease (straps : BitVec 10)
  /-- GIO_SUPPLY_RETURN (R555): A VDD_GIOb comes into range, and its bank starts driving GATE_O and BYP_O low, or follows R358 if the outputs are enabled. -/
  | gioSupplyReturn (b : Bank)
  /-- REFERENCE_PRESENT (R69): Edges return on REFCLK_A or REFCLK_B, the reference becomes present and its qualification time starts. -/
  | referencePresent (refB : Bool)
  /-- HEARTBEAT_DEAD (R22): No rising edge follows on HB_IN within 1.5 µs, the partner heartbeat counts as dead and PAR_STAT.PEER_HB clears. -/
  | heartbeatDead
  /-- FAST_COMPARATOR_DEASSERT (R126): CMP_HI or CMP_LO deasserts when the sinc2 output passes its threshold less the hysteresis;
  the stream as for FAST_COMPARATOR_ASSERT. -/
  | fastComparatorDeassert (ch : Chan) (hi : Bool) (bits : List (Option Bool) × Bool)
  /-- LANE_STATE_SET_RECEIVED (R486): A lane-state set arrives on L3 from the partner, and the device moves to single-lane mode or records the partner's L2 QLOCK. -/
  | laneStateSetReceived (l2 : Bool)
  /-- HANDOVER_MESSAGE_RECEIVED (R416): The standby receives the handover message that names period s, at whose boundary it becomes active. -/
  | handoverMessageReceived (period : Int)
  /-- FLINT_SELFTEST_COMPLETE (R384): The full Flint diagnostics after a Flint reset finish within 5 ms, and functions may leave SAFE. -/
  | flintSelftestComplete (pass : Bool)
  /-- LINE_MEASUREMENT_START (R313): The calibrator starts a tap measurement on a delay line that has been idle for 160 ticks, holding its ball by the hold latch. -/
  | lineMeasurementStart (line : Fin 200) (fine : Fin 64)
  /-- BAR2_HOST_WRITE (R451): A host write through BAR2 reaches a memory as a read-modify-write, is refused while not halted, or stores test check bits. -/
  | bar2HostWrite (off : Nat) (access : Bar2) (err : Fin 3)
  /-- LAN_PRBS_LO_READ (R489): A read of LAN_PRBS_ERR_LO or LAN_PRBS_BIT_LO latches the matching _HI word. -/
  | lanPrbsLoRead (lane : Lane) (bitCount : Bool) (errors : Nat)
deriving DecidableEq, Repr

end Sys2Proof
end

