-- ==== Sys2Proof/Decode.lean ====
section
/-! DEFINITION. Reading a command from a word. The opcode table gives no row any bits, so no word spells a command:
commands come as accesses, messages and pin events, which the constructors of `Instr` name directly. -/

namespace Sys2Proof

/-- The command a word of the opcode table spells: none, since no row of the table gives bits. -/
def decodeTableWord (_nbits _w : Nat) : Option Instr := none

end Sys2Proof
end

