-- ==== Sys2Proof/Config.lean ====
section
/-! DEFINITION. The values the spec leaves open, as constants without a body: nothing can be proved of them. -/

namespace Sys2Proof.Config

/-- The TIM_RATE term the built-in servo computes from a measurement; R100 gives no gains. First argument: the draw. -/
opaque servoRate : Nat → Int

/-- The integral term of that servo behind the same measurement (R405). -/
opaque servoIntegral : Nat → Int

/-- The phase error CLK_PHERR shows in a running loop, and the largest since CLK_PHPEAK was read (R73, R87), at a tick. -/
opaque phaseError : Nat → Nat
opaque phasePeak : Nat → Nat

/-- Band and control code a running search is trying, at a tick, and the code of the last band of a search that failed (R87): a
command brings neither. In the layout of CLK_BAND. -/
opaque searchBand : Nat → Nat
opaque failedCode : Nat → Nat

/-- Whether the search that runs at a tick has come to LOCKING (R88); no rule says when STATE shows it. -/
opaque locking : Nat → Bool

/-- The code of the event that the margin of a rank group is low, or exhausted (R35); no rule allocates one. -/
opaque marginEvent : Bool → BitVec 16

/-- The servo term at which stack time runs at the rate of the time master's source, at a tick (R100). -/
opaque sourceRate : Nat → Int

/-- Whether time received through the ring is traceable to a grandmaster; a time-transfer set carries no such field. -/
opaque ringTraceable : Nat → Bool

/-- The uncorrected code of a converter that has not been calibrated since reset (R142). -/
opaque rawCode : Nat → Int

/-- The output `n` of a reset branch whose rule states no output (R189): block code, inputs, parameters and live state words
on which alone it depends (R164). -/
opaque blockReset : Nat → List Word → List Word → List Word → Nat → Word

/-- What the metering memory on the board answers at READY (R593): 0 no valid parameters, 1 parameters without 8D-8D-8D
operation, 2 parameters that advertise it. A property of the board. -/
opaque flashAnswer : Nat

/-- The regulator answers VOUT_MODE with the linear format (R538): a property of the board. -/
opaque voutLinear : Bool

/-- The control code after the temperature correction of R78, whose amount no rule states: draw, code held, reading. -/
opaque coastCode : Nat → Nat → Int → Nat

/-- A damage term whose divisor is zero (R544, R545), as F32; no rule states it. -/
opaque damageTerm : Nat → Word

/-- Address and reader number that event 0x0C03 carries for an error in Flint's memory (R355): it has neither a BAR2 address
nor a reader number. -/
opaque flintErrorData : Nat → List Nat

/-- The check bits of a 64-bit word (R450); the spec names the code, not its matrix. -/
opaque eccBits : Nat → Nat

/-- What a normal read delivers for a stored word whose error the code does not correct, with its check bits (R450). -/
opaque eccRead : Nat → Nat → Nat

/-- A metering quantity over nothing (R431 to R435): a window without a sample or a completed cycle, an MF period without a
sample or with a zero product in its power factor. Draw, and which quantity. -/
opaque meanOfNone : Nat → Nat → Word

/-- Invalid sync headers that a locked receiver has met since LAN_SHERR was read (R482, R503); the read does not bring them. -/
opaque headerErrors : Nat → Nat

/-- Bit errors a PRBS checker has met since its counters were last read, where the access that counts them does not say. -/
opaque prbsErrors : Nat → Nat

/-- The section that carries the register of an address, where R40 names none, and the byte offset of the register in the body of
its section: the layout of the bodies stands in no rule. -/
opaque fieldSection : Nat → Nat
opaque fieldOffset : Nat → Nat

/-- ERR and code of the completion of a memory transfer that the rules of BAR2 refuse; R522 states none. -/
opaque transferStatus : Nat → Word

end Sys2Proof.Config
end

