-- ==== Sys2Proof/Machine/Regs.lean ====
section
/-! DEFINITION. The register map: the BAR0 address of every register under its name in the spec, and one row
per register array with its access code, reset value, writable bits, halt-only mark and stated field ranges
(R8 to R10, R54, R621 to R631 and the register tables of every chapter). -/

namespace Sys2Proof.Machine


/-! ### GLB block -/

/-- R574: [31:16] device 0x2460; [15:8] REV; [7:0] fuse variant. -/
abbrev Reg.GLB_ID : Nat := 0x0
/-- R574: Start-up state. -/
abbrev Reg.GLB_STAT : Nat := 0x4
/-- R574: ARM, HALT, FORCE, SOFTRST; reads zero after action. -/
abbrev Reg.GLB_CTRL : Nat := 0x8
/-- R574: Cause of the last resets. -/
abbrev Reg.GLB_RSTCAUSE : Nat := 0xc
/-- R574: [9:0] conditions failed at the last ARM or HALT refusal (R563). -/
abbrev Reg.GLB_ARMREF : Nat := 0x10
/-- R574: [0] EN; [31:1] TS32 bits [31:1]. -/
abbrev Reg.GLB_ARM_AT : Nat := 0x14
/-- R574: Self-test results. -/
abbrev Reg.GLB_BIST : Nat := 0x18
/-- R574: [5:0] NODE; [6] ROLE; [7] COMPAT; [9:8] BOOTSRC. -/
abbrev Reg.GLB_STRAP : Nat := 0x1c
/-- R574: Flint requests (R387). -/
abbrev Reg.GLB_FLTREQ : Nat := 0x20
/-- R574: Discovery record of node n on the own ring, n = 0–63. -/
abbrev Reg.GLB_DISC (i : Nat) : Nat := 0x100 + 4 * i
/-- R625: Arm a key for the next keyed write. -/
abbrev Reg.GLB_KEY : Nat := 0x24
/-- R625: Refused keyed writes since last read. -/
abbrev Reg.GLB_KEYREF : Nat := 0x28
/-- R625: Address of the last refused keyed write. -/
abbrev Reg.GLB_KEYADDR : Nat := 0x2c

/-! ### CLK block -/

/-- R87: Loop state, selected reference, integrity. -/
abbrev Reg.CLK_STAT : Nat := 0x10000
/-- R87: Reference preference, revert, coast handover, timers. -/
abbrev Reg.CLK_CFG : Nat := 0x10004
/-- R87: Lock window, lock count, loss count. -/
abbrev Reg.CLK_LOCK : Nat := 0x10008
/-- R87: [4:0] band in use; [17:8] control code. -/
abbrev Reg.CLK_BAND : Nat := 0x1000c
/-- R87: [15:0] last phase error, signed, in 0.5 ps. -/
abbrev Reg.CLK_PHERR : Nat := 0x10010
/-- R87: [15:0] largest absolute phase error since last read, in 0.5 ps. -/
abbrev Reg.CLK_PHPEAK : Nat := 0x10014
/-- R87: [13:0] reference-path delay in 0.5 ps steps; [14] walk active; [15] direction, 1 toward 6.4 ns. -/
abbrev Reg.CLK_WALK : Nat := 0x10018
/-- R87: [15:0] REFCLK_A offset, signed, in 0.1 ppm; [16] present; [17] qualified. -/
abbrev Reg.CLK_REFA : Nat := 0x1001c
/-- R87: As CLK_REFA, for REFCLK_B. -/
abbrev Reg.CLK_REFB : Nat := 0x10020
/-- R87: [0] RELOCK; [1] SWITCH; reads zero after action. -/
abbrev Reg.CLK_CTRL : Nat := 0x10024
/-- R87: [0] A lost; [1] B lost; [2] coasting entered; [3] disturbance; [4] switchover; [5] walk complete. -/
abbrev Reg.CLK_FLAGS : Nat := 0x10028
/-- R87: Duration of the present or last coasting, in ms, saturating at 0xFFFF_FFFF. -/
abbrev Reg.CLK_COAST_T : Nat := 0x1002c

/-! ### TIM block -/

/-- R115: State, source, port, traceability. -/
abbrev Reg.TIM_STAT : Nat := 0x20000
/-- R115: Source select; halt-only. -/
abbrev Reg.TIM_CFG : Nat := 0x20004
/-- R115: Write 1: latch time into TIM_SNAP_*. -/
abbrev Reg.TIM_SNAP : Nat := 0x20008
/-- R115: TIME_S[31:0] latched. -/
abbrev Reg.TIM_SNAP_S_LO : Nat := 0x2000c
/-- R115: [15:0] TIME_S[47:32] latched. -/
abbrev Reg.TIM_SNAP_S_HI : Nat := 0x20010
/-- R115: [29:0] TIME_NS latched. -/
abbrev Reg.TIM_SNAP_NS : Nat := 0x20014
/-- R115: TIME_SUB latched. -/
abbrev Reg.TIM_SNAP_SUB : Nat := 0x20018
/-- R115: Current TS32. -/
abbrev Reg.TIM_TS32 : Nat := 0x2001c
/-- R115: Nominal addend, fraction. -/
abbrev Reg.TIM_ADDEND_LO : Nat := 0x20020
/-- R115: [7:0] nominal addend, ns. -/
abbrev Reg.TIM_ADDEND_HI : Nat := 0x20024
/-- R115: Stack epoch, TIME_S[31:0]. -/
abbrev Reg.TIM_EPOCH_S_LO : Nat := 0x20028
/-- R115: [15:0] stack epoch, TIME_S[47:32]. -/
abbrev Reg.TIM_EPOCH_S_HI : Nat := 0x2002c
/-- R115: [29:0] stack epoch, TIME_NS. -/
abbrev Reg.TIM_EPOCH_NS : Nat := 0x20030
/-- R115: Signed servo term; writable only with EXT set. -/
abbrev Reg.TIM_RATE : Nat := 0x20034
/-- R115: Signed offset in ns to slew in; only with EXT set. -/
abbrev Reg.TIM_SLEW : Nat := 0x20038
/-- R115: [0] STEP from TIM_SET_*; refused unless halted. -/
abbrev Reg.TIM_CTRL : Nat := 0x2003c
/-- R115: Step value, TIME_S[31:0]. -/
abbrev Reg.TIM_SET_S_LO : Nat := 0x20040
/-- R115: [15:0] step value, TIME_S[47:32]. -/
abbrev Reg.TIM_SET_S_HI : Nat := 0x20044
/-- R115: [29:0] step value, TIME_NS. -/
abbrev Reg.TIM_SET_NS : Nat := 0x20048
/-- R115: Signed last offset to source, 50 ps units. -/
abbrev Reg.TIM_OFS : Nat := 0x2004c
/-- R115: Averaged path or hop delay, 50 ps units. -/
abbrev Reg.TIM_DELAY : Nat := 0x20050
/-- R115: [15:0] signed, ps; for L0, L1, L6, L7. -/
abbrev Reg.TIM_ASYM (i : Nat) : Nat := 0x20054 + 4 * i
/-- R115: Servo control. -/
abbrev Reg.TIM_SERVO : Nat := 0x20064
/-- R115: Alignment limits. -/
abbrev Reg.TIM_ALIGN : Nat := 0x20068
/-- R115: IEEE 1588 settings; halt-only. -/
abbrev Reg.TIM_PTP_CFG : Nat := 0x2006c
/-- R115: PPS_OUT width and offset. -/
abbrev Reg.TIM_PPS : Nat := 0x20070
/-- R115: [0] holdover; [1] direction change; [2] PPS_IN discarded; [3] alignment fault. -/
abbrev Reg.TIM_FLAGS : Nat := 0x20074
/-- R115: TPO n control. -/
abbrev Reg.TIM_TPO_CFG (i : Nat) : Nat := 0x20200 + 32 * i
/-- R115: Start, TIME_S[31:0]. -/
abbrev Reg.TIM_TPO_START_S (i : Nat) : Nat := 0x20204 + 32 * i
/-- R115: [29:0] start, ns. -/
abbrev Reg.TIM_TPO_START_NS (i : Nat) : Nat := 0x20208 + 32 * i
/-- R115: Period, ns. -/
abbrev Reg.TIM_TPO_PER (i : Nat) : Nat := 0x2020c + 32 * i
/-- R115: Width, ns. -/
abbrev Reg.TIM_TPO_WID (i : Nat) : Nat := 0x20210 + 32 * i
/-- R115: [0] active; [1] ERR; [2] LATE. -/
abbrev Reg.TIM_TPO_STAT (i : Nat) : Nat := 0x20214 + 32 * i
/-- R115: TCAP n control. -/
abbrev Reg.TIM_TCAP_CFG (i : Nat) : Nat := 0x20300 + 32 * i
/-- R115: Pop; seconds. -/
abbrev Reg.TIM_TCAP_S (i : Nat) : Nat := 0x20304 + 32 * i
/-- R115: [29:0] ns of held entry. -/
abbrev Reg.TIM_TCAP_NS (i : Nat) : Nat := 0x20308 + 32 * i
/-- R115: [4:0] 50 ps units; [12:8] FIFO level; [16] EMPTY. -/
abbrev Reg.TIM_TCAP_F (i : Nat) : Nat := 0x2030c + 32 * i
/-- R115: Lost edges. -/
abbrev Reg.TIM_TCAP_LOST (i : Nat) : Nat := 0x20310 + 32 * i
/-- R624: Live copy of TIM_ADDEND_LO (R624). -/
abbrev Reg.TIM_ADDEND_LO_L : Nat := 0x20120
/-- R624: Live copy of TIM_ADDEND_HI (R624). -/
abbrev Reg.TIM_ADDEND_HI_L : Nat := 0x20124
/-- R624: Live copy of TIM_EPOCH_S_LO (R624). -/
abbrev Reg.TIM_EPOCH_S_LO_L : Nat := 0x20128
/-- R624: Live copy of TIM_EPOCH_S_HI (R624). -/
abbrev Reg.TIM_EPOCH_S_HI_L : Nat := 0x2012c
/-- R624: Live copy of TIM_EPOCH_NS (R624). -/
abbrev Reg.TIM_EPOCH_NS_L : Nat := 0x20130

/-! ### CFG block -/

/-- R63: Load state, trust, last code. -/
abbrev Reg.CFG_STAT : Nat := 0x30000
/-- R63: Start or abort a load. -/
abbrev Reg.CFG_LOAD : Nat := 0x30004
/-- R63: IMAGE_ID in force. -/
abbrev Reg.CFG_IMG_ID : Nat := 0x30008
/-- R63: IMAGE_VER in force. -/
abbrev Reg.CFG_IMG_VER : Nat := 0x3000c
/-- R63: Image SHA-256, bits [31:0]. -/
abbrev Reg.CFG_IMG_DIGEST_LO : Nat := 0x30010
/-- R63: Image SHA-256, bits [63:32]. -/
abbrev Reg.CFG_IMG_DIGEST_HI : Nat := 0x30014
/-- R63: STRUCT_DIGEST, bits [31:0]. -/
abbrev Reg.CFG_STRUCT_LO : Nat := 0x30018
/-- R63: STRUCT_DIGEST, bits [63:32]. -/
abbrev Reg.CFG_STRUCT_HI : Nat := 0x3001c
/-- R63: Start a commit. -/
abbrev Reg.CFG_COMMIT : Nat := 0x30020
/-- R63: Commit state and result. -/
abbrev Reg.CFG_COMMIT_STAT : Nat := 0x30024
/-- R63: TS32 of the last commit. -/
abbrev Reg.CFG_COMMIT_TS : Nat := 0x30028
/-- R63: Earliest commit instant. -/
abbrev Reg.CFG_COMMIT_AT : Nat := 0x3002c
/-- R63: Refused writes since last read. -/
abbrev Reg.CFG_REFUSE_CNT : Nat := 0x30030
/-- R63: Address of the last refused write. -/
abbrev Reg.CFG_REFUSE_ADDR : Nat := 0x30034
/-- R63: Owner fuse state. -/
abbrev Reg.CFG_SEC : Nat := 0x30038
/-- R63: Bit k set: a group of class k + 1 is pending, k = 0–8. -/
abbrev Reg.CFG_PEND : Nat := 0x3003c

/-! ### SDM block -/

/-- R147: [0] any channel faulted; [1] any comparator asserted; [14:8] faulted channel count. -/
abbrev Reg.SDM_STAT : Nat := 0x40000
/-- R147: Channel fault flags, channels 32i to 32i + 31. -/
abbrev Reg.SDM_FAULT (i : Nat) : Nat := 0x40010 + 4 * i
/-- R147: Comparator assertion flags, channels 32i to 32i + 31. -/
abbrev Reg.SDM_CMPF (i : Nat) : Nat := 0x40020 + 4 * i
/-- R147: Channel enable, polarity, rate, ratios. -/
abbrev Reg.SDM_CFG (i : Nat) : Nat := 0x40100 + 4 * i
/-- R147: Comparator thresholds. -/
abbrev Reg.SDM_CMP (i : Nat) : Nat := 0x40300 + 4 * i
/-- R147: Comparator enables and hysteresis. -/
abbrev Reg.SDM_CMP_CFG (i : Nat) : Nat := 0x40500 + 4 * i
/-- R147: Latest sinc3 result and status. -/
abbrev Reg.SDM_RES (i : Nat) : Nat := 0x40700 + 4 * i
/-- R147: Code violations since last read, saturating. -/
abbrev Reg.SDM_CV (i : Nat) : Nat := 0x40900 + 4 * i
/-- R147: [15:0] measured bit rate, kb/s. -/
abbrev Reg.SDM_RATE (i : Nat) : Nat := 0x40b00 + 4 * i

/-! ### ADC block -/

/-- R149: [7:0] BUSY[k]; [15:8] CAL[k] running; [23:16] CAL_PEND[k]. -/
abbrev Reg.ADC_STAT : Nat := 0x50000
/-- R149: [7:0] request calibration of converters in mask. -/
abbrev Reg.ADC_CAL_CMD : Nat := 0x50004
/-- R149: [15:0] fire software trigger t. -/
abbrev Reg.ADC_SW_TRIG : Nat := 0x50008
/-- R149: [7:0] trigger lost; [15:8] calibration done; [19:16] simultaneous set deferred. -/
abbrev Reg.ADC_FLAGS : Nat := 0x5000c
/-- R149: [5:0] SRC; [31:16] PER, timer period in ticks. -/
abbrev Reg.ADC_TRIG_SRC (i : Nat) : Nat := 0x50100 + 8 * i
/-- R149: [15:0] delay in ticks. -/
abbrev Reg.ADC_TRIG_DLY (i : Nat) : Nat := 0x50104 + 8 * i
/-- R149: [7:0] member mask; [11:8] trigger. -/
abbrev Reg.ADC_SIM (i : Nat) : Nat := 0x50200 + 8 * i
/-- R149: [7:0] SMP, 4–255 ACLK; [8] ILV (even k only). -/
abbrev Reg.ADC_CFG (i : Nat) : Nat := 0x51000 + 512 * i
/-- R149: [3:0] steps − 1; [4] BURST; [11:8] TRIG; [31:16] COUNT. -/
abbrev Reg.ADC_SEQ (i : Nat) : Nat := 0x51004 + 512 * i
/-- R149: [0] EN; [7:4] trigger; [11:8] input; [13:12] slot. -/
abbrev Reg.ADC_INJ (i j : Nat) : Nat := 0x51010 + 512 * i + 4 * j
/-- R149: [3:0] input AIN0–AIN15. -/
abbrev Reg.ADC_STEP (i j : Nat) : Nat := 0x51040 + 512 * i + 4 * j
/-- R149: Regular result slot n. -/
abbrev Reg.ADC_RES (i j : Nat) : Nat := 0x51080 + 512 * i + 4 * j
/-- R149: Injected result slot i. -/
abbrev Reg.ADC_IRES (i j : Nat) : Nat := 0x510c0 + 512 * i + 4 * j
/-- R149: [15:0] lost triggers, saturating; [18:16] last cause: 1 BUSY, 2 QFULL, 3 CAL, 4 DELAY. -/
abbrev Reg.ADC_LOST (i : Nat) : Nat := 0x510d0 + 512 * i
/-- R149: Stored offset correction. -/
abbrev Reg.ADC_CAL_OFS (i : Nat) : Nat := 0x510d4 + 512 * i
/-- R149: Stored gain correction. -/
abbrev Reg.ADC_CAL_GAIN (i : Nat) : Nat := 0x510d8 + 512 * i
/-- R149: Bit-weight correction n. -/
abbrev Reg.ADC_CAL_W (i j : Nat) : Nat := 0x510e0 + 512 * i + 4 * j
/-- R149: [0] CAL done since reset; [1] interleaving; [5:2] next regular step. -/
abbrev Reg.ADC_KSTAT (i : Nat) : Nat := 0x51120 + 512 * i
/-- R624: Live copy of ADC_TRIG_DLY (R624). -/
abbrev Reg.ADC_TRIG_DLY_L (i : Nat) : Nat := 0x50504 + 8 * i

/-! ### VTX block -/

/-- R178: Engine state, running segment, consecutive overrun count. -/
abbrev Reg.VTX_STAT (i : Nat) : Nat := 0x60000 + 8192 * i
/-- R178: Overrun limit; halt-only. -/
abbrev Reg.VTX_CFG (i : Nat) : Nat := 0x60004 + 8192 * i
/-- R178: Engine 0 only: [0] DRY, dry-run of all engines; refused unless halted. -/
abbrev Reg.VTX_CTRL : Nat := 0x60008
/-- R178: Overruns since last read, saturating. -/
abbrev Reg.VTX_OVR_CNT (i : Nat) : Nat := 0x6000c + 8192 * i
/-- R178: Recovered residue mismatches since last read, saturating. -/
abbrev Reg.VTX_RES_CNT (i : Nat) : Nat := 0x60010 + 8192 * i
/-- R178: Numeric replacements under R162, saturating. -/
abbrev Reg.VTX_NUMX (i : Nat) : Nat := 0x60014 + 8192 * i
/-- R178: [0] overrun; [1] residue recovered; [2] numeric; [3] engine fault; [4] OVR_LIM reached; [5] deferred blocks skipped. -/
abbrev Reg.VTX_FLAGS (i : Nat) : Nat := 0x60018 + 8192 * i
/-- R178: [7:0] live bank of segment j, 0 lower bank, 1 upper bank. -/
abbrev Reg.VTX_BSEL (i : Nat) : Nat := 0x6001c + 8192 * i
/-- R178: Engine fault location. -/
abbrev Reg.VTX_FAULT_INFO (i : Nat) : Nat := 0x60020 + 8192 * i
/-- R178: Citre worst-case execution time of segment j, ECLK cycles. -/
abbrev Reg.VTX_WCET (i j : Nat) : Nat := 0x60100 + 8192 * i + 4 * j
/-- R178: Largest executed ECLK cycles of segment j since last read. -/
abbrev Reg.VTX_EXEC_MAX (i j : Nat) : Nat := 0x60120 + 8192 * i + 4 * j
/-- R178: Executed ECLK cycles of segment j in its last window. -/
abbrev Reg.VTX_EXEC_LAST (i j : Nat) : Nat := 0x60140 + 8192 * i + 4 * j

/-! ### SLT block -/

/-- R180: Shadow entry i: window start. -/
abbrev Reg.SLT_WIN (i : Nat) : Nat := 0x80000 + 8 * i
/-- R180: Shadow entry i: window end, engine, segment, flags. -/
abbrev Reg.SLT_CTL (i : Nat) : Nat := 0x80004 + 8 * i
/-- R180: Live entry i: window start. -/
abbrev Reg.SLT_WIN_L (i : Nat) : Nat := 0x80200 + 8 * i
/-- R180: Live entry i: window end, engine, segment, flags. -/
abbrev Reg.SLT_CTL_L (i : Nat) : Nat := 0x80204 + 8 * i
/-- R180: [6:0] valid live entries; [7] shadow differs from live; [8] SLOT commit pending. -/
abbrev Reg.SLT_STAT : Nat := 0x80400
/-- R623: [17:0] control period length L, 3,125–156,250 ticks. -/
abbrev Reg.SLT_PER : Nat := 0x80410
/-- R623: [17:0] control epoch offset O, 0 to L − 1 ticks. -/
abbrev Reg.SLT_PEPO : Nat := 0x80414
/-- R623: [0] MID, mid-period latch enabled. -/
abbrev Reg.SLT_PCFG : Nat := 0x80418
/-- R623: Live L. -/
abbrev Reg.SLT_PER_L : Nat := 0x80420
/-- R623: Live O. -/
abbrev Reg.SLT_PEPO_L : Nat := 0x80424
/-- R623: Live MID. -/
abbrev Reg.SLT_PCFG_L : Nat := 0x80428

/-! ### PWM block -/

/-- R317: Pending commits, replica lock, outputs enabled. -/
abbrev Reg.PWM_STAT : Nat := 0x90000
/-- R317: [7:0] LOAD_ALL for groups in mask. -/
abbrev Reg.PWM_LOAD : Nat := 0x90004
/-- R317: Event flags. -/
abbrev Reg.PWM_FLAGS : Nat := 0x90008
/-- R317: [8:0] replica loop k in range; [31:16] oldest line age, ms, saturating. -/
abbrev Reg.PWM_CALSTAT : Nat := 0x9000c
/-- R317: [15:0] AGE_MAX, ms. -/
abbrev Reg.PWM_CALCFG : Nat := 0x90010
/-- R317: Group period, ticks. -/
abbrev Reg.PWM_GPER (i : Nat) : Nat := 0x90100 + 16 * i
/-- R317: Group epoch offset, 0 to period − 1 ticks. -/
abbrev Reg.PWM_GEPO (i : Nat) : Nat := 0x90104 + 16 * i
/-- R317: Commit point, tied. -/
abbrev Reg.PWM_GCFG (i : Nat) : Nat := 0x90108 + 16 * i
/-- R317: Group status. -/
abbrev Reg.PWM_GSTAT (i : Nat) : Nat := 0x9010c + 16 * i
/-- R317: Live group period. -/
abbrev Reg.PWM_GPER_L (i : Nat) : Nat := 0x90200 + 16 * i
/-- R317: Live group epoch offset. -/
abbrev Reg.PWM_GEPO_L (i : Nat) : Nat := 0x90204 + 16 * i
/-- R317: Live commit point, tied. -/
abbrev Reg.PWM_GCFG_L (i : Nat) : Nat := 0x90208 + 16 * i
/-- R317: Shadow ON, fine units. -/
abbrev Reg.PWM_ON (i : Nat) : Nat := 0x91000 + 16 * i
/-- R317: Shadow WID, fine units. -/
abbrev Reg.PWM_WID (i : Nat) : Nat := 0x91004 + 16 * i
/-- R317: Live ON. -/
abbrev Reg.PWM_ON_L (i : Nat) : Nat := 0x91008 + 16 * i
/-- R317: Live WID. -/
abbrev Reg.PWM_WID_L (i : Nat) : Nat := 0x9100c + 16 * i
/-- R317: [15:0] DT_R; [31:16] DT_F, fine units. -/
abbrev Reg.PWM_DT (i : Nat) : Nat := 0x92000 + 16 * i
/-- R317: [15:0] DT_MIN; [31:16] DT_MAX, fine units. -/
abbrev Reg.PWM_DTLIM (i : Nat) : Nat := 0x92004 + 16 * i
/-- R317: Minimum pulse, mode, adaptive enable. -/
abbrev Reg.PWM_MPW (i : Nat) : Nat := 0x92008 + 16 * i
/-- R317: Live dead times. -/
abbrev Reg.PWM_DT_L (i : Nat) : Nat := 0x93000 + 16 * i
/-- R317: Live dead-time limits. -/
abbrev Reg.PWM_DTLIM_L (i : Nat) : Nat := 0x93004 + 16 * i
/-- R317: Live minimum pulse, mode, adaptive enable. -/
abbrev Reg.PWM_MPW_L (i : Nat) : Nat := 0x93008 + 16 * i
/-- R317: Group, enable. -/
abbrev Reg.PWM_PCFG (i : Nat) : Nat := 0x94000 + 4 * i
/-- R317: Bootstrap refresh. -/
abbrev Reg.PWM_BOOT (i : Nat) : Nat := 0x94200 + 4 * i
/-- R317: Adaptive dead-time control. -/
abbrev Reg.PWM_ADT (i : Nat) : Nat := 0x94400 + 4 * i
/-- R317: [15:0] ADT_R; [31:16] ADT_F. -/
abbrev Reg.PWM_ADT_STAT (i : Nat) : Nat := 0x94600 + 4 * i
/-- R317: [15:0] increases; [31:16] decreases; saturating. -/
abbrev Reg.PWM_ADT_CNT (i : Nat) : Nat := 0x94800 + 4 * i
/-- R317: [15:0] removed intervals; [31:16] stretched intervals; saturating. -/
abbrev Reg.PWM_MPCNT (i : Nat) : Nat := 0x94a00 + 4 * i
/-- R317: [15:0] age of line i, ms, saturating; i = 0–191 gate channel, 192–199 TPO0–TPO7. -/
abbrev Reg.PWM_CALAGE (i : Nat) : Nat := 0x95000 + 4 * i

/-! ### GPR block -/

/-- R246: Hold control. -/
abbrev Reg.GPR_CTL : Nat := 0xb0000
/-- R246: Hold state and fill status. -/
abbrev Reg.GPR_STAT : Nat := 0xb0004
/-- R246: Rejected words since last read. -/
abbrev Reg.GPR_REJ : Nat := 0xb0008
/-- R246: TS32 of the last boundary at which the words were copied. -/
abbrev Reg.GPR_FILL_TS : Nat := 0xb000c
/-- R246: Run-time input word i, i = 0–63. -/
abbrev Reg.GPR_IN (i : Nat) : Nat := 0xb0100 + 4 * i
/-- R246: Observation word i, released by a graph, i = 0–63. -/
abbrev Reg.GPR_OBS (i : Nat) : Nat := 0xb0200 + 4 * i
/-- R347: Cluster latch, pattern, evaluation, counts. -/
abbrev Reg.GPR_PSTAT : Nat := 0xb1000
/-- R347: FS_DT, graph request counting. -/
abbrev Reg.GPR_PCFG : Nat := 0xb1004
/-- R347: ESC_WIN, CLU_K. -/
abbrev Reg.GPR_ESC : Nat := 0xb1008
/-- R347: [19:0] CLU_WIN, ticks. -/
abbrev Reg.GPR_CLUWIN : Nat := 0xb100c
/-- R347: Trip input enables, latches, levels. -/
abbrev Reg.GPR_TRIPI : Nat := 0xb1010
/-- R347: Clear command; reads zero after action. -/
abbrev Reg.GPR_CLR : Nat := 0xb1014
/-- R347: Last clear outcome. -/
abbrev Reg.GPR_CLR_STAT : Nat := 0xb1018
/-- R347: Event flags. -/
abbrev Reg.GPR_FLAGS : Nat := 0xb101c
/-- R347: Cluster fault cause. -/
abbrev Reg.GPR_CLUINFO : Nat := 0xb1020
/-- R347: TS32 of the cluster fault. -/
abbrev Reg.GPR_CLU_TS : Nat := 0xb1024
/-- R347: Live ESC_WIN, CLU_K. -/
abbrev Reg.GPR_ESC_L : Nat := 0xb1028
/-- R347: Live CLU_WIN. -/
abbrev Reg.GPR_CLUWIN_L : Nat := 0xb102c
/-- R347: Latched switches 32i to 32i + 31, i = 0–5. -/
abbrev Reg.GPR_SWLAT (i : Nat) : Nat := 0xb1040 + 4 * i
/-- R347: [23:0] cells in their cell fail-safe state. -/
abbrev Reg.GPR_CELLFS : Nat := 0xb1060
/-- R347: [23:0] cells with a latched cell fault. -/
abbrev Reg.GPR_CELLFLT : Nat := 0xb1064
/-- R347: [23:0] accepted BYP_FB levels. -/
abbrev Reg.GPR_BYPFB : Nat := 0xb1068
/-- R347: [23:0] BYP_O levels. -/
abbrev Reg.GPR_BYPO : Nat := 0xb106c
/-- R347: Cause of cell c's state. -/
abbrev Reg.GPR_CELLINFO (i : Nat) : Nat := 0xb1100 + 4 * i
/-- R347: Bypass type, T_CLOSE, DEB. -/
abbrev Reg.GPR_BYPCFG (i : Nat) : Nat := 0xb1200 + 4 * i
/-- R347: Switch g fault record. -/
abbrev Reg.GPR_SWINFO (i : Nat) : Nat := 0xb1400 + 4 * i
/-- R347: BLANK, QUAL, HSD. -/
abbrev Reg.GPR_BQ (i : Nat) : Nat := 0xb1800 + 4 * i
/-- R347: Live BLANK, QUAL, HSD. -/
abbrev Reg.GPR_BQ_L (i : Nat) : Nat := 0xb1c00 + 4 * i
/-- R347: Sigma-delta protection actions. -/
abbrev Reg.GPR_SDACT (i : Nat) : Nat := 0xb2000 + 4 * i

/-! ### RNG block -/

/-- R283: Ring state, membership, trip, uncertainty. -/
abbrev Reg.RNG_STAT : Nat := 0xc0000
/-- R283: Node count, second ring pair. -/
abbrev Reg.RNG_CFG : Nat := 0xc0004
/-- R283: [15:0] largest one-way ring fibre delay, ns. -/
abbrev Reg.RNG_FIBMAX : Nat := 0xc0008
/-- R283: [15:0] ring latency budget, ns. -/
abbrev Reg.RNG_BUDGET : Nat := 0xc000c
/-- R283: Record field scales. -/
abbrev Reg.RNG_SCALE : Nat := 0xc0010
/-- R283: Stack trip sources and action. -/
abbrev Reg.RNG_TRIPCFG : Nat := 0xc0014
/-- R283: Membership and staleness limits. -/
abbrev Reg.RNG_MCFG : Nat := 0xc0018
/-- R283: [0] TRIP, originate cause 0x3; [1] TRIPCLR; read zero after action. -/
abbrev Reg.RNG_CTRL : Nat := 0xc001c
/-- R283: Member nodes 0–31. -/
abbrev Reg.RNG_MEMB_LO : Nat := 0xc0020
/-- R283: Member nodes 32–63. -/
abbrev Reg.RNG_MEMB_HI : Nat := 0xc0024
/-- R283: [15:0] PSEQ of the governing snapshot; [23:16] governing age, saturating. -/
abbrev Reg.RNG_GOV : Nat := 0xc0028
/-- R283: Last closed snapshot. -/
abbrev Reg.RNG_SNAP : Nat := 0xc002c
/-- R283: Nodes 0–31 missing from the last closed snapshot. -/
abbrev Reg.RNG_MISS_LO : Nat := 0xc0030
/-- R283: Nodes 32–63 missing from the last closed snapshot. -/
abbrev Reg.RNG_MISS_HI : Nat := 0xc0034
/-- R283: Lane states. -/
abbrev Reg.RNG_LINK : Nat := 0xc0038
/-- R283: Last stack trip received or originated. -/
abbrev Reg.RNG_TRIP : Nat := 0xc003c
/-- R283: Frames with a bad CRC, saturating. -/
abbrev Reg.RNG_CRCERR : Nat := 0xc0040
/-- R283: Stomped frames, saturating. -/
abbrev Reg.RNG_STOMP : Nat := 0xc0044
/-- R283: Late frames, saturating. -/
abbrev Reg.RNG_LATE : Nat := 0xc0048
/-- R283: Conflicting entries, saturating. -/
abbrev Reg.RNG_CONFL : Nat := 0xc004c
/-- R283: Periods with a held governing set, saturating. -/
abbrev Reg.RNG_HOLD_CNT : Nat := 0xc0050
/-- R283: Latest frame end after its boundary, ns. -/
abbrev Reg.RNG_LATMAX : Nat := 0xc0054
/-- R283: Stack-wide configuration CRC. -/
abbrev Reg.RNG_RCD : Nat := 0xc0058
/-- R283: Event flags. -/
abbrev Reg.RNG_FLAGS : Nat := 0xc005c
/-- R624: Live copy of RNG_CFG (R624). -/
abbrev Reg.RNG_CFG_L : Nat := 0xc0104
/-- R624: Live copy of RNG_FIBMAX (R624). -/
abbrev Reg.RNG_FIBMAX_L : Nat := 0xc0108
/-- R624: Live copy of RNG_BUDGET (R624). -/
abbrev Reg.RNG_BUDGET_L : Nat := 0xc010c

/-! ### STR block -/

/-- R285: [15:0] groups enabled. -/
abbrev Reg.STR_STAT : Nat := 0xd0000
/-- R285: Longest sort since last read, FCLK cycles. -/
abbrev Reg.STR_SORT_T : Nat := 0xd0004
/-- R285: [0] SGNDEF. -/
abbrev Reg.STR_FLAGS : Nat := 0xd0008
/-- R285: Group r configuration, r = 0–15. -/
abbrev Reg.STR_GCFG (i : Nat) : Nat := 0xd0100 + 4 * i
/-- R285: Governing NAV of group r. -/
abbrev Reg.STR_NAV (i : Nat) : Nat := 0xd0140 + 4 * i
/-- R285: Governing SUMV of group r, F32. -/
abbrev Reg.STR_SUMV (i : Nat) : Nat := 0xd0180 + 4 * i
/-- R285: Group map of G = 4i to 4i + 3, i = 0–383. -/
abbrev Reg.STR_GMAP (i : Nat) : Nat := 0xd0200 + 4 * i
/-- R285: Governing rank of own cell c. -/
abbrev Reg.STR_RANK (i : Nat) : Nat := 0xd0800 + 4 * i

/-! ### FLT block -/

/-- R395: Flint state, SGI request, refused requests. -/
abbrev Reg.FLT_STAT : Nat := 0xe0000
/-- R395: Function states and causes. -/
abbrev Reg.FLT_FUNC : Nat := 0xe0004
/-- R395: [7:0] filtered SIN_A; [15:8] filtered SIN_B. -/
abbrev Reg.FLT_SIN : Nat := 0xe0008
/-- R395: [7:0] discrepancy latched; [15:8] input test failed; [23:16] clear sequence at step 2 or later. -/
abbrev Reg.FLT_DISC : Nat := 0xe000c
/-- R395: [3:0] SOUT_H; [7:4] SOUT_L; [11:8] SRB_H; [15:12] SRB_L; [19:16] readback fault latched. -/
abbrev Reg.FLT_SOUT : Nat := 0xe0010
/-- R395: [0] A not silent; [1] B not silent; [4:2] permit held for SGI, SST, SAP. -/
abbrev Reg.FLT_NET : Nat := 0xe0014
/-- R395: Last valid SEQ on network A. -/
abbrev Reg.FLT_SEQ_A : Nat := 0xe0018
/-- R395: Last valid SEQ on network B. -/
abbrev Reg.FLT_SEQ_B : Nat := 0xe001c
/-- R395: [15:0] invalid frames on A; [31:16] on B. -/
abbrev Reg.FLT_FRMERR : Nat := 0xe0020
/-- R395: [15:0] unpaired frames. -/
abbrev Reg.FLT_UNPAIRED : Nat := 0xe0024
/-- R395: Last test pulse. -/
abbrev Reg.FLT_TEST : Nat := 0xe0028
/-- R395: CRC-32C of the SAFE section in force. -/
abbrev Reg.FLT_SAFE_CRC : Nat := 0xe002c
/-- R395: [15:0] SAFE version in force. -/
abbrev Reg.FLT_SAFE_VER : Nat := 0xe0030
/-- R395: Flint cycles since reset, modulo 2³². -/
abbrev Reg.FLT_CYCLES : Nat := 0xe0034
/-- R395: Log entry i, i = 0–15, newest at FLT_STAT.LOGPTR − 1. -/
abbrev Reg.FLT_LOG (i : Nat) : Nat := 0xe0100 + 4 * i

/-! ### PAR block -/

/-- R420: Pair state, partner status. -/
abbrev Reg.PAR_STAT : Nat := 0xf0000
/-- R420: Checkpoint interval, age limit, heartbeat timeout. -/
abbrev Reg.PAR_CFG : Nat := 0xf0004
/-- R420: Planned handover timing. -/
abbrev Reg.PAR_HOCFG : Nat := 0xf0008
/-- R420: [0] HANDOVER; reads zero after action. -/
abbrev Reg.PAR_CTRL : Nat := 0xf000c
/-- R420: [0] partner loss; [1] takeover; [2] checkpoint invalid; [3] link down; [4] not eligible; [5] handover refused; [6] dual active. -/
abbrev Reg.PAR_FLAGS : Nat := 0xf0010
/-- R420: Own health report word. -/
abbrev Reg.PAR_HLTH_OWN : Nat := 0xf0014
/-- R420: Partner's last health report word. -/
abbrev Reg.PAR_HLTH_PEER : Nat := 0xf0018
/-- R420: Buffer state, capture interval K. -/
abbrev Reg.PAR_CKPT_STAT : Nat := 0xf001c
/-- R420: SEQ of the newest valid checkpoint. -/
abbrev Reg.PAR_CKPT_SEQ : Nat := 0xf0020
/-- R420: Age of the newest valid checkpoint, µs, saturating. -/
abbrev Reg.PAR_CKPT_AGE : Nat := 0xf0024
/-- R420: Checkpoint size in bytes. -/
abbrev Reg.PAR_CKPT_SIZE : Nat := 0xf0028
/-- R420: [4:0] failed self-test items (R401). -/
abbrev Reg.PAR_ST_FAIL : Nat := 0xf002c
/-- R420: Takeovers since last read, saturating. -/
abbrev Reg.PAR_TO_CNT : Nat := 0xf0030
/-- R420: [15:0] blocked time of the last takeover, 0.1 µs. -/
abbrev Reg.PAR_TO_BLK : Nat := 0xf0034
/-- R420: TS32 of the last partner loss or handover boundary. -/
abbrev Reg.PAR_TO_TS : Nat := 0xf0038

/-! ### MTR block -/

/-- R446: [3:0] points enabled; [7:4] crossing present; [8] save running; [9] RESTORED; [10] LOADED; [11] LOAD_NONE. -/
abbrev Reg.MTR_STAT : Nat := 0x100000
/-- R446: [0] LOAD; [1] RESTORE; [2] SAVE_NOW; read zero after action. -/
abbrev Reg.MTR_CTRL : Nat := 0x100004
/-- R446: [3:0] latch points in mask. -/
abbrev Reg.MTR_SNAP : Nat := 0x100008
/-- R446: [0] GAP; [1] crossing absent; [2] backlog overflow; [3] mismatch; [4] save skipped; [5] save failed; [6] reversal. -/
abbrev Reg.MTR_FLAGS : Nat := 0x10000c
/-- R446: [11:0] SAVE_INT, 1–3,600 s; [14:12] converter; [19:16] result slot; [31:24] NVM_SIZE, 1–64 MiB. -/
abbrev Reg.MTR_SAVECFG : Nat := 0x100010
/-- R446: Hold-up capacitance, F32, F. -/
abbrev Reg.MTR_HU_C : Nat := 0x100014
/-- R446: Hold-up minimum voltage, F32, V. -/
abbrev Reg.MTR_HU_VMIN : Nat := 0x100018
/-- R446: Energy a save needs, F32, J. -/
abbrev Reg.MTR_HU_ESAVE : Nat := 0x10001c
/-- R446: Hold-up volts per code, F32. -/
abbrev Reg.MTR_HU_SCALE : Nat := 0x100020
/-- R446: SEQ of the newest valid record. -/
abbrev Reg.MTR_SAVE_SEQ : Nat := 0x100024
/-- R446: TS32 of the last save. -/
abbrev Reg.MTR_SAVE_TS : Nat := 0x100028
/-- R446: Hysteresis of the IMF crossings of R435, F32, A (R436). -/
abbrev Reg.MTR_ZCHYS_MF : Nat := 0x10002c
/-- R446: Mode, source, pairs. -/
abbrev Reg.MTR_PCFG (i : Nat) : Nat := 0x101000 + 1024 * i
/-- R446: [11:0] INT, s; [31:16] WIN, ms. -/
abbrev Reg.MTR_PWIN (i : Nat) : Nat := 0x101004 + 1024 * i
/-- R446: [15:0] REV_N; [31:16] ZC_TMO, ms. -/
abbrev Reg.MTR_REV (i : Nat) : Nat := 0x101008 + 1024 * i
/-- R446: Crossing hysteresis, F32, V. -/
abbrev Reg.MTR_ZCHYS (i : Nat) : Nat := 0x10100c + 1024 * i
/-- R446: Voltage scale, F32, V per code. -/
abbrev Reg.MTR_VSC (i j : Nat) : Nat := 0x101010 + 1024 * i + 16 * j
/-- R446: Current scale, F32, A per code. -/
abbrev Reg.MTR_ISC (i j : Nat) : Nat := 0x101014 + 1024 * i + 16 * j
/-- R446: Power scale, F32, W per code². -/
abbrev Reg.MTR_PSC (i j : Nat) : Nat := 0x101018 + 1024 * i + 16 * j
/-- R446: EIMP[31:0], latched. -/
abbrev Reg.MTR_EIMP_LO (i : Nat) : Nat := 0x101040 + 1024 * i
/-- R446: EIMP[63:32], latched. -/
abbrev Reg.MTR_EIMP_HI (i : Nat) : Nat := 0x101044 + 1024 * i
/-- R446: EEXP[31:0], latched. -/
abbrev Reg.MTR_EEXP_LO (i : Nat) : Nat := 0x101048 + 1024 * i
/-- R446: EEXP[63:32], latched. -/
abbrev Reg.MTR_EEXP_HI (i : Nat) : Nat := 0x10104c + 1024 * i
/-- R446: [15:0] import wraps; [31:16] export wraps. -/
abbrev Reg.MTR_EWRAP (i : Nat) : Nat := 0x101050 + 1024 * i
/-- R446: IIMP[31:0], latched. -/
abbrev Reg.MTR_IIMP_LO (i : Nat) : Nat := 0x101054 + 1024 * i
/-- R446: IIMP[63:32], latched. -/
abbrev Reg.MTR_IIMP_HI (i : Nat) : Nat := 0x101058 + 1024 * i
/-- R446: IEXP[31:0], latched. -/
abbrev Reg.MTR_IEXP_LO (i : Nat) : Nat := 0x10105c + 1024 * i
/-- R446: IEXP[63:32], latched. -/
abbrev Reg.MTR_IEXP_HI (i : Nat) : Nat := 0x101060 + 1024 * i
/-- R446: Reversals in the present interval. -/
abbrev Reg.MTR_REVCNT (i : Nat) : Nat := 0x101064 + 1024 * i
/-- R446: TS32 of the last reversal. -/
abbrev Reg.MTR_REV_TS (i : Nat) : Nat := 0x101068 + 1024 * i
/-- R446: Pair quantities, F32, at +0x00 to +0x1C in that order. -/
abbrev Reg.MTR_VMEAN (i j : Nat) : Nat := 0x101080 + 1024 * i + 32 * j
/-- R446: Pair quantities, F32, at +0x00 to +0x1C in that order. -/
abbrev Reg.MTR_IMEAN (i j : Nat) : Nat := 0x101084 + 1024 * i + 32 * j
/-- R446: Pair quantities, F32, at +0x00 to +0x1C in that order. -/
abbrev Reg.MTR_VRMS (i j : Nat) : Nat := 0x101088 + 1024 * i + 32 * j
/-- R446: Pair quantities, F32, at +0x00 to +0x1C in that order. -/
abbrev Reg.MTR_IRMS (i j : Nat) : Nat := 0x10108c + 1024 * i + 32 * j
/-- R446: Pair quantities, F32, at +0x00 to +0x1C in that order. -/
abbrev Reg.MTR_P (i j : Nat) : Nat := 0x101090 + 1024 * i + 32 * j
/-- R446: Pair quantities, F32, at +0x00 to +0x1C in that order. -/
abbrev Reg.MTR_PF (i j : Nat) : Nat := 0x101094 + 1024 * i + 32 * j
/-- R446: Pair quantities, F32, at +0x00 to +0x1C in that order. -/
abbrev Reg.MTR_VI_ANG (i j : Nat) : Nat := 0x101098 + 1024 * i + 32 * j
/-- R446: Pair quantities, F32, at +0x00 to +0x1C in that order. -/
abbrev Reg.MTR_PP_ANG (i j : Nat) : Nat := 0x10109c + 1024 * i + 32 * j
/-- R446: Frequency, F32, Hz. -/
abbrev Reg.MTR_FREQ (i : Nat) : Nat := 0x1010e0 + 1024 * i
/-- R446: Σ P_p, F32, W. -/
abbrev Reg.MTR_PTOT (i : Nat) : Nat := 0x1010e4 + 1024 * i
/-- R446: Σ S_p, F32, VA. -/
abbrev Reg.MTR_STOT (i : Nat) : Nat := 0x1010e8 + 1024 * i
/-- R446: Total power factor, F32. -/
abbrev Reg.MTR_PFTOT (i : Nat) : Nat := 0x1010ec + 1024 * i
/-- R446: [0] FREQ_V; [1] ANG_V; [2] window complete. -/
abbrev Reg.MTR_QSTAT (i : Nat) : Nat := 0x1010f0 + 1024 * i
/-- R446: TS32 of the latched sample boundary. -/
abbrev Reg.MTR_SNAP_TS (i : Nat) : Nat := 0x1010f4 + 1024 * i
/-- R446: Current source of each pair (R447). -/
abbrev Reg.MTR_ISRC (i : Nat) : Nat := 0x1010f8 + 1024 * i
/-- R446: Pulse output n configuration. -/
abbrev Reg.MTR_MPO_CFG (i : Nat) : Nat := 0x102000 + 32 * i
/-- R446: Weight, J; default 3.6 MJ. -/
abbrev Reg.MTR_MPO_W (i : Nat) : Nat := 0x102004 + 32 * i
/-- R446: Pulses emitted, latched. -/
abbrev Reg.MTR_MPO_CNT (i : Nat) : Nat := 0x102008 + 32 * i
/-- R446: [15:0] backlog; [16] OVF, cleared with MTR_FLAGS[2]. -/
abbrev Reg.MTR_MPO_BKLG (i : Nat) : Nat := 0x10200c + 32 * i
/-- R446: Due pulses lost, saturating. -/
abbrev Reg.MTR_MPO_LOST (i : Nat) : Nat := 0x102010 + 32 * i
/-- R446: Pulse input n configuration. -/
abbrev Reg.MTR_MPI_CFG (i : Nat) : Nat := 0x102100 + 32 * i
/-- R446: Weight, J. -/
abbrev Reg.MTR_MPI_W (i : Nat) : Nat := 0x102104 + 32 * i
/-- R446: Accepted pulses, latched. -/
abbrev Reg.MTR_MPI_CNT (i : Nat) : Nat := 0x102108 + 32 * i
/-- R446: [10:0] CHK_WIN, min; [29:16] TOL, 0.01 %. -/
abbrev Reg.MTR_MPI_CHK (i : Nat) : Nat := 0x10210c + 32 * i
/-- R446: E_ext − E_int of the last window, F32, J. -/
abbrev Reg.MTR_MPI_DEV (i : Nat) : Nat := 0x102110 + 32 * i
/-- R446: Cell quantities at +0x00 to +0x14 in that order; CSTAT [0] V. -/
abbrev Reg.MTR_CIMF (i : Nat) : Nat := 0x103000 + 32 * i
/-- R446: Cell quantities at +0x00 to +0x14 in that order; CSTAT [0] V. -/
abbrev Reg.MTR_CFMF (i : Nat) : Nat := 0x103004 + 32 * i
/-- R446: Cell quantities at +0x00 to +0x14 in that order; CSTAT [0] V. -/
abbrev Reg.MTR_CZVS (i : Nat) : Nat := 0x103008 + 32 * i
/-- R446: Cell quantities at +0x00 to +0x14 in that order; CSTAT [0] V. -/
abbrev Reg.MTR_CLPF (i : Nat) : Nat := 0x10300c + 32 * i
/-- R446: Cell quantities at +0x00 to +0x14 in that order; CSTAT [0] V. -/
abbrev Reg.MTR_CPLINK (i : Nat) : Nat := 0x103010 + 32 * i
/-- R446: Cell quantities at +0x00 to +0x14 in that order; CSTAT [0] V. -/
abbrev Reg.MTR_CSTAT (i : Nat) : Nat := 0x103014 + 32 * i
/-- R446: Restore record window, layout of R442. -/
abbrev Reg.MTR_RREC (i : Nat) : Nat := 0x104000 + 4 * i
/-- R624: Live copy of MTR_VSC (R624). -/
abbrev Reg.MTR_VSC_L (i j : Nat) : Nat := 0x101210 + 1024 * i + 16 * j
/-- R624: Live copy of MTR_ISC (R624). -/
abbrev Reg.MTR_ISC_L (i j : Nat) : Nat := 0x101214 + 1024 * i + 16 * j
/-- R624: Live copy of MTR_PSC (R624). -/
abbrev Reg.MTR_PSC_L (i j : Nat) : Nat := 0x101218 + 1024 * i + 16 * j

/-! ### MEM block -/

/-- R476: Fill, scrub, test, log state. -/
abbrev Reg.MEM_STAT : Nat := 0x110000
/-- R476: CORR_THR, AUTO_WB. -/
abbrev Reg.MEM_CFG : Nat := 0x110004
/-- R476: [0] CORR; [1] THR; [2] PERS; [3] UE; [4] LOGOVF; [5] SCRUB. -/
abbrev Reg.MEM_FLAGS : Nat := 0x110008
/-- R476: Corrections since last read, saturating. -/
abbrev Reg.MEM_CORR_CNT : Nat := 0x11000c
/-- R476: Uncorrectable errors since last read, saturating. -/
abbrev Reg.MEM_UE_CNT : Nat := 0x110010
/-- R476: [23:3] word of the last uncorrectable error. -/
abbrev Reg.MEM_UE_ADDR : Nat := 0x110014
/-- R476: [3:0] reader r, or 12 engine port, 13 ROUTE fill, 14 GCT reader. -/
abbrev Reg.MEM_UE_INFO : Nat := 0x110018
/-- R476: Corrections not logged, saturating. -/
abbrev Reg.MEM_LOGOVF : Nat := 0x11001c
/-- R476: [0] clear all log entries. -/
abbrev Reg.MEM_LOGCLR : Nat := 0x110020
/-- R476: [23:3] first word. -/
abbrev Reg.MEM_SCRUB_START : Nat := 0x110024
/-- R476: [23:3] last word. -/
abbrev Reg.MEM_SCRUB_END : Nat := 0x110028
/-- R476: [0] GO; [1] WB; [2] ABORT; GO and ABORT read zero. -/
abbrev Reg.MEM_SCRUB_CTL : Nat := 0x11002c
/-- R476: [2:0] STATE; [23:3] LAST_ADDR. -/
abbrev Reg.MEM_SCRUB_STAT : Nat := 0x110030
/-- R476: Words corrected. -/
abbrev Reg.MEM_SCRUB_CORR : Nat := 0x110034
/-- R476: Uncorrectable words. -/
abbrev Reg.MEM_SCRUB_UE : Nat := 0x110038
/-- R476: [23:3] lowest failing word. -/
abbrev Reg.MEM_SCRUB_FIRST : Nat := 0x11003c
/-- R476: [23:3] highest failing word. -/
abbrev Reg.MEM_SCRUB_LAST : Nat := 0x110040
/-- R476: [0] EN; refused unless halted. -/
abbrev Reg.MEM_TEST : Nat := 0x110044
/-- R476: [7:0] check bits for test writes. -/
abbrev Reg.MEM_TEST_CWR : Nat := 0x110048
/-- R476: Check bits, syndrome, class of the last test read. -/
abbrev Reg.MEM_TEST_CRD : Nat := 0x11004c
/-- R476: [23:3] word of entry i, i = 0–15. -/
abbrev Reg.MEM_LOG_ADDR (i : Nat) : Nat := 0x110100 + 8 * i
/-- R476: Count and flags of entry i. -/
abbrev Reg.MEM_LOG_INFO (i : Nat) : Nat := 0x110104 + 8 * i

/-! ### ARB block -/

/-- R478: [0] MODE: 0 SERVICE, 1 LENIENT; [27:16] requesters urgent now. -/
abbrev Reg.ARB_STAT : Nat := 0x120000
/-- R478: [9:0] hold limit, 32–1,023 beats. -/
abbrev Reg.ARB_HOLD : Nat := 0x120004
/-- R478: [11:0] lock sequences permitted for requester r; only bits 8 and 10 writable. -/
abbrev Reg.ARB_LOCKEN : Nat := 0x120008
/-- R478: [11:0] requester cut off and demoted; [27:16] last cause per requester: 0 hold, 1 withdrawal. -/
abbrev Reg.ARB_CUT : Nat := 0x12000c
/-- R478: Wounded lock sequences, saturating. -/
abbrev Reg.ARB_WOUND : Nat := 0x120010
/-- R478: Preempted transfers, saturating. -/
abbrev Reg.ARB_PREEMPT : Nat := 0x120014
/-- R478: Grants to urgent requests, saturating. -/
abbrev Reg.ARB_URGENT : Nat := 0x120018
/-- R478: [1:0] priority class, 0–3; takes effect under R467. -/
abbrev Reg.ARB_CLASS (i : Nat) : Nat := 0x120040 + 4 * i
/-- R478: [15:0] longest wait from arrival to grant, FCLK cycles, saturating. -/
abbrev Reg.ARB_WAITMAX (i : Nat) : Nat := 0x120080 + 4 * i

/-! ### LAN block -/

/-- R503: [7:0] QLOCK per lane; [15:8] transmit awake; [23:16] receive awake; [25:24] link up, L4 and L5; [26] single-lane mode. -/
abbrev Reg.LAN_STAT : Nat := 0x130000
/-- R503: [7:0] lock lost per lane; [9:8] link down, L4 and L5; [10] PRBS lock lost; [11] EQLIM. -/
abbrev Reg.LAN_FLAGS : Nat := 0x130004
/-- R503: Uses and LINK_HOLD. -/
abbrev Reg.LAN_CFG (i : Nat) : Nat := 0x130100 + 64 * i
/-- R503: Lock and pattern state. -/
abbrev Reg.LAN_LSTAT (i : Nat) : Nat := 0x130104 + 64 * i
/-- R503: [5:0] pre-cursor; [13:8] main; [21:16] post-cursor. -/
abbrev Reg.LAN_TXEQ (i : Nat) : Nat := 0x130108 + 64 * i
/-- R503: [5:0] CTLE code; [31:8] DFE taps 1–3, signed 8 bits each. -/
abbrev Reg.LAN_RXEQ (i : Nat) : Nat := 0x13010c + 64 * i
/-- R503: [7:0] horizontal, 1/64 UI; [15:8] vertical, 2 mV; [23:16] hourly worst horizontal; [31:24] hourly worst vertical. -/
abbrev Reg.LAN_EYE (i : Nat) : Nat := 0x130110 + 64 * i
/-- R503: Test and freeze control. -/
abbrev Reg.LAN_CTL (i : Nat) : Nat := 0x130114 + 64 * i
/-- R503: Bit errors [31:0]; latches _HI. -/
abbrev Reg.LAN_PRBS_ERR_LO (i : Nat) : Nat := 0x130118 + 64 * i
/-- R503: [15:0] bit errors [47:32]. -/
abbrev Reg.LAN_PRBS_ERR_HI (i : Nat) : Nat := 0x13011c + 64 * i
/-- R503: Compared bits [31:0]; latches _HI. -/
abbrev Reg.LAN_PRBS_BIT_LO (i : Nat) : Nat := 0x130120 + 64 * i
/-- R503: [15:0] compared bits [47:32]. -/
abbrev Reg.LAN_PRBS_BIT_HI (i : Nat) : Nat := 0x130124 + 64 * i
/-- R503: Invalid sync headers while locked, saturating. -/
abbrev Reg.LAN_SHERR (i : Nat) : Nat := 0x130128 + 64 * i
/-- R503: Losses of block lock, saturating. -/
abbrev Reg.LAN_LOCKLOSS (i : Nat) : Nat := 0x13012c + 64 * i
/-- R503: [0] MODE: 0 10GBASE-R, 1 1000BASE-X; [1] AN_EN. -/
abbrev Reg.LAN_ETH_CFG (i : Nat) : Nat := 0x131000 + 256 * i
/-- R503: [0] link up; [1] local fault; [2] remote fault; [3] auto-negotiation complete; [4] high BER. -/
abbrev Reg.LAN_ETH_STAT (i : Nat) : Nat := 0x131004 + 256 * i
/-- R503: Station address, bytes 0–3. -/
abbrev Reg.LAN_ETH_MAC_LO (i : Nat) : Nat := 0x131008 + 256 * i
/-- R503: [15:0] station address, bytes 4–5. -/
abbrev Reg.LAN_ETH_MAC_HI (i : Nat) : Nat := 0x13100c + 256 * i
/-- R503: IPv4 address. -/
abbrev Reg.LAN_ETH_IPV4 (i : Nat) : Nat := 0x131010 + 256 * i
/-- R503: [11:0] VID; [12] REQ. -/
abbrev Reg.LAN_ETH_VLAN (i : Nat) : Nat := 0x131014 + 256 * i
/-- R503: Multicast address i, bytes 0–3; i = 0–7. -/
abbrev Reg.LAN_ETH_MC_LO (i j : Nat) : Nat := 0x131020 + 256 * i + 8 * j
/-- R503: [15:0] bytes 4–5; [31] enabled. -/
abbrev Reg.LAN_ETH_MC_HI (i j : Nat) : Nat := 0x131024 + 256 * i + 8 * j
/-- R503: Frames accepted, saturating. -/
abbrev Reg.LAN_RXOK (i : Nat) : Nat := 0x131060 + 256 * i
/-- R503: Frames with a bad FCS, saturating. -/
abbrev Reg.LAN_RXFCS (i : Nat) : Nat := 0x131064 + 256 * i
/-- R503: Frames discarded by size, filter or content, saturating. -/
abbrev Reg.LAN_RXDROP (i : Nat) : Nat := 0x131068 + 256 * i
/-- R503: Frames sent, saturating. -/
abbrev Reg.LAN_TXOK (i : Nat) : Nat := 0x13106c + 256 * i

/-! ### HQ block -/

/-- R527: [0] link up; [3:1] link width: 1 x1, 2 x2, 4 x4; [6:4] rate: 1–4 for 2.5–16 GT/s; [7] RELAY active. -/
abbrev Reg.HQ_STAT : Nat := 0x140000
/-- R527: [0] RELAY. -/
abbrev Reg.HQ_CFG : Nat := 0x140004
/-- R527: [15:0] OVF per queue toward the host; [16] link down; [17] tunnel timeout; [18] descriptor error. -/
abbrev Reg.HQ_FLAGS : Nat := 0x140008
/-- R527: [9:0] TMO, 20–1,000 µs. -/
abbrev Reg.HQ_TUN_CFG : Nat := 0x14000c
/-- R527: [15:0] UR; [31:16] TMO; saturating. -/
abbrev Reg.HQ_TUN_ERR : Nat := 0x140010
/-- R527: Longest window read since last read, 0.1 µs. -/
abbrev Reg.HQ_TUN_MAX : Nat := 0x140014
/-- R527: Ring base [31:12] in [31:12]. -/
abbrev Reg.HQ_BASE_LO (i : Nat) : Nat := 0x140100 + 64 * i
/-- R527: Ring base [63:32]. -/
abbrev Reg.HQ_BASE_HI (i : Nat) : Nat := 0x140104 + 64 * i
/-- R527: Pointer shadow address [31:3] in [31:3]. -/
abbrev Reg.HQ_WB_LO (i : Nat) : Nat := 0x140108 + 64 * i
/-- R527: Pointer shadow address [63:32]. -/
abbrev Reg.HQ_WB_HI (i : Nat) : Nat := 0x14010c + 64 * i
/-- R527: [0] EN; [8:4] SIZE, 4–16, reset 4. -/
abbrev Reg.HQ_QCFG (i : Nat) : Nat := 0x140110 + 64 * i
/-- R527: [15:0] head pointer. -/
abbrev Reg.HQ_HEAD (i : Nat) : Nat := 0x140114 + 64 * i
/-- R527: [15:0] tail pointer. -/
abbrev Reg.HQ_TAIL (i : Nat) : Nat := 0x140118 + 64 * i
/-- R527: [7:0] CNT, 1–255, reset 1; [31:16] TIME, 0–65,535 µs, reset 1 µs. -/
abbrev Reg.HQ_IMOD (i : Nat) : Nat := 0x14011c + 64 * i
/-- R527: Records dropped, saturating. -/
abbrev Reg.HQ_DROP (i : Nat) : Nat := 0x140120 + 64 * i
/-- R527: [8:0] buffered entries. -/
abbrev Reg.HQ_BUF (i : Nat) : Nat := 0x140124 + 64 * i
/-- R527: MSI-X table, 34 vectors. -/
abbrev Reg.HQ_MSIX (i : Nat) : Nat := 0x141000 + 4 * i
/-- R527: MSI-X pending bits. -/
abbrev Reg.HQ_MSIX_PBA (i : Nat) : Nat := 0x141800 + 4 * i

/-! ### THW block -/

/-- R551: Maximum, level, broken sensors. -/
abbrev Reg.THW_STAT : Nat := 0x150000
/-- R551: Event flags. -/
abbrev Reg.THW_FLAGS : Nat := 0x150004
/-- R551: Sensor clear, restore, AVS resume; reads zero after action. -/
abbrev Reg.THW_CTRL : Nat := 0x150008
/-- R551: Throttle mode per domain. -/
abbrev Reg.THW_THRCFG : Nat := 0x15000c
/-- R551: Adaptation enable, PMBus address, slack limits. -/
abbrev Reg.THW_AVS : Nat := 0x150010
/-- R551: Requested voltage, state, request count. -/
abbrev Reg.THW_AVS_STAT : Nat := 0x150014
/-- R551: Minimum slack of the last interval. -/
abbrev Reg.THW_CPM : Nat := 0x150018
/-- R551: Wear window, warning fraction. -/
abbrev Reg.THW_WCFG : Nat := 0x15001c
/-- R551: Sensor i, i = 0–9. -/
abbrev Reg.THW_TS (i : Nat) : Nat := 0x150040 + 4 * i
/-- R551: ACC[31:0] of switch g. -/
abbrev Reg.THW_SW_ACC_LO (i : Nat) : Nat := 0x151000 + 16 * i
/-- R551: ACC[63:32] of switch g. -/
abbrev Reg.THW_SW_ACC_HI (i : Nat) : Nat := 0x151004 + 16 * i
/-- R551: Counted cycles of switch g. -/
abbrev Reg.THW_SW_CNT (i : Nat) : Nat := 0x151008 + 16 * i
/-- R551: Remaining life, h. -/
abbrev Reg.THW_SW_RUL (i : Nat) : Nat := 0x15100c + 16 * i
/-- R551: Capacitance, F32, F. -/
abbrev Reg.THW_CAP_C (i : Nat) : Nat := 0x152000 + 32 * i
/-- R551: ESR, F32, Ω. -/
abbrev Reg.THW_CAP_ESR (i : Nat) : Nat := 0x152004 + 32 * i
/-- R551: D, F32. -/
abbrev Reg.THW_CAP_D (i : Nat) : Nat := 0x152008 + 32 * i
/-- R551: Remaining life, h. -/
abbrev Reg.THW_CAP_RUL (i : Nat) : Nat := 0x15200c + 32 * i
/-- R551: [0] estimate valid; [1] estimation enabled by image. -/
abbrev Reg.THW_CAP_STAT (i : Nat) : Nat := 0x152010 + 32 * i
/-- R551: AGE, F32, %. -/
abbrev Reg.THW_DEV_AGE : Nat := 0x153000
/-- R551: Eye term, F32. -/
abbrev Reg.THW_DEV_EYE : Nat := 0x153004
/-- R551: Device D, F32. -/
abbrev Reg.THW_DEV_D : Nat := 0x153008
/-- R551: Remaining life, h. -/
abbrev Reg.THW_DEV_RUL : Nat := 0x15300c
/-- R551: Restore window (R548). -/
abbrev Reg.THW_RREC (i : Nat) : Nat := 0x154000 + 4 * i

/-! ### EVT block -/

/-- R631: [2:0] highest class raised since reset; [8] LAST valid. -/
abbrev Reg.EVT_STAT : Nat := 0x160000
/-- R631: [6:0] class raised since last clear. -/
abbrev Reg.EVT_FLAGS : Nat := 0x160004
/-- R631: [0] INFO, [1] WARN: events of that class not written to HQ0. -/
abbrev Reg.EVT_FILTER : Nat := 0x160008
/-- R631: Events of class n, n = 0–6, saturating. -/
abbrev Reg.EVT_CNT (i : Nat) : Nat := 0x160010 + 4 * i
/-- R631: Word i, i = 0–7, of the newest record of class CLUSTER, DEVICE or SAFETY. -/
abbrev Reg.EVT_LAST (i : Nat) : Nat := 0x160040 + 4 * i
/-- R631: [15:0] event code to classify. -/
abbrev Reg.EVT_QCODE : Nat := 0x160080
/-- R631: [2:0] class of EVT_QCODE; [3] code defined. -/
abbrev Reg.EVT_QCLASS : Nat := 0x160084
/-- R631: Events with high byte h, h = 0x01–0x10, saturating. -/
abbrev Reg.EVT_BLK (i : Nat) : Nat := 0x160100 + 4 * i

/-- The access codes of R10. -/
inductive Access where
  | ro | rw | rws | rwk | w1c | wo | rc
deriving DecidableEq, Repr

/-- One register array of the map: `n1 × n2` registers at `base + s1 * i + s2 * j`, their access code (R10), reset value,
writable bits (R9), halt-only mark (R54) and the stated ranges of their fields as (lowest bit, width, least, greatest). -/
structure Row where
  base : Nat
  n1 : Nat := 1
  s1 : Nat := 4
  n2 : Nat := 1
  s2 : Nat := 4
  acc : Access
  reset : Nat := 0
  mask : Nat := 0
  halt : Bool := false
  ranges : List (Nat × Nat × Nat × Nat) := []
deriving DecidableEq, Repr

/-- The row covers this BAR0 address. -/
def Row.covers (r : Row) (a : Nat) : Bool :=
  decide (r.base ≤ a) && (let o := a - r.base
    decide (o / r.s1 < r.n1) && (let p := o % r.s1; p % r.s2 == 0 && decide (p / r.s2 < r.n2)))


def rowsGLB0 : List Row := [
  { base := 0x0, acc := .ro, reset := 0x24600000 },
  { base := 0x4, acc := .ro },
  { base := 0x8, acc := .rwk, mask := 0xf },
  { base := 0xc, acc := .w1c, mask := 0x3f },
  { base := 0x10, acc := .ro },
  { base := 0x14, acc := .rw, mask := 0xffffffff },
  { base := 0x18, acc := .ro },
  { base := 0x1c, acc := .ro },
  { base := 0x20, acc := .rwk, mask := 0xf },
  { base := 0x100, n1 := 64, s1 := 4, acc := .ro },
  { base := 0x24, acc := .wo, mask := 0xffff },
  { base := 0x28, acc := .rc },
  { base := 0x2c, acc := .ro }]

def rowsCLK0 : List Row := [
  { base := 0x10000, acc := .ro },
  { base := 0x10004, acc := .rw, reset := 0x3c0a00, mask := 0xffff07, halt := true, ranges := [(8, 8, 1, 255), (16, 8, 1, 255)] },
  { base := 0x10008, acc := .rw, reset := 0x410028, mask := 0xffffff, halt := true, ranges := [(0, 8, 8, 200), (8, 12, 16, 4095), (20, 4, 1, 15)] },
  { base := 0x1000c, acc := .ro },
  { base := 0x10010, acc := .ro },
  { base := 0x10014, acc := .rc },
  { base := 0x10018, acc := .ro },
  { base := 0x1001c, acc := .ro },
  { base := 0x10020, acc := .ro },
  { base := 0x10024, acc := .rwk, mask := 0x3 },
  { base := 0x10028, acc := .w1c, mask := 0x3f },
  { base := 0x1002c, acc := .ro }]

def rowsTIM0 : List Row := [
  { base := 0x20000, acc := .ro },
  { base := 0x20004, acc := .rw, mask := 0x3, halt := true, ranges := [(0, 2, 0, 2)] },
  { base := 0x20008, acc := .wo, mask := 0x1 },
  { base := 0x2000c, acc := .ro },
  { base := 0x20010, acc := .ro },
  { base := 0x20014, acc := .ro },
  { base := 0x20018, acc := .ro },
  { base := 0x2001c, acc := .ro },
  { base := 0x20020, acc := .rws, reset := 0x33333333, mask := 0xffffffff, halt := true },
  { base := 0x20024, acc := .rws, reset := 0x3, mask := 0xff, halt := true },
  { base := 0x20028, acc := .rws, mask := 0xffffffff, halt := true },
  { base := 0x2002c, acc := .rws, mask := 0xffff, halt := true },
  { base := 0x20030, acc := .rws, mask := 0x3fffffff, halt := true },
  { base := 0x20034, acc := .rw, mask := 0xffffffff },
  { base := 0x20038, acc := .wo, mask := 0xffffffff },
  { base := 0x2003c, acc := .rwk, mask := 0x1 },
  { base := 0x20040, acc := .rw, mask := 0xffffffff },
  { base := 0x20044, acc := .rw, mask := 0xffff },
  { base := 0x20048, acc := .rw, mask := 0x3fffffff },
  { base := 0x2004c, acc := .ro },
  { base := 0x20050, acc := .ro },
  { base := 0x20054, n1 := 4, s1 := 4, acc := .rw, mask := 0xffff },
  { base := 0x20064, acc := .rw, reset := 0x320064, mask := 0x1ffffff },
  { base := 0x20068, acc := .rw, reset := 0x142002, mask := 0xfffffff, ranges := [(0, 10, 1, 1000), (10, 8, 1, 255), (18, 10, 1, 1000)] }]

def rowsTIM1 : List Row := [
  { base := 0x2006c, acc := .rw, reset := 0x3, mask := 0xff0f, halt := true },
  { base := 0x20070, acc := .rw, reset := 0x64, mask := 0xffff01ff },
  { base := 0x20074, acc := .w1c, mask := 0xf },
  { base := 0x20200, n1 := 8, s1 := 32, acc := .rw, mask := 0x1f07 },
  { base := 0x20204, n1 := 8, s1 := 32, acc := .rw, mask := 0xffffffff },
  { base := 0x20208, n1 := 8, s1 := 32, acc := .rw, mask := 0x3fffffff },
  { base := 0x2020c, n1 := 8, s1 := 32, acc := .rw, mask := 0xffffffff },
  { base := 0x20210, n1 := 8, s1 := 32, acc := .rw, mask := 0xffffffff },
  { base := 0x20214, n1 := 8, s1 := 32, acc := .ro },
  { base := 0x20300, n1 := 5, s1 := 32, acc := .rw, mask := 0xf, ranges := [(1, 2, 0, 2)] },
  { base := 0x20304, n1 := 5, s1 := 32, acc := .ro, reset := 0xffffffff },
  { base := 0x20308, n1 := 5, s1 := 32, acc := .ro },
  { base := 0x2030c, n1 := 5, s1 := 32, acc := .ro, reset := 0x10000 },
  { base := 0x20310, n1 := 5, s1 := 32, acc := .rc },
  { base := 0x20120, acc := .ro, reset := 0x33333333 },
  { base := 0x20124, acc := .ro, reset := 0x3 },
  { base := 0x20128, acc := .ro },
  { base := 0x2012c, acc := .ro },
  { base := 0x20130, acc := .ro }]

def rowsCFG0 : List Row := [
  { base := 0x30000, acc := .ro },
  { base := 0x30004, acc := .rwk, mask := 0xf },
  { base := 0x30008, acc := .ro },
  { base := 0x3000c, acc := .ro },
  { base := 0x30010, acc := .ro },
  { base := 0x30014, acc := .ro },
  { base := 0x30018, acc := .ro },
  { base := 0x3001c, acc := .ro },
  { base := 0x30020, acc := .wo, mask := 0x1ffff },
  { base := 0x30024, acc := .ro },
  { base := 0x30028, acc := .ro },
  { base := 0x3002c, acc := .rw, mask := 0xffffffff },
  { base := 0x30030, acc := .rc },
  { base := 0x30034, acc := .ro },
  { base := 0x30038, acc := .ro },
  { base := 0x3003c, acc := .ro }]

def rowsSDM0 : List Row := [
  { base := 0x40000, acc := .ro },
  { base := 0x40010, n1 := 3, s1 := 4, acc := .w1c, mask := 0xffffffff },
  { base := 0x40020, n1 := 3, s1 := 4, acc := .w1c, mask := 0xffffffff },
  { base := 0x40100, n1 := 72, s1 := 4, acc := .rw, reset := 0x10014, mask := 0x7fff7f, halt := true, ranges := [(2, 5, 0, 30), (8, 9, 16, 256)] },
  { base := 0x40300, n1 := 72, s1 := 4, acc := .rw, reset := 0x80007fff, mask := 0xffffffff, halt := true },
  { base := 0x40500, n1 := 72, s1 := 4, acc := .rw, mask := 0xfff3, halt := true },
  { base := 0x40700, n1 := 72, s1 := 4, acc := .ro },
  { base := 0x40900, n1 := 72, s1 := 4, acc := .rc },
  { base := 0x40b00, n1 := 72, s1 := 4, acc := .ro }]

def rowsADC0 : List Row := [
  { base := 0x50000, acc := .ro },
  { base := 0x50004, acc := .wo, mask := 0xff },
  { base := 0x50008, acc := .wo, mask := 0xffff },
  { base := 0x5000c, acc := .w1c, mask := 0xfffff },
  { base := 0x50100, n1 := 16, s1 := 8, acc := .rw, mask := 0xffff003f, halt := true, ranges := [(0, 6, 0, 32)] },
  { base := 0x50104, n1 := 16, s1 := 8, acc := .rws, mask := 0xffff },
  { base := 0x50200, n1 := 4, s1 := 8, acc := .rw, mask := 0xfff, halt := true },
  { base := 0x51000, n1 := 4, s1 := 1024, acc := .rw, reset := 0x4, mask := 0x1ff, halt := true, ranges := [(0, 8, 4, 255)] },
  { base := 0x51200, n1 := 4, s1 := 1024, acc := .rw, reset := 0x4, mask := 0xff, halt := true, ranges := [(0, 8, 4, 255)] },
  { base := 0x51004, n1 := 8, s1 := 512, acc := .rw, mask := 0xffff0f1f, halt := true },
  { base := 0x51010, n1 := 8, s1 := 512, n2 := 4, s2 := 4, acc := .rw, mask := 0x3ff1, halt := true },
  { base := 0x51040, n1 := 8, s1 := 512, n2 := 16, s2 := 4, acc := .rw, mask := 0xf, halt := true },
  { base := 0x51080, n1 := 8, s1 := 512, n2 := 16, s2 := 4, acc := .ro },
  { base := 0x510c0, n1 := 8, s1 := 512, n2 := 4, s2 := 4, acc := .ro },
  { base := 0x510d0, n1 := 8, s1 := 512, acc := .rc },
  { base := 0x510d4, n1 := 8, s1 := 512, acc := .ro },
  { base := 0x510d8, n1 := 8, s1 := 512, acc := .ro },
  { base := 0x510e0, n1 := 8, s1 := 512, n2 := 16, s2 := 4, acc := .ro },
  { base := 0x51120, n1 := 8, s1 := 512, acc := .ro },
  { base := 0x50504, n1 := 16, s1 := 8, acc := .ro }]

def rowsVTX0 : List Row := [
  { base := 0x60000, n1 := 8, s1 := 8192, acc := .ro },
  { base := 0x60004, n1 := 8, s1 := 8192, acc := .rw, reset := 0x2, mask := 0xf, halt := true, ranges := [(0, 4, 1, 15)] },
  { base := 0x60008, acc := .rwk, mask := 0x1 },
  { base := 0x6000c, n1 := 8, s1 := 8192, acc := .rc },
  { base := 0x60010, n1 := 8, s1 := 8192, acc := .rc },
  { base := 0x60014, n1 := 8, s1 := 8192, acc := .rc },
  { base := 0x60018, n1 := 8, s1 := 8192, acc := .w1c, mask := 0x3f },
  { base := 0x6001c, n1 := 8, s1 := 8192, acc := .ro },
  { base := 0x60020, n1 := 8, s1 := 8192, acc := .ro },
  { base := 0x60100, n1 := 8, s1 := 8192, n2 := 8, s2 := 4, acc := .ro },
  { base := 0x60120, n1 := 8, s1 := 8192, n2 := 8, s2 := 4, acc := .rc },
  { base := 0x60140, n1 := 8, s1 := 8192, n2 := 8, s2 := 4, acc := .ro }]

def rowsSLT0 : List Row := [
  { base := 0x80000, n1 := 64, s1 := 8, acc := .rws, mask := 0x3ffff },
  { base := 0x80004, n1 := 64, s1 := 8, acc := .rws, mask := 0x3ffffff },
  { base := 0x80200, n1 := 64, s1 := 8, acc := .ro },
  { base := 0x80204, n1 := 64, s1 := 8, acc := .ro },
  { base := 0x80400, acc := .ro },
  { base := 0x80410, acc := .rws, reset := 0x30d4, mask := 0x3ffff, halt := true },
  { base := 0x80414, acc := .rws, mask := 0x3ffff, halt := true },
  { base := 0x80418, acc := .rws, mask := 0x1, halt := true },
  { base := 0x80420, acc := .ro, reset := 0x30d4 },
  { base := 0x80424, acc := .ro },
  { base := 0x80428, acc := .ro }]

def rowsPWM0 : List Row := [
  { base := 0x90000, acc := .ro },
  { base := 0x90004, acc := .wo, mask := 0xff },
  { base := 0x90008, acc := .w1c, mask := 0x7f },
  { base := 0x9000c, acc := .ro },
  { base := 0x90010, acc := .rw, reset := 0x3e8, mask := 0xffff, halt := true, ranges := [(0, 16, 1, 65535)] },
  { base := 0x90100, n1 := 8, s1 := 16, acc := .rws, reset := 0x61a8, mask := 0xffffffff, ranges := [(0, 32, 16, 4294967295)] },
  { base := 0x90104, n1 := 8, s1 := 16, acc := .rws, mask := 0xffffffff, halt := true },
  { base := 0x90108, n1 := 8, s1 := 16, acc := .rws, mask := 0x3, halt := true },
  { base := 0x9010c, n1 := 8, s1 := 16, acc := .ro },
  { base := 0x90200, n1 := 8, s1 := 16, acc := .ro, reset := 0x61a8 },
  { base := 0x90204, n1 := 8, s1 := 16, acc := .ro },
  { base := 0x90208, n1 := 8, s1 := 16, acc := .ro },
  { base := 0x91000, n1 := 96, s1 := 16, acc := .rw, mask := 0xffffffff },
  { base := 0x91004, n1 := 96, s1 := 16, acc := .rw, mask := 0xffffffff },
  { base := 0x91008, n1 := 96, s1 := 16, acc := .ro },
  { base := 0x9100c, n1 := 96, s1 := 16, acc := .ro },
  { base := 0x92000, n1 := 96, s1 := 16, acc := .rws, mask := 0xffffffff },
  { base := 0x92004, n1 := 96, s1 := 16, acc := .rws, reset := 0xffff0000, mask := 0xffffffff },
  { base := 0x92008, n1 := 96, s1 := 16, acc := .rws, mask := 0x33ff },
  { base := 0x93000, n1 := 96, s1 := 16, acc := .ro },
  { base := 0x93004, n1 := 96, s1 := 16, acc := .ro, reset := 0xffff0000 },
  { base := 0x93008, n1 := 96, s1 := 16, acc := .ro },
  { base := 0x94000, n1 := 96, s1 := 4, acc := .rw, mask := 0xf, halt := true },
  { base := 0x94200, n1 := 96, s1 := 4, acc := .rw, reset := 0x4012c, mask := 0x80ff03ff, halt := true, ranges := [(0, 10, 1, 1023), (16, 8, 1, 255)] }]

def rowsPWM1 : List Row := [
  { base := 0x94400, n1 := 96, s1 := 4, acc := .rw, reset := 0x40640020, mask := 0xffff03ff, halt := true, ranges := [(0, 10, 1, 1023), (16, 8, 1, 255), (24, 8, 1, 255)] },
  { base := 0x94600, n1 := 96, s1 := 4, acc := .ro },
  { base := 0x94800, n1 := 96, s1 := 4, acc := .rc },
  { base := 0x94a00, n1 := 96, s1 := 4, acc := .rc },
  { base := 0x95000, n1 := 200, s1 := 4, acc := .ro }]

def rowsGPR0 : List Row := [
  { base := 0xb0000, acc := .rw, mask := 0x1 },
  { base := 0xb0004, acc := .ro },
  { base := 0xb0008, acc := .rc },
  { base := 0xb000c, acc := .ro },
  { base := 0xb0100, n1 := 64, s1 := 4, acc := .rw, mask := 0xffffffff },
  { base := 0xb0200, n1 := 64, s1 := 4, acc := .ro },
  { base := 0xb1000, acc := .ro },
  { base := 0xb1004, acc := .rw, reset := 0x64, mask := 0x103ff, halt := true, ranges := [(0, 10, 1, 1023)] },
  { base := 0xb1008, acc := .rws, reset := 0x30139, mask := 0x1fffff, halt := true, ranges := [(0, 16, 1, 65535), (16, 5, 1, 24)] },
  { base := 0xb100c, acc := .rws, reset := 0xc35, mask := 0xfffff, halt := true, ranges := [(0, 20, 1, 1048575)] },
  { base := 0xb1010, acc := .rw, mask := 0xf, halt := true },
  { base := 0xb1014, acc := .rwk, mask := 0x3ff },
  { base := 0xb1018, acc := .ro },
  { base := 0xb101c, acc := .w1c, mask := 0xff },
  { base := 0xb1020, acc := .ro },
  { base := 0xb1024, acc := .ro },
  { base := 0xb1028, acc := .ro, reset := 0x30139 },
  { base := 0xb102c, acc := .ro, reset := 0xc35 },
  { base := 0xb1040, n1 := 6, s1 := 4, acc := .ro },
  { base := 0xb1060, acc := .ro },
  { base := 0xb1064, acc := .ro },
  { base := 0xb1068, acc := .ro },
  { base := 0xb106c, acc := .ro },
  { base := 0xb1100, n1 := 24, s1 := 4, acc := .ro }]

def rowsGPR1 : List Row := [
  { base := 0xb1200, n1 := 24, s1 := 4, acc := .rw, reset := 0xa0fa0, mask := 0xfffffd, halt := true, ranges := [(2, 14, 1, 10000)] },
  { base := 0xb1400, n1 := 192, s1 := 4, acc := .ro },
  { base := 0xb1800, n1 := 192, s1 := 4, acc := .rws, mask := 0xff3f03ff, halt := true },
  { base := 0xb1c00, n1 := 192, s1 := 4, acc := .ro },
  { base := 0xb2000, n1 := 72, s1 := 4, acc := .rw, mask := 0x3f, halt := true, ranges := [(0, 2, 0, 2), (2, 2, 0, 2), (4, 2, 0, 2)] }]

def rowsRNG0 : List Row := [
  { base := 0xc0000, acc := .ro, reset := 0x10000 },
  { base := 0xc0004, acc := .rws, reset := 0x1, mask := 0xff, halt := true, ranges := [(0, 7, 1, 64)] },
  { base := 0xc0008, acc := .rws, mask := 0xffff, halt := true },
  { base := 0xc000c, acc := .rws, mask := 0xffff, halt := true },
  { base := 0xc0010, acc := .rw, reset := 0x966, mask := 0x1fff, halt := true },
  { base := 0xc0014, acc := .rw, mask := 0xf, halt := true },
  { base := 0xc0018, acc := .rw, reset := 0x10401004, mask := 0xffffffff, halt := true, ranges := [(0, 8, 1, 255), (8, 8, 1, 255), (16, 8, 1, 255), (24, 8, 1, 255)] },
  { base := 0xc001c, acc := .rwk, mask := 0x3 },
  { base := 0xc0020, acc := .ro, reset := 0x1 },
  { base := 0xc0024, acc := .ro },
  { base := 0xc0028, acc := .ro },
  { base := 0xc002c, acc := .ro },
  { base := 0xc0030, acc := .ro },
  { base := 0xc0034, acc := .ro },
  { base := 0xc0038, acc := .ro },
  { base := 0xc003c, acc := .ro },
  { base := 0xc0040, acc := .rc },
  { base := 0xc0044, acc := .rc },
  { base := 0xc0048, acc := .rc },
  { base := 0xc004c, acc := .rc },
  { base := 0xc0050, acc := .rc },
  { base := 0xc0054, acc := .rc },
  { base := 0xc0058, acc := .ro },
  { base := 0xc005c, acc := .w1c, mask := 0x7ff }]

def rowsRNG1 : List Row := [
  { base := 0xc0104, acc := .ro, reset := 0x1 },
  { base := 0xc0108, acc := .ro },
  { base := 0xc010c, acc := .ro }]

def rowsSTR0 : List Row := [
  { base := 0xd0000, acc := .ro },
  { base := 0xd0004, acc := .rc },
  { base := 0xd0008, acc := .w1c, mask := 0x1 },
  { base := 0xd0100, n1 := 16, s1 := 4, acc := .rw, mask := 0x7ff, halt := true },
  { base := 0xd0140, n1 := 16, s1 := 4, acc := .ro },
  { base := 0xd0180, n1 := 16, s1 := 4, acc := .ro },
  { base := 0xd0200, n1 := 384, s1 := 4, acc := .rw, mask := 0x1f1f1f1f, halt := true },
  { base := 0xd0800, n1 := 24, s1 := 4, acc := .ro }]

def rowsFLT0 : List Row := [
  { base := 0xe0000, acc := .ro },
  { base := 0xe0004, acc := .ro },
  { base := 0xe0008, acc := .ro },
  { base := 0xe000c, acc := .ro },
  { base := 0xe0010, acc := .ro },
  { base := 0xe0014, acc := .ro },
  { base := 0xe0018, acc := .ro },
  { base := 0xe001c, acc := .ro },
  { base := 0xe0020, acc := .ro },
  { base := 0xe0024, acc := .ro },
  { base := 0xe0028, acc := .ro },
  { base := 0xe002c, acc := .ro },
  { base := 0xe0030, acc := .ro },
  { base := 0xe0034, acc := .ro },
  { base := 0xe0100, n1 := 16, s1 := 4, acc := .ro }]

def rowsPAR0 : List Row := [
  { base := 0xf0000, acc := .ro },
  { base := 0xf0004, acc := .rw, reset := 0x6005000a, mask := 0x7fff03ff, halt := true, ranges := [(0, 10, 1, 1000), (16, 8, 2, 255), (24, 7, 20, 96)] },
  { base := 0xf0008, acc := .rw, reset := 0x4000a, mask := 0xffffff, halt := true, ranges := [(0, 16, 1, 65535), (16, 8, 2, 255)] },
  { base := 0xf000c, acc := .rwk, mask := 0x1 },
  { base := 0xf0010, acc := .w1c, mask := 0x7f },
  { base := 0xf0014, acc := .ro },
  { base := 0xf0018, acc := .ro },
  { base := 0xf001c, acc := .ro },
  { base := 0xf0020, acc := .ro },
  { base := 0xf0024, acc := .ro, reset := 0xffffffff },
  { base := 0xf0028, acc := .ro },
  { base := 0xf002c, acc := .ro },
  { base := 0xf0030, acc := .rc },
  { base := 0xf0034, acc := .ro },
  { base := 0xf0038, acc := .ro }]

def rowsMTR0 : List Row := [
  { base := 0x100000, acc := .ro },
  { base := 0x100004, acc := .rwk, mask := 0x7 },
  { base := 0x100008, acc := .wo, mask := 0xf },
  { base := 0x10000c, acc := .w1c, mask := 0x7f },
  { base := 0x100010, acc := .rw, reset := 0x400003c, mask := 0xff0f7fff, halt := true, ranges := [(0, 12, 1, 3600), (24, 8, 1, 64)] },
  { base := 0x100014, acc := .rw, mask := 0xffffffff, halt := true },
  { base := 0x100018, acc := .rw, mask := 0xffffffff, halt := true },
  { base := 0x10001c, acc := .rw, mask := 0xffffffff, halt := true },
  { base := 0x100020, acc := .rw, mask := 0xffffffff, halt := true },
  { base := 0x100024, acc := .ro },
  { base := 0x100028, acc := .ro },
  { base := 0x10002c, acc := .rw, mask := 0xffffffff, halt := true },
  { base := 0x101000, n1 := 4, s1 := 1024, acc := .rw, mask := 0x7f7f7f7f, halt := true, ranges := [(3, 2, 0, 2)] },
  { base := 0x101004, n1 := 4, s1 := 1024, acc := .rw, reset := 0x640384, mask := 0xffff0fff, halt := true },
  { base := 0x101008, n1 := 4, s1 := 1024, acc := .rw, reset := 0x640040, mask := 0xffffffff, halt := true },
  { base := 0x10100c, n1 := 4, s1 := 1024, acc := .rw, mask := 0xffffffff, halt := true },
  { base := 0x101010, n1 := 4, s1 := 1024, n2 := 3, s2 := 16, acc := .rws, mask := 0xffffffff },
  { base := 0x101014, n1 := 4, s1 := 1024, n2 := 3, s2 := 16, acc := .rws, mask := 0xffffffff },
  { base := 0x101018, n1 := 4, s1 := 1024, n2 := 3, s2 := 16, acc := .rws, mask := 0xffffffff },
  { base := 0x101040, n1 := 4, s1 := 1024, acc := .ro },
  { base := 0x101044, n1 := 4, s1 := 1024, acc := .ro },
  { base := 0x101048, n1 := 4, s1 := 1024, acc := .ro },
  { base := 0x10104c, n1 := 4, s1 := 1024, acc := .ro },
  { base := 0x101050, n1 := 4, s1 := 1024, acc := .ro }]

def rowsMTR1 : List Row := [
  { base := 0x101054, n1 := 4, s1 := 1024, acc := .ro },
  { base := 0x101058, n1 := 4, s1 := 1024, acc := .ro },
  { base := 0x10105c, n1 := 4, s1 := 1024, acc := .ro },
  { base := 0x101060, n1 := 4, s1 := 1024, acc := .ro },
  { base := 0x101064, n1 := 4, s1 := 1024, acc := .ro },
  { base := 0x101068, n1 := 4, s1 := 1024, acc := .ro },
  { base := 0x101080, n1 := 4, s1 := 1024, n2 := 3, s2 := 32, acc := .ro },
  { base := 0x101084, n1 := 4, s1 := 1024, n2 := 3, s2 := 32, acc := .ro },
  { base := 0x101088, n1 := 4, s1 := 1024, n2 := 3, s2 := 32, acc := .ro },
  { base := 0x10108c, n1 := 4, s1 := 1024, n2 := 3, s2 := 32, acc := .ro },
  { base := 0x101090, n1 := 4, s1 := 1024, n2 := 3, s2 := 32, acc := .ro },
  { base := 0x101094, n1 := 4, s1 := 1024, n2 := 3, s2 := 32, acc := .ro },
  { base := 0x101098, n1 := 4, s1 := 1024, n2 := 3, s2 := 32, acc := .ro },
  { base := 0x10109c, n1 := 4, s1 := 1024, n2 := 3, s2 := 32, acc := .ro },
  { base := 0x1010e0, n1 := 4, s1 := 1024, acc := .ro },
  { base := 0x1010e4, n1 := 4, s1 := 1024, acc := .ro },
  { base := 0x1010e8, n1 := 4, s1 := 1024, acc := .ro },
  { base := 0x1010ec, n1 := 4, s1 := 1024, acc := .ro },
  { base := 0x1010f0, n1 := 4, s1 := 1024, acc := .ro },
  { base := 0x1010f4, n1 := 4, s1 := 1024, acc := .ro },
  { base := 0x1010f8, n1 := 4, s1 := 1024, acc := .rw, mask := 0x7f7f7f, halt := true },
  { base := 0x102000, n1 := 4, s1 := 32, acc := .rw, reset := 0x1400, mask := 0xff1f, halt := true, ranges := [(8, 8, 1, 250)] },
  { base := 0x102004, n1 := 4, s1 := 32, acc := .rw, reset := 0x36ee80, mask := 0xffffffff, halt := true },
  { base := 0x102008, n1 := 4, s1 := 32, acc := .ro }]

def rowsMTR2 : List Row := [
  { base := 0x10200c, n1 := 4, s1 := 32, acc := .ro },
  { base := 0x102010, n1 := 4, s1 := 32, acc := .rc },
  { base := 0x102100, n1 := 4, s1 := 32, acc := .rw, reset := 0x1400, mask := 0xff3f, halt := true, ranges := [(8, 8, 1, 200)] },
  { base := 0x102104, n1 := 4, s1 := 32, acc := .rw, reset := 0x36ee80, mask := 0xffffffff, halt := true },
  { base := 0x102108, n1 := 4, s1 := 32, acc := .ro },
  { base := 0x10210c, n1 := 4, s1 := 32, acc := .rw, reset := 0x32000f, mask := 0x3fff07ff, halt := true },
  { base := 0x102110, n1 := 4, s1 := 32, acc := .ro },
  { base := 0x103000, n1 := 24, s1 := 32, acc := .ro },
  { base := 0x103004, n1 := 24, s1 := 32, acc := .ro },
  { base := 0x103008, n1 := 24, s1 := 32, acc := .ro },
  { base := 0x10300c, n1 := 24, s1 := 32, acc := .ro },
  { base := 0x103010, n1 := 24, s1 := 32, acc := .ro },
  { base := 0x103014, n1 := 24, s1 := 32, acc := .ro },
  { base := 0x104000, n1 := 64, s1 := 4, acc := .rw, mask := 0xffffffff },
  { base := 0x101210, n1 := 4, s1 := 1024, n2 := 3, s2 := 16, acc := .ro },
  { base := 0x101214, n1 := 4, s1 := 1024, n2 := 3, s2 := 16, acc := .ro },
  { base := 0x101218, n1 := 4, s1 := 1024, n2 := 3, s2 := 16, acc := .ro }]

def rowsMEM0 : List Row := [
  { base := 0x110000, acc := .ro },
  { base := 0x110004, acc := .rw, reset := 0x18, mask := 0x1f, ranges := [(0, 4, 1, 15)] },
  { base := 0x110008, acc := .w1c, mask := 0x3f },
  { base := 0x11000c, acc := .rc },
  { base := 0x110010, acc := .rc },
  { base := 0x110014, acc := .ro },
  { base := 0x110018, acc := .ro },
  { base := 0x11001c, acc := .rc },
  { base := 0x110020, acc := .wo, mask := 0x1 },
  { base := 0x110024, acc := .rw, mask := 0xfffff8 },
  { base := 0x110028, acc := .rw, mask := 0xfffff8 },
  { base := 0x11002c, acc := .rw, mask := 0x2 },
  { base := 0x110030, acc := .ro },
  { base := 0x110034, acc := .ro },
  { base := 0x110038, acc := .ro },
  { base := 0x11003c, acc := .ro },
  { base := 0x110040, acc := .ro },
  { base := 0x110044, acc := .rwk, mask := 0x1 },
  { base := 0x110048, acc := .rw, mask := 0xff },
  { base := 0x11004c, acc := .ro },
  { base := 0x110100, n1 := 16, s1 := 8, acc := .ro },
  { base := 0x110104, n1 := 16, s1 := 8, acc := .ro }]

def rowsARB0 : List Row := [
  { base := 0x120000, acc := .ro, reset := 0x1 },
  { base := 0x120004, acc := .rw, reset := 0x40, mask := 0x3ff, halt := true, ranges := [(0, 10, 32, 1023)] },
  { base := 0x120008, acc := .rw, reset := 0x500, mask := 0x500, halt := true },
  { base := 0x12000c, acc := .w1c, mask := 0xfff0fff },
  { base := 0x120010, acc := .rc },
  { base := 0x120014, acc := .rc },
  { base := 0x120018, acc := .rc },
  { base := 0x120040, n1 := 8, s1 := 4, acc := .rw, reset := 0x3, mask := 0x3 },
  { base := 0x120060, n1 := 1, s1 := 4, acc := .rw, reset := 0x2, mask := 0x3 },
  { base := 0x120064, n1 := 1, s1 := 4, acc := .rw, mask := 0x3 },
  { base := 0x120068, n1 := 2, s1 := 4, acc := .rw, reset := 0x2, mask := 0x3 },
  { base := 0x120080, n1 := 12, s1 := 4, acc := .rc }]

def rowsLAN0 : List Row := [
  { base := 0x130000, acc := .ro },
  { base := 0x130004, acc := .w1c, mask := 0xfff },
  { base := 0x130100, n1 := 4, s1 := 64, acc := .rw, reset := 0x640000, mask := 0xffff000f, halt := true, ranges := [(0, 2, 0, 2), (2, 2, 0, 2)] },
  { base := 0x130200, n1 := 4, s1 := 64, acc := .rw, reset := 0x640005, mask := 0xffff000f, halt := true, ranges := [(0, 2, 0, 2), (2, 2, 0, 2)] },
  { base := 0x130104, n1 := 8, s1 := 64, acc := .ro },
  { base := 0x130108, n1 := 8, s1 := 64, acc := .rw, reset := 0x3c00, mask := 0x3f3f3f, halt := true },
  { base := 0x13010c, n1 := 8, s1 := 64, acc := .ro },
  { base := 0x130110, n1 := 8, s1 := 64, acc := .ro },
  { base := 0x130114, n1 := 8, s1 := 64, acc := .rw, mask := 0x7f },
  { base := 0x130118, n1 := 8, s1 := 64, acc := .ro },
  { base := 0x13011c, n1 := 8, s1 := 64, acc := .ro },
  { base := 0x130120, n1 := 8, s1 := 64, acc := .ro },
  { base := 0x130124, n1 := 8, s1 := 64, acc := .ro },
  { base := 0x130128, n1 := 8, s1 := 64, acc := .rc },
  { base := 0x13012c, n1 := 8, s1 := 64, acc := .rc },
  { base := 0x131000, n1 := 2, s1 := 256, acc := .rw, reset := 0x2, mask := 0x3, halt := true },
  { base := 0x131004, n1 := 2, s1 := 256, acc := .ro },
  { base := 0x131008, n1 := 2, s1 := 256, acc := .rw, mask := 0xffffffff, halt := true },
  { base := 0x13100c, n1 := 2, s1 := 256, acc := .rw, mask := 0xffff, halt := true },
  { base := 0x131010, n1 := 2, s1 := 256, acc := .rw, mask := 0xffffffff, halt := true },
  { base := 0x131014, n1 := 2, s1 := 256, acc := .rw, mask := 0x1fff, halt := true },
  { base := 0x131020, n1 := 2, s1 := 256, n2 := 8, s2 := 8, acc := .rw, mask := 0xffffffff, halt := true },
  { base := 0x131024, n1 := 2, s1 := 256, n2 := 8, s2 := 8, acc := .rw, mask := 0x8000ffff, halt := true },
  { base := 0x131060, n1 := 2, s1 := 256, acc := .rc }]

def rowsLAN1 : List Row := [
  { base := 0x131064, n1 := 2, s1 := 256, acc := .rc },
  { base := 0x131068, n1 := 2, s1 := 256, acc := .rc },
  { base := 0x13106c, n1 := 2, s1 := 256, acc := .rc }]

def rowsHQ0 : List Row := [
  { base := 0x140000, acc := .ro },
  { base := 0x140004, acc := .rw, mask := 0x1 },
  { base := 0x140008, acc := .w1c, mask := 0x7ffff },
  { base := 0x14000c, acc := .rw, reset := 0x64, mask := 0x3ff },
  { base := 0x140010, acc := .rc },
  { base := 0x140014, acc := .rc },
  { base := 0x140100, n1 := 32, s1 := 64, acc := .rw, mask := 0xfffff000 },
  { base := 0x140104, n1 := 32, s1 := 64, acc := .rw, mask := 0xffffffff },
  { base := 0x140108, n1 := 32, s1 := 64, acc := .rw, mask := 0xfffffff8 },
  { base := 0x14010c, n1 := 32, s1 := 64, acc := .rw, mask := 0xffffffff },
  { base := 0x140110, n1 := 32, s1 := 64, acc := .rw, reset := 0x40, mask := 0x1f1 },
  { base := 0x140114, n1 := 32, s1 := 64, acc := .rw, mask := 0xffff },
  { base := 0x140118, n1 := 32, s1 := 64, acc := .rw, mask := 0xffff },
  { base := 0x14011c, n1 := 32, s1 := 64, acc := .rw, reset := 0x10001, mask := 0xffff00ff },
  { base := 0x140120, n1 := 32, s1 := 64, acc := .rc },
  { base := 0x140124, n1 := 32, s1 := 64, acc := .ro },
  { base := 0x141000, n1 := 34, s1 := 16, acc := .rw, mask := 0xfffffffc },
  { base := 0x141004, n1 := 34, s1 := 16, acc := .rw, mask := 0xffffffff },
  { base := 0x141008, n1 := 34, s1 := 16, acc := .rw, mask := 0xffffffff },
  { base := 0x14100c, n1 := 34, s1 := 16, acc := .rw, reset := 0x1, mask := 0x1 },
  { base := 0x141800, n1 := 2, s1 := 4, acc := .ro }]

def rowsTHW0 : List Row := [
  { base := 0x150000, acc := .ro },
  { base := 0x150004, acc := .w1c, mask := 0x3ff },
  { base := 0x150008, acc := .rwk, mask := 0x7f },
  { base := 0x15000c, acc := .rw, reset := 0x1830202, mask := 0xf3f3f3f3, halt := true },
  { base := 0x150010, acc := .rw, reset := 0xf782880, mask := 0xffffffff, halt := true },
  { base := 0x150014, acc := .ro, reset := 0x320 },
  { base := 0x150018, acc := .ro },
  { base := 0x15001c, acc := .rw, reset := 0x50001e, mask := 0x7f01ff, halt := true, ranges := [(0, 9, 1, 365), (16, 7, 1, 100)] },
  { base := 0x150040, n1 := 10, s1 := 4, acc := .ro },
  { base := 0x151000, n1 := 192, s1 := 16, acc := .ro },
  { base := 0x151004, n1 := 192, s1 := 16, acc := .ro },
  { base := 0x151008, n1 := 192, s1 := 16, acc := .ro },
  { base := 0x15100c, n1 := 192, s1 := 16, acc := .ro, reset := 0xffffffff },
  { base := 0x152000, n1 := 48, s1 := 32, acc := .ro },
  { base := 0x152004, n1 := 48, s1 := 32, acc := .ro },
  { base := 0x152008, n1 := 48, s1 := 32, acc := .ro },
  { base := 0x15200c, n1 := 48, s1 := 32, acc := .ro, reset := 0xffffffff },
  { base := 0x152010, n1 := 48, s1 := 32, acc := .ro },
  { base := 0x153000, acc := .ro },
  { base := 0x153004, acc := .ro },
  { base := 0x153008, acc := .ro },
  { base := 0x15300c, acc := .ro, reset := 0xffffffff },
  { base := 0x154000, n1 := 964, s1 := 4, acc := .rw, mask := 0xffffffff }]

def rowsEVT0 : List Row := [
  { base := 0x160000, acc := .ro },
  { base := 0x160004, acc := .w1c, mask := 0x7f },
  { base := 0x160008, acc := .rw, mask := 0x3 },
  { base := 0x160010, n1 := 7, s1 := 4, acc := .rc },
  { base := 0x160040, n1 := 8, s1 := 4, acc := .ro },
  { base := 0x160080, acc := .rw, mask := 0xffff },
  { base := 0x160084, acc := .ro },
  { base := 0x160100, n1 := 17, s1 := 4, acc := .rc }]

/-- The rows of the block an address belongs to (R621). -/
def blockRows (a : Nat) : List Row :=
  match a / 0x10000 with
  | 0x0 => rowsGLB0
  | 0x1 => rowsCLK0
  | 0x2 => rowsTIM0 ++ rowsTIM1
  | 0x3 => rowsCFG0
  | 0x4 => rowsSDM0
  | 0x5 => rowsADC0
  | 0x6 => rowsVTX0
  | 0x8 => rowsSLT0
  | 0x9 => rowsPWM0 ++ rowsPWM1
  | 0xb => rowsGPR0 ++ rowsGPR1
  | 0xc => rowsRNG0 ++ rowsRNG1
  | 0xd => rowsSTR0
  | 0xe => rowsFLT0
  | 0xf => rowsPAR0
  | 0x10 => rowsMTR0 ++ rowsMTR1 ++ rowsMTR2
  | 0x11 => rowsMEM0
  | 0x12 => rowsARB0
  | 0x13 => rowsLAN0 ++ rowsLAN1
  | 0x14 => rowsHQ0
  | 0x15 => rowsTHW0
  | 0x16 => rowsEVT0
  | _ => []

/-- The row of a BAR0 address; none for a reserved address (R9, R622). -/
def rowOf (a : Nat) : Option Row := (blockRows a).find? (fun r => r.covers a)

/-- The reset value of the register at a BAR0 address; a reserved address reads as zero (R9). -/
def regReset (a : Nat) : Word :=
  match rowOf a with
  | some r => BitVec.ofNat 32 r.reset
  | none => 0

end Sys2Proof.Machine
end

