-- ==== Sys2Proof/Machine/State.lean ====
section
/-! DEFINITION. The state of one TRS-2460 as plain data: the register file behind BAR0, the BAR2 memories, the hidden
state every chapter of the spec gives the block, the queue of waiting commands and the trace of what the block sent out. -/

namespace Sys2Proof.Machine

/-- The stop reasons of a step. No command of the table ends in one: the spec gives every command an effect. -/
inductive Fault where
  /-- Raised by no meaning: kept so that the type is inhabited. Safe, because a stop never replaces an effect. -/
  | unmappedAccess
deriving DecidableEq, Repr

/-- The refusals of a step. -/
inductive Refusal where
  /-- Raised by an arm of `exec` whose command has no meaning yet. Safe: the run stops instead of guessing. -/
  | notModelled (mnemonic : String)
deriving DecidableEq, Repr

/-- A sparse table in canonical form: keys strictly rising, no entry equal to the default of its key. -/
abbrev Tab (α : Type) := List (Nat × α)

/-- An event as its chapter raises it (R351, R640): code, unit, data words, and the stamp of R93. -/
structure Event where
  code : Nat
  unit : Nat := 0
  data : List Word := []
  ts32 : Word := 0
deriving DecidableEq, Repr

/-- An event of the present tick, with the 0x0804 that R354 queues directly behind it. -/
structure Raised where
  ev : Event
  cluster : Option Event := none
deriving DecidableEq, Repr

/-- A record toward the host (R515): an event or report with its source, sequence number and LOST mark. -/
structure Record where
  ev : Event
  src : Nat := 0
  seq : Nat := 0
  lost : Bool := false
deriving DecidableEq, Repr

/-- What the block puts on a ball, lane or bus: the model's own trace of its outputs, newest last. -/
inductive Out where
  /-- a posted write of 32-bit words to host memory (R513, R515) -/
  | hostWrite (addr : Nat) (words : List Word)
  /-- an MSI-X vector signalled (R523) -/
  | msix (vector : Nat)
  /-- a message sent on a serial lane: 0–1 and 6–7 ring, 2–3 partner (R249 to R264, R402, R509) -/
  | lane (lane : Nat) (m : Msg)
  /-- idle blocks, type 0x1E, from here on: a transmit direction has woken (R481, R496) -/
  | idle (lane : Nat)
  /-- the generator of a lane sends the pattern of a polynomial x^a + x^b + 1 without inversion, or stops (R488) -/
  | prbs (lane : Nat) (poly : Option (Nat × Nat))
  /-- an Ethernet frame sent on port 0 (L4) or 1 (L5): 1 Delay_Req, 2 ARP reply, 3 echo reply, 4 Pdelay_Req,
  5 Pdelay_Resp (R98, R500) -/
  | eth (port : Nat) (kind : Nat)
  /-- the value a host read completes with -/
  | readValue (v : Word)
  /-- the bytes a host read through BAR2 completes with (R449) -/
  | readBytes (l : List Byte)
  /-- the beats of a read transfer that an SSM bank has returned to requester r (R463) -/
  | arbRead (r : Nat) (words : List Nat)
  /-- a host access completed as an unsupported request (R8, R508) -/
  | unsupported
  /-- a host access completed with completer abort status (R355, R510) -/
  | abort
  /-- a transition computed for a gate channel or TPO line: ticks from now, fine position and tap (R310) -/
  | edge (line : Nat) (level : Bool) (ticks : Nat) (fine : Nat) (tap : Nat)
  /-- a PMBus transfer to an address: the command, and the value in mV that it writes, none for a read (R538) -/
  | pmbus (addr command : Nat) (write : Option Nat)
  /-- a write of a metering record to the external memory (R442) -/
  | nvmWrite (slot : Nat) (words : List Word)
  /-- the erase of a 4 KiB sector of the external memory (R442) -/
  | nvmErase (sector : Nat)
  /-- a pin of the block driven to a level: TRIP_O, READY, PPS_OUT, TPO, MPO -/
  | pin (name : Pin) (level : Bool)
  /-- an edge of PPS_OUT at a stack time in 50 ps units (R113) -/
  | pps (level : Bool) (at50 : Int)
deriving DecidableEq, Repr

/-- The interface to the metering memory (R593): before READY held (XSPI_RST_N and XSPI_CLK low, XSPI_CS_N high); behind it
1S-1S-1S mode with a memory that gave no valid parameters, that mode at up to 50 MHz, or 8D-8D-8D mode at up to 100 MHz. -/
inductive Flash where
  | held
  | mute
  | single
  | octal
deriving DecidableEq, Repr

/-- Start-up, reset and pads (chapters 20 to 22). -/
structure Sys where
  /-- main-domain power-on reset asserted (R554) -/
  por : Bool := true
  /-- PRST_N low; an open input reads released (R582) -/
  prst : Bool := false
  /-- the levels last seen on the strap balls: NODE[5:0], ROLE, COMPAT, BOOTSRC (R583) -/
  straps : BitVec 10 := 0
  /-- the fuses as loaded at the last reset release -/
  fuses : Fuses := {}
  /-- gate I/O bank supply b in range (R555, R581) -/
  bank : Tab Bool := []
  /-- armed since the last image load or reset (R565) -/
  armed : Bool := false
  /-- READY pin -/
  ready : Bool := false
  /-- the metering memory's interface (R593) -/
  flash : Flash := .held
  /-- HB_OUT running -/
  hbOut : Bool := false
  /-- TRIP_O[1:0] levels -/
  tripO : Nat := 0
  /-- the fail-safe command that stood at a reset and is held for 10 µs, per gate channel (R567) -/
  hold : Option (List Nat) := none
  /-- BYP_O levels held with it -/
  holdByp : Nat := 0
  /-- ticks counted when the main-domain reset was released -/
  released : Nat := 0
  /-- PCIE_PERST_N low (R590) -/
  perst : Bool := true
  /-- first image of this power cycle has become live (R562) -/
  imageLive : Bool := false
  /-- a ROLE=B device waits 100 µs for its decision (R399); without it ARMPEND waits for GLB_ARM_AT -/
  armWait : Bool := false
deriving DecidableEq, Repr

/-- One key slot (R627): the key armed and its age in FCLK cycles. -/
structure KeySlot where
  key : Option Nat := none
  age : Nat := 0
deriving DecidableEq, Repr

/-- The three key slots: PCI Express, tunnel, command list (R627). -/
structure Keys where
  slots : Tab KeySlot := []
  /-- event 0x1008 already raised since GLB_KEYREF was read (R629) -/
  told : Bool := false
deriving DecidableEq, Repr

/-- Stack time (chapter 4). -/
structure Tim where
  s : Nat := 0
  ns : Nat := 0
  sub : Nat := 0
  /-- the counter of R93 -/
  ts32 : Word := 0
  /-- start time and effective addend of the last ticks, newest first, in units of 50 ps × 2⁻³² (R310) -/
  past : List (Nat × Nat) := []
  /-- number of the present control period (R106) -/
  period : Int := 0
  /-- the slew still ordered, in units of 2⁻³² ns (R92, R100) -/
  slew : Int := 0
  /-- counter stopped during band search after a soft reset (R568) -/
  stopped : Bool := false
  /-- consecutive measurements within the lock threshold (R101) -/
  good : Nat := 0
  /-- consecutive control periods beyond TIM_ALIGN.LIM (R102) -/
  bad : Nat := 0
  /-- time alignment fault standing (R102) -/
  alignFault : Bool := false
  /-- ticks counted when HOLDOVER was entered -/
  holdSince : Nat := 0
  /-- the integral term of the built-in servo (R405) -/
  integral : Int := 0
  /-- last measured offset in 50 ps units -/
  ofs : Int := 0
  /-- the ring lane whose direction is followed (R104), and its hops from node 0 -/
  follow : Nat := 1
  hops : Nat := 0
  /-- sequence number of the next time-transfer set sent (R103) -/
  setSeq : Nat := 0
  /-- link delays of the last 16 time-transfer sets in ps, per lane, newest first (R103) -/
  delays : Tab (List Int) := []
  /-- the last PPS_IN stamp, for SRC 0b01 (R114) -/
  pps : Option (Nat × Nat × Nat) := none
  /-- TCAP FIFOs: seconds, ns, 50 ps units (R111) -/
  fifo : Tab (List (Nat × Nat × Nat)) := []
  /-- when the last edge of an input was stamped, in 64ths of a tick since the start of the run, plus one (R112) -/
  lastEdge : Tab Nat := []
  /-- event 0x0221 already raised since the last read (R112) -/
  capTold : Tab Bool := []
  /-- TPO settings taken at ARM: first and next start in 50 ps units, period, width, periodic, active low (R108) -/
  tpo : Tab (Option Tpo) := []
  /-- a TPO setting waiting for the present high interval to end; some none stops the output (R110) -/
  tpoNext : Tab (Option (Option Tpo)) := []
  /-- TPO output in its high interval -/
  tpoHigh : Tab Bool := []
  /-- the inactive level of a TPO output, as its configuration has taken effect (R588) -/
  tpoIdle : Tab Bool := []
  /-- PPS_OUT level, and the stack time at which its pulse ends, in 50 ps units (R113) -/
  ppsOut : Bool := false
  ppsEnd : Int := 0
  /-- best-master port in use and the data sets announced on L4 and L5 (R98) -/
  port : Nat := 0
  announce : Tab (Option (List Nat)) := []
  /-- an open two-step Sync per port: its sequence number, arrival stamp and correction -/
  sync : Tab (Option (Nat × Int × Int)) := []
  /-- the last Sync measurement per port: origin and arrival, for the end-to-end delay -/
  last : Tab (Int × Int) := []
  /-- arrival and departure stamp of the last set received on a ring lane (R103) -/
  echo : Tab (Int × Int) := []
  /-- mean path delay per port, 50 ps units -/
  pathDelay : Tab Int := []
deriving DecidableEq, Repr

/-- The clock root (chapter 3). -/
structure Clk where
  /-- a band search is required and has not failed (R73, R74) -/
  searchDue : Bool := false
  searching : Bool := false
  failed : Bool := false
  /-- the first frequency check after a reset uses ±5 % (R557) -/
  locked : Bool := false
  /-- the reference a phase walk is preparing for, with the reason of the switch: 0 loss, 1 revert, 2 command -/
  target : Option (Bool × Nat) := none
  switchCause : Nat := 0
  /-- ticks counted at the start of the walk, and of coasting -/
  walkSince : Nat := 0
  coastSince : Nat := 0
  /-- last frequency offset of each reference in 0.1 ppm, once one interval has been measured -/
  freq : Tab (Option Int) := []
  /-- Flint pad override of R84 in force -/
  override : Bool := false
  /-- a reset asked for release; good SCLK windows since lock (R85) -/
  releasing : Bool := false
  goodWindows : Nat := 0
  /-- the root has stopped (R83), and the window in which it stopped has not ended; the stamped 0x0112 waits for the domains to
  run again (R84) -/
  stopped : Bool := false
  stopFresh : Bool := false
  held : Option Event := none
  /-- an SCLK frequency fault has been raised since the reset -/
  freqTold : Bool := false
deriving DecidableEq, Repr

/-- A leg pair of the edge generator (chapter 10). Positions are in fine units from the present boundary of its group;
what began before it has a negative one. -/
structure Pair where
  started : Bool := false
  /-- the first boundary behind the ARM, or the commit point of R413 behind a takeover, has passed (R257, R289) -/
  begun : Bool := false
  /-- the levels of u behind the refresh stage and of u′ -/
  raw : Bool := false
  level : Bool := false
  /-- stage-4 commands of the upper and lower switch -/
  up : Bool := false
  low : Bool := false
  /-- a dead time runs: at position `pendAt` the upper (true) or lower switch turns on -/
  pend : Option Bool := none
  pendAt : Int := 0
  /-- where the present interval of u′ began, and that of u -/
  ivl : Int := 0
  uAt : Int := 0
  /-- the end by which the present interval of u was judged, and whether a stretch had shortened it (R302, R303) -/
  fin : Option Int := none
  short : Bool := false
  /-- the present interval of u is removed: the next joins unjudged (R302) -/
  drop : Bool := false
  /-- delay of the trailing transition of the present interval (R302, R303) -/
  carry : Nat := 0
  /-- a delayed transition waits for this position -/
  due : Option Int := none
  /-- written since the last LOAD_ALL (R292) -/
  dirty : Bool := false
  /-- pending ON and WID, and those closed for the next commit point (R292, R294) -/
  pending : Option (Nat × Nat) := none
  shut : Option (Nat × Nat) := none
  /-- values loaded after B_{r+1} of a takeover, for which the release waits (R413) -/
  fresh : Bool := false
  wait : Bool := false
  /-- start of the present low interval of u within the group period, and whether the period qualifies (R304) -/
  lowAt : Int := 0
  qual : Bool := false
  bootCnt : Nat := 0
  /-- the refresh low intervals that lie in this group period, by start and end, and whether the period must qualify (R304) -/
  cut : List (Nat × Nat) := []
  must : Bool := false
  /-- the dead time at the start of the present interval of u′ (R303, R307) -/
  dt : Nat := 0
  /-- adapted dead times and clean counts (R307) -/
  adtR : Nat := 0
  adtF : Nat := 0
  cleanR : Nat := 0
  cleanF : Nat := 0
  /-- the pair holds its fail-safe command until it is released (R289, R345, R413); `freed` where a clear has let BYP_O fall
  already: behind a cleared cell the cell's command (true), behind a cleared trip the image pattern (false) -/
  hold : Bool := false
  freed : Option Bool := none
  /-- events 0x0701 and 0x0702 already raised for this pair since the flag was cleared -/
  toldDrop : Bool := false
  toldStretch : Bool := false
deriving DecidableEq, Repr

/-- The edge generator (chapter 10). -/
structure Pwm where
  pairs : Tab Pair := []
  /-- tap map entries and the ticks at which they were measured: key 64 × line + fine value (R313, R314) -/
  tap : Tab Nat := []
  tapAt : Tab Nat := []
  /-- lines under measurement, with the fine position measured (R313) -/
  measuring : Tab (Option Nat) := []
  /-- replica bias codes and loops out of range, banks 0–8 (R312, R315) -/
  bias : Tab Nat := []
  out : Tab Bool := []
  /-- the pending set of a group has closed for its next commit point (R294) -/
  closed : Tab Bool := []
  /-- events already raised until the matching PWM_FLAGS bit is cleared: stale lines, ADTMAX directions (2q + d) -/
  toldStale : Tab Bool := []
  toldAdt : Tab Bool := []
  /-- ticks counted when the present ARM took effect, or its decision (R289), and at the last reset of the main domain, from which
  a line that has not been measured ages (R314) -/
  armedAt : Nat := 0
  since : Nat := 0
deriving DecidableEq, Repr

/-- Gate protection (chapter 11). -/
structure Prot where
  /-- GATE_O levels -/
  gate : Tab Bool := []
  /-- BYP_O levels -/
  byp : Nat := 0
  /-- DSAT_I levels last seen (pull-up: high) -/
  dsat : Tab Bool := []
  /-- ticks of the last qualified switch fault of a cell and the switch -/
  swAt : Tab (Option (Nat × Nat)) := []
  /-- ticks at which a cell entered a cell fault that counts toward CLU_K -/
  cellAt : Tab (Option Nat) := []
  /-- live FSREQ (R330) -/
  fsreq : Nat := 0
  /-- causes of the cluster fault that have occurred and have not been cleared, bit CAUSE -/
  causes : Nat := 0
  /-- a cluster fault cause still present: bit CAUSE -/
  present : Nat := 0
  /-- populated cells without an enabled pair whose BYP_O stays with the pattern for the 8 µs of R27 -/
  bypWait : Nat := 0
  /-- a closure of BYP_FB has been accepted and no opening since, per cell (R341) -/
  closedSince : Nat := 0
  /-- cells that wait for the accepted opening of a HELD bypass before release (R345) -/
  waitOpen : Nat := 0
  /-- the latch vector sequence number and the newest vector received (R408) -/
  vecSeq : Nat := 0
  vecRx : Option LatchVec := none
deriving DecidableEq, Repr

/-- A group whose checks have passed and that waits for its commit point (R57): earliest TS32, the number of the patch that
brought it (R52), and of the commit that covers it. -/
structure Pend where
  earliest : Option Word := none
  patch : Option Nat := none
  no : Nat := 0
  /-- a patch waits for the first control period boundary behind its checks (R52) -/
  hold : Bool := false
deriving DecidableEq, Repr

/-- A commit whose checks run (R56): ALL, or one group by class and instance. -/
structure CommitReq where
  all : Bool
  cls : Nat := 0
  inst : Nat := 0
  /-- its number, and the earliest instant that CFG_COMMIT_AT gave it (R57, R65) -/
  no : Nat := 0
  earliest : Option Word := none
deriving DecidableEq, Repr

/-- A patch whose groups are not all live yet (R52, R53, R64): its number, IMAGE_ID, IMAGE_VER, the first 64 digest bits,
and whether it carries SIGN and is trusted. -/
structure Patch where
  no : Nat
  id : Word
  ver : Word
  hi : Word
  lo : Word
  signed : Bool := false
  trusted : Bool := false
deriving DecidableEq, Repr

/-- A load in progress (R46 to R48): the source CFG_LOAD named, the bytes received, and whether reception has ended. -/
structure Load where
  ring : Bool
  data : List Byte := []
  checking : Bool := false
deriving DecidableEq, Repr

/-- What the image in force declares and no register shows, and the commits under way (chapter 2). -/
structure Cfg where
  /-- an image is in force, and it carries the optional section METER (R40) -/
  inForce : Bool := false
  metered : Bool := false
  /-- populated cells, bit c (R7) -/
  pop : Nat := 0
  /-- graphs of the engines, routes of the fill -/
  graphs : Tab Graph := []
  routes : List Route := []
  /-- populated cells of every node of the stack, as the image declares them -/
  stackPop : List (BitVec 24) := []
  /-- V_STR_MAX and VHV_CELL_MAX of each rank group; in ISOS the maximum LV string and cell LV voltage (R34). DESIGN CHOICE:
  whole volts, since no rule gives these inputs a number format -/
  margin : List (Nat × Nat) := []
  marginLv : Option (Nat × Nat) := none
  /-- the arm this node owns (R33, R256) -/
  arm : Option Nat := none
  /-- STRUCT_DIGEST of the image in force -/
  digest : List Byte := []
  /-- commits whose checks run, oldest first -/
  checking : List CommitReq := []
  /-- pending groups, keyed 256 × class + instance -/
  pend : Tab (Option Pend) := []
  /-- parameter banks a patch brings, until GRAPHPAR commits -/
  parNext : Tab (Option (List Word)) := []
  /-- the WEAR section -/
  wear : Option WearSec := none
  /-- patches whose groups are still pending, oldest first; number of the next patch and of the next commit -/
  patches : List Patch := []
  patchNo : Nat := 0
  commitNo : Nat := 0
  /-- the commit that CFG_COMMIT_AT governs, once one has taken it (R57, R65) -/
  atBy : Option Nat := none
  /-- a load in progress -/
  load : Option Load := none
deriving DecidableEq, Repr

/-- An entry of the output queue of an engine (R155). -/
inductive Send where
  /-- ON and WID of a leg pair: two queue entries (R213) -/
  | pwm (q on wid : Nat)
  /-- LOAD_ALL of a group -/
  | loadAll (g : Nat)
  /-- the fail-safe requests of the cells an instance serves (R212) -/
  | fsreq (serves req : Nat)
  /-- event 0x0540 | ID with its two words (R217) -/
  | event (id : Nat) (a b : Word)
  /-- a released output -/
  | value (d : Dest) (w : Word)
deriving DecidableEq, Repr

/-- A segment executing in its slot window (R174): entry of the live slot table, segment, blocks done, ECLK cycles
executed, the window's MID bit, and the output queue. -/
structure SegRun where
  entry : Nat
  seg : Nat
  blk : Nat := 0
  cycles : Nat := 16
  mid : Bool := false
  queue : List Send := []
deriving DecidableEq, Repr

/-- A conversion waiting or in progress: its result slot, its trigger tick, and when it sampled (R130 to R138). -/
structure Job where
  slot : Nat
  trig : Nat
  sampled : Option Nat := none
  resampled : Bool := false
  deferred : Bool := false
deriving DecidableEq, Repr

/-- An interleaved stream of a pair (R139): samples still to take (none: without end), whether the odd converter samples next,
the slot of the next sample, the trigger tick, and the conversions under way in the even and the odd converter. -/
structure Stream where
  left : Option Nat
  odd : Bool := false
  slot : Nat := 0
  trig : Nat
  evenJob : Option Job := none
  oddJob : Option Job := none
deriving DecidableEq, Repr

/-- A SAR converter. -/
structure Adc where
  /-- the regular conversion of the present step, and the steps left with it -/
  reg : Option Job := none
  left : Nat := 0
  /-- the injected queue, oldest first (R135) -/
  inj : List Job := []
  /-- the interleaved stream of the pair, held by its even converter (R139) -/
  stream : Option Stream := none
  /-- event 0x0412 raised since ADC_LOST was read -/
  told : Bool := false
deriving DecidableEq, Repr

/-- An entry of a measurement set (R145): result, VALID or NEW, and age or sample offset in ticks. -/
structure SetEntry where
  val : Nat := 0
  ok : Bool := false
  age : Nat := 0
deriving DecidableEq, Repr

/-- Sigma-delta channels and converters (chapter 5). -/
structure Meas where
  /-- tick of a channel's fault, until VALID returns; whether 64 valid bits have followed it (R123) -/
  fault : Tab (Option Nat) := []
  recov : Tab Bool := []
  /-- the comparators of a channel wait for 2 × OSR2 bits behind its recovery or an image load (R123) -/
  cmpWait : Tab Bool := []
  /-- code violations of the unfinished frame that SDM_CV holds already (R120) -/
  cvSeen : Tab Nat := []
  /-- completion tick of the latest sinc3 result -/
  done : Tab Nat := []
  conv : Tab Adc := []
  /-- trigger delays running (R133) -/
  delays : Tab Nat := []
  /-- full sample offset of result slot 32 k + n (n ≥ 16: injected n − 16) -/
  offset : Tab Nat := []
  /-- the boundary and mid-period measurement sets: channel c at key c, result slot 32 k + n at key 128 + 32 k + n -/
  set : Tab SetEntry := []
  midSet : Tab SetEntry := []
deriving DecidableEq, Repr

/-- The Vertex engines (chapter 6). -/
structure Vtx where
  /-- the segment each engine is executing -/
  run : Tab (Option SegRun) := []
  /-- engines stopped by an engine fault until a reset (R166) -/
  stopped : Tab Bool := []
  /-- an overrun in the present period (R177) -/
  overs : Tab Bool := []
  /-- numeric replacements in the present period (R162) -/
  numeric : Tab Nat := []
  /-- event 0x0506 raised since throttling was entered (R167) -/
  deferTold : Tab Bool := []
  /-- first-execution marks: engine, segment, block (R189) -/
  marks : List (Nat × Nat × Nat) := []
  /-- segments that have not executed since a takeover, with the periods elapsed: key 8 × engine + segment (R190) -/
  resume : Tab (Option Nat) := []
deriving DecidableEq, Repr

/-- Run-time inputs (chapter 8). -/
structure Inp where
  /-- the GPR_IN words that stood when HOLD was set (R226) -/
  held : Option (List Word) := none
  /-- the value last accepted of each word (R225) -/
  accepted : Tab Word := []
deriving DecidableEq, Repr

/-- A result set of Strata (R273): snapshot number, NAV and SUMV per group, position, group and AVL of each own cell, its
snapshot VHV, ORD, and ARMREF, ARMSGN and validity of each group's owner. -/
structure Res where
  num : Int
  nav : List Nat
  sumv : List Word
  pos : List (Option Nat)
  grp : List Nat
  avl : Nat
  vhv : List Word
  ord : Word
  arms : List (Word × Bool × Bool)
deriving DecidableEq, Repr

/-- The ring (chapter 9). -/
structure Ring where
  /-- sequence number of the next stack trip originated -/
  tripSeq : Nat := 0
  /-- trip sets held from the past 1 ms: node, role, sequence, ticks of arrival (R264) -/
  trips : List (TripSet × Nat) := []
  /-- causes this device has originated and that may still be present: bit CAUSE (R266) -/
  originated : Nat := 0
  /-- the result set that governs the period; none until a filled snapshot governs (R277, R639) -/
  gov : Option Res := none
  /-- released cell record fields: key 8 × cell + field; released header fields (R155, R259) -/
  recs : Tab (Option Word) := []
  ordOut : Option Word := none
  armref : Option Word := none
  armsgn : Option Word := none
  /-- released since the device last entered ACTIVE (R256) -/
  armrefNew : Bool := false
  armsgnNew : Bool := false
  /-- the snapshot being filled, and the last one closed (R268, R639) -/
  fill : Option Int := none
  closed : Option Int := none
  /-- members for the closed snapshot, and whether it is held whole (R275) -/
  closedMem : Nat := 1
  complete : Bool := false
  /-- Strata met an uncorrectable error in the closed bank (R355) -/
  gap : Bool := false
  /-- the result set of the closed snapshot -/
  res : Option Res := none
  /-- the membership generation in force in the period before (R278) -/
  genPrev : Nat := 0
  /-- node 0: consecutive snapshots without and with SYNC of each node, the period of its next proposal, and the
  operation of the last frame: node, and whether it joins (R281) -/
  absent : Tab Nat := []
  syncs : Tab Nat := []
  admAt : Tab Int := []
  lastOp : Option (Nat × Bool) := none
  /-- events 0x0601 and 0x060D already raised in this period -/
  toldCrc : Bool := false
  toldLate : Bool := false
  /-- ends of links reported down, as node and lane, and those in force for frames originated (R252) -/
  down : List (Nat × Nat) := []
  downMap : List (Nat × Nat) := []
  /-- the state last forwarded of each node and lane in this period (R252) -/
  sets : List (Nat × Nat × Bool) := []
  /-- rank groups whose margin is low, and exhausted (R35) -/
  marginLow : Nat := 0
  marginOut : Nat := 0
  /-- ticks of the last discovery set of each node, and its sender (R570) -/
  disc : Tab (Option (Nat × Nat)) := []
  /-- event 0x060C already raised for the digest that stands (R282) -/
  toldRcd : Bool := false
deriving DecidableEq, Repr

/-- Pair redundancy (chapter 14). -/
structure Par where
  /-- ticks at which a planned handover was requested, and whether its FINAL checkpoint is still to be captured (R416) -/
  hoSince : Option Nat := none
  finalDue : Bool := false
  /-- the period named for the handover, on the active device once LOADED has arrived, on the standby by its message -/
  hoPeriod : Option Int := none
  /-- the warm-up period of a takeover (R412) -/
  warm : Option Int := none
  /-- event 0x0A02 is due at the first release of a pair (R412) -/
  announce : Bool := false
  /-- number of the next checkpoint captured; the checkpoint being staged or streamed (R403, R404, R407) -/
  seq : Nat := 0
  capture : Option Ckpt := none
  /-- SEQ of a checkpoint of which only a part has arrived (R418) -/
  arriving : Option Word := none
  /-- the two Geode buffers (R407) -/
  geode : Tab (Option Ckpt) := []
  /-- ticks of partner loss, and whether the takeover is prepared (R410, R411) -/
  lossAt : Nat := 0
  prepared : Bool := false
  /-- ticks and 0.1 µs the blocked time counts from, and whether the handover was planned (R414, R417) -/
  blockAt : Nat := 0
  blockAdd : Nat := 0
  planned : Bool := false
  /-- the checkpoint loaded, from which the device resumes or has resumed -/
  resumed : Option Ckpt := none
  /-- the FINAL checkpoint is loaded, and ticks counted when it was (R416) -/
  loaded : Bool := false
  loadedAt : Nat := 0
  /-- ticks since HB_IN counts as dead, and since HB_OUT runs (R22, R27, R399) -/
  deadSince : Nat := 0
  hbAt : Nat := 0
  /-- the dual-active state that health reports show has been reported (R400) -/
  dual : Bool := false
  /-- the partner's image digest as last reported (R53) -/
  peerDigest : Option (Word × Word) := none
  /-- sequence number of the next health report -/
  hseq : Nat := 0
  /-- since the device became ACTIVE a health report has shown the partner's L3 receive locked (R497) -/
  l3Seen : Bool := false
  /-- self-test items with a failure in their present rerun (R401) -/
  stBad : Nat := 0
  /-- the lane test of the self-test has failed (R401); awake lanes of ring and partner whose QLOCK is lost (R483) -/
  stLane : Bool := false
  laneLost : Nat := 0
deriving DecidableEq, Repr

/-- A valid safety frame that has found no partner (R383): SEQ, CMD, and whether T_SKEW has passed. -/
structure Unpaired where
  seq : Nat
  cmd : Nat
  late : Bool := false
deriving DecidableEq, Repr

/-- A test pulse in progress (R378): low-side switch, cycle boundaries passed, readback has shown off. -/
structure Pulse where
  low : Bool
  cycles : Nat := 0
  off : Bool := false
deriving DecidableEq, Repr

/-- The Flint safety island (chapter 13). What its registers of the FLT block show is kept there. -/
structure Flint where
  /-- the SAFE section of the image in force enables SGI -/
  sgiOn : Bool := false
  /-- held in reset: VDD_FLINT out of its window or Flint's power-on reset asserted (R362, R366) -/
  held : Bool := true
  /-- the diagnostics of a reset still run (R384) -/
  selftest : Bool := false
  /-- the SAFE section accepted -/
  safe : Option Safe := none
  /-- NODE as Flint latched it (R584) -/
  node : Nat := 0
  /-- requests of GLB_FLTREQ waiting for the next cycle boundary (R387), bits as the register's -/
  req : Nat := 0
  /-- consecutive cycles of disagreement of each pair (R373) -/
  disagree : Tab Nat := []
  /-- the step the clear sequence of a latched pair has reached (R374): 1 both low, 2 both high -/
  step : Tab Nat := []
  /-- the last input test of a pair has failed -/
  testBad : Tab Bool := []
  /-- cycles for which both channels of a pair have been high (R375) -/
  high : Tab Nat := []
  /-- frames in each mailbox since the last cycle (R380) -/
  box : Tab Nat := []
  /-- valid frames without a partner, per network, oldest first -/
  open' : Tab (List Unpaired) := []
  /-- functions demanded by frames, or by a mismatch, since the last cycle, and the permits held (R383) -/
  dem : Nat := 0
  mis : Nat := 0
  perm : Nat := 0
  /-- an RST pair has arrived since the last cycle -/
  rst : Bool := false
  /-- consecutive mismatched comparisons of a switch: key 2 × output + low (R377) -/
  bad : Tab Nat := []
  /-- test pulses in progress, and the switch tested next: true for the low side (R378) -/
  pulse : Tab (Option Pulse) := []
  next : Tab Bool := []
  /-- cycles for which SGI and SST have both been in their safe state (R369) -/
  safeFor : Nat := 0
  /-- a network has fallen silent since the last cycle (R383) -/
  quiet : Bool := false
  /-- the levels the readbacks last showed (R376), one bit for each of SRB_H and SRB_L; pins, which no reset changes -/
  srb : Nat := 0
  /-- causes of functions that were LOCKED by a readback fault or by 0x0906 before a Flint reset: they stay so until the
  readbacks agree (R384) -/
  kept : Tab Nat := []
  /-- steps made by the rotating diagnostics (R366): background read, march, logic -/
  diag : Tab Nat := []
deriving DecidableEq, Repr

/-- The zero crossing detector of a signal (R432): last value, armed, and the last positive-going crossing in units of
50 ps × 2⁻³². -/
structure Cross where
  x : Dy := {}
  armed : Bool := false
  at' : Option Int := none
deriving DecidableEq, Repr

/-- What a V/I pair of a measurement point gathers over a report window (R431 to R433). -/
structure MtrPair where
  /-- Σ vΔt, Σ iΔt, Σ v²Δt, Σ i²Δt, Σ pΔt, with Δt in 50 ps units -/
  sv : Dy := {}
  si : Dy := {}
  svv : Dy := {}
  sii : Dy := {}
  sp : Dy := {}
  v : Cross := {}
  i : Cross := {}
  /-- the line cycle in progress: Σ v²Δt, Σ i²Δt, Σ Δt -/
  cvv : Dy := {}
  cii : Dy := {}
  cdt : Nat := 0
  /-- line cycles completed in the window: count, sums of their voltage and current RMS, their total length -/
  cycles : Nat := 0
  rv : Dy := {}
  ri : Dy := {}
  len : Int := 0
  /-- length of the last cycle -/
  last : Int := 0
  /-- angles met in the window: sums and counts -/
  vi : Dy := {}
  nvi : Nat := 0
  pp : Dy := {}
  npp : Nat := 0
  /-- no current crossing has followed the last voltage crossing yet (R433) -/
  seek : Bool := false
deriving DecidableEq, Repr

/-- A measurement point (chapter 15). Energies are in units of 2⁻⁴⁰ J: the register and its hidden fraction. -/
structure MtrPoint where
  /-- instant of the last valid sample, 50 ps units -/
  last : Option Nat := none
  eimp : Nat := 0
  eexp : Nat := 0
  wrapI : Nat := 0
  wrapE : Nat := 0
  iimp : Nat := 0
  iexp : Nat := 0
  /-- the stack second at which the interval of IIMP and IEXP began, and that its end has passed while a sample of it may still
  come (R429) -/
  ivl : Option Nat := none
  due : Bool := false
  /-- last confirmed sign, the run of samples against it, their sign, and the instant of its first sample (R430) -/
  sign : Int := 0
  runSign : Int := 0
  run : Nat := 0
  runAt : Nat := 0
  revs : Nat := 0
  revTs : Word := 0
  firstRev : Word := 0
  lastRev : Word := 0
  /-- flags of the present interval: GAP, RESTORED, CHK (R429) -/
  gap : Bool := false
  restored : Bool := false
  chk : Bool := false
  pairs : List MtrPair := [{}, {}, {}]
  /-- Σ Δt of the report window, 50 ps units -/
  dt : Nat := 0
  /-- no voltage crossing for ZC_TMO (R434) -/
  absent : Bool := false
  /-- scales replaced by commits that samples still to come precede, oldest first: the instant of the commit in 50 ps units, and
  the live scales before it (R425) -/
  scales : List (Nat × List Word) := []
  /-- MTR_SNAP has named the point (R444) -/
  snap : Bool := false
deriving DecidableEq, Repr

/-- A pulse output (R437, R438): energy since the last due pulse, backlog, pulses emitted, the two most recent due
instants in 50 ps units, and the pulse in progress: width in 50 ps units, and high or in its low interval. -/
structure Mpo where
  acc : Nat := 0
  backlog : Nat := 0
  count : Nat := 0
  due : Option Nat := none
  tdue : Option Nat := none
  pulse : Option (Nat × Bool) := none
deriving DecidableEq, Repr

/-- A pulse input (R439, R440): accepted pulses, the counts at the start of the check window, whether the device has metered
the whole window, and whether the window is not judged. -/
structure Mpi where
  count : Nat := 0
  base : Nat := 0
  baseE : Nat := 0
  full : Bool := false
  skip : Bool := false
deriving DecidableEq, Repr

/-- Metering (chapter 15). -/
structure Mtr where
  points : Tab MtrPoint := []
  mpo : Tab Mpo := []
  mpi : Tab Mpi := []
  /-- MPO levels at the ball are driven high -/
  mpoOut : Tab Bool := []
  /-- detector of the positive-going IMF crossings of each cell (R435, R436) -/
  mf : Tab Cross := []
  /-- the slot the next save takes, and the slot and record of a save in progress (R442) -/
  slot : Nat := 0
  save : Option (Nat × List Word) := none
  /-- a LOAD runs -/
  loading : Bool := false
  /-- the own accumulators at the boundaries of the last two capture intervals, with their periods, newest first (R409) -/
  base : List (Int × MtrAcc) := []
deriving DecidableEq, Repr

/-- A temperature sensor (R531, R532): last code, whether it lay out of range, conversions with an unchanged code,
consecutive good conversions since it was declared broken, and the last self-check. -/
structure Sensor where
  code : Option Int := none
  out : Bool := false
  same : Nat := 0
  good : Nat := 0
  check : Bool := false
deriving DecidableEq, Repr

/-- The least-squares sums of a capacitor's estimation window (R543), with Q in A × 50 ps. -/
structure CapFit where
  qq : Dy := {}
  qi : Dy := {}
  ii : Dy := {}
  vq : Dy := {}
  vi : Dy := {}
deriving DecidableEq, Repr

/-- Thermal control, supply adaptation and wear (chapter 19). Wear is kept by entity: switch g at g, capacitor j at
192 + j, the device at 240. -/
structure Thw where
  sensors : Tab Sensor := []
  /-- the maximum before, from the memory fill on -/
  prev : Option Int := none
  /-- levels entered, bit LEVEL -/
  levels : Nat := 0
  /-- the minimum slack of the present interval with its monitor, and consecutive intervals above SLACK_HI (R537) -/
  slack : Option (Nat × Nat) := none
  high : Nat := 0
  /-- the request whose readback is due, and whether it is the retry; a retry that waits (R538, R539) -/
  ask : Option Bool := none
  retry : Bool := false
  fit : Tab CapFit := []
  /-- damage samples within WIN, newest first: stack time in s, D (R541) -/
  hist : Tab (List (Nat × Dy)) := []
  /-- restored rates per hour, F32 (R548) -/
  rate : Tab (Option Word) := []
  /-- events 0x0F10 (1) and 0x0F11 (2) already raised (R546) -/
  told : Tab Nat := []
  /-- worst vertical eye of L0–L3 of the last 24 hourly measurements in mV, newest first, and EYE0 (R545) -/
  eyes : List Nat := []
  eye0 : Word := 0
deriving DecidableEq, Repr

/-- An entry of the correction log (R454): word number (BAR2 offset / 8), count, flags, reader, and when it was written. -/
structure LogEntry where
  addr : Nat
  count : Nat := 0
  rewritten : Bool := false
  pers : Bool := false
  src : Nat := 0
  at' : Nat := 0
deriving DecidableEq, Repr

/-- Memory integrity (chapter 16). -/
structure Memi where
  /-- the 16 log entries; MEM_LOG_* and the counts of MEM_STAT are read from here -/
  log : List (Option LogEntry) := List.replicate 16 none
  /-- updates of the log so far -/
  serial : Nat := 0
  /-- words last written in test mode: the 64 bits and the check bits stored (R460) -/
  raw : Tab (Option (Nat × Nat)) := []
  /-- host accesses held until the fill completes (R452) -/
  held : List (Nat × Bar2 × Fin 3) := []
  /-- corrections that wait for the log, oldest first: reader and word (R454) -/
  queue : List (Nat × Nat) := []
  /-- the last correction that entered the log: ticks counted then, reader, word (R475) -/
  newest : Option (Nat × Nat × Nat) := none
  /-- the running scrub: the word it reads next, and the last it has read (R457, R459) -/
  scrubNext : Nat := 0
  scrubLast : Nat := 0
deriving DecidableEq, Repr

/-- What a request at a bank arbiter is for: the transfer of its command, some words of a running scrub (R457), or the write-back
of a word (R455). -/
inductive ArbKind where
  | plain
  | scrub (n : Nat)
  | writeBack
deriving DecidableEq, Repr

/-- A request at a bank arbiter (R462 to R470): requester, FCLK cycle from which its age counts, of its own arrival and of its
first beat, length in beats, whether it is a lock request, marked urgent, and the words it writes; whether its grant has reserved the
bank for its sequence. -/
structure ArbReq where
  r : Nat
  kind : ArbKind := .plain
  since : Nat
  arrived : Nat := since
  granted : Nat := 0
  made : Bool := false
  beats : Nat
  lock : Bool := false
  urgent : Bool := false
  addr : Nat := 0
  data : List Nat := []
deriving DecidableEq, Repr

/-- A lock sequence (R470, R471): first arrival, its first lock request, the banks it holds, and its buffered writes,
newest first. -/
structure LockSeq where
  since : Nat
  first : Nat × ArbReq
  banks : List Nat := []
  writes : List (Nat × List Nat) := []
deriving DecidableEq, Repr

/-- The arbiter of an SSM bank: the transfer that holds its grant, and those that wait, oldest first. -/
structure ArbBank where
  holder : Option ArbReq := none
  waiting : List ArbReq := []
deriving DecidableEq, Repr

/-- The shared-memory arbiter. -/
structure Arb where
  banks : Tab ArbBank := []
  seqs : Tab (Option LockSeq) := []
  /-- the last write of a class: its FCLK cycle, and the class before it (R467, R475) -/
  oldClass : Tab (Option (Nat × Nat)) := []
  /-- the last wound of a requester's sequence: its FCLK cycle, the banks it held, and ARB_WOUND before it (R475) -/
  wounded : Tab (Option (Nat × List Nat × Word)) := []
deriving DecidableEq, Repr

/-- A PRBS checker (R489): ticks at which pattern lock was last counted, compared bits, bit errors. -/
structure Prbs where
  since : Option Nat := none
  bits : Nat := 0
  errs : Nat := 0
deriving DecidableEq, Repr

/-- Serial lanes and Ethernet (chapter 17). -/
structure Lan where
  prbs : Tab Prbs := []
  /-- stack hour of the last eye measurement of a lane (R494) -/
  hour : Tab (Option Nat) := []
  /-- the partner has reported L2 QLOCK in its last lane-state set (R486) -/
  peerL2 : Bool := false
  /-- echo replies of a port: stack second and their number (R500) -/
  echo : Tab (Nat × Nat) := []
  /-- DFE taps 4 and 5 of a lane's receive equaliser, signed 8 bits each (R492); no register shows them -/
  taps : Tab (BitVec 16) := []
  /-- arrival times, in 50 ps, of the IEEE 1588 frames that a port has accepted and the time block has not yet taken, oldest
  first (R500) -/
  ptp : Tab (List Nat) := []
deriving DecidableEq, Repr

/-- The test access port (R594): TRST_N as its ball shows it, which a pull-down holds low where it is open, and an instruction
in force that gives the port control of pins. No command of the table drives the port. -/
structure Tap where
  trst : Bool := false
  control : Bool := false
deriving DecidableEq, Repr

/-- The EVT block (R631, R632) and the events of the present tick. -/
structure Evt where
  regs : Tab Word := []
  batch : List Raised := []
  /-- words 1 to 7 of EVT_LAST latched by a read of word 0 -/
  latched : Option (List Word) := none
deriving DecidableEq, Repr

/-- The host queues (chapter 18). -/
structure Hq where
  regs : Tab Word := []
  /-- records waiting in the on-chip buffer of a queue (R517) -/
  buf : Tab (List Record) := []
  /-- epoch marks kept apart while a queue is full: the newest of each source (R517) -/
  mark : Tab (List Record) := []
  /-- a record was dropped since the last one written (R515 LOST) -/
  lost : Tab Bool := []
  /-- sequence number per queue -/
  seq : Tab Nat := []
  /-- written records whose vector has not been signalled (R523) -/
  unsig : Tab Nat := []
  /-- descriptors made available and not completed, oldest first (R513) -/
  desc : Tab (List Desc) := []
  /-- the oldest descriptor of a queue is with its target (R519) -/
  away : Tab Bool := []
  /-- number given to each descriptor sent to another node, and that of a queue's descriptor that is with its target; the
  acknowledgement carries it -/
  descNo : Nat := 0
  awayNo : Tab Nat := []
  /-- completions that wait for the link, oldest first: queue, STATUS, data of a memory read (R524) -/
  late : List (Nat × Word × List Byte) := []
  /-- STATUS of a memory read whose HQ5 record is not written yet, and the records of its kind still to be written, its own
  the last (R522) -/
  result : Option (Nat × Word) := none
  /-- window reads without response, oldest first: node, BAR0 offset, ticks when sent, tag (R510) -/
  reads : List (Nat × Nat × Nat × Nat) := []
  /-- tag of the next window read; its response carries it, so that a late one is known (R510) -/
  tag : Nat := 0
  /-- key writes to a window that wait for the next write to it (R511) -/
  keyHold : Tab (Option Word) := []
deriving DecidableEq, Repr

/-- The whole machine. -/
structure State where
  /-- BAR0 registers outside EVT and HQ, keyed by byte address; an absent key holds its reset value -/
  regs : Tab Word := []
  /-- BAR2 memories, keyed by byte offset; an absent key holds 0, the fill of R452 -/
  mem : List Host.Cell := []
  memi : Memi := {}
  arb : Arb := {}
  lan : Lan := {}
  sys : Sys := {}
  keys : Keys := {}
  tim : Tim := {}
  clk : Clk := {}
  cfg : Cfg := {}
  meas : Meas := {}
  vtx : Vtx := {}
  inp : Inp := {}
  ring : Ring := {}
  par : Par := {}
  mtr : Mtr := {}
  thw : Thw := {}
  flint : Flint := {}
  tap : Tap := {}
  pwm : Pwm := {}
  prot : Prot := {}
  evt : Evt := {}
  hq : Hq := {}
  /-- what the block has sent out, newest first: the model's own field -/
  out : List Out := []
  /-- ticks since the start of the run: the model's own field -/
  now : Nat := 0
  /-- counter of the free values drawn so far: the model's own field -/
  free : Nat := 0
  /-- the commands waiting, first in first out -/
  pending : List Instr := []
deriving DecidableEq, Repr

/-- The machine before its supplies have come into range: the main-domain power-on reset asserted (R554), every register
at its reset value, memories at the fill value, nothing waiting. -/
def State.reset : State := {}

end Sys2Proof.Machine
end

