-- ==== Sys2Proof/Machine/Ops.lean ====
section
/-! DEFINITION. The named operations over tables, registers and memory that every meaning uses. -/

namespace Sys2Proof.Machine

/-! ### Sparse tables -/

/-- The value of key `k`; `d k` where the table lists nothing. -/
def Tab.get {α : Type} (d : Nat → α) : Tab α → Nat → α
  | [], k => d k
  | (j, v) :: t, k => if k = j then v else Tab.get d t k

/-- The table without key `k`. -/
def Tab.erase {α : Type} : Tab α → Nat → Tab α
  | [], _ => []
  | (j, v) :: t, k => if k = j then Tab.erase t k else (j, v) :: Tab.erase t k

/-- A table without key `k` with an entry for it, in front of the first larger key. -/
def Tab.enter {α : Type} : Tab α → Nat → α → Tab α
  | [], k, v => [(k, v)]
  | (j, w) :: t, k, v => if k < j then (k, v) :: (j, w) :: t else (j, w) :: Tab.enter t k v

/-- The table with key `k` at `v`. It keeps the canonical form: keys strictly rising, no entry equal to its default. -/
def Tab.set {α : Type} [DecidableEq α] (d : Nat → α) (t : Tab α) (k : Nat) (v : α) : Tab α :=
  if v = d k then t.erase k else (t.erase k).enter k v

/-- Every key of the table is at least `lo`, keys rise strictly, and no entry equals its default. -/
def Tab.okFrom {α : Type} [DecidableEq α] (d : Nat → α) (lo : Nat) : Tab α → Bool
  | [] => true
  | (j, v) :: t => decide (lo ≤ j) && !(v == d j) && Tab.okFrom d (j + 1) t

/-- The canonical form of a table. -/
abbrev Tab.ok {α : Type} [DecidableEq α] (d : Nat → α) (t : Tab α) : Bool := Tab.okFrom d 0 t

/-- The entry of a table whose entries default to one value. -/
abbrev Tab.at {α : Type} (t : Tab α) (k : Nat) (d : α) : α := Tab.get (fun _ => d) t k

/-- The table with one entry changed, where entries default to one value. -/
abbrev Tab.put {α : Type} [DecidableEq α] (t : Tab α) (k : Nat) (d v : α) : Tab α := Tab.set (fun _ => d) t k v

/-! ### Bit fields -/

/-- Bits [lo + n − 1 : lo] of a register word. -/
def fld (w : Word) (lo n : Nat) : Nat := w.toNat / 2 ^ lo % 2 ^ n

/-- A register word with bits [lo + n − 1 : lo] at `v`. -/
def setFld (w : Word) (lo n v : Nat) : Word :=
  BitVec.ofNat 32 (w.toNat - fld w lo n * 2 ^ lo + v % 2 ^ n * 2 ^ lo)

/-- Bit `i` of a natural number. -/
def bitOf (m i : Nat) : Bool := m / 2 ^ i % 2 == 1

/-- A natural number with bit `i` set or cleared. -/
def withBit (m i : Nat) (b : Bool) : Nat :=
  if bitOf m i = b then m else if b then m + 2 ^ i else m - 2 ^ i

/-- The number of set bits among the lowest `n`. -/
def countBits (m : Nat) : Nat → Nat
  | 0 => 0
  | n + 1 => countBits m n + (if bitOf m n then 1 else 0)

/-- A signed field of `n` bits as an integer. -/
def signed (n v : Nat) : Int := if v < 2 ^ (n - 1) then v else (v : Int) - 2 ^ n

/-- An integer as an `n`-bit two's complement field. -/
def unsigned (n : Nat) (v : Int) : Nat := (v % 2 ^ n).toNat

/-- An integer limited to a range. -/
def clampInt (lo hi v : Int) : Int := max lo (min hi v)

/-- The words of a 32-bit value list given as natural numbers. -/
def words (l : List Nat) : List Word := l.map (BitVec.ofNat 32)

/-! ### Registers -/

/-- The register at a BAR0 address outside EVT and HQ. -/
def State.rg (s : State) (a : Nat) : Word := Tab.get regReset s.regs a

/-- Sets the register at a BAR0 address outside EVT and HQ. -/
def State.wr (s : State) (a : Nat) (v : Word) : State := { s with regs := Tab.set regReset s.regs a v }

/-- A field of a register. -/
def State.rf (s : State) (a lo n : Nat) : Nat := fld (s.rg a) lo n

/-- Sets a field of a register. -/
def State.wf (s : State) (a lo n v : Nat) : State := s.wr a (setFld (s.rg a) lo n v)

/-- One bit of a register. -/
def State.bit (s : State) (a i : Nat) : Bool := s.rf a i 1 == 1

/-- Sets one bit of a register. -/
def State.wbit (s : State) (a i : Nat) (b : Bool) : State := s.wf a i 1 b.toNat

/-- A register as a natural number. -/
def State.rn (s : State) (a : Nat) : Nat := (s.rg a).toNat

/-- Sets a register from a natural number, modulo 2³². -/
def State.wn (s : State) (a v : Nat) : State := s.wr a (BitVec.ofNat 32 v)

/-- Adds to a saturating field. -/
def State.satAdd (s : State) (a lo n k : Nat) : State := s.wf a lo n (min (s.rf a lo n + k) (2 ^ n - 1))

/-- Counts one on a register that saturates at its 32 bits. -/
def State.count (s : State) (a : Nat) : State := s.satAdd a 0 32 1

/-- A register of the EVT block. -/
def State.erg (s : State) (a : Nat) : Word := Tab.get regReset s.evt.regs a

/-- Sets a register of the EVT block. -/
def State.ewr (s : State) (a : Nat) (v : Word) : State := { s with evt.regs := Tab.set regReset s.evt.regs a v }

/-- A register of the HQ block. -/
def State.hrg (s : State) (a : Nat) : Word := Tab.get regReset s.hq.regs a

/-- Sets a register of the HQ block. -/
def State.hwr (s : State) (a : Nat) (v : Word) : State := { s with hq.regs := Tab.set regReset s.hq.regs a v }

/-- A field of a register of the HQ block. -/
def State.hrf (s : State) (a lo n : Nat) : Nat := fld (s.hrg a) lo n

/-- Sets a field of a register of the HQ block. -/
def State.hwf (s : State) (a lo n v : Nat) : State := s.hwr a (setFld (s.hrg a) lo n v)

/-- Any register by its address, as it stands. -/
def State.peek (s : State) (a : Nat) : Word :=
  if a / 0x10000 = 0x16 then s.erg a else if a / 0x10000 = 0x14 then s.hrg a else s.rg a

/-- Sets any register by its address. -/
def State.poke (s : State) (a : Nat) (v : Word) : State :=
  if a / 0x10000 = 0x16 then s.ewr a v else if a / 0x10000 = 0x14 then s.hwr a v else s.wr a v

/-! ### BAR2 memory (R449, R635) -/

/-- One byte of the memories; a byte never written holds the fill value 0 (R452). -/
def State.byte (s : State) (a : Nat) : Byte := Tab.get (fun _ => 0) s.mem a

/-- The canonical form of the memories: offsets strictly rising, no byte at the fill value listed. -/
abbrev Memory.wf (m : List Host.Cell) : Bool := Tab.ok (fun _ => (0 : Byte)) m

/-- An entry of the correction log behind a write to its word (R456): REWRITTEN set, the count cleared. -/
def LogEntry.rewrite (e : LogEntry) : LogEntry := { e with rewritten := true, count := 0 }

/-- The correction log behind a write to word `w`. -/
def rewriteLog (w : Nat) (l : List (Option LogEntry)) : List (Option LogEntry) :=
  l.map fun e => e.map fun e => if e.addr = w then e.rewrite else e

/-- Stores one byte by a normal write: check bits are computed (R450), and a log entry of its word is rewritten (R456). -/
def State.setByte (s : State) (a : Nat) (b : Byte) : State :=
  { s with mem := Tab.set (fun _ => 0) s.mem a b
           memi := { s.memi with log := rewriteLog (a / 8) s.memi.log, raw := s.memi.raw.put (a / 8) none none } }

/-- Stores consecutive bytes from an offset. -/
def State.setBytes (s : State) (a : Nat) : List Byte → State
  | [] => s
  | b :: bs => (s.setByte a b).setBytes (a + 1) bs

/-- The cells of a block of bytes from an offset: those that do not hold the fill value. -/
def blockCells (a : Nat) : List Byte → List Host.Cell
  | [] => []
  | b :: l => if b = 0 then blockCells (a + 1) l else (a, b) :: blockCells (a + 1) l

/-- Stores a block of bytes by normal writes, as `State.setBytes` does byte by byte. -/
def State.storeBlock (s : State) (a : Nat) (l : List Byte) : State :=
  let e := a + l.length
  let words (w : Nat) : Bool := decide (a < 8 * w + 8) && decide (8 * w < e)
  { s with mem := (s.mem.filter fun c => decide (c.1 < a)) ++ blockCells a l ++ s.mem.filter fun c => decide (e ≤ c.1)
           memi := { s.memi with log := s.memi.log.map fun x => x.map fun x => if words x.addr then x.rewrite else x
                                 raw := s.memi.raw.filter fun x => !words x.1 } }

/-- `n` bytes from an offset. -/
def State.bytes (s : State) (a n : Nat) : List Byte := (List.range n).map fun i => s.byte (a + i)

/-- A little-endian number as bytes. -/
def leBytes (v : Nat) : Nat → List Byte
  | 0 => []
  | n + 1 => BitVec.ofNat 8 v :: leBytes (v / 256) n

/-- Bytes as a little-endian number. -/
def leNat : List Byte → Nat
  | [] => 0
  | b :: bs => b.toNat + 256 * leNat bs

/-- A 32-bit little-endian word of memory. -/
def State.mem32 (s : State) (a : Nat) : Word := BitVec.ofNat 32 (leNat (s.bytes a 4))

/-- Stores a 32-bit word. -/
def State.setMem32 (s : State) (a : Nat) (v : Word) : State := s.setBytes a (leBytes v.toNat 4)

/-! ### Small helpers -/

/-- Applies a change for each of the first `n` indices, in order. -/
def State.each (s : State) (n : Nat) (f : State → Nat → State) : State := (List.range n).foldl f s

/-- Appends to the output trace, newest first. -/
def State.emit (s : State) (o : Out) : State := { s with out := o :: s.out }

/-- LAN_CTL[n].LOOP (R490): the serialiser of lane `n` feeds its own deserialiser, the transmit driver is at electrical idle
and the receive input is ignored. -/
def State.looped (s : State) (n : Nat) : Bool := s.bit (Reg.LAN_CTL n) 4

/-- A direction of lane `n` is awake (R495): LAN_LSTAT[n]. -/
def State.awake (s : State) (n : Nat) (tx : Bool) : Bool := s.bit (Reg.LAN_LSTAT n) (if tx then 4 else 5)

/-- What the device sends on lane `n` leaves it: a sleeping transmit direction (R495) and one in loop drive electrical idle. -/
def State.sends (s : State) (n : Nat) : Bool := s.awake n true && !s.looped n

/-- What reaches lane `n` is received: the direction is awake, not in loop, and not hunting (R484, R490, R495). A station port
receives while its link is up (R498). -/
def State.receives (s : State) (n : Nat) : Bool :=
  s.awake n false && !s.looped n &&
    (if n = 4 ∨ n = 5 then s.bit (Reg.LAN_ETH_STAT (n - 4)) 0 else s.bit (Reg.LAN_LSTAT n) 0)

/-- Sends on lane `n`. -/
def State.send (s : State) (n : Nat) (o : Out) : State := if s.sends n then s.emit o else s

/-- Sends an Ethernet frame on station port `p` and counts it in LAN_TXOK (R500, R503). -/
def State.sendEth (s : State) (p kind : Nat) : State :=
  if s.sends (4 + p) then (s.count (Reg.LAN_TXOK p)).emit (.eth p kind) else s

/-- Entries of the ring of a queue: 2^SIZE (R512). -/
def State.qSize (s : State) (q : Nat) : Nat := 2 ^ s.hrf (Reg.HQ_QCFG q) 4 5

/-- Head and tail pointers (R513). -/
def State.qHead (s : State) (q : Nat) : Nat := s.hrf (Reg.HQ_HEAD q) 0 16
def State.qTail (s : State) (q : Nat) : Nat := s.hrf (Reg.HQ_TAIL q) 0 16

/-- Entries between head and tail. -/
def State.qUsed (s : State) (q : Nat) : Nat := (s.qTail q + s.qSize q - s.qHead q % s.qSize q) % s.qSize q

/-- The queue is full: the next tail equals the head (R513). -/
def State.qFull (s : State) (q : Nat) : Bool := decide (s.qSize q ≤ s.qUsed q + 1)

/-- Measurement point `k`. -/
def State.point (s : State) (k : Nat) : MtrPoint := s.mtr.points.at k {}

/-- Sets it. -/
def State.setPoint (s : State) (k : Nat) (p : MtrPoint) : State := { s with mtr.points := s.mtr.points.put k {} p }

/-- Draws a fresh index for a free value. -/
def State.draw (s : State) : State := { s with free := s.free + 1 }

/-- The change `f` where the condition holds. -/
def State.doIf (s : State) (b : Bool) (f : State → State) : State := if b then f s else s

/-- The main domain is out of reset. -/
def State.onMain (s : State) : Bool := !s.sys.por && !s.sys.prst

/-- The main domain is out of reset, and its clocks run (R84). -/
def State.running (s : State) : Bool := s.onMain && !s.clk.stopped

end Sys2Proof.Machine
end

