-- ==== Sys2Proof/Machine/Crypto.lean ====
section
/-! DEFINITION. Check sums (R41, R42), and the digest and signature of an image (R39, R43): SHA-256, ECDSA on P-256. -/

namespace Sys2Proof.Machine

/-- One bit of a reflected CRC. -/
def crcBit (poly c : Word) : Word := if c.getLsbD 0 then (c >>> 1) ^^^ poly else c >>> 1

/-- One byte of a reflected CRC. -/
def crcByte (poly c : Word) (b : Byte) : Word :=
  let c := c ^^^ b.zeroExtend 32
  crcBit poly (crcBit poly (crcBit poly (crcBit poly (crcBit poly (crcBit poly (crcBit poly (crcBit poly c)))))))

/-- A reflected CRC of a list of bytes with initial value and final XOR 0xFFFF_FFFF. -/
def crcOf (poly : Word) (l : List Byte) : Word := l.foldl (crcByte poly) 0xffffffff ^^^ 0xffffffff

/-- CRC-32 (R41): polynomial 0x04C1_1DB7, reflected. -/
def crc32 (l : List Byte) : Word := crcOf 0xedb88320 l

/-- CRC-32C (R42): polynomial 0x1EDC_6F41, reflected. -/
def crc32c (l : List Byte) : Word := crcOf 0x82f63b78 l

/-! ### SHA-256 -/

/-- The first primes, 64 of them: those below 312. -/
def primes : List Nat := (List.range 312).filter fun p => 2 ≤ p && (List.range p).all fun d => d < 2 || p % d != 0

/-- The largest `x` below 2^36 with xᵏ at most `v`, bit by bit from above. -/
def rootOf (k v : Nat) : Nat :=
  (List.range 36).foldr (fun i x => if (x + 2 ^ i) ^ k ≤ v then x + 2 ^ i else x) 0

/-- The first 32 bits of the fraction of the `k`-th root of `p`. -/
def rootFraction (k p : Nat) : Word := BitVec.ofNat 32 (rootOf k (p * 2 ^ (32 * k)))

/-- The initial hash value: square roots of the first eight primes. -/
def shaInit : List Word := (primes.take 8).map (rootFraction 2)

/-- The round constants: cube roots of the first 64 primes. -/
def shaK : List Word := primes.map (rootFraction 3)

/-- The 64 bytes of a block as big-endian words. -/
def beWords : List Byte → List Word
  | a :: b :: c :: d :: l => (a ++ b ++ c ++ d : BitVec 32) :: beWords l
  | _ => []

/-- The message schedule, newest word first, `n` words further. -/
def shaSchedule (w : List Word) : Nat → List Word
  | 0 => w
  | n + 1 =>
    let x := w.getD 1 0
    let y := w.getD 14 0
    let s1 := x.rotateRight 17 ^^^ x.rotateRight 19 ^^^ (x >>> 10)
    let s0 := y.rotateRight 7 ^^^ y.rotateRight 18 ^^^ (y >>> 3)
    shaSchedule ((s1 + w.getD 6 0 + s0 + w.getD 15 0) :: w) n

/-- One round over the working variables a to h. -/
def shaRound (v : List Word) (kw : Word × Word) : List Word :=
  match v with
  | [a, b, c, d, e, f, g, h] =>
    let s1 := e.rotateRight 6 ^^^ e.rotateRight 11 ^^^ e.rotateRight 25
    let t1 := h + s1 + ((e &&& f) ^^^ (~~~e &&& g)) + kw.1 + kw.2
    let s0 := a.rotateRight 2 ^^^ a.rotateRight 13 ^^^ a.rotateRight 22
    let t2 := s0 + ((a &&& b) ^^^ (a &&& c) ^^^ (b &&& c))
    [t1 + t2, a, b, c, d + t1, e, f, g]
  | _ => v

/-- One block. -/
def shaBlock (h : List Word) (b : List Byte) : List Word :=
  let w := (shaSchedule (beWords b).reverse 48).reverse
  let v := (shaK.zip w).foldl shaRound h
  (h.zip v).map fun p => p.1 + p.2

/-- The blocks of a padded message. -/
def shaBlocks (h : List Word) (l : List Byte) : Nat → List Word
  | 0 => h
  | n + 1 => shaBlocks (shaBlock h (l.take 64)) (l.drop 64) n

/-- A number as `n` big-endian bytes. -/
def beBytes (v : Nat) : Nat → List Byte
  | 0 => []
  | n + 1 => BitVec.ofNat 8 (v / 256 ^ n) :: beBytes v n

/-- Big-endian bytes as a number. -/
def beNat (l : List Byte) : Nat := l.foldl (fun a b => 256 * a + b.toNat) 0

/-- SHA-256 of a list of bytes. -/
def sha256 (l : List Byte) : List Byte :=
  let z := (119 - l.length % 64) % 64
  let m := l ++ 0x80 :: (List.replicate z 0 ++ beBytes (8 * l.length) 8)
  (shaBlocks shaInit m (m.length / 64)).flatMap fun w => beBytes w.toNat 4

/-! ### ECDSA on P-256 -/

/-- The field prime, the group order, the coefficient b and the base point. -/
def ecP : Nat := 0xffffffff00000001000000000000000000000000ffffffffffffffffffffffff
def ecN : Nat := 0xffffffff00000000ffffffffffffffffbce6faada7179e84f3b9cac2fc632551
def ecB : Nat := 0x5ac635d8aa3a93e7b3ebbd55769886bc651d06b0cc53b0f63bce3c3e27d2604b
def ecG : Nat × Nat :=
  (0x6b17d1f2e12c4247f8bce6e563a440f277037d812deb33a0f4a13945d898c296,
   0x4fe342e2fe1a7f9b8ee7eb4a7c0f9e162bce33576b315ececbb6406837bf51f5)

/-- A power modulo `m`, over the lowest bits of the exponent. -/
def powMod (m b e : Nat) : Nat → Nat
  | 0 => 1
  | k + 1 =>
    let h := powMod m (b * b % m) (e / 2) k
    if e % 2 = 1 then b * h % m else h

/-- The inverse modulo a prime. -/
def invMod (m a : Nat) : Nat := powMod m a (m - 2) 256

/-- The third point on a line of slope `l` through `a` and `b`. -/
def ecThird (l : Nat) (a b : Nat × Nat) : Nat × Nat :=
  let x := (l * l + 2 * ecP - a.1 - b.1) % ecP
  (x, (l * (a.1 + ecP - x) + ecP - a.2) % ecP)

/-- The sum of two points; none is the point at infinity. -/
def ecAdd : Option (Nat × Nat) → Option (Nat × Nat) → Option (Nat × Nat)
  | none, q => q
  | p, none => p
  | some a, some b =>
    if a.1 ≠ b.1 then some (ecThird ((b.2 + ecP - a.2) * invMod ecP ((b.1 + ecP - a.1) % ecP) % ecP) a b)
    else if (a.2 + b.2) % ecP = 0 then none
    else some (ecThird ((3 * a.1 * a.1 + ecP - 3) * invMod ecP (2 * a.2 % ecP) % ecP) a b)

/-- A multiple of a point, over the lowest bits of the factor. -/
def ecMul (p : Option (Nat × Nat)) (e : Nat) : Nat → Option (Nat × Nat)
  | 0 => none
  | k + 1 =>
    let h := ecMul (ecAdd p p) (e / 2) k
    if e % 2 = 1 then ecAdd p h else h

/-- The signature (r, s) over a digest verifies under the public key. -/
def ecdsaOk (key : Nat × Nat) (digest r s : Nat) : Bool :=
  let onCurve := decide (key.1 < ecP ∧ key.2 < ecP ∧
    key.2 * key.2 % ecP = (key.1 ^ 3 + (ecP - 3) * key.1 + ecB) % ecP)
  let w := invMod ecN s
  let p := ecAdd (ecMul (some ecG) (digest * w % ecN) 256) (ecMul (some key) (r * w % ecN) 256)
  onCurve && decide (0 < r ∧ r < ecN ∧ 0 < s ∧ s < ecN) && (match p with | some q => q.1 % ecN == r | none => false)

end Sys2Proof.Machine
end

