-- ==== Sys2Proof/Machine/Flags.lean ====
section
/-! DEFINITION. Events: their class (R351 to R356), the counters and the newest-record window of the EVT block
(R631, R632), the record buffers toward the host (R515 to R517), and the order in which the events of one tick are
queued (R361). -/

namespace Sys2Proof.Machine

/-! ### Classes -/

/-- The codes of class SAFETY (R353). -/
def safetyCodes : List Nat := [0x0901, 0x0902, 0x0903, 0x0904, 0x0905, 0x0906, 0x0907]

/-- The codes of class DEVICE (R353). -/
def deviceCodes : List Nat :=
  [0x0110, 0x0111, 0x0112, 0x0113, 0x0210, 0x0502, 0x0706, 0x0f03, 0x0f05, 0x1001]

/-- The codes of class CLUSTER (R353). -/
def clusterCodes : List Nat := [0x0505, 0x060a, 0x060b, 0x0804, 0x0805, 0x0809, 0x0814]

/-- The codes of class CELL (R353). -/
def cellCodes : List Nat := [0x0803, 0x0807, 0x0808, 0x0812, 0x0813]

/-- The codes of class SWITCH (R353). -/
def switchCodes : List Nat := [0x0801, 0x0802]

/-- The codes of class WARN (R356) but the configuration range. -/
def warnCodes : List Nat :=
  [0x0102, 0x0103, 0x0104, 0x0108, 0x0203, 0x0221, 0x0222, 0x0401, 0x0403, 0x0404, 0x0412, 0x0414,
   0x0501, 0x0504, 0x0506, 0x0510, 0x0601, 0x0602, 0x0603, 0x0604, 0x0605, 0x0609, 0x060c, 0x060d, 0x060e, 0x060f,
   0x0704, 0x0705, 0x0806, 0x0810, 0x0811, 0x0821, 0x0a01, 0x0a03, 0x0a04, 0x0a05, 0x0a06,
   0x0b01, 0x0b02, 0x0b03, 0x0b04, 0x0b05, 0x0c02, 0x0c03, 0x0c04, 0x0d01, 0x0d03, 0x0e01, 0x0e02,
   0x0f01, 0x0f02, 0x0f04, 0x0f06, 0x0f07, 0x1002]

/-- The class of an event code as R631 numbers it: 0 INFO, 1 WARN, 2 SWITCH, 3 CELL, 4 CLUSTER, 5 DEVICE, 6 SAFETY. -/
def eventClass (c : Nat) : Nat :=
  if c ∈ safetyCodes then 6
  else if c ∈ deviceCodes then 5
  else if c ∈ clusterCodes then 4
  else if c ∈ cellCodes then 3
  else if c ∈ switchCodes then 2
  else if c ∈ warnCodes ∨ (0x0301 ≤ c ∧ c ≤ 0x0326) then 1
  else 0

/-- The allocated event codes (R633), as closed ranges. -/
def codeRanges : List (Nat × Nat) :=
  [(0x0101, 0x0108), (0x0110, 0x0113), (0x0201, 0x0205), (0x0210, 0x0211), (0x0220, 0x0222),
   (0x0301, 0x0316), (0x0320, 0x0326), (0x0340, 0x0341), (0x0401, 0x0404), (0x0410, 0x0414),
   (0x0501, 0x0506), (0x0510, 0x0510), (0x0540, 0x057f), (0x0601, 0x060f), (0x0701, 0x0706),
   (0x0801, 0x0809), (0x0810, 0x0814), (0x0820, 0x0821), (0x0901, 0x0907), (0x0910, 0x0915),
   (0x0a01, 0x0a09), (0x0b01, 0x0b05), (0x0b10, 0x0b10), (0x0b13, 0x0b14), (0x0c01, 0x0c07),
   (0x0d01, 0x0d06), (0x0e01, 0x0e06), (0x0f01, 0x0f0b), (0x0f10, 0x0f14), (0x1001, 0x1008)]

/-- A code R633 allocates. -/
def codeDefined (c : Nat) : Bool := codeRanges.any fun r => decide (r.1 ≤ c) && decide (c ≤ r.2)

/-! ### Raising -/

/-- Adds an event to the present tick: code, unit and data words (R640), stamped with TS32 (R93). -/
def State.raise (s : State) (code unit : Nat) (data : List Nat) : State :=
  { s with evt.batch := s.evt.batch ++ [{ ev := { code, unit, data := words data, ts32 := s.tim.ts32 } }] }

/-- Attaches the 0x0804 of a cluster fault to the event that caused it, the last one raised (R354). -/
def attach804 (e : Event) : List Raised → List Raised
  | [] => [{ ev := e }]
  | [r] => [{ r with cluster := some e }]
  | r :: rs => r :: attach804 e rs

/-- Raises 0x0804 directly behind the event raised last (R354, R361). -/
def State.raise804 (s : State) (cause ncell : Nat) : State :=
  { s with evt.batch := attach804 { code := 0x0804, data := words [cause, ncell], ts32 := s.tim.ts32 } s.evt.batch }

/-! ### Records -/

/-- The number of 32-byte entries a record occupies (R515, R640). -/
def Record.entries (r : Record) : Nat := 1 + (r.ev.data.length - 5 + 6) / 7

/-- The first `n` words of a list, padded with zeros. -/
def padWords (l : List Word) (n : Nat) : List Word := (List.range n).map fun i => l.getD i 0

/-- The 32 bytes of the first entry of a record as eight words (R515). -/
def Record.first (r : Record) : List Word :=
  [BitVec.ofNat 32 (r.ev.code % 65536 + (r.entries - 1) % 8 * 65536 + r.lost.toNat * 524288 + r.src % 256 * 16777216),
   r.ev.ts32, BitVec.ofNat 32 (r.ev.unit % 65536 + r.seq % 65536 * 65536)] ++ padWords r.ev.data 5

/-- Entry `i` of a record as eight words (R515): a further entry repeats the first word with FLAGS[2:0] = 0. -/
def Record.entry (r : Record) (i : Nat) : List Word :=
  match i with
  | 0 => r.first
  | j + 1 =>
    BitVec.ofNat 32 (r.ev.code % 65536 + r.lost.toNat * 524288 + r.src % 256 * 16777216) ::
      padWords (r.ev.data.drop (5 + 7 * j)) 7

/-- The SRC byte of this device's own records (R515). -/
def State.ownSrc (s : State) : Nat := s.rf Reg.GLB_STRAP 0 7

/-- The entries buffered on a queue. -/
def bufEntries (l : List Record) : Nat := (l.map Record.entries).sum

/-- A record of queue `q` is dropped (R517): counted, and LOST of the next record written. Answers true when it sets OVF
newly. -/
def State.dropRecord (s : State) (q : Nat) : State × Bool :=
  let s := { s with hq.lost := s.hq.lost.put q false true }
  let s := s.hwf (Reg.HQ_DROP q) 0 32 (min (s.hrf (Reg.HQ_DROP q) 0 32 + 1) 0xffffffff)
  let told := bitOf (s.hrf Reg.HQ_FLAGS 0 16) q
  (s.hwf Reg.HQ_FLAGS q 1 1, !told)

/-- Puts a record into the buffer of queue `q` (R517): dropped when the 256 entries do not hold it. The newest epoch mark of a
source is kept apart instead, and while the queue is full; the older one it replaces there is the record dropped. Answers true
when a drop sets OVF newly. -/
def State.enqueue (s : State) (q : Nat) (r : Record) : State × Bool :=
  let b := s.hq.buf.at q []
  let room := decide (bufEntries b + r.entries ≤ 256)
  if r.ev.code = 0x0201 && (!room || s.qFull q) then
    let old := s.hq.mark.at q []
    let others := old.filter fun m => m.src != r.src
    let s := { s with hq.mark := s.hq.mark.put q [] (others ++ [r]) }
    if others.length = old.length then (s, false) else s.dropRecord q
  else if room then
    ({ s with hq.buf := s.hq.buf.put q [] (b ++ [r]) }.hwf (Reg.HQ_BUF q) 0 9 (bufEntries b + r.entries), false)
  else s.dropRecord q

/-- A record of this device: it takes the number of the queue's sequence, whether it is kept or dropped. -/
def State.buffer (s : State) (q : Nat) (r : Record) : State × Bool :=
  let n := s.hq.seq.at q 0
  ({ s with hq.seq := s.hq.seq.put q 0 ((n + 1) % 65536) } : State).enqueue q { r with seq := n }

/-! ### The EVT block -/

/-- Counts an event in EVT_CNT, EVT_BLK, EVT_FLAGS and EVT_STAT (R631, R632). -/
def State.countEvent (s : State) (e : Event) : State :=
  let k := eventClass e.code
  let s := s.ewr (Reg.EVT_CNT k) (BitVec.ofNat 32 (min ((s.erg (Reg.EVT_CNT k)).toNat + 1) 0xffffffff))
  let h := Reg.EVT_BLK (e.code / 256)
  let s := s.ewr h (BitVec.ofNat 32 (min ((s.erg h).toNat + 1) 0xffffffff))
  let s := s.ewr Reg.EVT_FLAGS (setFld (s.erg Reg.EVT_FLAGS) k 1 1)
  s.ewr Reg.EVT_STAT (setFld (s.erg Reg.EVT_STAT) 0 3 (max k (fld (s.erg Reg.EVT_STAT) 0 3)))

/-- Writes eight words to EVT_LAST from word `i` on. -/
def State.writeLast (s : State) (i : Nat) : List Word → State
  | [] => s
  | w :: ws => (s.ewr (Reg.EVT_LAST i) w).writeLast (i + 1) ws

/-- The newest record of class CLUSTER or above goes to EVT_LAST, or waits while words 1 to 7 are latched (R632, R638). -/
def State.keepLast (s : State) (r : Record) : State :=
  if eventClass r.ev.code < 4 then s
  else match s.evt.latched with
    | some _ => { s with evt.latched := some r.first }
    | none => (s.writeLast 0 r.first).ewr Reg.EVT_STAT (setFld (s.erg Reg.EVT_STAT) 8 1 1)

/-- EVT_FILTER suppresses an INFO or WARN event on HQ0; never the epoch mark (R631, R632). -/
def State.filtered (s : State) (e : Event) : Bool :=
  e.code != 0x0201 && (eventClass e.code == 0 && fld (s.erg Reg.EVT_FILTER) 0 1 == 1 ||
    eventClass e.code == 1 && fld (s.erg Reg.EVT_FILTER) 1 1 == 1)

/-- Queues one event without following up an overflow of HQ0. -/
def State.queueOnce (s : State) (e : Event) : State × Bool :=
  let s := s.countEvent e
  let r : Record := { ev := e, src := s.ownSrc, seq := s.hq.seq.at 0 0 }
  let s := s.keepLast r
  if s.filtered e then (s, false) else s.buffer 0 r

/-- Queues one event; a drop raises 0x0E01 once until the flag is cleared (R517). -/
def State.queueEvent (s : State) (e : Event) : State :=
  match s.queueOnce e with
  | (s, false) => s
  | (s, true) => (s.queueOnce { code := 0x0e01, data := words [0, (s.hrg (Reg.HQ_DROP 0)).toNat], ts32 := s.tim.ts32 }).1

/-- What a drop on one of HQ1 to HQ5 raises: 0x0E01, once until its flag is cleared (R517). -/
def State.overflowed (s : State) (q : Nat) (newly : Bool) : State :=
  if newly then s.raise 0x0e01 q [q, (s.hrg (Reg.HQ_DROP q)).toNat] else s

/-- Puts an event record of this device on one of HQ1 to HQ5. -/
def State.reportEvent (s : State) (q : Nat) (e : Event) : State :=
  let x := s.buffer q { ev := e, src := s.ownSrc }
  x.1.overflowed q x.2

/-- Puts a record on one of HQ1 to HQ5. -/
def State.report (s : State) (q : Nat) (code unit : Nat) (data : List Nat) : State :=
  s.reportEvent q { code, unit, data := words data, ts32 := s.tim.ts32 }

/-- The epoch mark (R94, R516): an event on HQ0 and a record on every enabled queue HQ1 to HQ5. -/
def State.epochMark (s : State) : State :=
  let e : Event :=
    { code := 0x0201, ts32 := s.tim.ts32
      data := words [s.tim.s, s.tim.s / 4294967296 % 65536 + s.tim.ns % 65536 * 65536,
                     s.tim.ns / 65536 + s.rf Reg.TIM_STAT 0 2 * 65536] }
  let s := [1, 2, 3, 4, 5].foldl (fun s q =>
    if s.hrf (Reg.HQ_QCFG q) 0 1 = 1 then s.reportEvent q e else s) s
  { s with evt.batch := s.evt.batch ++ [{ ev := e }] }

/-! ### The end of a command -/

/-- The rank of an event in the order of R361: the epoch mark, then class from SAFETY down, then the code. -/
def eventRank (e : Event) : Nat :=
  if e.code = 0x0201 then 0 else (7 - eventClass e.code) * 65536 + e.code

/-- Inserts an event behind those of equal or lower rank. -/
def insertRaised (r : Raised) : List Raised → List Raised
  | [] => [r]
  | x :: xs => if eventRank x.ev ≤ eventRank r.ev then x :: insertRaised r xs else r :: x :: xs

/-- The events of a tick in the order of R361. -/
def orderRaised (l : List Raised) : List Raised := l.foldl (fun acc r => insertRaised r acc) []

/-- The events of a tick as R361 and R354 queue them: each with its 0x0804 directly behind it. -/
def flatRaised : List Raised → List Event
  | [] => []
  | r :: rs => (match r.cluster with | none => [r.ev] | some c => [r.ev, c]) ++ flatRaised rs

/-- The queue order of the events raised in the present tick (R361). -/
def State.ordered (s : State) : List Event := flatRaised (orderRaised s.evt.batch)

/-- Queues the events raised in the present tick and empties the batch. -/
def State.flush (s : State) : State :=
  let s' := s.ordered.foldl State.queueEvent s
  { s' with evt.batch := [] }

/-- The outcome of a command that completes: its events are queued (R361). -/
def State.finish (s : State) : Host.Outcome State Fault Refusal := .next s.flush

/-- The outcome of a command of the main domain: nothing happens while the domain is in reset (R554) or its root has stopped
(R84). -/
def State.main (s : State) (f : State → State) : Host.Outcome State Fault Refusal :=
  State.finish (if s.running then f s else s)

/-- The outcome of a host access, or of what Flint itself sees of the root. DEDUCED: a stopped root does not keep a host access
out, since R85 lets a soft reset end the fault. -/
def State.access (s : State) (f : State → State) : Host.Outcome State Fault Refusal :=
  State.finish (if s.onMain then f s else s)

/-- A command that brings what reaches lane `n`: without effect where the lane does not receive. -/
def State.heard (s : State) (n : Nat) (f : State → State) : Host.Outcome State Fault Refusal :=
  s.main fun s => if s.receives n then f s else s

end Sys2Proof.Machine
end

