-- ==== Sys2Proof/Machine/Pads.lean ====
section
/-! DEFINITION. The pads of the gate and bypass outputs: which level of R358 commands a switch, what that level asks of
the ball, and the operation that brings every ball in line with it (R7, R288, R328, R332, R335, R339, R358, R565). -/

namespace Sys2Proof.Machine

/-! ### Where the device stands -/

/-- GLB_STAT.STATE (R575). -/
def State.devState (s : State) : Nat := s.rf Reg.GLB_STAT 0 4

/-- Halted means that the gate outputs are not enabled (R50): any state but RUN. -/
def State.halted (s : State) : Bool := s.devState != 7

/-- PAR_STAT.STATE (R421): 0 HALTED, 1 STANDBY, 2 TAKING, 3 ACTIVE. -/
def State.pairState (s : State) : Nat := s.rf Reg.PAR_STAT 0 2

/-- The gate outputs are enabled: PWM_STAT.OUTEN (R318). -/
def State.outEn (s : State) : Bool := s.bit Reg.PWM_STAT 8

/-- COMPAT strap as latched (R66). -/
def State.compat (s : State) : Bool := s.bit Reg.GLB_STRAP 7

/-- The image pattern is FSP_BYPASS (R26, R348). -/
def State.bypassPattern (s : State) : Bool := s.bit Reg.GPR_PSTAT 1

/-- Cell `c` is populated (R7). -/
def State.populated (s : State) (c : Nat) : Bool := bitOf s.cfg.pop c

/-- Leg pair `q` is enabled and its cell populated (R288). -/
def State.pairEnabled (s : State) (q : Nat) : Bool := s.bit (Reg.PWM_PCFG q) 3 && s.populated (q / 4)

/-- The state of leg pair `q`. -/
def State.pair (s : State) (q : Nat) : Pair := s.pwm.pairs.at q {}

/-- Sets the state of leg pair `q`. -/
def State.setPair (s : State) (q : Nat) (p : Pair) : State := { s with pwm.pairs := s.pwm.pairs.put q {} p }

/-- Switch `g` is latched off (R328). -/
def State.latched (s : State) (g : Nat) : Bool := s.bit (Reg.GPR_SWLAT (g / 32)) (g % 32)

/-- Sets or clears the latch of switch `g`. -/
def State.setLatch (s : State) (g : Nat) (b : Bool) : State := s.wbit (Reg.GPR_SWLAT (g / 32)) (g % 32) b

/-- Cell `c` is in its cell fail-safe state (R332). -/
def State.cellFs (s : State) (c : Nat) : Bool := s.bit Reg.GPR_CELLFS c

/-- The level of GATE_O[g]. -/
def State.gate (s : State) (g : Nat) : Bool := s.prot.gate.at g false

/-- Drives GATE_O[g]. -/
def State.setGate (s : State) (g : Nat) (b : Bool) : State := { s with prot.gate := s.prot.gate.put g false b }

/-- A stack trip is latched and applies the pattern: RNG_TRIPCFG.ACT (R265). -/
def State.tripPattern (s : State) : Bool := s.bit Reg.RNG_STAT 8 && s.bit Reg.RNG_TRIPCFG 3

/-- Level 4 of R358: a cluster fault, a trip input, or a stack trip with ACT. -/
def State.clusterPattern (s : State) : Bool :=
  s.bit Reg.GPR_PSTAT 0 || s.rf Reg.GPR_TRIPI 8 4 != 0 || s.tripPattern

/-! ### Commands at the ball -/

/-- What a level of R358 asks of a switch: off, on under a pattern once FS_DT allows it,
or the generator's command. -/
inductive PadCmd where
  | off | on | gen (level : Bool)
deriving DecidableEq, Repr

/-- The image's fail-safe pattern for a switch (R26): under FSP_BYPASS the HV lower switches on. -/
def State.patternOn (s : State) (g : Nat) : Bool := s.bypassPattern && (g % 8 == 1 || g % 8 == 3)

/-- The cell fail-safe command of a switch (R332): the HV lower switches on. -/
def cellPatternOn (g : Nat) : Bool := g % 8 == 1 || g % 8 == 3

/-- A pattern as a pad command. -/
def PadCmd.ofPattern (b : Bool) : PadCmd := if b then .on else .off

/-- With COMPAT high the other switch of a latched switch's leg is held off while that latch stands (R327). -/
def State.legHeld (s : State) (g : Nat) : Bool :=
  s.compat && s.latched (if g % 2 = 0 then g + 1 else g - 1)

/-- The gate I/O bank of channel `g` has its supply (R555). -/
def State.bankOk (s : State) (b : Nat) : Bool := s.sys.bank.at b false

/-- The command of switch `g` at its ball: the first applicable level of R358. -/
def State.padCmd (s : State) (g : Nat) : PadCmd :=
  if !s.bankOk (g / 24) then .off
  else match s.sys.hold with
  | some l => PadCmd.ofPattern (l.contains g)
  | none =>
    if !s.onMain || !s.pairEnabled (g / 2) then .off
    else if s.latched g || s.legHeld g then .off
    else if !s.sys.armed then .off
    else if s.clk.override then PadCmd.ofPattern (s.patternOn g)
    else if s.cellFs (g / 8) then PadCmd.ofPattern (cellPatternOn g)
    else if s.clusterPattern || !s.outEn then PadCmd.ofPattern (s.patternOn g)
    else if (s.pair (g / 2)).hold then
      PadCmd.ofPattern (if (s.pair (g / 2)).freed = some true then cellPatternOn g else s.patternOn g)
    else if !(s.pair (g / 2)).started then .off
    else .gen (if g % 2 = 0 then (s.pair (g / 2)).up else (s.pair (g / 2)).low)

/-- Brings GATE_O[g] in line with its command. A switch that a pattern turns on waits for FS_DT_TURN_ON (R335); one that
is already on under the pattern stays on. -/
def State.settleGate (s : State) (g : Nat) : State :=
  match s.padCmd g with
  | .off => s.setGate g false
  | .on => s
  | .gen b => s.setGate g b

/-- The populated cells without an enabled pair. -/
def State.pairless (s : State) : Nat := (List.range 24).foldl (fun m c =>
  if s.populated c && !(List.range 4).any fun i => s.pairEnabled (4 * c + i) then m + 2 ^ c else m) 0

/-- A pair of cell `c` holds the image pattern until its release, with BYP_O (R289, R411, R413); a cell without an enabled pair
does so for the 8 µs of R27. -/
def State.heldCell (s : State) (c : Nat) : Bool := bitOf s.prot.bypWait c || (List.range 4).any fun i =>
  s.pairEnabled (4 * c + i) && (s.pair (4 * c + i)).hold && (s.pair (4 * c + i)).freed.isNone

/-- BYP_O[c] by R339 and R358: high under level 3, or under levels 2 and 4 with FSP_BYPASS on a populated cell. -/
def State.bypCmd (s : State) (c : Nat) : Bool :=
  match s.sys.hold with
  | some _ => bitOf s.sys.holdByp c
  | none =>
    s.onMain && s.populated c && s.sys.armed &&
      (if s.clk.override then s.bypassPattern
       else s.cellFs c || (s.bypassPattern && (s.clusterPattern || !s.outEn || s.heldCell c)))

/-! ### The balls under the test access port (R594) -/

/-- An instruction of the test access port has control of the pins: the port is out of reset. -/
def State.pinControl (s : State) : Bool := s.tap.trst && s.tap.control

/-- The level of the balls GATE_O[g], BYP_O[c] and HB_OUT (running): low under pin control. -/
def State.gateBall (s : State) (g : Nat) : Bool := s.gate g && !s.pinControl
def State.bypBall (s : State) (c : Nat) : Bool := bitOf s.prot.byp c && !s.pinControl
def State.hbBall (s : State) : Bool := s.sys.hbOut && !s.pinControl

/-- The BYP_O levels of all cells as a mask. -/
def State.bypMask (s : State) : Nat :=
  (List.range 24).foldl (fun m c => if s.bypCmd c then m + 2 ^ c else m) 0

/-- Brings the BYP_O balls in line and shows them in GPR_BYPO. -/
def State.settleByp (s : State) : State :=
  let m := s.bypMask
  let s := { s with prot.byp := m }
  if s.onMain then s.wn Reg.GPR_BYPO m else s

/-- Brings the balls of cell `c` in line. -/
def State.settleCell (s : State) (c : Nat) : State :=
  (s.each 8 fun s i => s.settleGate (8 * c + i)).settleByp

/-- Brings every ball in line. -/
def State.settle (s : State) : State := (s.each 192 State.settleGate).settleByp

/-- The end of the 8 µs of R27 for the cells without an enabled pair. DESIGN CHOICE: BYP_O falls with the first control period
boundary behind it, since no leg pair gives such a cell a boundary of its own (R413). -/
def State.bypFree (s : State) : State :=
  if s.prot.bypWait = 0 || !s.outEn || decide (s.now < s.par.hbAt + 2500) then s
  else State.settleByp { s with prot.bypWait := 0 }

/-- Cancels every turn-on the generator has pending for leg pair `q` (R335). -/
def State.cancelPending (s : State) (q : Nat) : State :=
  s.setPair q { s.pair q with pend := none }

/-- Cancels the pending turn-ons of cell `c`. -/
def State.cancelCell (s : State) (c : Nat) : State := s.each 4 fun s i => s.cancelPending (4 * c + i)

/-- Cancels every pending turn-on. -/
def State.cancelAll (s : State) : State := s.each 96 State.cancelPending

/-- A pattern turn-on whose FS_DT has run out (R335): the switch turns on if its pattern still holds it on and the other
switch of its leg is off at the ball. -/
def State.patternTurnOn (s : State) (g : Nat) : State :=
  if s.padCmd g = .on && !s.gate (if g % 2 = 0 then g + 1 else g - 1) then s.setGate g true else s

end Sys2Proof.Machine
end

