-- ==== Sys2Proof/Machine/Reactions.lean ====
section
/-! DEFINITION. The shared reactions of the block: refusals and their reports (R54, R59), the key slots (R626 to R629),
the heartbeat, halting (R334, R565), stack trips (R263 to R266), planned handover requests (R357, R416), latch vectors
(R408), cell faults (R331, R332) and the cluster fault reaction (R333). -/

namespace Sys2Proof.Machine

/-! ### Refusals -/

/-- A refused write (R54, R628): CFG_REFUSE_CNT counts it, CFG_REFUSE_ADDR records it, event 0x0300 | code. -/
def State.refuse (s : State) (addr code : Nat) : State :=
  ((s.count Reg.CFG_REFUSE_CNT).wn Reg.CFG_REFUSE_ADDR addr).raise (0x0300 + code) 0 [addr]

/-! ### Keys -/

/-- The number of a write source as GLB_KEYREF.SRC reports it (R625). -/
def srcNum : Src → Nat
  | .pcie => 0 | .tunnel => 1 | .list => 2

/-- The keyed registers and their keys (R626). -/
def keyTable : List (Nat × Nat) :=
  [(Reg.GLB_CTRL, 0x5a3c), (Reg.GLB_FLTREQ, 0x5af1), (Reg.CLK_CTRL, 0xc7a2), (Reg.TIM_CTRL, 0x7e15),
   (Reg.CFG_LOAD, 0xc1d0), (Reg.VTX_CTRL, 0x3d60), (Reg.GPR_CLR, 0x8c2b), (Reg.RNG_CTRL, 0x6b4e),
   (Reg.PAR_CTRL, 0xa4d7), (Reg.MTR_CTRL, 0x9e53), (Reg.MEM_TEST, 0xe7c4), (Reg.THW_CTRL, 0xf0b9)]

/-- The key of a keyed register; none for any other address. -/
def keyOf (a : Nat) : Option Nat := (keyTable.find? fun p => p.1 == a).map Prod.snd

/-- The key slot of a source. -/
def State.slot (s : State) (src : Src) : KeySlot := s.keys.slots.at (srcNum src) {}

/-- Sets the key slot of a source. -/
def State.setSlot (s : State) (src : Src) (k : KeySlot) : State :=
  { s with keys.slots := s.keys.slots.put (srcNum src) {} k }

/-- Disarms the key slot of a source (R628). -/
def State.disarm (s : State) (src : Src) : State := s.setSlot src {}

/-- Disarms all three key slots (R630). -/
def State.disarmAll (s : State) : State := { s with keys.slots := [] }

/-- The key of the register is armed in the slot of its source and not older than 64 FCLK cycles (R628). -/
def State.keyOk (s : State) (src : Src) (a : Nat) : Bool :=
  (s.slot src).key == keyOf a && (keyOf a).isSome && decide ((s.slot src).age ≤ 64)

/-- A keyed write that fails R628 changes nothing but GLB_KEYREF, GLB_KEYADDR and one event 0x1008 (R629). -/
def State.keyRefused (s : State) (src : Src) (a : Nat) : State :=
  let s := ((s.satAdd Reg.GLB_KEYREF 0 16 1).wf Reg.GLB_KEYREF 16 2 (srcNum src)).wf Reg.GLB_KEYADDR 0 22 a
  if s.keys.told then s else ({ s with keys.told := true }).raise 0x1008 0 [a]

/-- Until READY only GLB registers are written (R561). -/
def State.writable (s : State) (a : Nat) : Bool := s.onMain && (s.sys.ready || a / 0x10000 == 0)

/-- A keyed write (R628): the slot is consumed, accepted or refused; an accepted one acts. -/
def State.keyed (s : State) (src : Src) (a : Nat) (act : State → State) : State :=
  if !s.writable a then s
  else if s.keyOk src a then act (s.disarm src)
  else (s.keyRefused src a).disarm src

/-- An unkeyed write to a register: it disarms the key slot of its source (R628). -/
def State.unkeyed (s : State) (src : Src) (a : Nat) (act : State → State) : State :=
  if !s.writable a then s else act (s.disarm src)

/-! ### Partner and ring lanes -/

/-- The partner link is up: PAR_STAT.PLINK (R421). -/
def State.partnerUp (s : State) : Bool := s.bit Reg.PAR_STAT 3

/-- The partner lane in use: L2, or L3 in single-lane mode (R486). -/
def State.partnerLane (s : State) : Nat := if s.bit Reg.LAN_STAT 26 then 3 else 2

/-- Sends a message to the partner. -/
def State.toPartner (s : State) (m : Msg) : State := s.send s.partnerLane (.lane s.partnerLane m)

/-- A ring lane is locked: RNG_LINK, two bits each for L0, L1, L6, L7 (R284). -/
def State.laneUp (s : State) (n : Nat) : Bool :=
  s.rf Reg.RNG_LINK (2 * (if n < 2 then n else n - 4)) 2 == 1

/-- The ring lanes that are up, but for one. -/
def State.upLanes (s : State) (except : Nat) : List Nat :=
  [0, 1, 6, 7].filter fun n => s.laneUp n && n != except

/-- Sends a message on every ring lane that is up, but for one. -/
def State.toRing (s : State) (except : Nat) (m : Msg) : State :=
  (s.upLanes except).foldl (fun s n => s.send n (.lane n m)) s

/-! ### Heartbeat, halting and handover -/

/-- Stops HB_OUT at once. -/
def State.stopHeartbeat (s : State) : State := { s with sys.hbOut := false }

/-- Starts HB_OUT. -/
def State.startHeartbeat (s : State) : State :=
  if s.sys.hbOut then s else { s with sys.hbOut := true, par.hbAt := s.now }

/-- TRIP_O[n] driven to a level. -/
def State.driveTrip (s : State) (n : Nat) (b : Bool) : State :=
  ({ s with sys.tripO := withBit s.sys.tripO n b }).emit (.pin (if n = 0 then .tripO0 else .tripO1) b)

/-- The engines stop, unless they dry-run: segments then running are abandoned without effect, which is no overrun, and
VTX_STAT shows IDLE but for a latched FAULT (R159, R178). -/
def State.abandonEngines (s : State) : State :=
  if s.bit (Reg.VTX_STAT 0) 5 then s
  else { s with vtx.run := [] }.each 8 fun s k =>
    if s.rf (Reg.VTX_STAT k) 0 2 = 3 then s else s.wf (Reg.VTX_STAT k) 0 5 0

/-- Dry-run is active: VTX_STAT[0].DRY. -/
def State.dry (s : State) : Bool := s.bit (Reg.VTX_STAT 0) 5

/-- The engines run their graphs: active and armed, or dry-run (R159). -/
def State.enginesRun (s : State) : Bool := (!s.halted && s.pairState == 3) || s.dry

/-- Engine `k` has a GRAPH; without one it stays idle (R40). -/
def State.graphed (s : State) (k : Nat) : Bool := (s.cfg.graphs.at k {}).segs.any Option.isSome

/-- VTX_STAT.STATE and SEG of engine `k` between windows (R178): a latched FAULT stays; WAIT where the engine runs its
graph, else IDLE. -/
def State.engineRest (s : State) (k : Nat) : State :=
  if s.rf (Reg.VTX_STAT k) 0 2 = 3 then s else s.wf (Reg.VTX_STAT k) 0 5 (s.enginesRun && s.graphed k).toNat

/-- The engines run (R159): VTX_STAT shows WAIT where an engine has a graph. -/
def State.enginesOn (s : State) : State := s.each 8 State.engineRest

/-- Wakes a direction of lane `n` or puts it to sleep; LAN_STAT follows. A transmit direction that wakes sends idle blocks
(R496). -/
def State.setAwake (s : State) (n : Nat) (tx b : Bool) : State :=
  let wakes := tx && b && !s.awake n true
  ((s.wbit (Reg.LAN_LSTAT n) (if tx then 4 else 5) b).wbit Reg.LAN_STAT ((if tx then 8 else 16) + n) b).doIf wakes
    fun s => s.send n (.idle n)

/-- Lane `n` carries traffic in both directions: awake toward the far end, locked from it, and not in loop (R490). -/
def State.carries (s : State) (n : Nat) : Bool := s.sends n && s.bit (Reg.LAN_LSTAT n) 1

/-- PAR_STAT.PLINK (R487): a partner lane carries traffic in both directions; RNG_LINK[9:8] follows (R284). -/
def State.showPartner (s : State) : State :=
  let up := s.carries 2 || s.carries 3
  (s.wbit Reg.PAR_STAT 3 up).wf Reg.RNG_LINK 8 2 up.toNat

/-- The directions in AUTO use follow the pair state and single-lane mode (R495): transmit is awake in TAKING and ACTIVE,
receive in HALTED and STANDBY, both in single-lane mode. A receive direction beyond that sleeps by its timeout only. -/
def State.laneUses (s : State) : State :=
  let one := s.bit Reg.LAN_STAT 26
  let drives := decide (2 ≤ s.rf Reg.PAR_STAT 0 2)
  (s.each 8 fun s n =>
    let s := if s.rf (Reg.LAN_CFG n) 0 2 = 2 then s.setAwake n true (one || drives) else s
    if s.rf (Reg.LAN_CFG n) 2 2 = 2 && (one || !drives) then s.setAwake n false true else s).showPartner

/-- Sets PAR_STAT.STATE; the arbiter runs LENIENT in HALTED and SERVICE otherwise (R472); lanes in AUTO use follow. -/
def State.setPairState (s : State) (p : Nat) : State :=
  ((s.wf Reg.PAR_STAT 0 2 p).wbit Reg.ARB_STAT 0 (p == 0)).laneUses

/-- Every pair of the generator stops; a device armed before holds its fail-safe pattern (R565). -/
def State.stopPairs (s : State) : State :=
  s.each 96 fun s q => s.setPair q { s.pair q with started := false, pend := none, up := false, low := false }

/-- Gate outputs no longer enabled: OUTEN and EVAL clear, pairs stopped, segments abandoned (R50, R159, R320). -/
def State.outputsOff (s : State) : State :=
  (((s.wbit Reg.PWM_STAT 8 false).wbit Reg.GPR_PSTAT 2 false).stopPairs).abandonEngines

/-- Enters HALTED (R334, R565): GLB_STAT and PAR_STAT HALTED, HB_OUT low, fail-safe pattern at the balls. -/
def State.enterHalted (s : State) : State :=
  let s := s.outputsOff.setPairState 0
  let s := if s.devState = 7 then s.wf Reg.GLB_STAT 0 4 8 else s
  let s := (s.wbit Reg.GLB_STAT 5 false).wbit Reg.PAR_STAT 6 false
  let s := { s with par.hoSince := none, par.hoPeriod := none, par.finalDue := false, par.capture := none,
                    par.loaded := false, par.prepared := false, par.announce := false, sys.armWait := false }
  (s.stopHeartbeat).settle

/-- A request for a planned handover (R416), with its cause: 0 firmware, else the code of the event. It is refused unless
the partner link is up (reason 1) and the partner's last health report shows it eligible (2); a device that is not active
refuses it as well (4). -/
def State.requestHandover (s : State) (cause : Nat) : State :=
  let refused (reason : Nat) : State := (s.wbit Reg.PAR_FLAGS 5 true).raise 0x0a08 0 [reason]
  if s.pairState != 3 then refused 4
  else if !s.partnerUp then refused 1
  else if !s.bit Reg.PAR_HLTH_PEER 11 then refused 2
  else if s.bit Reg.PAR_STAT 6 then s
  else ({ s.wbit Reg.PAR_STAT 6 true with
    par.hoSince := some s.now, par.finalDue := true, par.hoPeriod := none }).raise 0x0a07 0 [cause]

/-- A fault of R357 requests a planned handover only while the partner's last report shows it eligible; one that is not
requested leaves the device active and raises nothing. -/
def State.faultHandover (s : State) (cause : Nat) (extra : Bool) : State :=
  if s.pairState = 3 && s.partnerUp && s.bit Reg.PAR_HLTH_PEER 11 && extra then s.requestHandover cause else s

/-! ### Stack trips -/

/-- The effects of a stack trip on the device itself (R265): TRIPL latched, TRIP_O[0] high, the pattern under ACT. -/
def State.latchTrip (s : State) (t : TripSet) (own : Bool) : State :=
  let s := s.wbit Reg.RNG_STAT 8 true
  let s := s.wn Reg.RNG_TRIP (t.node.val + t.cause.val * 128 + t.seq.val * 2048 + own.toNat * 32768 + t.role.toNat * 64)
  let s := (s.wbit Reg.RNG_FLAGS 7 true).driveTrip 0 true
  let s := if s.bit Reg.RNG_TRIPCFG 3 then s.cancelAll.settle else s
  if own then s.raise 0x060b 0 [t.cause.val, t.seq.val]
  else s.raise 0x060a 0 [t.node.val, t.role.toNat, t.cause.val, t.seq.val]

/-- Originates a stack trip with a cause on every ring lane and the partner lanes (R264). -/
def State.originateTrip (s : State) (cause : Nat) : State :=
  let t : TripSet := { node := Fin.ofNat 64 (s.rf Reg.GLB_STRAP 0 6), role := s.bit Reg.GLB_STRAP 6,
                       cause := Fin.ofNat 16 cause, seq := Fin.ofNat 16 s.ring.tripSeq }
  let s := { s with ring.tripSeq := (s.ring.tripSeq + 1) % 16, ring.trips := (t, s.now) :: s.ring.trips,
                    ring.originated := withBit s.ring.originated cause true }
  ((s.toRing 16 (.trip t)).toPartner (.trip t)).latchTrip t true

/-! ### Latches -/

/-- The complete latch vector (R408). -/
def State.latchVector (s : State) : LatchVec :=
  { switches := (List.range 6).foldl (fun m i => m + s.rn (Reg.GPR_SWLAT i) * 2 ^ (32 * i)) 0
    cells := s.rn Reg.GPR_CELLFS
    causes := (List.range 24).map fun c => s.rn (Reg.GPR_CELLINFO c)
    ts32 := s.tim.ts32, seq := s.prot.vecSeq }

/-- A change of a switch latch or a cell fail-safe state sends the complete vector to the partner (R408). -/
def State.sendLatches (s : State) : State :=
  let s := { s with prot.vecSeq := s.prot.vecSeq + 1 }
  if s.partnerUp then s.toPartner (.latch s.latchVector) else s

/-- The counts of GPR_PSTAT: latched switches and cells in their cell fail-safe state (R348). -/
def State.countLatches (s : State) : State :=
  let n := (List.range 6).foldl (fun m i => m + countBits (s.rn (Reg.GPR_SWLAT i)) 32) 0
  (s.wf Reg.GPR_PSTAT 16 8 n).wf Reg.GPR_PSTAT 8 5 (countBits (s.rn Reg.GPR_CELLFS) 24)

/-! ### Cluster fault -/

/-- The cluster fault reaction (R333, R334, R354). While a cluster fault is latched a further cause raises its own event
only, and every cause that has occurred must be gone before a clear. -/
def State.clusterFault (s : State) (cause ncell : Nat) : State :=
  let s := { s with prot.causes := withBit s.prot.causes cause true }
  if s.bit Reg.GPR_PSTAT 0 then s
  else
    let s := s.raise804 cause ncell
    let s := (s.wbit Reg.GPR_PSTAT 0 true).wn Reg.GPR_CLUINFO (cause + ncell * 256)
    let s := (s.wr Reg.GPR_CLU_TS s.tim.ts32).wbit Reg.GPR_FLAGS 3 true
    let s := (s.cancelAll.driveTrip 1 true).enterHalted
    if s.bit Reg.RNG_TRIPCFG 0 then s.originateTrip 1 else s

/-! ### Cell faults -/

/-- Puts cell `c` into its cell fail-safe state with a cause (R332): GPR_CELLFS, GPR_CELLINFO, pending turn-ons of the
cell cancelled, the balls settled and the latch vector sent. -/
def State.enterCellFs (s : State) (c cause : Nat) : State :=
  let s := (s.wbit Reg.GPR_CELLFS c true).wf (Reg.GPR_CELLINFO c) 0 4 cause
  (s.countLatches.cancelCell c).settleCell c

/-- The cells that entered a counted cell fault within the preceding CLU_WIN ticks, but for `c` (R331). -/
def State.cellsInWindow (s : State) (c : Nat) : Nat :=
  ((List.range 24).filter fun d => d != c && (match s.prot.cellAt.at d none with
    | some t => decide (s.now ≤ t + s.rf Reg.GPR_CLUWIN_L 0 20)
    | none => false)).length

/-- A cell entry that counts toward CLU_K: with CLU_K cells in the window a cluster fault follows (R331). -/
def State.countCell (s : State) (c : Nat) : State :=
  let n := s.cellsInWindow c + 1
  let s := { s with prot.cellAt := s.prot.cellAt.put c none (some s.now) }
  if s.rf Reg.GPR_ESC_L 16 5 ≤ n then s.clusterFault 1 n else s

/-- A cell fault of cell `c` (R331): a cell already in its cell fail-safe state starts no new one. -/
def State.cellFault (s : State) (c cause sw1 sw2 : Nat) : State :=
  if s.cellFs c then s
  else
    let s := s.wn (Reg.GPR_CELLINFO c) (cause + sw1 * 256 + sw2 * 65536)
    let s := (s.wbit Reg.GPR_CELLFLT c true).wbit Reg.GPR_FLAGS 2 true
    let s := s.raise 0x0803 c [c, cause, sw1, sw2]
    ((s.enterCellFs c cause).sendLatches).countCell c

/-! ### Flint's own log -/

/-- Writes an entry of FLT_LOG: the event code and FLT_CYCLES[15:0] (R397). -/
def State.flintLog (s : State) (code : Nat) : State :=
  let i := s.rf Reg.FLT_STAT 4 4
  (s.wn (Reg.FLT_LOG i) (code + s.rf Reg.FLT_CYCLES 0 16 * 65536)).wf Reg.FLT_STAT 4 4 (i + 1)

/-- A Flint event: logged by Flint, and raised through the main domain's path while that domain is out of reset. -/
def State.flintRaise (s : State) (code unit : Nat) (data : List Nat) : State :=
  let s := s.flintLog code
  if s.onMain then s.raise code unit data else s

/-! ### Waiting for a fixed time -/

/-- Ticks in 1 µs, rounded up to the tick: 312.5. -/
def usTicks (us : Nat) : Nat := (us * 625 + 1) / 2

end Sys2Proof.Machine
end

