-- ==== Sys2Proof/Machine/Clock.lean ====
section
/-! DEFINITION. The clock root (chapter 3, R69 to R89): reference monitoring, band search and lock, coasting, the phase
walk, and clock integrity. -/

namespace Sys2Proof.Machine

/-! ### References -/

/-- The status register of a reference: CLK_REFA or CLK_REFB. -/
def refReg (b : Bool) : Nat := if b then Reg.CLK_REFB else Reg.CLK_REFA

/-- A reference is present, qualified (R69). -/
def State.refPresent (s : State) (b : Bool) : Bool := s.bit (refReg b) 16
def State.refQualified (s : State) (b : Bool) : Bool := s.bit (refReg b) 17

/-- Sets the qualified bit of a reference in CLK_REFx and CLK_STAT. -/
def State.setQualified (s : State) (b q : Bool) : State :=
  (s.wbit (refReg b) 17 q).wbit Reg.CLK_STAT (4 + b.toNat) q

/-- CLK_STAT.STATE (R88): 0 SEARCH, 1 LOCKING, 2 LOCKED, 3 COASTING, 4 WALKING. -/
def State.clkState (s : State) : Nat := s.rf Reg.CLK_STAT 0 3

/-- The selected reference, CLK_STAT.SEL. -/
def State.clkSel (s : State) : Bool := s.bit Reg.CLK_STAT 3

/-- CLK_STAT.INTEGRITY (R84). -/
def State.integrity (s : State) : Bool := s.bit Reg.CLK_STAT 6

/-- The loop injects reference `b`: it is selected and the loop is locked or walking, with no integrity fault. -/
def State.injecting (s : State) (b : Bool) : Bool :=
  (s.clkState == 2 || s.clkState == 4) && s.clkSel == b && !s.integrity

/-! ### Coasting -/

/-- CLK_COAST_T in whole milliseconds since the loop began to coast, saturating (R87). -/
def State.showCoast (s : State) : State :=
  s.wn Reg.CLK_COAST_T (min ((s.now - s.clk.coastSince) / 312500) 0xffffffff)

/-- What CLK_PHERR and CLK_PHPEAK keep when injection stops: the last phase error, and the largest since CLK_PHPEAK was read
(R87). -/
def State.latchError (s : State) : State :=
  if s.injecting s.clkSel then
    (s.wf Reg.CLK_PHERR 0 16 (Config.phaseError s.now)).wf Reg.CLK_PHPEAK 0 16
      (max (s.rf Reg.CLK_PHPEAK 0 16) (Config.phasePeak s.now % 65536))
  else s

/-- Stops injection and keeps every domain running on the held code (R77): the state becomes COASTING, a walk freezes
(R82), and adaptive core-voltage requests are suspended (R78). -/
def State.stopInjecting (s : State) : State :=
  let s := (s.latchError.wf Reg.CLK_STAT 0 3 3).wbit Reg.CLK_WALK 14 false
  let s := { s with clk.coastSince := s.now }
  (s.wn Reg.CLK_COAST_T 0).wbit Reg.THW_AVS_STAT 11 true

/-- Chooses the reference to re-enter on: the other one at once if it is qualified (R71). -/
def State.seekReference (s : State) (cause : Nat) : State :=
  if s.refQualified (!s.clkSel) then { s with clk.target := some (!s.clkSel, cause) }
  else { s with clk.target := none }

/-- Entering coasting with COAST_HO set requests a planned handover if the partner's last health report shows a locked
clock that is not coasting (R79). -/
def State.coastHandover (s : State) : State :=
  if s.bit Reg.CLK_CFG 2 then s.faultHandover 0x0104 (s.bit Reg.PAR_HLTH_PEER 8 && !s.bit Reg.PAR_HLTH_PEER 9) else s

/-- The loop enters coasting: CLK_FLAGS[2] is set (R77, R87). -/
def State.enterCoasting (s : State) : State := s.stopInjecting.wbit Reg.CLK_FLAGS 2 true

/-- Coasting because the selected reference was lost (0) or disturbed (1): event 0x0104 (R77), and R79. -/
def State.coast (s : State) (why : Nat) : State :=
  ((s.enterCoasting.raise 0x0104 0 [why]).seekReference 0).coastHandover

/-- A reference loses its qualification. If it was injected, the loop coasts; if the loop was to re-enter on it, it does so
on the other one where that is qualified (R71). -/
def State.dropReference (s : State) (b : Bool) (why : Nat) : State :=
  let inj := s.injecting b
  let s := s.setQualified b false
  let s := if s.clk.target.map Prod.fst = some b then
      { s with clk.target := if s.refQualified (!b) then some (!b, 0) else none }
    else s
  if inj then s.coast why else s

/-- The event and flag of a lost reference (R89). -/
def State.reportLost (s : State) (b : Bool) : State :=
  (s.wbit Reg.CLK_FLAGS b.toNat true).raise (if b then 0x0103 else 0x0102) 0 []

/-- REFERENCE_LOST (R69, R71): two expected edges are missing. -/
def refLost (b : Bool) (s : State) : State :=
  ((s.wbit (refReg b) 16 false).reportLost b).dropReference b 0

/-- REFERENCE_PRESENT (R69): edges return and qualification time starts. -/
def refPresent (b : Bool) (s : State) : State :=
  { s.wbit (refReg b) 16 true with clk.freq := s.clk.freq.put b.toNat none none }

/-- REFERENCE_QUALIFIED (R69, R71): a present reference qualifies; a loop that coasts without one re-enters on it. -/
def refQualify (b : Bool) (s : State) : State :=
  if !s.refPresent b then s
  else
    let s := s.setQualified b true
    if s.clkState = 3 && s.clk.target.isNone && !s.integrity then { s with clk.target := some (b, 0) } else s

/-- The frequency limit in 0.1 ppm: ±5 % against FOSC until the first lock after a reset, ±200 ppm from then (R557). -/
def State.freqLimit (s : State) : Nat := if s.clk.locked then 2000 else 500000

/-- A step above 2 ppm between two intervals of the selected reference disturbs it (R70): the loop has locked on it since
the search, and injects it or coasts. -/
def State.stepped (s : State) (b : Bool) (last : Option Int) (offset : Int) : Bool :=
  decide (2 ≤ s.clkState) && s.clkSel == b && last.any fun l => decide (20 < (offset - l).natAbs)

/-- REF_FREQ_INTERVAL (R69, R70): the offset is shown; a step above 2 ppm of the selected reference is a disturbance; out of
range loses qualification at once. DESIGN CHOICE (unsafe): R69 names no event for a present reference that
leaves its range without such a step; it is reported as lost (0x0102 or 0x0103, CLK_FLAGS[0] or [1], 0x0104 with data 0). -/
def refInterval (b : Bool) (offset : Int) (s : State) : State :=
  let last := s.clk.freq.at b.toNat none
  let s := s.wf (refReg b) 0 16 (unsigned 16 (clampInt (-32768) 32767 offset))
  let s := { s with clk.freq := s.clk.freq.put b.toNat none (some offset) }
  if s.stepped b last offset then
    ((s.wbit Reg.CLK_FLAGS 3 true).raise 0x0108 0 [b.toNat, unsigned 32 (offset - last.getD 0)]).dropReference b 1
  else if decide (s.freqLimit < offset.natAbs) && s.refQualified b then (s.reportLost b).dropReference b 0
  else s

/-- Moves to reference `b` through coasting and the phase walk (R72): cause 1 revert, 2 command. It is ignored unless `b` is
qualified (R71). A loop that coasts already changes the reference it re-enters on. -/
def State.switchTo (s : State) (b : Bool) (cause : Nat) : State :=
  if !s.refQualified b || s.integrity then s
  else if s.injecting (!b) then ({ s.enterCoasting with clk.target := some (b, cause) }).coastHandover
  else if s.clkState = 3 && s.clkSel != b && s.clk.target.map Prod.fst != some b then
    { s with clk.target := some (b, cause) }
  else s

/-- REVERT_TIMER (R71): with REVERT set the device returns to the preferred reference. -/
def revert (s : State) : State :=
  if s.bit Reg.CLK_CFG 1 then s.switchTo (s.bit Reg.CLK_CFG 0) 1 else s

/-! ### Band search and lock -/

/-- BAND_SEARCH_START (R73): a required search starts once a reference is qualified, unless an integrity fault is latched
(R85). -/
def searchStart (s : State) : State :=
  if s.clk.searchDue && !s.clk.failed && !s.integrity && (s.refQualified false || s.refQualified true) then
    { s.wf Reg.CLK_STAT 0 3 0 with clk.searching := true, clk.searchDue := false }
  else s

/-- How far a settled control code lies from mid-range, in half codes: the codes run from 0 to 1,023. -/
def offMid (code : Nat) : Nat := (2 * (code : Int) - 1023).natAbs

/-- The band R73 keeps, given the codes the bands settled at in turn: the one nearest mid-range, and of two equally near
the one tried first. -/
def bestBand (codes : List Nat) : Nat :=
  (List.range codes.length).foldl
    (fun best i => if offMid (codes.getD i 0) < offMid (codes.getD best 0) then i else best) 0

/-- LOCK_DECLARED (R71, R73, R74): of the codes the bands settled at the one nearest mid-range gives the band, whose code has
been trimmed to `code`; the preferred reference is taken if qualified; event 0x0101. A start-up goes on to the memory fill
(R557); a counter stopped for the search resumes (R568). -/
def lockDeclared (codes : List Nat) (code : Nat) (s : State) : State :=
  let band := bestBand codes
  if !s.clk.searching || s.integrity then s
  else
    let p := s.bit Reg.CLK_CFG 0
    let s := { s with clk.searching := false, clk.locked := true, clk.goodWindows := 0, tim.stopped := false }
    let s := (s.wf Reg.CLK_STAT 0 3 2).wbit Reg.CLK_STAT 3 (if s.refQualified p then p else !p)
    let s := (s.wf Reg.CLK_BAND 0 5 band).wf Reg.CLK_BAND 8 10 code
    let s := if s.devState = 2 then s.wf Reg.GLB_STAT 0 4 3 else s
    s.raise 0x0101 0 [band, code]

/-- BAND_SEARCH_FAILED (R74, R559): event 0x0113; the search is not repeated before a reset. The last band tried stays in use,
with a control code that is free (R87). -/
def searchFailed (band : Nat) (s : State) : State :=
  if !s.clk.searching || s.integrity then s
  else
    let s := ((s.wf Reg.CLK_BAND 0 5 band).wf Reg.CLK_BAND 8 10 (Config.failedCode s.free)).draw
    let s := { s with clk.searching := false, clk.failed := true }
    let s := if s.devState = 2 then s.wf Reg.GLB_STAT 0 4 15 else s
    s.raise 0x0113 0 [band]

/-- CLK_CTRL.RELOCK accepted by its key (R73, R628): refused with 0x25 unless halted. A latched integrity fault keeps the
loop from searching (R85), and a failed search is repeated only after a reset (R74). Coasting and a walk end with it: the
core-voltage requests go on (R78), and the reference path has no delay. -/
def relock (s : State) : State :=
  if !s.halted then s.refuse Reg.CLK_CTRL 0x25
  else if s.integrity || s.clk.failed then s
  else
    let s := (if s.clkState = 3 then s.showCoast else s).latchError
    let s := ((s.wf Reg.CLK_STAT 0 3 0).wf Reg.CLK_WALK 0 16 0).wbit Reg.THW_AVS_STAT 11 false
    { s with clk.searchDue := true, clk.searching := false, clk.target := none }

/-- CLK_CTRL.SWITCH accepted by its key (R71). -/
def switchRef (s : State) : State := s.switchTo (!s.clkSel) 2

/-! ### Phase walk -/

/-- The walk ends (R80): STATE LOCKED, event 0x0106 with its duration in µs. -/
def State.walkDone (s : State) : State :=
  let s := (s.wf Reg.CLK_WALK 0 15 0).wf Reg.CLK_STAT 0 3 2
  (s.wbit Reg.CLK_FLAGS 5 true).raise 0x0106 0 [(s.now - s.clk.walkSince) * 2 / 625]

/-- PHASE_WALK_START (R80): the delay is set to θ in 0.5 ps steps, injection starts, and the walk goes toward 0 for
θ ≤ 3.2 ns and toward 6.4 ns otherwise. -/
def walkStart (theta : Nat) (s : State) : State :=
  match s.clk.target with
  | none => s
  | some (r, cause) =>
    if s.clkState != 3 || s.integrity then s
    else
      let dir := decide (6400 < theta)
      let moved := r != s.clkSel
      let s := (s.showCoast).wbit Reg.THW_AVS_STAT 11 false
      let s := { s with clk.target := none, clk.walkSince := s.now }
      let s := s.wf Reg.CLK_WALK 0 16 (theta + 16384 + dir.toNat * 32768)
      let s := (s.wf Reg.CLK_STAT 0 3 4).wbit Reg.CLK_STAT 3 r
      let s := s.raise 0x0105 0 [theta, dir.toNat]
      let s := if moved then (s.wbit Reg.CLK_FLAGS 4 true).raise 0x0107 0 [r.toNat, cause] else s
      if theta = 0 then s.walkDone else s

/-- WALK_STEP (R80): one 0.5 ps step; 6.4 ns is replaced by 0, and zero ends the walk. -/
def walkStep (s : State) : State :=
  if s.clkState != 4 || s.integrity then s
  else
    let d := s.rf Reg.CLK_WALK 0 14
    let d' := if s.bit Reg.CLK_WALK 15 then (if d + 1 = 12800 then 0 else d + 1) else d - 1
    let s := s.wf Reg.CLK_WALK 0 14 d'
    if d' = 0 then s.walkDone else s

/-! ### Clock integrity -/

/-- A clock integrity fault (R83, R84): Flint's pad override, HB_OUT low, INTEGRITY and CAUSE latched, and the device
halted (R85). One that comes before the override of an earlier fault has released keeps it, until a reset of its own. -/
def State.integrityFault (s : State) (cause code : Nat) : State :=
  let s := (s.latchError.wbit Reg.CLK_STAT 6 true).wf Reg.CLK_STAT 8 2 cause
  let s := { s.flintLog code with clk.override := true, clk.target := none, clk.searchDue := false, clk.searching := false
                                  clk.releasing := false, clk.goodWindows := 0 }
  s.cancelAll.enterHalted

/-- LOSS_OF_LOCK (R75): only while a qualified reference is injected. -/
def lossOfLock (err : Int) (s : State) : State :=
  if s.injecting s.clkSel && s.refQualified s.clkSel then
    let s := (s.raise 0x0110 0 [unsigned 32 err]).integrityFault 1 0x0110
    let s := s.wf Reg.CLK_PHERR 0 16 (unsigned 16 (clampInt (-32768) 32767 err))
    s.wf Reg.CLK_PHPEAK 0 16 (max (s.rf Reg.CLK_PHPEAK 0 16) (min err.natAbs 65535))
  else s

/-- The override releases when the new band search has declared lock and two more windows have passed (R85). -/
def State.countGoodWindow (s : State) : State :=
  if s.clk.releasing && s.clk.locked && !s.integrity then
    let n := s.clk.goodWindows + 1
    if n < 2 then { s with clk.goodWindows := n }
    else ({ s with clk.goodWindows := 0, clk.releasing := false, clk.override := false } : State).settle
  else s

/-- Domains that run again queue the record of 0x0112 that waited for them (R84): edges come in a window behind the one in which
the root stopped. -/
def State.rootRuns (s : State) (count : Nat) : State :=
  if s.clk.stopFresh then { s with clk.stopFresh := false }
  else if 0 < count then
    { s with clk.held := none, clk.stopped := false
             evt.batch := s.evt.batch ++ (s.clk.held.toList.map fun e => { ev := e }) }
  else s

/-- SCLK_WINDOW_END (R83): a count outside 180 to 211 is an integrity fault. Behind another integrity fault it is raised and
logged once, while CAUSE keeps the first. DEDUCED: the windows of a root that has stopped tell nothing beyond the 0x0112
already raised. -/
def sclkWindow (count : Nat) (s : State) : State :=
  let s := s.rootRuns count
  if 180 ≤ count ∧ count ≤ 211 then s.countGoodWindow
  else if s.clk.stopped || s.clk.freqTold then s
  else
    let s := { s.raise 0x0111 0 [count] with clk.freqTold := true }
    if s.integrity then s.flintLog 0x0111 else s.integrityFault 2 0x0111

/-- SCLK_STOPPED (R83, R84): the root's domains have stopped; the stamped record waits. Behind another integrity fault the
stop is logged and its record waits, while CAUSE keeps the first. -/
def sclkStop (s : State) : State :=
  if s.clk.stopped then s
  else
    let t := if s.integrity then s.flintLog 0x0112 else s.integrityFault 3 0x0112
    { t with clk.stopped := true, clk.stopFresh := true, clk.held := some { code := 0x0112, ts32 := s.tim.ts32 } }

/-! ### Meanings -/

/-- REFERENCE_LOST. -/
def execReferenceLost (b : Bool) (s : State) : Host.Outcome State Fault Refusal := s.main (refLost b)

/-- REFERENCE_PRESENT. -/
def execReferencePresent (b : Bool) (s : State) : Host.Outcome State Fault Refusal := s.main (refPresent b)

/-- REFERENCE_QUALIFIED. -/
def execReferenceQualified (b : Bool) (s : State) : Host.Outcome State Fault Refusal := s.main (refQualify b)

/-- REF_FREQ_INTERVAL. -/
def execRefFreqInterval (b : Bool) (offset : Int) (s : State) : Host.Outcome State Fault Refusal :=
  s.main (refInterval b offset)

/-- REVERT_TIMER. -/
def execRevertTimer (s : State) : Host.Outcome State Fault Refusal := s.main revert

/-- BAND_SEARCH_START. -/
def execBandSearchStart (s : State) : Host.Outcome State Fault Refusal := s.main searchStart

/-- LOCK_DECLARED. -/
def execLockDeclared (codes : List (BitVec 10)) (code : BitVec 10) (s : State) : Host.Outcome State Fault Refusal :=
  s.main (lockDeclared (codes.map BitVec.toNat) code.toNat)

/-- BAND_SEARCH_FAILED. -/
def execBandSearchFailed (band : Fin 32) (s : State) : Host.Outcome State Fault Refusal :=
  s.main (searchFailed band.val)

/-- LOSS_OF_LOCK. -/
def execLossOfLock (err : Int) (s : State) : Host.Outcome State Fault Refusal := s.main (lossOfLock err)

/-- FLINT_FS_DT_TURN_ON (R84): the FOSC-counted delay of a switch the override's pattern holds on has run out. -/
def execFlintFsDtTurnOn (g : Gate) (s : State) : Host.Outcome State Fault Refusal :=
  s.access fun s => if s.clk.override then s.patternTurnOn g.val else s

/-- PHASE_WALK_START. -/
def execPhaseWalkStart (theta : Fin 12800) (s : State) : Host.Outcome State Fault Refusal :=
  s.main (walkStart theta.val)

/-- WALK_STEP. -/
def execWalkStep (s : State) : Host.Outcome State Fault Refusal := s.main walkStep

/-- CLK_RELOCK: a keyed write of CLK_CTRL.RELOCK. -/
def execClkRelock (src : Src) (s : State) : Host.Outcome State Fault Refusal :=
  s.access fun s => s.keyed src Reg.CLK_CTRL relock

/-- CLK_SWITCH: a keyed write of CLK_CTRL.SWITCH. -/
def execClkSwitch (src : Src) (s : State) : Host.Outcome State Fault Refusal :=
  s.access fun s => s.keyed src Reg.CLK_CTRL switchRef

/-- SCLK_WINDOW_END. -/
def execSclkWindowEnd (count : Nat) (s : State) : Host.Outcome State Fault Refusal := s.access (sclkWindow count)

/-- SCLK_STOPPED. -/
def execSclkStopped (s : State) : Host.Outcome State Fault Refusal := s.access sclkStop

end Sys2Proof.Machine
end

