-- ==== Sys2Proof/Machine/TimeBase.lean ====
section
/-! DEFINITION. Stack time (chapter 4, R90 to R107): the counter and its tick, steps and slews, the time sources and
their state, and ring time transfer. -/

namespace Sys2Proof.Machine

/-! ### The counter -/

/-- One second in units of 2⁻³² ns. -/
def secUnits : Nat := 1000000000 * 4294967296

/-- The live nominal addend in units of 2⁻³² ns (R91). -/
def State.addend (s : State) : Nat := s.rf Reg.TIM_ADDEND_HI_L 0 8 * 4294967296 + s.rn Reg.TIM_ADDEND_LO_L

/-- The strap NODE, as latched. -/
def State.node (s : State) : Nat := s.rf Reg.GLB_STRAP 0 6

/-- The device takes station time itself (R96): a device of node 0 that is not the standby of an active partner. -/
def State.takesStation (s : State) : Bool := s.node == 0 && s.pairState != 1

/-- The time master runs free (R96). -/
def State.runsFree (s : State) : Bool := s.takesStation && s.rf Reg.TIM_CFG 0 2 == 2

/-- TIM_STAT.STATE (R116): 0 FREE, 1 ACQUIRING, 2 LOCKED, 3 HOLDOVER. -/
def State.timState (s : State) : Nat := s.rf Reg.TIM_STAT 0 2

/-- Corrections act: a device in FREE, and a time master that runs free, count at the nominal addend (R96, R101). -/
def State.steered (s : State) : Bool := s.timState != 0 && !s.runsFree

/-- The effective addend without the slew step (R90). -/
def State.rateAddend (s : State) : Nat :=
  ((s.addend : Int) + if s.steered then (s.rg Reg.TIM_RATE).toInt else 0).toNat

/-- The servo range of TIM_RATE (R91). -/
def rateMax : Int := 6871948

/-- The largest rate of stack time relative to its source, in units of 2⁻³² ns per tick (R100): SLEW_MAX ppm of 3.2 ns for the
time master; 500 ppm, in the units of R91, otherwise. -/
def State.slewStep (s : State) : Nat :=
  if s.takesStation then 13743895347 * s.rf Reg.TIM_SERVO 16 9 / 1000000 else 6871948

/-- The slew step of a tick that the limit of R100 leaves beside TIM_RATE, in the direction of the slew ordered. DESIGN CHOICE:
the term at which stack time runs at the rate of the source, which the device measures by no stated rule, is free. -/
def State.slewRoom (s : State) : Int :=
  let ahead := (s.rg Reg.TIM_RATE).toInt - Config.sourceRate s.now
  if s.tim.slew < 0 then min 0 (-(s.slewStep : Int) - ahead) else max 0 (s.slewStep - ahead)

/-- The slew applied in `n` ticks. -/
def State.slewIn (s : State) (n : Nat) : Int :=
  if !s.steered || s.tim.slew == 0 then 0
  else if s.tim.slew < 0 then max s.tim.slew (s.slewRoom * n) else min s.tim.slew (s.slewRoom * n)

/-- The distance stack time covers in `n` ticks. -/
def State.covers (s : State) (n : Nat) : Nat := ((s.rateAddend * n : Nat) + s.slewIn n).toNat

/-- Advances stack time by `n` ticks (R90); TS32 advances with TIME_NS (R93). -/
def State.advance (s : State) (n : Nat) : State :=
  let total := s.tim.ns * 4294967296 + s.tim.sub + s.covers n
  let ns := total / 4294967296
  { s with tim.sub := total % 4294967296, tim.ns := ns % 1000000000,
           tim.s := (s.tim.s + ns / 1000000000) % 2 ^ 48,
           tim.ts32 := s.tim.ts32 + BitVec.ofNat 32 (ns - s.tim.ns),
           tim.slew := s.tim.slew - s.slewIn n }

/-- The fewest ticks in which stack time covers a distance, at the present rate and slew. -/
def State.ticksFor (s : State) (r : Nat) : Nat :=
  let a := s.rateAddend
  let m : Int := if !s.steered || s.tim.slew == 0 then 0 else s.slewRoom
  let n := (r + ((a : Int) + m).toNat - 1) / ((a : Int) + m).toNat
  if !s.steered || s.tim.slew == 0 || decide (m.natAbs * n ≤ s.tim.slew.natAbs) then n
  else (((r : Int) - s.tim.slew).toNat + a - 1) / a

/-- The keys of every slot grow older by `n` ticks, two FCLK cycles each, and disarm 64 cycles after arming (R628). -/
def ageSlots (n : Nat) : Tab KeySlot → Tab KeySlot
  | [] => []
  | (k, v) :: t => if 64 < v.age + 2 * n then ageSlots n t else (k, { v with age := v.age + 2 * n }) :: ageSlots n t

/-- The present stack time in units of 50 ps × 2⁻³². -/
def State.time50 (s : State) : Nat := ((s.tim.s * 1000000000 + s.tim.ns) * 4294967296 + s.tim.sub) * 20

/-- Keeps the start time and addend of the tick that ends, for the transitions computed in it (R310); a longer stretch of
time is kept by its end alone. -/
def State.keepTick (s : State) (n : Nat) : State :=
  if n = 1 then { s with tim.past := (s.time50, 20 * s.covers 1) :: s.tim.past.take 33 } else { s with tim.past := [] }

/-- `n` ticks of the device pass: its clock, its key slots and its coasting time; stack time unless it is stopped. -/
def State.pass (s : State) (n : Nat) : State :=
  if s.clk.stopped then s
  else
    let s := { s with now := s.now + n, keys.slots := ageSlots n s.keys.slots }
    let s := if s.onMain && s.clkState == 3 && !s.integrity then s.showCoast else s
    if s.tim.stopped || !s.onMain then { s with tim.past := [] } else (s.keepTick n).advance n

/-- One tick of the device (R90): the epoch mark falls in the tick in which TIME_NS carries (R94). -/
def State.tick (s : State) : State :=
  let t := s.pass 1
  if t.tim.s != s.tim.s then t.epochMark else t

/-- EPOCH_MARK (R94): stack time runs to the tick in which TIME_NS carries into TIME_S, and the mark is emitted. -/
def epochTick (s : State) : State :=
  if s.clk.stopped || s.tim.stopped || s.rateAddend = 0 then s
  else (s.pass (max 1 (s.ticksFor (secUnits - (s.tim.ns * 4294967296 + s.tim.sub))))).epochMark

/-! ### Instants -/

/-- The present stack time in whole 50 ps units. -/
def State.stamp50 (s : State) : Nat := s.time50 / 4294967296

/-- The live stack epoch in units of 50 ps × 2⁻³² (R106). -/
def State.epoch50 (s : State) : Nat :=
  ((s.rf Reg.TIM_EPOCH_S_HI_L 0 16 * 4294967296 + s.rn Reg.TIM_EPOCH_S_LO_L) * 1000000000
    + s.rf Reg.TIM_EPOCH_NS_L 0 30) * 4294967296 * 20

/-- The number of a grid's period that holds the present stack time (R106): offset and length in ticks. -/
def State.gridIndex (s : State) (offset len : Nat) : Int :=
  ((s.time50 : Int) - s.epoch50 - offset * 64 * 4294967296) / (len * 64 * 4294967296 : Nat)

/-- Live length and offset of the control period (R106, R623). -/
def State.perLen (s : State) : Nat := s.rf Reg.SLT_PER_L 0 18
def State.perOfs (s : State) : Nat := s.rf Reg.SLT_PEPO_L 0 18

/-- Snapshots are filled anew from the next control period boundary on (R639). -/
def State.ringRestart (s : State) : State := { s with ring.fill := none, ring.closed := none, ring.res := none }

/-- Takes the control period number and every group period count that R106 gives for the present time (R107). -/
def State.regrid (s : State) : State :=
  let k := s.gridIndex s.perOfs s.perLen
  let s := if k = s.tim.period then s else { s.ringRestart with tim.period := k }
  s.each 8 fun s g =>
    s.wf (Reg.PWM_GSTAT g) 8 24 (unsigned 24 (s.gridIndex (s.rn (Reg.PWM_GEPO_L g)) (s.rn (Reg.PWM_GPER_L g))))

/-- A step takes each grid behind the instant before the new time, so that the next boundary of each grid is the first at
or after it, with the number R106 gives (R107). -/
def State.stepGrid (s : State) : State :=
  let at1 (offset len : Nat) : Int :=
    ((s.time50 : Int) - 1 - s.epoch50 - offset * 64 * 4294967296) / (len * 64 * 4294967296 : Nat)
  let k := at1 s.perOfs s.perLen
  let s := if k = s.tim.period then s else { s.ringRestart with tim.period := k }
  s.each 8 fun s g =>
    s.wf (Reg.PWM_GSTAT g) 8 24 (unsigned 24 (at1 (s.rn (Reg.PWM_GEPO_L g)) (s.rn (Reg.PWM_GPER_L g))))

/-- The first start of a TPO setting at or after a time, in 50 ps units (R109); none for a one-shot that lies before it. -/
def tpoStart (t : Tpo) (at50 : Nat) : Option Nat :=
  if at50 ≤ t.first then some t.first
  else if t.periodic then some (t.first + (at50 - t.first + t.per * 20 - 1) / (t.per * 20) * (t.per * 20))
  else none

/-- The stack second in TIME_S[31:0] and its ns as 50 ps units, as the TPO start registers count, rounded up. -/
def State.startClock (s : State) : Nat :=
  (s.tim.s % 4294967296 * 1000000000 + s.tim.ns) * 20 + (s.tim.sub * 20 + 4294967295) / 4294967296

/-- A setting that waits for the end of a high interval goes on with its first start from a time on, and ends where there is
none. -/
def laterStart (at50 : Nat) (t : Option Tpo) : Option Tpo := t.bind fun t => (tpoStart t at50).map fun x => { t with start := x }

/-- A step produces no TPO pulse that it passes over: an output between pulses, and a setting that waits, go on with their
first start from the new time on, and end where there is none (R107). -/
def State.stepTpo (s : State) : State :=
  s.each 8 fun s n =>
    match s.tim.tpo.at n none with
    | none => s
    | some t =>
      if s.tim.tpoHigh.at n false then
        { s with tim.tpoNext := s.tim.tpoNext.put n none ((s.tim.tpoNext.at n none).map (laterStart s.startClock)) }
      else match tpoStart t s.startClock with
        | some x => { s with tim.tpo := s.tim.tpo.put n none (some { t with start := x }) }
        | none => ({ s with tim.tpo := s.tim.tpo.put n none none }).wbit (Reg.TIM_TPO_STAT n) 0 false

/-- The three words of a stack time (R640). -/
def State.timeWords (s : State) : List Nat := [s.tim.s % 4294967296, s.tim.s / 4294967296, s.tim.ns]

/-- Steps stack time (R92): event 0x0205 with the old and the new time; instants passed over produce nothing (R107). -/
def State.stepTime (s : State) (sec ns sub : Nat) : State :=
  let old := s.timeWords
  let s := { s with tim.s := sec % 2 ^ 48, tim.ns := ns, tim.sub := sub, tim.slew := 0, tim.past := [],
                    tim.ts32 := BitVec.ofNat 32 (sec * 1000000000 + ns) }
  s.stepGrid.stepTpo.raise 0x0205 0 (old ++ s.timeWords)

/-- TIM_CTRL.STEP accepted by its key (R92, R628): refused with 0x25 unless halted. -/
def timStep (s : State) : State :=
  if !s.halted then s.refuse Reg.TIM_CTRL 0x25
  else s.stepTime (s.rf Reg.TIM_SET_S_HI 0 16 * 4294967296 + s.rn Reg.TIM_SET_S_LO) (s.rf Reg.TIM_SET_NS 0 30) 0

/-- A write of 1 to TIM_SNAP latches the time (R115). -/
def timSnap (v : Word) (s : State) : State :=
  if fld v 0 1 = 0 then s
  else (((s.wn Reg.TIM_SNAP_S_LO s.tim.s).wn Reg.TIM_SNAP_S_HI (s.tim.s / 4294967296)).wn Reg.TIM_SNAP_NS s.tim.ns).wn
    Reg.TIM_SNAP_SUB s.tim.sub

/-- A servo term within the limits of R91 and R100: the rate differs from that of the source by at most SLEW_MAX on the time
master, and by at most 500 ppm on any other device. DESIGN CHOICE: the term that equals the source's rate is free. -/
def State.limitRate (s : State) (v : Int) : Int :=
  let f := Config.sourceRate s.now
  clampInt (-rateMax) rateMax (f + clampInt (-(s.slewStep : Int)) s.slewStep (v - f))

/-- A write of TIM_RATE (R100): refused with 0x25 unless EXT is set and the value lies within the servo range. -/
def timRateWrite (v : Word) (s : State) : State :=
  if s.bit Reg.TIM_SERVO 0 && decide (-rateMax ≤ v.toInt ∧ v.toInt ≤ rateMax) then
    s.wn Reg.TIM_RATE (unsigned 32 (s.limitRate v.toInt))
  else s.refuse Reg.TIM_RATE 0x25

/-- A write of TIM_SLEW (R100): refused with 0x25 unless EXT is set; orders a bounded slew of that many ns. -/
def timSlewWrite (v : Word) (s : State) : State :=
  if s.bit Reg.TIM_SERVO 0 then { s with tim.slew := v.toInt * 4294967296 } else s.refuse Reg.TIM_SLEW 0x25

/-! ### Measurements -/

/-- The lock threshold in 50 ps units (R101). -/
def State.lockThr (s : State) : Nat :=
  if s.takesStation then s.rf Reg.TIM_SERVO 1 15 * 40 else s.rf Reg.TIM_ALIGN 0 10 * 20

/-- The servo acts once per measurement (R100): the new term is the servo's own, within its limits. -/
def State.servo (s : State) : State :=
  if s.bit Reg.TIM_SERVO 0 then s
  else ({ s.draw with tim.integral := Config.servoIntegral s.free } : State).wn Reg.TIM_RATE
    (unsigned 32 (s.limitRate (Config.servoRate s.free)))

/-- A data set is better than another: lexicographic, lower first (R98). -/
def betterSet : List Nat → List Nat → Bool
  | [], [] => false
  | [], _ => true
  | _, [] => false
  | a :: as, b :: bs => if a < b then true else if b < a then false else betterSet as bs

/-- The source number of TIM_STAT.SRC for a device (R116). -/
def State.timeSrc (s : State) : Nat := if s.takesStation then s.rf Reg.TIM_CFG 0 2 else 3

/-- PPS_OUT goes low where STATE is neither LOCKED nor HOLDOVER (R113). -/
def State.ppsLow (s : State) : State :=
  if s.tim.ppsOut then ({ s with tim.ppsOut := false } : State).emit (.pin .ppsOut false) else s

/-- The port that the best master clock comparison chooses among the enabled ports that announce, ties going to L4 (R98);
without one the port stays. -/
def State.bestPort (s : State) : Nat :=
  let data (p : Nat) : Option (List Nat) := if s.bit Reg.TIM_PTP_CFG p then s.tim.announce.at p none else none
  match data 0, data 1 with
  | some a, some b => if betterSet b a then 1 else 0
  | none, some _ => 1
  | some _, none => 0
  | none, none => s.tim.port

/-- Takes the port that the comparison chooses; a change is applied by slewing only, with event 0x0204 (R99). DESIGN CHOICE:
the event is raised also where the port chosen supplies no time (a standby in monitor mode, SRC 0b10, the first announcement). -/
def State.choosePort (s : State) : State :=
  if s.bestPort = s.tim.port then s
  else ({ s with tim.port := s.bestPort } : State).raise 0x0204 0 [s.bestPort]

/-- A port that provides no measurements leaves the comparison (R98, R101, R501). -/
def State.silencePort (s : State) (p : Nat) : State :=
  ({ s with tim.announce := s.tim.announce.put p none none } : State).choosePort

/-- A valid measurement of the offset to the source, in 50 ps units (R101): a halted device steps from FREE or HOLDOVER,
a running one slews; 16 in a row within the threshold lock. TRACEABLE follows the source while LOCKED (R116). -/
def State.measured (s : State) (ofs : Int) (port : Nat) (traceable : Bool) : State :=
  let s := { s.wn Reg.TIM_OFS (unsigned 32 ofs) with tim.ofs := ofs }
  let s := (s.wf Reg.TIM_STAT 2 2 s.timeSrc).wf Reg.TIM_STAT 4 2 port
  let st := s.timState
  if st = 0 ∨ st = 3 then
    let s := { (s.wf Reg.TIM_STAT 0 2 1).ppsLow with tim.good := 0 }
    if s.halted then
      let t := ((s.stamp50 : Int) - ofs).toNat
      { s.stepTime (t / 20000000000) (t / 20 % 1000000000) (t % 20 * 4294967296 / 20) with tim.ofs := 0 }
    else s.servo
  else
    let good := if ofs.natAbs ≤ s.lockThr then s.tim.good + 1 else 0
    let s := ({ s with tim.good := good } : State).servo
    let s := if st = 2 then s.wbit Reg.TIM_STAT 6 traceable else s
    if st = 1 && decide (16 ≤ good) then
      let s := { s with tim.alignFault := false, tim.bad := 0 }
      ((s.wf Reg.TIM_STAT 0 2 2).wbit Reg.TIM_STAT 6 traceable).raise 0x0202 0 [s.timeSrc, unsigned 32 ofs]
    else s

/-- TIME_SOURCE_TIMEOUT (R101): no valid measurement for 4 expected intervals. A station port silent for so long leaves the
comparison of R98 (DEDUCED). -/
def sourceTimeout (s : State) : State :=
  if s.timState = 1 ∨ s.timState = 2 then
    let s := ((s.wf Reg.TIM_STAT 0 2 3).wbit Reg.TIM_STAT 6 false).wbit Reg.TIM_FLAGS 0 true
    let s := { s with tim.holdSince := s.now, tim.good := 0 }.raise 0x0203 0 [s.timeSrc]
    if s.takesStation then s.silencePort s.tim.port else s
  else s

/-- A time alignment fault (R102): event 0x0210 with the offset and the cause, 0 for the offset and 1 for HOLDOVER; a
planned handover if the partner is LOCKED and free of the fault. -/
def State.alignmentFault (s : State) (cause : Nat) : State :=
  if s.tim.alignFault then s
  else
    let s := ({ s with tim.alignFault := true } : State).wbit Reg.TIM_FLAGS 3 true
    (s.raise 0x0210 0 [unsigned 32 s.tim.ofs, cause]).faultHandover 0x0210 (s.bit Reg.PAR_HLTH_PEER 10)

/-- HOLDOVER_LIMIT (R102): a device other than the time master has stayed in HOLDOVER beyond TIM_ALIGN.HOLD. -/
def holdoverLimit (s : State) : State :=
  if s.timState = 3 && !s.takesStation then s.alignmentFault 1 else s

/-- The alignment check of a control period (R102). -/
def State.checkAlignment (s : State) : State :=
  if s.takesStation || s.timState = 0 then s
  else
    let bad := if s.rf Reg.TIM_ALIGN 0 10 * 20 < s.tim.ofs.natAbs then s.tim.bad + 1 else 0
    let s := { s with tim.bad := bad }
    if s.rf Reg.TIM_ALIGN 10 8 ≤ bad then s.alignmentFault 0 else s

/-! ### IEEE 1588 -/

/-- A port of IEEE 1588 is enabled (R116). -/
def State.ptpOn (s : State) (port : Nat) : Bool := s.bit Reg.TIM_PTP_CFG port

/-- The whole seconds in an offset, rounded to the nearest. -/
def wholeSeconds (ofs : Int) : Int := (ofs + 10000000000) / 20000000000

/-- IEEE 1588 supplies the seconds while PPS_IN sets the phase (R114): from FREE or HOLDOVER the device acquires; behind that
a difference of whole seconds is slewed in. -/
def State.supplySeconds (s : State) (ofs : Int) (port : Nat) : State :=
  if s.timState = 0 ∨ s.timState = 3 then s.measured ofs port true
  else if wholeSeconds ofs = 0 then s
  else
    let s := { s.wn Reg.TIM_OFS (unsigned 32 ofs) with tim.ofs := ofs, tim.good := 0 }
    if s.bit Reg.TIM_SERVO 0 then s else { s with tim.slew := -(wholeSeconds ofs) * secUnits }

/-- An offset measured on the port chosen by the comparison: applied by the device that takes station time, only shown by
another device of node 0 (R97). DESIGN CHOICE: TIM_OFS shows it, as it shows the offset to the partner. Under SRC 0b01
IEEE 1588 supplies the seconds and PPS_IN the phase, under SRC 0b10 nothing is applied (R96). -/
def State.ptpOffset (s : State) (port : Nat) (origin arrival corr : Int) : State :=
  let s := { s with tim.last := s.tim.last.put port (0, 0) (origin + corr, arrival) }
  let ofs := arrival - origin - corr - s.tim.pathDelay.at port 0
  if port ≠ s.tim.port then s
  else if s.takesStation then
    let src := s.rf Reg.TIM_CFG 0 2
    if src = 0 then s.measured ofs port true
    else if src = 1 then s.supplySeconds ofs port
    else s
  else s.wn Reg.TIM_OFS (unsigned 32 ofs)

/-- The path delay of a port, shown in TIM_DELAY. -/
def State.setPathDelay (s : State) (port : Nat) (d : Int) : State :=
  { s with tim.pathDelay := s.tim.pathDelay.put port 0 d }.wn Reg.TIM_DELAY (unsigned 32 d)

/-- The device sends an IEEE 1588 message (R500): 1 Delay_Req, 4 Pdelay_Req, 5 Pdelay_Resp. -/
def State.ptpSend (s : State) (port kind : Nat) : State := s.sendEth port kind

/-- Each measured Sync starts a measurement of the path delay by the mechanism of TIM_PTP_CFG.P2P (R98). DESIGN CHOICE: no
rule gives the rate of the requests. -/
def State.askDelay (s : State) (port : Nat) : State := s.ptpSend port (if s.bit Reg.TIM_PTP_CFG 3 then 4 else 1)

/-- A message that the time block takes (R98), with the stamp of its arrival: over the configured transport, of the configured
domain, on an enabled port of node 0. -/
def State.ptpTake (s : State) (port : Nat) (udp : Bool) (domain : Nat) (m : PtpMsg) (stamp : Nat) : State :=
  if s.node != 0 || !s.ptpOn port || udp != s.bit Reg.TIM_PTP_CFG 2 || domain != s.rf Reg.TIM_PTP_CFG 8 8 then s
  else
    let p2p := s.bit Reg.TIM_PTP_CFG 3
    match m with
    | .announce d => ({ s with tim.announce := s.tim.announce.put port none (some d) } : State).choosePort
    | .sync _ origin corr => (s.ptpOffset port origin stamp corr).askDelay port
    | .syncTwoStep seq corr =>
      { s with tim.sync := s.tim.sync.put port none (some (seq, (stamp : Int), corr)) }
    | .followUp seq origin corr =>
      match s.tim.sync.at port none with
      | some (q, arrival, c) =>
        if q = seq then
          (({ s with tim.sync := s.tim.sync.put port none none } : State).ptpOffset port origin arrival (corr + c)).askDelay port
        else s
      | none => s
    | .delayResp t3 t4 =>
      if p2p then s
      else
        let (t1, t2) := s.tim.last.at port (0, 0)
        s.setPathDelay port (((t2 - t1) + (t4 - t3)) / 2)
    | .pdelayResp t1 t2 t3 t4 => if p2p then s.setPathDelay port (((t4 - t1) - (t3 - t2)) / 2) else s
    | .pdelayReq => if p2p then s.ptpSend port 5 else s
    | .other => s

/-- PTP_MESSAGE (R98): what the oldest frame that the MAC of the port has passed to the time block carries (R500). -/
def ptpMessage (port : Nat) (udp : Bool) (domain : Nat) (m : PtpMsg) (s : State) : State :=
  match s.lan.ptp.at port [] with
  | [] => s
  | t :: l => ({ s with lan.ptp := s.lan.ptp.put port [] l } : State).ptpTake port udp domain m t

/-! ### Ring time transfer -/

/-- The index of a ring lane in TIM_ASYM: L0, L1, L6, L7. -/
def asymIndex (lane : Nat) : Option Nat :=
  match lane with
  | 0 => some 0 | 1 => some 1 | 6 => some 2 | 7 => some 3 | _ => none

/-- TIM_ASYM of a lane in ps; none for the partner lanes. -/
def State.asym (s : State) (lane : Nat) : Int :=
  match asymIndex lane with
  | some i => signed 16 (s.rf (Reg.TIM_ASYM i) 0 16)
  | none => 0

/-- The average of a list of delays. -/
def average (l : List Int) : Int := if l.length = 0 then 0 else l.sum / l.length

/-- The lane whose time a device follows (R96, R104): the partner lanes for the standby of node 0, else the ring. -/
def State.follows (s : State) (lane : Nat) : Bool :=
  if s.node == 0 then s.pairState == 1 && (lane == 2 || lane == 3) else lane == s.tim.follow

/-- TIME_TRANSFER_SET (R103): link delay in ps, its average over the last 16 sets, and the offset to the sender's time;
TIM_DELAY and TIM_OFS count 50 ps. -/
def timeTransfer (lane : Nat) (t : TimeSet) (s : State) : State :=
  let d := 25 * ((t.t4 - t.t1) - (t.t3 - t.t2)) + s.asym lane
  let l := (d :: s.tim.delays.at lane []).take 16
  let s := { s with tim.delays := s.tim.delays.put lane [] l, tim.echo := s.tim.echo.put lane (0, 0) (t.t2, t.t1) }
  if s.follows lane then
    let s := s.wn Reg.TIM_DELAY (unsigned 32 (average l / 50))
    let s := s.draw
    s.measured ((50 * (t.t2 - t.t1) - average l) / 50) (if lane = 2 ∨ lane = 3 then 3 else 2) (Config.ringTraceable s.free)
  else s

/-! ### Meanings -/

/-- EPOCH_MARK. -/
def execEpochMark (s : State) : Host.Outcome State Fault Refusal := s.main epochTick

/-- TIM_STEP: a keyed write of TIM_CTRL.STEP. -/
def execTimStep (src : Src) (s : State) : Host.Outcome State Fault Refusal :=
  s.access fun s => s.keyed src Reg.TIM_CTRL timStep

/-- TIM_SNAP. -/
def execTimSnap (src : Src) (v : Word) (s : State) : Host.Outcome State Fault Refusal :=
  s.access fun s => s.unkeyed src Reg.TIM_SNAP (timSnap v)

/-- TIM_RATE_WRITE. -/
def execTimRateWrite (src : Src) (v : Word) (s : State) : Host.Outcome State Fault Refusal :=
  s.access fun s => s.unkeyed src Reg.TIM_RATE (timRateWrite v)

/-- TIM_SLEW_WRITE. -/
def execTimSlewWrite (src : Src) (v : Word) (s : State) : Host.Outcome State Fault Refusal :=
  s.access fun s => s.unkeyed src Reg.TIM_SLEW (timSlewWrite v)

/-- PTP_MESSAGE. -/
def execPtpMessage (port : Fin 2) (domain : BitVec 8) (m : PtpPacket) (s : State) :
    Host.Outcome State Fault Refusal := s.main (ptpMessage port.val m.udp domain.toNat m.msg)

/-- TIME_SOURCE_TIMEOUT. -/
def execTimeSourceTimeout (s : State) : Host.Outcome State Fault Refusal := s.main sourceTimeout

/-- HOLDOVER_LIMIT. -/
def execHoldoverLimit (s : State) : Host.Outcome State Fault Refusal := s.main holdoverLimit

/-- TIME_TRANSFER_SET. -/
def execTimeTransferSet (lane : Lane) (t : TimeSet) (s : State) : Host.Outcome State Fault Refusal :=
  s.heard lane.val (timeTransfer lane.val t)

end Sys2Proof.Machine
end

