-- ==== Sys2Proof/Machine/Operands.lean ====
section
/-! DEFINITION. The operand forms of the measurement commands: decoded bit windows, the sinc filters over them, rounding,
the code of a sampled voltage (R118 to R129), and the stated ranges of register
fields (R54). -/

namespace Sys2Proof.Machine

/-- A quotient rounded half away from zero. -/
def roundAway (num : Int) (den : Nat) : Int :=
  if 0 ≤ num then (2 * num + den) / (2 * den : Nat) else -((2 * -num + den) / (2 * den : Nat))

/-- A quotient rounded half to even. -/
def roundEven (num den : Nat) : Nat :=
  let q := num / den
  let r := num % den
  if 2 * r < den then q else if den < 2 * r then q + 1 else q + q % 2

/-- The value of a decoded bit (R118, R120): +1, −1, and 0 for a code violation; INV exchanges the two levels. -/
def bitValue (inv : Bool) : Option Bool → Int
  | none => 0
  | some b => if b != inv then 1 else -1

/-- The sums of every window of `r` consecutive values. -/
def boxcar (r : Nat) (l : List Int) : List Int :=
  (List.range (l.length + 1 - r)).map fun i => ((l.drop i).take r).sum

/-- The last `n` values of a list, padded in front with zeros. -/
def lastValues (n : Nat) (l : List Int) : List Int :=
  List.replicate (n - l.length) 0 ++ l.drop (l.length - n)

/-- The sinc3 sum over the last 3 × r − 2 values. -/
def sinc3Sum (r : Nat) (l : List Int) : Int := (boxcar r (boxcar r (boxcar r (lastValues (3 * r - 2) l)))).headD 0

/-- The triangular sinc2 sum over the last 2 × r − 1 values. -/
def sinc2Sum (r : Nat) (l : List Int) : Int := (boxcar r (boxcar r (lastValues (2 * r - 1) l))).headD 0

/-- A sinc3 result (R124). -/
def sinc3Code (r : Nat) (l : List Int) : Int :=
  clampInt (-8388608) 8388607 (roundAway (sinc3Sum r l * 8388608) (r ^ 3))

/-- A fast comparator output, Q15 (R126). -/
def sinc2Code (r : Nat) (l : List Int) : Int :=
  clampInt (-32768) 32767 (roundAway (sinc2Sum r l * 32768) (r ^ 2))

/-- The code of a differential voltage in nV (R129). -/
def adcCode (nanovolt : Int) : Int := clampInt (-32768) 32767 (roundAway (nanovolt * 32768) 2500000000)

/-! ### Field ranges (R54) -/

/-- The index of an address in an array of `n` registers. -/
def arrayIndex (base stride n a : Nat) : Option Nat :=
  if base ≤ a ∧ (a - base) % stride = 0 ∧ (a - base) / stride < n then some ((a - base) / stride) else none

/-- A field lies in a closed range. -/
def within (v : Word) (lo n min max : Nat) : Bool := decide (min ≤ fld v lo n) && decide (fld v lo n ≤ max)

/-- The throttle fields of every domain: K is 1 to 15 where MODE is SKIP (R536). -/
def throttleOk (v : Word) : Bool := (List.range 4).all fun d => fld v (8 * d) 2 != 3 || within v (8 * d + 4) 4 1 15

/-- The stated ranges of register fields that are no plain field range of the row. -/
def rangeStated (a : Nat) (v : Word) : Bool :=
  if (arrayIndex (Reg.SDM_CFG 0) 4 72 a).isSome then fld v 17 6 == 0 || within v 17 6 8 32
  else if a = Reg.THW_AVS then decide (fld v 8 8 < fld v 16 8) && decide (fld v 24 8 < fld v 8 8)
  else if a = Reg.THW_THRCFG then throttleOk v
  else if a = Reg.TIM_SERVO then within v 16 9 1 500 && within v 1 15 1 32767
  else if a = Reg.TIM_PPS then within v 0 9 1 500
  else if (arrayIndex (Reg.ADC_TRIG_SRC 0) 8 16 a).isSome then fld v 0 6 != 0x20 || within v 16 16 16 65535
  else if (arrayIndex (Reg.MTR_PWIN 0) 1024 4 a).isSome then within v 0 12 1 3600 && within v 16 16 1 1000
  else if (arrayIndex (Reg.MTR_REV 0) 1024 4 a).isSome then within v 0 16 1 65535 && within v 16 16 10 1000
  else if (arrayIndex (Reg.MTR_MPO_W 0) 32 4 a).isSome then within v 0 32 1 4294967295
  else if (arrayIndex (Reg.MTR_MPI_CHK 0) 32 4 a).isSome then within v 0 11 1 1440 && within v 16 14 0 10000
  else if (arrayIndex (Reg.SLT_WIN 0) 8 64 a).isSome || (arrayIndex (Reg.SLT_CTL 0) 8 64 a).isSome then within v 0 18 0 156250
  else if (arrayIndex (Reg.HQ_IMOD 0) 64 32 a).isSome then within v 0 8 1 255
  else if a = Reg.HQ_TUN_CFG then within v 0 10 20 1000
  else true

/-- Every field range of a row holds. -/
def Row.inRange (r : Row) (v : Word) : Bool := r.ranges.all fun (lo, n, min, max) => within v lo n min max

end Sys2Proof.Machine
end

