-- ==== Sys2Proof/Machine/Measure.lean ====
section
/-! DEFINITION. Sigma-delta channels and the ADC subsystem (chapter 5, R118 to R151) and the protection actions of the
channels (R329). -/

namespace Sys2Proof.Machine

/-! ### Sigma-delta channels -/

/-- Channel `c` is enabled. -/
def State.sdOn (s : State) (c : Nat) : Bool := s.bit (Reg.SDM_CFG c) 0

/-- Channel `c` is faulted and not yet recovered (R122, R123). -/
def State.sdFaulted (s : State) (c : Nat) : Bool := (s.meas.fault.at c none).isSome && !s.meas.recov.at c false

/-- A comparator of channel `c` stands asserted: SDM_RES CMP_HI or CMP_LO. -/
def State.cmpOn (s : State) (c : Nat) (hi : Bool) : Bool := s.bit (Reg.SDM_RES c) (if hi then 25 else 26)

/-- The decoded values of a bit window of channel `c`. -/
def State.sdValues (s : State) (c : Nat) (bits : List (Option Bool)) : List Int :=
  bits.map (bitValue (s.bit (Reg.SDM_CFG c) 1))

/-- OSR2 as the filter uses it: 0 reads as 8 (R148). -/
def State.osr2 (s : State) (c : Nat) : Nat :=
  if s.rf (Reg.SDM_CFG c) 17 6 = 0 then 8 else s.rf (Reg.SDM_CFG c) 17 6

/-- The channels that satisfy a test. -/
def chansWith (p : Nat → Bool) : Nat := ((List.range 72).filter p).length

/-- SDM_STAT as it follows from the channels (R147). -/
def State.showSdm (s : State) : State :=
  let n := chansWith fun c => s.sdOn c && s.sdFaulted c
  s.wn Reg.SDM_STAT ((decide (0 < n)).toNat + (decide (0 < chansWith fun c => s.cmpOn c true || s.cmpOn c false)).toNat * 2
    + n * 256)

/-- Channel `c` has recovered from its fault: 64 valid bits at an accepted rate have followed (R123). -/
def State.recover (s : State) (c : Nat) (qual : Bool) : State :=
  if qual && s.sdFaulted c then { s with meas.recov := s.meas.recov.put c false true }.showSdm else s

/-- The protection action of channel `c` for a condition: 0 CMP_HI, 1 CMP_LO, 2 channel fault (R329). -/
def State.sdAction (s : State) (c cond : Nat) : State :=
  let s := s.wbit Reg.GPR_FLAGS 5 true
  match s.rf (Reg.GPR_SDACT c) (2 * cond) 2 with
  | 1 => (s.raise 0x0808 c [c, cond, c / 3]).cellFault (c / 3) 2 0 0
  | 2 => (s.raise 0x0809 c [c, cond]).clusterFault 4 0
  | _ => s.raise 0x0806 c [c, cond]

/-- SINC3_RESULT (R118 to R125) at its completion tick: the violations of the frame that SDM_CV does not hold yet and the
rate are shown; unless the channel is faulted the result stands. `qual` says that 64 valid bits have followed its fault. -/
def sincResult (c : Nat) (bits : List (Option Bool)) (rate : Nat) (qual : Bool) (s : State) : State :=
  if !s.sdOn c then s
  else
    let r := s.rf (Reg.SDM_CFG c) 8 9
    let frame := bits.drop (bits.length - r)
    let s := s.satAdd (Reg.SDM_CV c) 0 32 ((frame.filter Option.isNone).length - s.meas.cvSeen.at c 0)
    let s := { s with meas.cvSeen := s.meas.cvSeen.put c 0 0 }.wf (Reg.SDM_RATE c) 0 16 rate
    let s := s.recover c qual
    if s.sdFaulted c then s
    else
      let s := s.wf (Reg.SDM_RES c) 0 24 (unsigned 24 (sinc3Code r (s.sdValues c bits)))
      { s with meas.done := s.meas.done.put c 0 s.now }

/-- The code violations of an unfinished frame that raise a fault are counted at once (R120). -/
def State.countViolations (s : State) (c n : Nat) : State :=
  if !s.sdOn c || s.sdFaulted c then s
  else
    { s with meas.cvSeen := s.meas.cvSeen.put c 0 (s.meas.cvSeen.at c 0 + n) }.satAdd (Reg.SDM_CV c) 0 32 n

/-- The rate that raises a fault is shown (R119). -/
def State.showRate (s : State) (c rate : Nat) : State := if s.sdOn c then s.wf (Reg.SDM_RATE c) 0 16 rate else s

/-- A channel fault with cause 1 LOT, 2 CV or 3 RATE (R122): flag and event, VALID cleared, result and comparators
frozen, and the protection action. -/
def channelFault (c cause : Nat) (s : State) : State :=
  if !s.sdOn c || s.sdFaulted c then s
  else
    let s := { s with meas := { s.meas with fault := s.meas.fault.put c none (some s.now), recov := s.meas.recov.put c false false
                                            cmpWait := s.meas.cmpWait.put c false true } }
    let s := s.wbit (Reg.SDM_FAULT (c / 32)) (c % 32) true
    let s := (s.wbit (Reg.SDM_RES c) 24 false).wf (Reg.SDM_RES c) 28 2 cause
    ((s.showSdm).raise 0x0401 c [c, cause]).sdAction c 2

/-- SD_CHANNEL_RECOVERED (R123): VALID returns with event 0x0402; the flag stays until firmware clears it. -/
def channelRecovered (c : Nat) (s : State) : State :=
  match s.meas.fault.at c none with
  | none => s
  | some t =>
    let s := { s with meas := { s.meas with fault := s.meas.fault.put c none none, recov := s.meas.recov.put c false false } }
    ((s.wbit (Reg.SDM_RES c) 24 true).showSdm).raise 0x0402 c [c, (s.now - t) * 2 / 625]

/-- SD_CHANNEL_SETTLED (R123): a channel enabled by an image load first becomes VALID; no event. -/
def channelSettled (c : Nat) (s : State) : State :=
  if s.sdOn c && (s.meas.fault.at c none).isNone then s.wbit (Reg.SDM_RES c) 24 true else s

/-- A channel enabled by an image load (R123): no fault, VALID clear, comparator outputs deasserted, filters unsettled. -/
def State.channelInit (s : State) (c : Nat) : State :=
  { s with meas := { s.meas with fault := s.meas.fault.put c none none, recov := s.meas.recov.put c false false
                                 cvSeen := s.meas.cvSeen.put c 0 0, cmpWait := s.meas.cmpWait.put c false true } }.wf
    (Reg.SDM_RES c) 24 3 0

/-- The channels behind an image load (R123). -/
def State.measInit (s : State) : State := (s.each 72 State.channelInit).showSdm

/-- The thresholds of channel `c`: HI, LO and hysteresis (R126). -/
def State.cmpHi (s : State) (c : Nat) : Int := signed 16 (s.rf (Reg.SDM_CMP c) 0 16)
def State.cmpLo (s : State) (c : Nat) : Int := signed 16 (s.rf (Reg.SDM_CMP c) 16 16)
def State.cmpHys (s : State) (c : Nat) : Int := s.rf (Reg.SDM_CMP_CFG c) 4 12

/-- A comparator of channel `c` can move: channel and comparator enabled, and the channel neither faulted nor within 2 × OSR2
bits of its recovery or load (R122, R123, R126). DESIGN CHOICE: an output that stands asserted when its comparator or channel is
disabled stays as it stood. -/
def State.cmpLive (s : State) (c : Nat) (hi : Bool) : Bool :=
  s.sdOn c && !s.sdFaulted c && !s.meas.cmpWait.at c false && s.bit (Reg.SDM_CMP_CFG c) (if hi then 0 else 1)

/-- `settled`: 2 × OSR2 bits have followed the recovery or the load, and the comparators act (R123). -/
def State.cmpSettle (s : State) (c : Nat) (settled : Bool) : State :=
  if settled && s.sdOn c then
    let s := s.recover c true
    { s with meas.cmpWait := s.meas.cmpWait.put c false false }
  else s

/-- FAST_COMPARATOR_ASSERT (R126, R128, R329): the sinc2 output of the window lies beyond the threshold. -/
def cmpAssert (c : Nat) (hi : Bool) (bits : List (Option Bool)) (s : State) : State :=
  let v := sinc2Code (s.osr2 c) (s.sdValues c bits)
  if s.cmpLive c hi && !s.cmpOn c hi && (if hi then decide (s.cmpHi c < v) else decide (v < s.cmpLo c)) then
    let s := (s.wbit (Reg.SDM_RES c) (if hi then 25 else 26) true).wbit (Reg.SDM_CMPF (c / 32)) (c % 32) true
    ((s.showSdm).raise (if hi then 0x0403 else 0x0404) c [c, unsigned 32 v]).sdAction c (if hi then 0 else 1)
  else s

/-- FAST_COMPARATOR_DEASSERT (R126): the output has passed the threshold less the hysteresis. -/
def cmpDeassert (c : Nat) (hi : Bool) (bits : List (Option Bool)) (s : State) : State :=
  let v := sinc2Code (s.osr2 c) (s.sdValues c bits)
  if s.cmpLive c hi && s.cmpOn c hi &&
      (if hi then decide (v < s.cmpHi c - s.cmpHys c) else decide (s.cmpLo c + s.cmpHys c < v)) then
    (s.wbit (Reg.SDM_RES c) (if hi then 25 else 26) false).showSdm
  else s

/-! ### Converters -/

/-- Converter `k`. -/
def State.adc (s : State) (k : Nat) : Adc := s.meas.conv.at k {}

/-- Sets converter `k`; ADC_STAT.BUSY follows: the odd converter of a pair is busy with the stream its even one holds. -/
def State.setAdc (s : State) (k : Nat) (a : Adc) : State :=
  { s with meas.conv := s.meas.conv.put k {} a }.wbit Reg.ADC_STAT k
    (a.reg.isSome || !a.inj.isEmpty || a.stream.isSome || (k % 2 == 1 && (s.adc (k - 1)).stream.isSome))

/-- Sets the interleaved stream of the pair of even converter `e`; BUSY and KSTAT of both follow (R139, R149). -/
def State.setStream (s : State) (e : Nat) (x : Option Stream) : State :=
  let s := (s.setAdc e { s.adc e with stream := x }).wbit Reg.ADC_STAT (e + 1) x.isSome
  (s.wbit (Reg.ADC_KSTAT e) 1 x.isSome).wbit (Reg.ADC_KSTAT (e + 1)) 1 x.isSome

/-- A trigger lost for converter `k`: 1 BUSY, 2 QFULL, 3 CAL, 4 DELAY (R133 to R140). -/
def State.loseTrigger (s : State) (k t cause : Nat) : State :=
  let s := (s.satAdd (Reg.ADC_LOST k) 0 16 1).wf (Reg.ADC_LOST k) 16 3 cause
  let s := s.wbit Reg.ADC_FLAGS k true
  let a := s.adc k
  if a.told then s else (s.setAdc k { a with told := true }).raise 0x0412 k [k, t, cause]

/-- Converter `k` is calibrating or has a calibration pending (R140). -/
def State.calibrating (s : State) (k : Nat) : Bool := s.bit Reg.ADC_STAT (8 + k) || s.bit Reg.ADC_STAT (16 + k)

/-- The simultaneous set a converter belongs to (R137). -/
def State.setOf (s : State) (k : Nat) : Option Nat := [0, 1, 2, 3].find? fun j => s.bit (Reg.ADC_SIM j) k

/-- The members of simultaneous set `j`. -/
def State.members (s : State) (j : Nat) : List Nat := (List.range 8).filter fun k => s.bit (Reg.ADC_SIM j) k

/-- The number of steps of a regular sequence. -/
def State.seqLen (s : State) (k : Nat) : Nat := s.rf (Reg.ADC_SEQ k) 0 4 + 1

/-- The converter runs interleaved: ILV on the even converter of its pair (R139). -/
def State.ilv (s : State) (k : Nat) : Bool := s.bit (Reg.ADC_CFG (k / 2 * 2)) 8

/-- Starts the regular sequence of converter `k` at its next step (R134): all steps with BURST, one without. -/
def State.startRegular (s : State) (k : Nat) (deferred : Bool) : State :=
  let a := s.adc k
  let step := s.rf (Reg.ADC_KSTAT k) 2 4
  let burst := s.bit (Reg.ADC_SEQ k) 4
  s.setAdc k { a with reg := some { slot := if burst then 0 else step, trig := s.now, deferred := deferred }
                      left := if burst then s.seqLen k else 1 }

/-- Starts the interleaved stream of a pair (R139). -/
def State.startStream (s : State) (k : Nat) : State :=
  let n := s.rf (Reg.ADC_SEQ k) 16 16
  s.setStream k (some { left := if n = 0 then none else some n, trig := s.now })

/-- Aborts the regular conversion in progress of converter `k`; it will sample afresh (R136). A lockstep step that has not
sampled yet is deferred instead (R138). -/
def State.abortRegular (s : State) (k : Nat) : State :=
  let a := s.adc k
  match a.reg with
  | none => s
  | some j => s.setAdc k { a with reg := some { j with
      sampled := none, resampled := j.resampled || j.sampled.isSome
      deferred := j.deferred || ((s.setOf k).isSome && j.sampled.isNone && !j.resampled) } }

/-- The converters that abort with `k`: every member of its simultaneous set (R138). -/
def State.lockstep (s : State) (k : Nat) : List Nat :=
  match s.setOf k with
  | some j => s.members j
  | none => [k]

/-- Queues injected entry `i` of converter `k` (R135, R136, R138); lost while any member of its set calibrates (R140, R141).
DESIGN CHOICE: the injected conversion in progress is one of the four the queue holds. -/
def State.inject (s : State) (k t i : Nat) : State :=
  if (s.lockstep k).any s.calibrating then s.loseTrigger k t 3
  else
    let a := s.adc k
    if 4 ≤ a.inj.length then s.loseTrigger k t 2
    else
      let s := s.setAdc k { a with inj := a.inj ++ [{ slot := s.rf (Reg.ADC_INJ k i) 12 2, trig := s.now }] }
      (s.lockstep k).foldl State.abortRegular s

/-- The one trigger of the regular sequence of converter `k` (R134). DESIGN CHOICE: TRIG and COUNT of an interleaved pair are
those of its even converter (R139). -/
def State.seqTrig (s : State) (k : Nat) : Nat := s.rf (Reg.ADC_SEQ (if s.ilv k then k / 2 * 2 else k)) 8 4

/-- The trigger of a pair that interleaves, for its converter `k` (R139): the even one starts the stream; while a stream runs
already the trigger is lost for both. -/
def State.fireStream (s : State) (k t : Nat) : State :=
  match (s.adc (k / 2 * 2)).stream with
  | none => if k % 2 = 0 then s.startStream k else s
  | some x => if k % 2 = 1 ∧ x.trig = s.now then s else s.loseTrigger k t 1

/-- The regular part of a trigger for one converter outside any simultaneous set. DESIGN CHOICE: one that arrives while a
single step still converts is lost with cause BUSY as during a burst (R134). -/
def State.fireRegular (s : State) (k t : Nat) : State :=
  if s.calibrating k then s.loseTrigger k t 3
  else if s.ilv k then s.fireStream k t
  else if (s.adc k).reg.isSome then s.loseTrigger k t 1
  else s.startRegular k false

/-- A trigger of simultaneous set `j` (R137, R138, R141): lost and counted for every member while any member
calibrates; deferred while any member is busy with injected work. -/
def State.fireSet (s : State) (j t : Nat) : State :=
  let m := s.members j
  if m.any s.calibrating then m.foldl (fun s k => s.loseTrigger k t 3) s
  else if m.any fun k => (s.adc k).reg.isSome then m.foldl (fun s k => s.loseTrigger k t 1) s
  else
    let d := m.any fun k => !(s.adc k).inj.isEmpty
    m.foldl (fun s k => s.startRegular k d) s

/-- Trigger `t` fires (R133 to R138): its injected entries first, so that a set it starts as well is deferred (R138). -/
def State.fire (s : State) (t : Nat) : State :=
  let s := s.each 8 fun s k => s.each 4 fun s i =>
    if s.bit (Reg.ADC_INJ k i) 0 && s.rf (Reg.ADC_INJ k i) 4 4 == t then s.inject k t i else s
  let s := [0, 1, 2, 3].foldl (fun s j =>
    if s.rf (Reg.ADC_SIM j) 0 8 != 0 && s.rf (Reg.ADC_SIM j) 8 4 == t then s.fireSet j t else s) s
  s.each 8 fun s k =>
    if (s.setOf k).isNone && s.seqTrig k == t then s.fireRegular k t else s

/-- The converters a trigger serves (R133). -/
def State.serves (s : State) (t k : Nat) : Bool :=
  (match s.setOf k with
   | some j => s.rf (Reg.ADC_SIM j) 8 4 == t
   | none => s.seqTrig k == t) ||
  [0, 1, 2, 3].any fun i => s.bit (Reg.ADC_INJ k i) 0 && s.rf (Reg.ADC_INJ k i) 4 4 == t

/-- The source event of trigger `t` occurs (R133): it fires at once with delay 0; up to four delays run in parallel. -/
def State.sourceOf (s : State) (t : Nat) : State :=
  if s.rf (Reg.ADC_TRIG_DLY_L t) 0 16 = 0 then s.fire t
  else
    let n := s.meas.delays.at t 0
    if n < 4 then { s with meas.delays := s.meas.delays.put t 0 (n + 1) }
    else s.each 8 fun s k => if s.serves t k then s.loseTrigger k t 4 else s

/-- A source event of R132 occurs, by its SRC number. -/
def State.adcSource (s : State) (src : Nat) : State :=
  s.each 16 fun s t => if s.rf (Reg.ADC_TRIG_SRC t) 0 6 == src then s.sourceOf t else s

/-- ADC_TRIGGER_FIRE (R133): a delay of trigger `t` has run out. -/
def triggerFire (t : Nat) (s : State) : State :=
  let n := s.meas.delays.at t 0
  if n = 0 then s else ({ s with meas.delays := s.meas.delays.put t 0 (n - 1) } : State).fire t

/-- ADC_TIMER_TRIGGER (R132). -/
def timerTrigger (t : Nat) (s : State) : State :=
  if s.rf (Reg.ADC_TRIG_SRC t) 0 6 = 0x20 then s.sourceOf t else s

/-- A write of ADC_SW_TRIG (R132): every trigger named whose source is software. -/
def swTrigger (v : Word) (s : State) : State :=
  s.each 16 fun s t => if fld v t 1 = 1 && s.rf (Reg.ADC_TRIG_SRC t) 0 6 = 0x1f then s.sourceOf t else s

/-- Samples the regular step of converter `k`. -/
def State.sampleRegular (s : State) (k : Nat) : State :=
  let a := s.adc k
  match a.reg with
  | none => s
  | some j => s.setAdc k { a with reg := some { j with sampled := some s.now } }

/-- A sample of the stream of a pair (R139), taken by converter `k` if it is its turn: the two alternate, the even one first. -/
def State.sampleStream (s : State) (k : Nat) : State :=
  let e := k / 2 * 2
  match (s.adc e).stream with
  | none => s
  | some x =>
    if x.odd != (k % 2 == 1) || x.left == some 0 || (if x.odd then x.oddJob else x.evenJob).isSome then s
    else
      let j : Job := { slot := x.slot, trig := x.trig, sampled := some s.now }
      s.setStream e (some { x with left := x.left.map (· - 1), odd := !x.odd, slot := (x.slot + 1) % 16
                                   evenJob := if x.odd then x.evenJob else some j, oddJob := if x.odd then some j else x.oddJob })

/-- ADC_SAMPLE_INSTANT (R130, R136 to R139): the oldest injected conversion samples; else the stream of its pair; else the
regular step, with every member of its simultaneous set in the same tick once all are free of injected work. Event 0x0413
reports a deferral. -/
def sampleInstant (k : Nat) (s : State) : State :=
  let a := s.adc k
  if s.ilv k then s.sampleStream k
  else match a.inj with
  | j :: js => if j.sampled.isSome then s else s.setAdc k { a with inj := { j with sampled := some s.now } :: js }
  | [] =>
    match s.setOf k with
    | none => s.sampleRegular k
    | some set =>
      let m := s.members set
      if m.all fun i => (s.adc i).inj.isEmpty then
        let s' := m.foldl State.sampleRegular s
        match a.reg with
        | some j =>
          if j.deferred then (s'.wbit Reg.ADC_FLAGS (16 + set) true).raise 0x0413 set [set, s.now - j.trig] else s'
        | none => s'
      else s

/-- A result register (R131, R150): code, NEW, RESAMPLED, DEFERRED and the sample offset, kept in full beside it. -/
def State.putResult (s : State) (reg key : Nat) (code : Int) (j : Job) : State :=
  let o := j.sampled.getD s.now - j.trig
  let s := { s with meas.offset := s.meas.offset.put key 0 (min o 16383) }
  s.wn reg (unsigned 16 code + 65536 + j.resampled.toNat * 131072 + j.deferred.toNat * 262144 + min o 8191 * 524288)

/-- The code a converter returns (R129, R142): uncorrected until its first calibration. -/
def State.convCode (s : State) (k : Nat) (nanovolt : Int) : Int :=
  if s.bit (Reg.ADC_KSTAT k) 0 then adcCode nanovolt else clampInt (-32768) 32767 (Config.rawCode s.free)

/-- The regular sequence goes on behind a completed step (R134). -/
def State.nextStep (s : State) (k : Nat) (j : Job) : State :=
  let a := s.adc k
  let nxt := if j.slot + 1 < s.seqLen k then j.slot + 1 else 0
  let s := s.wf (Reg.ADC_KSTAT k) 2 4 nxt
  if 1 < a.left then
    s.setAdc k { a with reg := some { slot := nxt, trig := j.trig, deferred := false }, left := a.left - 1 }
  else s.setAdc k { a with reg := none, left := 0 }

/-- The conversion of converter `k` for the stream of its pair ends (R139); behind the last one the stream is over. -/
def State.streamDone (s : State) (k : Nat) (code : Int) : State :=
  let e := k / 2 * 2
  match (s.adc e).stream with
  | none => s
  | some x =>
    match (if k % 2 = 1 then x.oddJob else x.evenJob) with
    | none => s
    | some j =>
      let s := s.putResult (Reg.ADC_RES e j.slot) (32 * e + j.slot) code j
      let x := if k % 2 = 1 then { x with oddJob := none } else { x with evenJob := none }
      s.setStream e (if x.left == some 0 && x.evenJob.isNone && x.oddJob.isNone then none else some x)

/-- ADC_CONVERSION_COMPLETE (R129 to R139): the sampled injected conversion, the stream sample or the sampled regular
step of converter `k` ends with the code of its voltage. -/
def conversionComplete (k : Nat) (nanovolt : Int) (s : State) : State :=
  let a := s.adc k
  let code := s.convCode k nanovolt
  let s := s.draw
  if s.ilv k then s.streamDone k code
  else match a.inj with
  | j :: js =>
    if j.sampled.isNone then s
    else (s.putResult (Reg.ADC_IRES k j.slot) (32 * k + 16 + j.slot) code j).setAdc k { a with inj := js }
  | [] =>
    match a.reg with
    | none => s
    | some j =>
      if j.sampled.isNone then s
      else (s.putResult (Reg.ADC_RES k j.slot) (32 * k + j.slot) code j).nextStep k j

/-- The regular work of converter `k` is discarded, with event 0x0414 if a sequence was interrupted; it begins at step 0 again
(R140, R141). -/
def State.dropRegular (s : State) (k : Nat) : State :=
  let a := s.adc k
  let s := match a.reg with
    | some j => s.raise 0x0414 k [k, j.slot]
    | none => s
  (s.setAdc k { a with reg := none, left := 0 }).wf (Reg.ADC_KSTAT k) 2 4 0

/-- A calibration of converter `k` becomes pending (R140, R141): its regular work is discarded, and that of every member of
its simultaneous set, whose lockstep stops and starts again at step 0 (R137); the stream of its pair stops. DESIGN CHOICE: a
request for a converter whose calibration is pending or runs is ignored. -/
def State.requestCal (s : State) (k : Nat) : State :=
  if s.calibrating k then s
  else
    let s := (s.lockstep k).foldl State.dropRegular s
    let s := if (s.adc (k / 2 * 2)).stream.isSome then s.setStream (k / 2 * 2) none else s
    s.wbit Reg.ADC_STAT (16 + k) true

/-- A write of ADC_CAL_CMD (R140, R141): both converters of an interleaved pair calibrate together, and lockstep stops
for a whole simultaneous set. -/
def calCmd (v : Word) (s : State) : State :=
  s.each 8 fun s k => if fld v k 1 = 1 || (s.ilv k && fld v (k / 2 * 2) 2 != 0) then s.requestCal k else s

/-- ADC_CAL_START (R140): the injected queue has drained; event 0x0410. -/
def calStart (k : Nat) (s : State) : State :=
  if s.bit Reg.ADC_STAT (16 + k) && (s.adc k).inj.isEmpty then
    ((s.wbit Reg.ADC_STAT (16 + k) false).wbit Reg.ADC_STAT (8 + k) true).raise 0x0410 k [k]
  else s

/-- ADC_CAL_COMPLETE (R140, R142): the corrections are stored; event 0x0411. -/
def calComplete (k : Nat) (offset gain : Word) (weights : List Word) (s : State) : State :=
  if !s.bit Reg.ADC_STAT (8 + k) then s
  else
    let s := ((s.wr (Reg.ADC_CAL_OFS k) offset).wr (Reg.ADC_CAL_GAIN k) gain).each 16 fun s n =>
      s.wr (Reg.ADC_CAL_W k n) (weights.getD n 0)
    let s := ((s.wbit Reg.ADC_STAT (8 + k) false).wbit (Reg.ADC_KSTAT k) 0 true).wf (Reg.ADC_KSTAT k) 2 4 0
    (s.wbit Reg.ADC_FLAGS (8 + k) true).raise 0x0411 k [k, offset.toNat, gain.toNat]

/-! ### Meanings -/

/-- SINC3_RESULT, with the measured rate in kb/s and whether the stream is qualified again. -/
def execSinc3Result (c : Chan) (bits : List (Option Bool)) (rate : BitVec 16 × Bool) (s : State) :
    Host.Outcome State Fault Refusal := s.main (sincResult c.val bits rate.1.toNat rate.2)

/-- SD_LOSS_OF_TRANSITION (R121), and whether the channel had recovered from an earlier fault: 64 valid bits had followed it. -/
def execSdLossOfTransition (c : Chan × Bool) (s : State) : Host.Outcome State Fault Refusal :=
  s.main fun s => channelFault c.1.val 1 (s.recover c.1.val c.2)

/-- SD_CODE_VIOLATION_FAULT (R120), with the violations in the frame that has not ended yet, and recovery as for LOT. -/
def execSdCodeViolationFault (c : Chan × Nat × Bool) (s : State) : Host.Outcome State Fault Refusal :=
  s.main fun s => channelFault c.1.val 2 ((s.recover c.1.val c.2.2).countViolations c.1.val c.2.1)

/-- SD_RATE_FAULT (R119), with the measured rate in kb/s, and recovery as for LOT. -/
def execSdRateFault (c : Chan × BitVec 16 × Bool) (s : State) : Host.Outcome State Fault Refusal :=
  s.main fun s => channelFault c.1.val 3 ((s.recover c.1.val c.2.2).showRate c.1.val c.2.1.toNat)

/-- SD_CHANNEL_RECOVERED. -/
def execSdChannelRecovered (c : Chan) (s : State) : Host.Outcome State Fault Refusal := s.main (channelRecovered c.val)

/-- SD_CHANNEL_SETTLED. -/
def execSdChannelSettled (c : Chan) (s : State) : Host.Outcome State Fault Refusal := s.main (channelSettled c.val)

/-- FAST_COMPARATOR_ASSERT, with the stream and whether 2 × OSR2 of its bits followed a recovery or a load. -/
def execFastComparatorAssert (c : Chan) (hi : Bool) (bits : List (Option Bool) × Bool) (s : State) :
    Host.Outcome State Fault Refusal := s.main fun s => cmpAssert c.val hi bits.1 (s.cmpSettle c.val bits.2)

/-- FAST_COMPARATOR_DEASSERT, with the stream as for FAST_COMPARATOR_ASSERT. -/
def execFastComparatorDeassert (c : Chan) (hi : Bool) (bits : List (Option Bool) × Bool) (s : State) :
    Host.Outcome State Fault Refusal := s.main fun s => cmpDeassert c.val hi bits.1 (s.cmpSettle c.val bits.2)

/-- ADC_TRIGGER_FIRE. -/
def execAdcTriggerFire (t : Fin 16) (s : State) : Host.Outcome State Fault Refusal := s.main (triggerFire t.val)

/-- ADC_TIMER_TRIGGER. -/
def execAdcTimerTrigger (t : Fin 16) (s : State) : Host.Outcome State Fault Refusal := s.main (timerTrigger t.val)

/-- ADC_SW_TRIGGER. -/
def execAdcSwTrigger (src : Src) (v : Word) (s : State) : Host.Outcome State Fault Refusal :=
  s.access fun s => s.unkeyed src Reg.ADC_SW_TRIG (swTrigger v)

/-- ADC_SAMPLE_INSTANT. -/
def execAdcSampleInstant (k : Conv) (s : State) : Host.Outcome State Fault Refusal := s.main (sampleInstant k.val)

/-- ADC_CONVERSION_COMPLETE. -/
def execAdcConversionComplete (k : Conv) (nanovolt : Int) (s : State) : Host.Outcome State Fault Refusal :=
  s.main (conversionComplete k.val nanovolt)

/-- ADC_CAL_CMD. -/
def execAdcCalCmd (src : Src) (v : Word) (s : State) : Host.Outcome State Fault Refusal :=
  s.access fun s => s.unkeyed src Reg.ADC_CAL_CMD (calCmd v)

/-- ADC_CAL_START. -/
def execAdcCalStart (k : Conv) (s : State) : Host.Outcome State Fault Refusal := s.main (calStart k.val)

/-- ADC_CAL_COMPLETE. -/
def execAdcCalComplete (k : Conv) (offset gain : Word) (weights : List Word) (s : State) :
    Host.Outcome State Fault Refusal := s.main (calComplete k.val offset gain weights)

end Sys2Proof.Machine
end

