-- ==== Sys2Proof/Machine/Protect.lean ====
section
/-! DEFINITION. Gate protection and cell bypass (chapter 11, R320 to R349). -/

namespace Sys2Proof.Machine

/-! ### Switch faults -/

/-- FLT_FUNC.SGI is RUN (R395). -/
def State.sgiRun (s : State) : Bool := s.rf Reg.FLT_FUNC 0 2 == 1

/-- DSAT_I is evaluated (R320, R360, R398): armed and ACTIVE or TAKING, and where the SAFE section enables SGI only while
SGI is not in its safe state. -/
def State.evaluating (s : State) : Bool :=
  !s.halted && decide (2 ≤ s.pairState) && (!s.flint.sgiOn || s.sgiRun)

/-- Shows the evaluation in GPR_PSTAT.EVAL. -/
def State.showEval (s : State) : State := s.wbit Reg.GPR_PSTAT 2 s.evaluating

/-- The level seen last at DSAT_I[g]; the input pulls up. -/
def State.dsat (s : State) (g : Nat) : Bool := s.prot.dsat.at g true

/-- Notes the level of DSAT_I[g]; GPR_SWINFO.LEVEL shows it. -/
def State.setDsat (s : State) (g : Nat) (b : Bool) : State :=
  if g < 192 then ({ s with prot.dsat := s.prot.dsat.put g true b } : State).wbit (Reg.GPR_SWINFO g) 4 b else s

/-- The fault record of switch `g` (R348): CAUSE, HARD, LEG, LEVEL and the count of qualified faults. -/
def State.recordSwitch (s : State) (g : Nat) (desat hard : Bool) : State :=
  let n := min (s.rf (Reg.GPR_SWINFO g) 8 8 + 1) 255
  s.wn (Reg.GPR_SWINFO g) ((if desat then 1 else 2) + hard.toNat * 4 + s.compat.toNat * 8 + 16 + n * 256)

/-- Latches switch `g` off (R326, R327): the generator goes on behind it. -/
def State.latchSwitch (s : State) (g : Nat) : State :=
  (((s.setLatch g true).countLatches).settleCell (g / 8)).sendLatches

/-- Clears the latch of switch `g`, which stays off until the generator's next turn-on of it (R345). -/
def State.unlatch (s : State) (g : Nat) : State :=
  let p := s.pair (g / 2)
  (s.setPair (g / 2) (if g % 2 = 0 then { p with up := false } else { p with low := false })).setLatch g false

/-- Escalation of a switch fault (R331): a cell fault with another one of the cell within ESC_WIN. -/
def State.escalate (s : State) (g : Nat) : State :=
  let c := g / 8
  let last := s.prot.swAt.at c none
  let s := { s with prot.swAt := s.prot.swAt.put c none (some (s.now, g)) }
  match last with
  | some (t, g0) => if s.now ≤ t + s.rf Reg.GPR_ESC_L 0 16 then s.cellFault c 1 g0 g else s
  | none => s

/-- SWITCH_FAULT_QUALIFIED (R321 to R328): a desaturation of a switch that is on, a driver supply fault of one that is
off. A latched switch is not evaluated. -/
def switchFault (g : Nat) (hard : Bool) (s : State) : State :=
  if !s.evaluating || s.latched g then s
  else
    let desat := s.gate g
    let s := (s.setDsat g true).recordSwitch g desat (hard && desat)
    let s := (s.wbit Reg.GPR_FLAGS (if desat then 0 else 1) true).latchSwitch g
    let s := if desat then s.raise 0x0801 g [g, hard.toNat, s.compat.toNat] else s.raise 0x0802 g [g]
    s.escalate g

/-! ### Trip inputs -/

/-- TRIP_INPUT_ASSERTED (R338): an enabled input latches and applies the cluster pattern; HB_OUT goes on. -/
def tripInput (n : Nat) (s : State) : State :=
  let s := s.wbit Reg.GPR_TRIPI (16 + n) true
  if s.bit Reg.GPR_TRIPI n && !s.bit Reg.GPR_TRIPI (8 + n) then
    let s := (s.wbit Reg.GPR_TRIPI (8 + n) true).wbit Reg.GPR_FLAGS 4 true
    (s.cancelAll.settle).raise 0x0805 n [n]
  else s

/-- TRIP_O1_PULSE_END (R67): with COMPAT high TRIP_O[1] pulses for 3,125 ticks per cluster fault. -/
def tripPulseEnd (s : State) : State := if s.compat && bitOf s.sys.tripO 1 then s.driveTrip 1 false else s

/-! ### Bypass -/

/-- GPR_BYPCFG.TYPE is HELD (R19). -/
def State.heldType (s : State) (c : Nat) : Bool := s.bit (Reg.GPR_BYPCFG c) 0

/-- The accepted BYP_FB level. -/
def State.bypClosed (s : State) (c : Nat) : Bool := s.bit Reg.GPR_BYPFB c

/-- Cell `c` is switching: the generator commands one of its switches (R341). -/
def State.switching (s : State) (c : Nat) : Bool := (List.range 8).any fun i =>
  match s.padCmd (8 * c + i) with
  | .gen _ => true
  | _ => false

/-- A cell that holds its command behind the fall of BYP_O waits for the accepted opening of a closed HELD bypass (R341,
R345). -/
def State.awaitOpening (s : State) (c : Nat) : State :=
  if s.heldType c && s.bypClosed c && !s.bypCmd c && (List.range 4).any fun i => (s.pair (4 * c + i)).hold then
    { s with prot.waitOpen := withBit s.prot.waitOpen c true }
  else s

/-- BYP_FB_ACCEPTED (R340, R341). -/
def bypFb (c : Nat) (closed : Bool) (s : State) : State :=
  let runs := s.switching c
  let was := bitOf s.prot.closedSince c
  let s := { s.wbit Reg.GPR_BYPFB c closed with prot.closedSince := withBit s.prot.closedSince c closed }
  if !s.populated c then s
  else
    let s := { s with prot.waitOpen := withBit s.prot.waitOpen c (closed && bitOf s.prot.waitOpen c) }
    if bitOf s.prot.byp c then
      if was && !closed then (s.wbit Reg.GPR_FLAGS 6 true).raise 0x0811 c [c] else s
    else if !closed then s
    else if runs then ((s.wbit Reg.GPR_FLAGS 6 true).raise 0x0812 c [c]).cellFault c 4 0 0
    else s.awaitOpening c

/-- BYPASS_TCLOSE_TIMEOUT (R341): no accepted closure behind a rise of BYP_O, or no accepted opening of a HELD bypass
behind its fall. -/
def bypTimeout (c : Nat) (s : State) : State :=
  let o := bitOf s.prot.byp c
  if s.populated c && (if o then !s.bypClosed c else s.heldType c && s.bypClosed c) then
    (s.wbit Reg.GPR_FLAGS 6 true).raise 0x0810 c [c, o.toNat]
  else s

/-! ### Clearing -/

/-- The outcome of a clear (R343, R344): GPR_CLR_STAT and event 0x0820, or 0x0821 with its reason and CLRREF. -/
def State.clearDone (s : State) (scope index reason : Nat) : State :=
  let s := s.wn Reg.GPR_CLR_STAT (scope + index * 4 + (if reason = 0 then 1 else 2) * 1024 + reason * 4096)
  if reason = 0 then s.raise 0x0820 0 [scope, index]
  else (s.wbit Reg.GPR_FLAGS 7 true).raise 0x0821 0 [scope, index, reason]

/-- Clears a switch (R344, R345): refused beyond the range, and while DSAT_I[g] reads high, latched or not. It stays off
until the generator's next turn-on. -/
def clearSwitch (g : Nat) (s : State) : State :=
  if 192 ≤ g then s.clearDone 0 g 5
  else if s.dsat g then s.clearDone 0 g 1
  else if s.latched g then ((((s.unlatch g).countLatches).settleCell (g / 8)).sendLatches).clearDone 0 g 0
  else s.clearDone 0 g 0

/-- The switches of cell `c` that are latched. -/
def State.latchedOf (s : State) (c : Nat) : List Nat := (List.range 8).filterMap fun i =>
  if s.latched (8 * c + i) then some (8 * c + i) else none

/-- A comparator of cell `c` with CELL action is asserted, or an enabled channel of it has no VALID result (R344). -/
def State.cellMeasBad (s : State) (c : Nat) : Bool :=
  [0, 1, 2].any fun m =>
    let ch := 3 * c + m
    (s.cmpOn ch true && s.rf (Reg.GPR_SDACT ch) 0 2 == 1) || (s.cmpOn ch false && s.rf (Reg.GPR_SDACT ch) 2 2 == 1) ||
    (s.sdOn ch && !s.bit (Reg.SDM_RES ch) 24)

/-- Why a clear of cell `c` is refused, whether or not it holds a latch; 0 when it is not (R344). -/
def State.cellReason (s : State) (c : Nat) : Nat :=
  if (s.latchedOf c).any s.dsat || s.cellMeasBad c then 1
  else if s.bypClosed c && (!s.heldType c || s.rf (Reg.GPR_CELLINFO c) 0 4 == 5) then 2
  else if bitOf s.prot.fsreq c then 3
  else 0

/-- A pair holds its fail-safe command, BYP_O falling at once, until its next group boundary (R345): the cell's own behind a
cleared cell, the image pattern behind a cleared trip. Behind a takeover a pair that holds the image pattern goes on with it past
a cleared trip; past a cleared cell it waits for values of its own only if none have come (R413). -/
def Pair.holding (p : Pair) (own : Bool) : Pair :=
  if own then { p with hold := true, freed := some true, wait := p.wait && !p.fresh }
  else if p.hold && p.freed.isNone then p
  else { p with hold := true, freed := some false }

/-- The pairs of cell `c` hold their fail-safe command behind a clear (R345). -/
def State.holdCell (s : State) (c : Nat) (own : Bool) : State :=
  (s.each 4 fun s i => s.setPair (4 * c + i) ((s.pair (4 * c + i)).holding own)).awaitOpening c

/-- Clears a cell: its cell fail-safe state and every switch latch (R343 to R345). -/
def clearCell (c : Nat) (s : State) : State :=
  if 24 ≤ c then s.clearDone 1 c 5
  else
    let r := s.cellReason c
    if r != 0 then s.clearDone 1 c r
    else if !s.cellFs c && (s.latchedOf c).isEmpty then s.clearDone 1 c 0
    else
      let fs := s.cellFs c
      let s := (s.latchedOf c).foldl State.unlatch s
      let s := ((s.wbit Reg.GPR_CELLFS c false).wbit Reg.GPR_CELLFLT c false).wn (Reg.GPR_CELLINFO c) 0
      let s := if fs then s.holdCell c true else s
      (((s.countLatches.settleCell c).sendLatches)).clearDone 1 c 0

/-- A cause of the cluster fault is still present (R344, R353, R354): 2 overrun never, 3 an engine stopped by a fault,
4 a channel with CLUSTER action, 5 the maximum at or above T_THROT, 6 a bank supply out of range. -/
def State.causePresent (s : State) (cause : Nat) : Bool :=
  match cause with
  | 3 => (List.range 8).any fun k => s.vtx.stopped.at k false
  | 4 => (List.range 72).any fun ch =>
      (s.cmpOn ch true && s.rf (Reg.GPR_SDACT ch) 0 2 == 2) || (s.cmpOn ch false && s.rf (Reg.GPR_SDACT ch) 2 2 == 2) ||
      (s.sdFaulted ch && s.rf (Reg.GPR_SDACT ch) 4 2 == 2)
  | 5 => decide (840 ≤ signed 16 (s.rf Reg.THW_STAT 0 16))
  | 6 => (List.range 8).any fun b => !s.bankOk b && (List.range 3).any fun i => s.populated (3 * b + i)
  | _ => false

/-- Shows the thermal levels in THW_STAT (R552). -/
def State.showThermal (s : State) : State :=
  let l := s.thw.levels
  let k := if bitOf l 3 then 3 else if bitOf l 2 then 2 else if bitOf l 1 then 1 else if bitOf l 5 then 5
    else if bitOf l 4 then 4 else 0
  let s := if bitOf l 2 then s else { s with vtx.deferTold := [] }
  ((s.wf Reg.THW_STAT 16 3 k).wbit Reg.THW_STAT 19 (bitOf l 2)).wbit Reg.THW_STAT 20 (bitOf l 3)

/-- A thermal level is left: event 0x0F08 with the level and the maximum (R533). -/
def State.leaveLevel (s : State) (k : Nat) : State :=
  if bitOf s.thw.levels k then
    (State.showThermal { s with thw.levels := withBit s.thw.levels k false }).raise 0x0f08 0
      [k, unsigned 32 (signed 16 (s.rf Reg.THW_STAT 0 16))]
  else s

/-- Clears the cluster latch while halted, unless a cause remains (R343, R344, R354); TRIP_O[1] and a latched T_CRIT
(R533) are released. -/
def clearCluster (s : State) : State :=
  if !s.halted then s.clearDone 2 0 4
  else if (List.range 8).any fun i => bitOf s.prot.causes i && s.causePresent i then s.clearDone 2 0 1
  else if !s.bit Reg.GPR_PSTAT 0 then s.clearDone 2 0 0
  else
    let s := { s with prot.causes := 0 }
    let s := ((s.wbit Reg.GPR_PSTAT 0 false).driveTrip 1 false).leaveLevel 3
    (s.settle).clearDone 2 0 0

/-- Releases the cluster pattern of an input or stack trip: pairs hold the pattern until their next group boundary, and
cells with a HELD bypass wait for its opening (R345). -/
def State.releasePattern (s : State) : State :=
  if s.clusterPattern || !s.outEn then s.settle
  else ((s.each 24 fun s c => if s.populated c && !s.cellFs c then s.holdCell c false else s)).settle

/-- Clears a trip input latch unless the input is enabled and high, and so asserted (R338, R344). -/
def clearTrip (n : Nat) (s : State) : State :=
  if 4 ≤ n then s.clearDone 3 n 5
  else if s.bit Reg.GPR_TRIPI n && s.bit Reg.GPR_TRIPI (16 + n) then s.clearDone 3 n 1
  else if !s.bit Reg.GPR_TRIPI (8 + n) then s.clearDone 3 n 0
  else ((s.wbit Reg.GPR_TRIPI (8 + n) false).releasePattern).clearDone 3 n 0

/-- GPR_CLR accepted by its key (R343). -/
def gprClear (v : Word) (s : State) : State :=
  match fld v 0 2 with
  | 0 => clearSwitch (fld v 2 8) s
  | 1 => clearCell (fld v 2 8) s
  | 2 => clearCluster s
  | _ => clearTrip (fld v 2 8) s

/-! ### Graph requests -/

/-- A release of FSREQ by a CELLFS instance (R330): the bits of the cells it serves; a requested cell enters its cell
fail-safe state with cause GRAPH. -/
def State.releaseFsreq (s : State) (serves req : Nat) : State :=
  let s := s.each 24 fun s c =>
    if bitOf serves c then { s with prot.fsreq := withBit s.prot.fsreq c (bitOf req c) } else s
  s.each 24 fun s c =>
    if bitOf serves c && bitOf req c && !s.cellFs c then
      let s := ((s.raise 0x0807 c [c]).enterCellFs c 3).sendLatches
      if s.bit Reg.GPR_PCFG 16 then s.countCell c else s
    else s

/-! ### Meanings -/

/-- SWITCH_FAULT_QUALIFIED. -/
def execSwitchFaultQualified (g : Gate) (hard : Bool) (s : State) : Host.Outcome State Fault Refusal :=
  s.main (switchFault g.val hard)

/-- FS_DT_TURN_ON (R335). -/
def execFsDtTurnOn (g : Gate) (s : State) : Host.Outcome State Fault Refusal :=
  State.finish (s.patternTurnOn g.val)

/-- TRIP_INPUT_ASSERTED. -/
def execTripInputAsserted (n : Fin 4) (s : State) : Host.Outcome State Fault Refusal := s.main (tripInput n.val)

/-- TRIP_O1_PULSE_END. -/
def execTripO1PulseEnd (s : State) : Host.Outcome State Fault Refusal := s.main tripPulseEnd

/-- BYP_FB_ACCEPTED. -/
def execBypFbAccepted (c : Cell) (closed : Bool) (s : State) : Host.Outcome State Fault Refusal :=
  s.main (bypFb c.val closed)

/-- BYPASS_TCLOSE_TIMEOUT. -/
def execBypassTcloseTimeout (c : Cell) (s : State) : Host.Outcome State Fault Refusal := s.main (bypTimeout c.val)

/-- CLEAR_SWITCH: a keyed GPR_CLR with scope SWITCH, and the level DSAT_I[g] reads in that cycle. -/
def execClearSwitch (src : Src) (g : BitVec 8) (dsat : Bool) (s : State) : Host.Outcome State Fault Refusal :=
  s.access fun s => (s.setDsat g.toNat dsat).keyed src Reg.GPR_CLR (clearSwitch g.toNat)

/-- CLEAR_CELL: a keyed GPR_CLR with scope CELL, and the levels of the cell's DSAT_I in that cycle. -/
def execClearCell (src : Src) (c : BitVec 8) (dsat : BitVec 8) (s : State) : Host.Outcome State Fault Refusal :=
  s.access fun s => ((s.each 8 fun s i => s.setDsat (8 * c.toNat + i) (bitOf dsat.toNat i))).keyed src Reg.GPR_CLR
    (clearCell c.toNat)

/-- CLEAR_CLUSTER: a keyed GPR_CLR with scope CLUSTER. -/
def execClearCluster (src : Src) (s : State) : Host.Outcome State Fault Refusal :=
  s.access fun s => s.keyed src Reg.GPR_CLR clearCluster

/-- CLEAR_TRIP: a keyed GPR_CLR with scope TRIP, and the level of TRIP_I[n] in that cycle. -/
def execClearTrip (src : Src) (n : BitVec 8) (level : Bool) (s : State) : Host.Outcome State Fault Refusal :=
  s.access fun s => (if n.toNat < 4 then s.wbit Reg.GPR_TRIPI (16 + n.toNat) level else s).keyed src Reg.GPR_CLR
    (clearTrip n.toNat)

end Sys2Proof.Machine
end

