-- ==== Sys2Proof/Machine/Flint.lean ====
section
/-! DEFINITION. The Flint safety island (chapter 13, R362 to R397). -/

namespace Sys2Proof.Machine

/-! ### Functions: 0 SGI, 1 SST, 2 SAP -/

/-- The SAFE section in force, or the defaults of R388 where none has been accepted. -/
def State.safe (s : State) : Safe := s.flint.safe.getD {}

/-- FLT_FUNC of function `f`: 0 SAFE, 1 RUN, 2 LOCKED. -/
def State.func (s : State) (f : Nat) : Nat := s.rf Reg.FLT_FUNC (2 * f) 2

/-- The function is in its safe state, SAFE or LOCKED. -/
def State.funcSafe (s : State) (f : Nat) : Bool := s.func f != 1

/-- The function its image configuration enables. -/
def State.funcOn (s : State) (f : Nat) : Bool := s.flint.safe.isSome && bitOf s.safe.enable f

/-- Sets the state of a function, and the cause of an entry to SAFE or LOCKED (R396). -/
def State.setFunc (s : State) (f st cause : Nat) : State :=
  let s := s.wf Reg.FLT_FUNC (2 * f) 2 st
  if st = 1 then s else s.wf Reg.FLT_FUNC (8 + 4 * f) 4 cause

/-- The function that owns output `n`. -/
def State.ownerOf (s : State) (n : Nat) : Option Nat := s.safe.outs.getD n none

/-- SOUT_H (low false) or SOUT_L of output `n`. -/
def State.sout (s : State) (n : Nat) (low : Bool) : Bool := s.bit Reg.FLT_SOUT (n + 4 * low.toNat)

/-- The level of the ball SOUT_H[n] or SOUT_L[n]: low under control of the test access port (R594). -/
def State.soutBall (s : State) (n : Nat) (low : Bool) : Bool := s.sout n low && !s.pinControl

/-- Drives a switch command; a change starts a new count of mismatches. -/
def State.setSout (s : State) (n : Nat) (low on : Bool) : State :=
  if s.sout n low = on then s
  else { s.wbit Reg.FLT_SOUT (n + 4 * low.toNat) on with flint.bad := s.flint.bad.put (2 * n + low.toNat) 0 0 }

/-- A readback fault of output `n` is latched. -/
def State.readbackFault (s : State) (n : Nat) : Bool := s.bit Reg.FLT_SOUT (16 + n)

/-- The outputs follow their functions (R368, R376): energised in RUN only, the tested switch off during a pulse. -/
def State.driveOuts (s : State) : State :=
  s.each 4 fun s n =>
    let run := match s.ownerOf n with
      | some f => s.func f == 1 && !s.readbackFault n && !s.bit Reg.FLT_STAT 3
      | none => false
    let s := if run then s else { s with flint.pulse := s.flint.pulse.put n none none }
    let p := s.flint.pulse.at n none
    (s.setSout n false (run && p.map Pulse.low != some false)).setSout n true (run && p.map Pulse.low != some true)

/-- Every SOUT goes off. -/
def State.outsOff (s : State) : State :=
  { (s.each 4 fun s n => (s.setSout n false false).setSout n true false) with flint.pulse := [] }

/-- FLT_STAT.STATE (R396). -/
def State.flintState (s : State) (v : Nat) : State := s.wf Reg.FLT_STAT 0 2 v

/-- Flint runs its cycle: it is not held in reset and its watchdog has not expired. -/
def State.flintRuns (s : State) : Bool := !s.flint.held && !s.bit Reg.FLT_STAT 3

/-! ### Resets -/

/-- The cause for which function `f` stays LOCKED over a Flint reset (R384): 6 readback, 7 self-test or memory; 0 none. -/
def State.keptCause (s : State) (f : Nat) : Nat :=
  let c := s.rf Reg.FLT_FUNC (8 + 4 * f) 4
  if s.func f = 2 ∧ (c = 6 ∨ c = 7) then c else 0

/-- Locks every function for which `cause` names one. -/
def State.lockAll (s : State) (cause : Nat → Nat) : State :=
  [0, 1, 2].foldl (fun s f => if cause f = 0 then s else s.setFunc f 2 (cause f)) s

/-- A Flint reset (R363, R387, R395): the FLT block at its reset column, SGI request and SAFE configuration lost, the
diagnostics of R366 run. The readbacks are pins; a function locked by a readback fault or by 0x0906 stays locked until they
agree with both switches off (R384), but for the power-on reset. -/
def State.flintReset (s : State) (power : Bool) : State :=
  let kept := [0, 1, 2].foldl (fun (t : Tab Nat) f => t.put f 0 (if power then 0 else s.keptCause f)) []
  let srb := if power then 0 else s.flint.srb
  let s := { s with regs := s.regs.filter fun p => p.1 / 65536 != 0xe
                    flint := { sgiOn := s.flint.sgiOn, held := s.flint.held, selftest := true, node := s.flint.node, srb, kept } }
  let s := s.lockAll fun f => s.flint.kept.at f 0
  let s := if s.onMain then s.wbit Reg.GLB_RSTCAUSE 4 true else s
  s.showEval

/-- FLINT_POWER_ON_RESET (R363, R584): asserted, or released with the NODE straps latched. -/
def flintPower (asserted : Bool) (node : Nat) (s : State) : State :=
  let s := s.flintReset true
  if asserted then { s with flint.held := true, flint.selftest := false }
  else { s with flint.held := false, flint.node := node
                sys.straps := BitVec.ofNat 10 (s.sys.straps.toNat / 64 * 64 + node % 64) }

/-- VDD_FLINT_OUT_OF_WINDOW (R366): all SOUT off, Flint held in reset. -/
def vddFlint (s : State) : State := flintPower true 0 s

/-- A self-test or memory fault (R384): every function LOCKED, all SOUT off, event 0x0906. -/
def State.flintFault (s : State) : State :=
  let s := [0, 1, 2].foldl (fun s f => s.setFunc f 2 7) s
  (((s.flintState 3).outsOff).flintRaise 0x0906 0 []).showEval

/-- FLINT_SELFTEST_COMPLETE (R384); a fault found while the tests ran stays. -/
def selftestComplete (pass : Bool) (s : State) : State :=
  if s.flint.held || !s.flint.selftest then s
  else
    let s := { s with flint.selftest := false }
    if !pass then s.flintFault
    else if s.rf Reg.FLT_STAT 0 2 = 3 then s
    else s.flintState (if s.flint.safe.isSome then 2 else 1)

/-- FLINT_WATCHDOG_EXPIRY (R366, R384): every output off by hardware, the cycle stopped, the functions safe. -/
def watchdogExpiry (s : State) : State :=
  if !s.flintRuns then s
  else
    let s := (s.wbit Reg.FLT_STAT 3 true).flintState 3
    let s := [0, 1, 2].foldl (fun s f => if s.func f = 1 then s.setFunc f 0 7 else s) s
    ((s.outsOff).flintRaise 0x0907 0 []).showEval

/-- An uncorrectable error in Flint's memory (R355, R366): 0x0C03, through the main domain's event path, and 0x0906. DEDUCED: the
MEM registers record nothing, since Flint's memory follows its own chapter alone (R449); what 0x0C03 carries is free. -/
def flintMemoryError (s : State) : State :=
  if !s.flintRuns then s
  else (if s.onMain then (s.draw).raise 0x0c03 0 (Config.flintErrorData s.free) else s).flintFault

/-- FLINT_DIAGNOSTIC_STEP (R366): a rotating diagnostic advances; one that fails is a self-test fault, and a background read
that fails an uncorrectable error. -/
def diagnosticStep (kind : Nat) (pass : Bool) (s : State) : State :=
  if !s.flintRuns then s
  else
    let s := { s with flint.diag := s.flint.diag.put kind 0 (s.flint.diag.at kind 0 + 1) }
    if pass then s else if kind = 0 then flintMemoryError s else s.flintFault

/-! ### Inputs -/

/-- The pair of number `n`. -/
def State.sin (s : State) (n : Nat) : SafePair := s.safe.pairs.getD n {}

/-- The filtered levels of pair `n`: channel A and B. -/
def State.sinA (s : State) (n : Nat) : Bool := s.bit Reg.FLT_SIN n
def State.sinB (s : State) (n : Nat) : Bool := s.bit Reg.FLT_SIN (8 + n)

/-- Both filtered channels at run. -/
def State.pairRun (s : State) (n : Nat) : Bool := s.sinA n && s.sinB n

/-- The functions a pair serves (R370): its mask for FUNC, SAP for SAPREQ and DEEN. -/
def State.pairServes (s : State) (n f : Nat) : Bool :=
  match (s.sin n).role with
  | .func => bitOf (s.sin n).mask f
  | .sapreq => f == 2
  | .deen => f == 2
  | _ => false

/-- A pair has a latched discrepancy or a failed input test. -/
def State.pairLatched (s : State) (n : Nat) : Bool := s.bit Reg.FLT_DISC n || s.bit Reg.FLT_DISC (8 + n)

/-- SIN_LEVEL_ACCEPTED (R371): a filtered level changes. -/
def sinAccepted (n : Nat) (b level : Bool) (s : State) : State :=
  if s.flint.held then s else s.wbit Reg.FLT_SIN (n + 8 * b.toNat) level

/-- A pair latches (R373, R366): its clear sequence starts anew, event 0x0902. -/
def State.latchPair (s : State) (n : Nat) (test : Bool) : State :=
  let s := (s.wbit Reg.FLT_DISC (n + 8 * test.toNat) true).wbit Reg.FLT_DISC (16 + n) false
  ({ s with flint.step := s.flint.step.put n 0 0 } : State).flintRaise 0x0902 n []

/-- FLINT_INPUT_TEST (R366, R374): a pair that fails latches with cause TEST. -/
def inputTest (bad : Nat) (s : State) : State :=
  if !s.flintRuns then s
  else s.each 8 fun s n =>
    if (s.sin n).role = .unused then s
    else
      let s := { s with flint.testBad := s.flint.testBad.put n false (bitOf bad n) }
      if bitOf bad n then s.latchPair n true else s

/-- Disagreement of a pair in a cycle (R373). -/
def State.judgePair (s : State) (n : Nat) : State :=
  if (s.sin n).role = .unused then s
  else if s.sinA n = s.sinB n then { s with flint.disagree := s.flint.disagree.put n 0 0 }
  else
    let c := s.flint.disagree.at n 0 + 1
    let s := { s with flint.disagree := s.flint.disagree.put n 0 c }
    let t := (s.sin n).tDisc
    if c = t || (decide (t < c) && !s.bit Reg.FLT_DISC n) then s.latchPair n false else s

/-- The RESET pairs of a cycle (R375): both channels return low together after 100 ms to 5 s at high level. -/
def State.judgeHigh (s : State) (n : Nat) : State × Bool :=
  let h := s.flint.high.at n 0
  let fires := (s.sin n).role = .reset && !s.sinA n && !s.sinB n && decide (1000 ≤ h ∧ h ≤ 50000)
  ({ s with flint.high := s.flint.high.put n 0 (if s.pairRun n then min (h + 1) 50001 else 0) }, fires)

/-- The clear sequence of a latched pair in a cycle (R374). Answers whether it completes. -/
def State.clearStep (s : State) (n : Nat) (reset : Bool) : State × Bool :=
  if !s.pairLatched n then (s, false)
  else
    let st := s.flint.step.at n 0
    let put (k : Nat) : State := { s with flint.step := s.flint.step.put n 0 k }.wbit Reg.FLT_DISC (16 + n) (decide (2 ≤ k))
    if st = 2 then
      if reset && (!s.bit Reg.FLT_DISC (8 + n) || !s.flint.testBad.at n false) then
        ({ (((s.wbit Reg.FLT_DISC n false).wbit Reg.FLT_DISC (8 + n) false).wbit Reg.FLT_DISC (16 + n) false) with
           flint.step := s.flint.step.put n 0 0 }, true)
      else if reset then (put 0, false)
      else if !s.sinA n && !s.sinB n then (put 1, false)
      else (s, false)
    else if reset then (put 0, false)
    else if st = 1 then (if s.pairRun n then put 2 else s, false)
    else (if !s.sinA n && !s.sinB n then put 1 else s, false)

/-! ### Safety frames (R380 to R383) -/

/-- The last valid SEQ register of a network. -/
def seqReg (net : Nat) : Nat := if net = 0 then Reg.FLT_SEQ_A else Reg.FLT_SEQ_B

/-- Counts an invalid frame. -/
def State.frameInvalid (s : State) (net : Nat) : State := s.satAdd Reg.FLT_FRMERR (16 * net) 16 1

/-- The PDU is valid but for its SEQ (R382). -/
def State.pduOk (s : State) (net : Nat) (p : List Byte) : Bool :=
  let fld o n := leNat ((p.drop o).take n)
  decide (20 ≤ p.length) && fld 0 2 == 0x5f01 && fld 2 1 == 1 && fld 3 1 == net && fld 4 4 == s.safe.connId.toNat &&
    (fld 8 1 == s.flint.node || fld 8 1 == 255) && decide (fld 9 1 < 16) && decide (1 ≤ fld 10 2 ∧ fld 10 2 ≤ s.safe.tWd) &&
    crc32c (p.take 16) == BitVec.ofNat 32 (fld 16 4)

/-- A network is not silent (R395). -/
def State.netAlive (s : State) (net : Nat) : Bool := s.bit Reg.FLT_NET net

/-- Functions under frame control as a mask. -/
def State.frameMask (s : State) : Nat := s.safe.frame % 8

/-- Bits of a mask that another mask lacks, over three functions. -/
def without (a b : Nat) : Nat := (List.range 3).foldl (fun m f => if bitOf a f && !bitOf b f then m + 2 ^ f else m) 0

/-- Bits of either mask, over three functions. -/
def either (a b : Nat) : Nat := (List.range 3).foldl (fun m f => if bitOf a f || bitOf b f then m + 2 ^ f else m) 0

/-- Two valid frames with equal SEQ (R383): mismatch, permit of the functions under frame control, and reset. -/
def State.pairFrames (s : State) (cmd : Nat) (u : Unpaired) : State :=
  let differ := (List.range 3).foldl (fun m f => if bitOf cmd f != bitOf u.cmd f then m + 2 ^ f else m) 0
  let both := (List.range 3).foldl (fun m f =>
    if bitOf cmd f && bitOf u.cmd f && bitOf s.frameMask f && !u.late then m + 2 ^ f else m) 0
  let s := { s with flint.mis := either s.flint.mis differ
                    flint.perm := either (without s.flint.perm differ) both }
  if bitOf cmd 3 && bitOf u.cmd 3 && !u.late then { s with flint.rst := true } else s

/-- The frames that may still find a partner once the frame of `seq` has: every one but it that has not counted as
unpaired, and the later ones. -/
def stillOpen (seq : Nat) (l : List Unpaired) : List Unpaired := l.filter fun v =>
  v.seq != seq && (!v.late || decide ((v.seq + 4294967296 - seq) % 4294967296 ≤ 65535))

/-- A frame with a valid PDU: demands, and its partner (R383). -/
def State.validFrame (s : State) (net cmd seq : Nat) : State :=
  let s := ((s.wn (seqReg net) seq).wbit Reg.FLT_NET net true)
  let dem := without 7 cmd
  let s := { s with flint.dem := either s.flint.dem dem, flint.perm := without s.flint.perm dem }
  let others := s.flint.open'.at (1 - net) []
  match others.find? fun u => u.seq == seq with
  | some u =>
    let s := { s with flint.open' :=
      (s.flint.open'.put (1 - net) [] (stillOpen seq others)).put net [] (stillOpen seq (s.flint.open'.at net [])) }
    s.pairFrames cmd u
  | none => { s with flint.open' := s.flint.open'.put net [] (s.flint.open'.at net [] ++ [⟨seq, cmd, false⟩]) }

/-- The station address of an Ethernet port, its first byte least significant. -/
def State.station (s : State) (p : Nat) : Nat := s.rn (Reg.LAN_ETH_MAC_LO p) + s.rf (Reg.LAN_ETH_MAC_HI p) 0 16 * 4294967296

/-- The destination of a frame for Flint (R380): the port's station address or the multicast address of SAFE. -/
def State.safeAddressed (s : State) (p dst : Nat) : Bool :=
  dst == s.station p || (s.safe.multicast.map BitVec.toNat) == some dst

/-- SAFETY_FRAME (R380, R382): a frame of the SAFE EtherType addressed to the device reaches the mailbox of its network. -/
def safetyFrame (net dst : Nat) (etherType : BitVec 16) (p : List Byte) (s : State) : State :=
  if !s.flintRuns || etherType != s.safe.etherType || !s.safeAddressed net dst then s
  else if 4 ≤ s.flint.box.at net 0 then s.frameInvalid net
  else
    let s := { s with flint.box := s.flint.box.put net 0 (s.flint.box.at net 0 + 1) }
    let seq := leNat ((p.drop 12).take 4)
    let d := (seq + 4294967296 - s.rn (seqReg net)) % 4294967296
    if s.pduOk net p && (!s.netAlive net || decide (1 ≤ d ∧ d ≤ 65535)) then s.validFrame net (leNat ((p.drop 9).take 1)) seq
    else s.frameInvalid net

/-- NETWORK_SILENCE (R383): no valid frame for T_WD. -/
def networkSilence (net : Nat) (s : State) : State :=
  if !s.flintRuns then s
  else { s.wbit Reg.FLT_NET net false with
           flint.perm := 0, flint.quiet := true, flint.open' := s.flint.open'.put net [] [] }

/-- Marks the oldest frame that is not late. -/
def markLate : List Unpaired → List Unpaired
  | [] => []
  | u :: us => if u.late then u :: markLate us else { u with late := true } :: us

/-- UNPAIRED_FRAME_TIMEOUT (R383): a frame has found no partner after T_SKEW. -/
def unpairedTimeout (net : Nat) (s : State) : State :=
  let l := s.flint.open'.at net []
  if !s.flintRuns || l.all Unpaired.late then s
  else { s.satAdd Reg.FLT_UNPAIRED 0 16 1 with flint.open' := s.flint.open'.put net [] (markLate l) }

/-! ### Readbacks and test pulses -/

/-- A readback fault of output `n` (R377): both switches off, its function LOCKED. -/
def State.readbackTrip (s : State) (n : Nat) : State :=
  let s := s.wbit Reg.FLT_SOUT (16 + n) true
  let s := match s.ownerOf n with
    | some f => s.setFunc f 2 6
    | none => s
  ((s.driveOuts).flintRaise 0x0905 n []).showEval

/-- A readback shows a level. -/
def State.readback (s : State) (n : Nat) (low level : Bool) : State :=
  let i := n + 4 * low.toNat
  { s.wbit Reg.FLT_SOUT (8 + i) level with
    flint.srb := if bitOf s.flint.srb i = level then s.flint.srb
                 else if level then s.flint.srb + 2 ^ i else s.flint.srb - 2 ^ i }

/-- READBACK_COMPARE (R377, R378): the readback of a switch at a comparison; `settled` once T_RBS has passed since its
command last changed. -/
def readbackCompare (n : Nat) (low level settled : Bool) (s : State) : State :=
  if !s.flintRuns then s
  else
    let s := s.readback n low level
    let s := match s.flint.pulse.at n none with
      | some p => if p.low = low && !level then
          { s with flint.pulse := s.flint.pulse.put n none (some { p with off := true }) } else s
      | none => s
    if (s.ownerOf n).isNone || !settled then s
    else
      let k := 2 * n + low.toNat
      if s.sout n low = level then { s with flint.bad := s.flint.bad.put k 0 0 }
      else
        let c := s.flint.bad.at k 0 + 1
        let s := { s with flint.bad := s.flint.bad.put k 0 c }
        if c = 8 then s.readbackTrip n else s

/-- FLT_TEST of a pulse: output, switch, result; the count rises at the start. -/
def State.showTest (s : State) (n : Nat) (low : Bool) (result : Nat) : State :=
  s.wf Reg.FLT_TEST 0 5 (n + low.toNat * 4 + result * 8)

/-- TEST_PULSE_START (R378): at a cycle boundary the tested switch of an output in RUN goes off. -/
def pulseStart (n : Nat) (s : State) : State :=
  match s.ownerOf n with
  | none => s
  | some f =>
    if !s.flintRuns || s.func f != 1 || (s.flint.pulse.at n none).isSome then s
    else
      let low := s.flint.next.at n false
      let s := { s with flint.pulse := s.flint.pulse.put n none (some { low }) }
      ((s.satAdd Reg.FLT_TEST 8 24 1).showTest n low 0).driveOuts

/-- A pulse at a cycle boundary (R378, R379): discarded by a demand, restored, or failed at the second boundary. -/
def State.pulseCycle (s : State) (n : Nat) (demanded : Nat → Bool) : State :=
  match s.flint.pulse.at n none, s.ownerOf n with
  | some p, some f =>
    if demanded f then
      let s := { s with flint.pulse := s.flint.pulse.put n none none }
      (s.showTest n p.low 3).flintRaise 0x0911 n [n, p.low.toNat]
    else if p.off then
      let s := { s with flint.pulse := s.flint.pulse.put n none none, flint.next := s.flint.next.put n false (!p.low) }
      (s.showTest n p.low 1).driveOuts
    else if 1 ≤ p.cycles then
      let s := { s with flint.pulse := s.flint.pulse.put n none none, flint.next := s.flint.next.put n false (!p.low) }
      (s.showTest n p.low 2).readbackTrip n
    else { s with flint.pulse := s.flint.pulse.put n none (some { p with cycles := p.cycles + 1 }) }
  | _, _ => s

/-! ### The cycle (R384) -/

/-- A pair of the function demands (R372): a FUNC pair with a channel low. -/
def State.inputDemand (s : State) (f : Nat) : Bool := (List.range 8).any fun n =>
  (s.sin n).role == .func && bitOf (s.sin n).mask f && !s.pairRun n

/-- The conditions of R369 for a function. -/
def State.condition (s : State) (f : Nat) : Bool :=
  match f with
  | 0 => s.bit Reg.FLT_STAT 2 && s.funcSafe 2
  | 1 => s.funcSafe 2
  | _ =>
    s.funcSafe 0 && s.funcSafe 1 && decide (s.safe.tSapDly * 10000 ≤ s.flint.safeFor) &&
      (List.range 8).all (fun n => (s.sin n).role != .deen || s.pairRun n) &&
      ((List.range 8).any (fun n => (s.sin n).role == .sapreq && s.pairRun n) ||
        (bitOf s.frameMask 2 && bitOf s.flint.perm 2))

/-- The network demand on a function: some network is silent, or has been since the last cycle. -/
def State.silent (s : State) (f : Nat) : Bool :=
  bitOf s.frameMask f && (!s.netAlive 0 || !s.netAlive 1 || s.flint.quiet)

/-- The first demand on a function in a cycle, as cause and event (R384, R396); none where there is no demand. -/
def State.demandOn (s : State) (f : Nat) : Option (Nat × Nat) :=
  if s.inputDemand f then some (1, 0x0901)
  else if bitOf s.frameMask f && bitOf s.flint.dem f then some (2, 0x0903)
  else if bitOf s.frameMask f && bitOf s.flint.mis f then some (3, 0x0903)
  else if s.silent f then some (4, 0x0904)
  else if f = 0 && !s.bit Reg.FLT_STAT 2 then some (8, 0x0901)
  else if !s.condition f then some (9, 0x0901)
  else none

/-- A pair the function uses is latched. -/
def State.lockedBy (s : State) (f : Nat) : Bool := (List.range 8).any fun n => s.pairServes n f && s.pairLatched n

/-- Requests of the main domain at a cycle boundary (R387). Answers whether a host reset event fires and whether Flint is
reset. -/
def State.takeRequests (s : State) : State × Bool × Bool :=
  let q := s.flint.req
  let refused (s : State) (i : Nat) : State := (s.satAdd Reg.FLT_STAT 8 8 1).flintRaise 0x0915 0 [i]
  let s := { s with flint.req := 0 }
  let s := if bitOf q 0 then s.wbit Reg.FLT_STAT 2 true else s
  let s := if bitOf q 1 then s.wbit Reg.FLT_STAT 2 false else s
  let host := bitOf q 2 && s.safe.srcHost
  let s := if bitOf q 2 && !host then refused s 2 else s
  let fr := bitOf q 3 && (List.range 3).all fun f => s.func f != 1
  let s := if bitOf q 3 && !fr then refused s 3 else s
  (s, host, fr)

/-- Functions that a readback fault or 0x0906 had locked before a Flint reset return to SAFE once every readback is off
(R384). -/
def State.unlockReset (s : State) : State :=
  if s.flint.selftest || s.flint.srb != 0 || s.rf Reg.FLT_SOUT 16 4 != 0 || s.rf Reg.FLT_STAT 0 2 == 3 then s
  else [0, 1, 2].foldl (fun s f =>
    let c := s.flint.kept.at f 0
    if c = 0 then s
    else
      let s := { s with flint.kept := s.flint.kept.put f 0 0 }
      if s.func f = 2 && !s.lockedBy f then (s.setFunc f 0 c).flintRaise 0x0913 f [f, c] else s) s

/-- What holds function `f` LOCKED at a cycle (R384, R385): a latched pair it uses, a readback fault on an output it owns, a
self-test or memory fault, or one of the last two from before a Flint reset. The cause, 0 for none. -/
def State.lockCause (s : State) (f : Nat) : Nat :=
  if s.lockedBy f then 5
  else if (List.range 4).any fun n => s.ownerOf n == some f && s.readbackFault n then 6
  else if s.rf Reg.FLT_STAT 0 2 == 3 then 7
  else s.flint.kept.at f 0

/-- Whether function `f` may enter RUN (R384). -/
def State.mayRun (s : State) (f : Nat) (reset : Bool) : Bool :=
  s.funcOn f && s.func f == 0 && (s.demandOn f).isNone && !s.flint.selftest &&
    (List.range 8).all (fun n => !((s.sin n).role == .func && bitOf (s.sin n).mask f) || s.pairRun n) &&
    (!bitOf s.frameMask f || bitOf s.flint.perm f) && (!bitOf s.safe.manual f || reset)

/-- The Flint reset of FRESET: NODE is latched again (R584). -/
def State.freset (s : State) : State := { s.flintReset false with flint.node := s.sys.straps.toNat % 64 }

/-- FLINT_CYCLE (R362, R384): requests, inputs and frames of the past cycle, test pulses, and the transitions of the three
functions in table order. Behind a watchdog expiry, which leaves no function in RUN, only FRESET is executed (R353, R387). -/
def flintCycle (s : State) : State :=
  if s.flint.held then s
  else if s.bit Reg.FLT_STAT 3 then (if bitOf s.flint.req 3 then s.freset else s)
  else
    let s := s.wn Reg.FLT_CYCLES (s.rn Reg.FLT_CYCLES + 1)
    let (s, host, fr) := s.takeRequests
    if fr then s.freset
    else
      let s := s.each 8 State.judgePair
      let (s, button) := (List.range 8).foldl (fun (p : State × Bool) n =>
        let q := p.1.judgeHigh n; (q.1, p.2 || q.2)) (s, false)
      let src := (if button && s.safe.srcPairs then [1] else []) ++ (if s.flint.rst && s.safe.srcFrames then [2] else []) ++
        (if host then [3] else [])
      let reset := !src.isEmpty
      let s := src.foldl (fun s i => s.flintRaise 0x0912 0 [i]) s
      let demand := fun f => (s.demandOn f).isSome || s.lockCause f != 0
      let s := s.each 4 fun s n => s.pulseCycle n demand
      let s := [0, 1, 2].foldl (fun s f =>
        if s.func f != 2 && s.lockCause f != 0 then s.setFunc f 2 (s.lockCause f) else s) s
      let s := [0, 1, 2].foldl (fun s f =>
        match s.func f, s.demandOn f with
        | 1, some (c, e) => (s.setFunc f 0 c).flintRaise e f []
        | _, _ => s) s
      let s := [0, 1, 2].foldl (fun s f =>
        if s.mayRun f reset then (s.setFunc f 1 0).flintRaise 0x0910 f [f] else s) s
      let s := (List.range 8).foldl (fun s n =>
        let (s, done) := s.clearStep n reset
        if done then [0, 1, 2].foldl (fun s f =>
          let c := s.rf Reg.FLT_FUNC (8 + 4 * f) 4
          if s.pairServes n f && s.func f == 2 && s.lockCause f == 0 then
            (s.setFunc f 0 c).flintRaise 0x0913 f [f, c] else s) s
        else s) s
      let s := s.unlockReset
      let s := { s with flint.safeFor := if s.funcSafe 0 && s.funcSafe 1 then s.flint.safeFor + 1 else 0
                        flint.box := [], flint.dem := 0, flint.mis := 0, flint.rst := false, flint.quiet := false }
      ((s.wf Reg.FLT_NET 2 3 s.flint.perm).driveOuts).showEval

/-! ### The SAFE section (R42, R385, R388) -/

/-- Why Flint refuses a SAFE section: 1 CRC-32C, 2 major version, 3 SGI not in SAFE, 4 range, 5 function without an
output, 6 T_SKEW; 0 when it accepts it. -/
def State.safeReason (s : State) (d : Safe) : Nat :=
  let ok lo hi (v : Nat) := decide (lo ≤ v ∧ v ≤ hi)
  if !d.crcOk then 1
  else if d.major != 1 then 2
  else if s.func 0 != 0 then 3
  else if !(ok 0 7 d.enable && d.outs.length == 4 && d.outs.all (fun o => decide (o.getD 0 ≤ 2)) && ok 0 7 d.manual && ok 0 7 d.frame &&
      decide (d.pairs.length ≤ 8) && d.pairs.all (fun p => ok 0 7 p.mask && ok 1 100 p.tFilt && ok 1 65535 p.tDisc) &&
      ok 5 500 d.tWd && ok 1 200 d.tSkew && ok 1 60 d.tTest && ok 1 10 d.tRbs && ok 0 65535 d.tSapDly) then 4
  else if (List.range 3).any fun f => bitOf d.enable f && !d.outs.contains (some f) then 5
  else if 2 * d.tWd ≤ d.tSkew then 6
  else 0

/-- Flint takes a new SAFE section (R385): every function SAFE, event 0x0914. Latches stay, and a function they still hold
is LOCKED again at the next cycle; a permit stays with a function that stays under frame control. -/
def State.acceptSafe (s : State) (d : Safe) : State :=
  let s := { s with flint.safe := some d, flint.sgiOn := bitOf d.enable 0
                    flint.perm := without s.flint.perm (without 7 d.frame) }
  let s := [0, 1, 2].foldl (fun (s : State) f => s.setFunc f 0 10) s
  let s := ((s.wr Reg.FLT_SAFE_CRC d.crc).wf Reg.FLT_SAFE_VER 0 16 (d.major * 256 + d.minor)).wf Reg.FLT_NET 2 3 s.flint.perm
  let s := if s.rf Reg.FLT_STAT 0 2 = 1 then s.flintState 2 else s
  ((s.driveOuts).flintRaise 0x0914 0 [d.major * 256 + d.minor, d.crc.toNat]).showEval

/-! ### Requests from the main domain (R387) -/

/-- GLB_FLTREQ accepted by its key: its bits wait for Flint's next cycle boundary; a Flint held in reset takes none. -/
def flintRequest (v : Word) (s : State) : State :=
  if s.flint.held then s
  else { s with flint.req := ((BitVec.ofNat 4 s.flint.req) ||| (BitVec.ofNat 4 v.toNat)).toNat }

/-! ### Meanings -/

/-- FLINT_POWER_ON_RESET. -/
def execFlintPowerOnReset (asserted : Bool) (node : Node) (s : State) : Host.Outcome State Fault Refusal :=
  State.finish (flintPower asserted node.val s)

/-- FLINT_CYCLE. -/
def execFlintCycle (s : State) : Host.Outcome State Fault Refusal := State.finish (flintCycle s)

/-- SIN_LEVEL_ACCEPTED. -/
def execSinLevelAccepted (n : Fin 8) (b level : Bool) (s : State) : Host.Outcome State Fault Refusal :=
  State.finish (sinAccepted n.val b level s)

/-- SAFETY_FRAME: frames pass through the MACs of the main domain (R365). -/
def execSafetyFrame (net : Fin 2) (dst : BitVec 48) (etherType : BitVec 16) (p : List Byte) (s : State) :
    Host.Outcome State Fault Refusal := s.heard (4 + net.val) (safetyFrame net.val dst.toNat etherType p)

/-- NETWORK_SILENCE. -/
def execNetworkSilence (net : Fin 2) (s : State) : Host.Outcome State Fault Refusal :=
  State.finish (networkSilence net.val s)

/-- UNPAIRED_FRAME_TIMEOUT. -/
def execUnpairedFrameTimeout (net : Fin 2) (s : State) : Host.Outcome State Fault Refusal :=
  State.finish (unpairedTimeout net.val s)

/-- READBACK_COMPARE. -/
def execReadbackCompare (n : Fin 4) (low level settled : Bool) (s : State) : Host.Outcome State Fault Refusal :=
  State.finish (readbackCompare n.val low level settled s)

/-- TEST_PULSE_START. -/
def execTestPulseStart (n : Fin 4) (s : State) : Host.Outcome State Fault Refusal := State.finish (pulseStart n.val s)

/-- FLINT_WATCHDOG_EXPIRY. -/
def execFlintWatchdogExpiry (s : State) : Host.Outcome State Fault Refusal := State.finish (watchdogExpiry s)

/-- VDD_FLINT_OUT_OF_WINDOW. -/
def execVddFlintOutOfWindow (s : State) : Host.Outcome State Fault Refusal := State.finish (vddFlint s)

/-- FLINT_MEMORY_ERROR. -/
def execFlintMemoryError (s : State) : Host.Outcome State Fault Refusal := State.finish (flintMemoryError s)

/-- FLINT_DIAGNOSTIC_STEP: 0 background read, 1 march test, 2 logic self-test. -/
def execFlintDiagnosticStep (kind : Fin 3) (pass : Bool) (s : State) : Host.Outcome State Fault Refusal :=
  State.finish (diagnosticStep kind.val pass s)

/-- FLINT_INPUT_TEST: the pairs that fail. -/
def execFlintInputTest (bad : BitVec 8) (s : State) : Host.Outcome State Fault Refusal :=
  State.finish (inputTest bad.toNat s)

/-- SGI_SET: a keyed write of GLB_FLTREQ.SGI_SET. -/
def execSgiSet (src : Src) (s : State) : Host.Outcome State Fault Refusal :=
  s.access fun s => s.keyed src Reg.GLB_FLTREQ (flintRequest 1)

/-- SGI_CLR: a keyed write of GLB_FLTREQ.SGI_CLR. -/
def execSgiClr (src : Src) (s : State) : Host.Outcome State Fault Refusal :=
  s.access fun s => s.keyed src Reg.GLB_FLTREQ (flintRequest 2)

/-- FLINT_RST_REQUEST: a keyed write of GLB_FLTREQ.RST. -/
def execFlintRstRequest (src : Src) (s : State) : Host.Outcome State Fault Refusal :=
  s.access fun s => s.keyed src Reg.GLB_FLTREQ (flintRequest 4)

/-- FRESET: a keyed write of GLB_FLTREQ.FRESET. -/
def execFreset (src : Src) (s : State) : Host.Outcome State Fault Refusal :=
  s.access fun s => s.keyed src Reg.GLB_FLTREQ (flintRequest 8)

/-- FLINT_SELFTEST_COMPLETE. -/
def execFlintSelftestComplete (pass : Bool) (s : State) : Host.Outcome State Fault Refusal :=
  State.finish (selftestComplete pass s)

end Sys2Proof.Machine
end

