-- ==== Sys2Proof/Machine/Float.lean ====
section
/-! DEFINITION. Engine arithmetic (R161, R187): IEEE 754 binary32 with round to nearest, ties to even, subnormals taken
and left as zero, computed exactly on dyadic rationals and narrowed once. -/

namespace Sys2Proof.Machine

/-- A binary32 value: a finite one is (−1)^neg × m × 2^e. -/
inductive Fl where
  | nan
  | inf (neg : Bool)
  | fin (neg : Bool) (m : Nat) (e : Int)
deriving DecidableEq, Repr

/-- The quiet NaN of R161. -/
def qnan : Word := 0x7fc00000

/-- The largest finite binary32 (R162). -/
def maxFinite (neg : Bool) : Word := if neg then 0xff7fffff else 0x7f7fffff

/-- A word read as binary32; a subnormal is zero of the same sign (R161). -/
def Fl.ofWord (w : Word) : Fl :=
  let s := fld w 31 1 == 1
  let x := fld w 23 8
  let f := fld w 0 23
  if x = 255 then (if f = 0 then .inf s else .nan)
  else if x = 0 then .fin s 0 0
  else .fin s (f + 8388608) ((x : Int) - 150)

/-- A word of the given sign, exponent field and fraction. -/
def packF (neg : Bool) (x f : Nat) : Word := BitVec.ofNat 32 (neg.toNat * 2147483648 + x * 8388608 + f)

/-- The floor of the base 2 logarithm of a positive rational. -/
def log2Rat (num den : Nat) : Int :=
  let k : Int := (Nat.log2 num : Int) - Nat.log2 den
  if den * 2 ^ k.toNat ≤ num * 2 ^ (-k).toNat then k else k - 1

/-- The binary32 nearest to (num / den) × 2^e, ties to even: a subnormal result becomes zero after rounding, one beyond
the range infinity (R161). -/
def roundF (neg : Bool) (num den : Nat) (e : Int) : Word :=
  if num = 0 then packF neg 0 0
  else
    let x := max (log2Rat num den + e - 23) (-149)
    let d := e - x
    let m := roundEven (num * 2 ^ d.toNat) (den * 2 ^ (-d).toNat)
    if m < 8388608 then packF neg 0 0
    else
      let (m, x) := if 16777216 ≤ m then (m / 2, x + 1) else (m, x)
      if 255 ≤ x + 150 then packF neg 255 0 else packF neg (x + 150).toNat (m - 8388608)

/-- An exact signed value i × 2^e rounded; an exact zero is +0. -/
def roundInt (i e : Int) : Word := roundF (decide (i < 0)) i.natAbs 1 e

/-- F32 of an integer. -/
def fOfInt (i : Int) : Word := roundInt i 0

/-- F32 of a natural number. -/
def fOfNat (n : Nat) : Word := fOfInt n

/-- Negation of a value; a NaN result is the quiet NaN. -/
def fNeg (a : Word) : Word :=
  match Fl.ofWord a with
  | .nan => qnan
  | .inf s => packF (!s) 255 0
  | .fin s 0 _ => packF (!s) 0 0
  | .fin s m e => roundF (!s) m 1 e

/-- Absolute value. -/
def fAbs (a : Word) : Word :=
  match Fl.ofWord a with
  | .nan => qnan
  | .inf _ => packF false 255 0
  | .fin _ m e => roundF false m 1 e

/-- Signed integer significand of a finite value at exponent `x`, not above its own. -/
def scaled (neg : Bool) (m : Nat) (e x : Int) : Int := (if neg then -1 else 1) * (m * 2 ^ (e - x).toNat : Nat)

/-- Addition. -/
def fAdd (a b : Word) : Word :=
  match Fl.ofWord a, Fl.ofWord b with
  | .nan, _ => qnan
  | _, .nan => qnan
  | .inf s, .inf t => if s = t then packF s 255 0 else qnan
  | .inf s, _ => packF s 255 0
  | _, .inf t => packF t 255 0
  | .fin s m e, .fin t n f =>
    if m = 0 ∧ n = 0 then packF (s && t) 0 0
    else
      let x := min e f
      roundInt (scaled s m e x + scaled t n f x) x

/-- Subtraction. -/
def fSub (a b : Word) : Word := fAdd a (fNeg b)

/-- Multiplication. -/
def fMul (a b : Word) : Word :=
  match Fl.ofWord a, Fl.ofWord b with
  | .nan, _ => qnan
  | _, .nan => qnan
  | .inf s, .inf t => packF (s != t) 255 0
  | .inf s, .fin t n _ => if n = 0 then qnan else packF (s != t) 255 0
  | .fin s m _, .inf t => if m = 0 then qnan else packF (s != t) 255 0
  | .fin s m e, .fin t n f => roundF (s != t) (m * n) 1 (e + f)

/-- Division, correctly rounded. -/
def fDiv (a b : Word) : Word :=
  match Fl.ofWord a, Fl.ofWord b with
  | .nan, _ => qnan
  | _, .nan => qnan
  | .inf _, .inf _ => qnan
  | .inf s, .fin t _ _ => packF (s != t) 255 0
  | .fin s _ _, .inf t => packF (s != t) 0 0
  | .fin s m e, .fin t n f =>
    if n = 0 then (if m = 0 then qnan else packF (s != t) 255 0) else roundF (s != t) m n (e - f)

/-- The integer square root, bit by bit from bit `k − 1` down. -/
def isqrt (v : Nat) : Nat → Nat → Nat
  | 0, r => r
  | k + 1, r => let c := r + 2 ^ k; isqrt v k (if c * c ≤ v then c else r)

/-- Square root, correctly rounded: the root to 28 bits or more, with a sticky bit. -/
def fSqrt (a : Word) : Word :=
  match Fl.ofWord a with
  | .nan => qnan
  | .inf s => if s then qnan else packF false 255 0
  | .fin s m e =>
    if m = 0 then packF s 0 0
    else if s then qnan
    else
      let (m, e) := if e % 2 = 0 then (m, e) else (2 * m, e - 1)
      let v := m * 2 ^ 40
      let r := isqrt v 40 0
      roundF false (2 * r + (if r * r = v then 0 else 1)) 1 (e / 2 - 21)

/-- a < b; −0 equals +0, and a NaN compares false (R161). -/
def fLt (a b : Word) : Bool :=
  match Fl.ofWord a, Fl.ofWord b with
  | .nan, _ => false
  | _, .nan => false
  | .inf s, .inf t => s && !t
  | .inf s, .fin _ _ _ => s
  | .fin _ _ _, .inf t => !t
  | .fin s m e, .fin t n f => let x := min e f; decide (scaled s m e x < scaled t n f x)

/-- a ≤ b. -/
def fLe (a b : Word) : Bool :=
  match Fl.ofWord a, Fl.ofWord b with
  | .nan, _ => false
  | _, .nan => false
  | _, _ => !fLt b a

/-- clamp(x, lo, hi) of R188. -/
def fClamp (x lo hi : Word) : Word := if fLt x lo then lo else if fLt hi x then hi else x

/-- The smaller of two values. -/
def fMin (a b : Word) : Word := if fLt b a then b else a

/-- cvt of R187 to the integers from `lo` to `hi`: nearest, ties to even, saturating; a NaN gives 0. -/
def fCvt (lo hi : Int) (a : Word) : Int :=
  match Fl.ofWord a with
  | .nan => 0
  | .inf s => if s then lo else hi
  | .fin s m e =>
    let n : Int := roundEven (m * 2 ^ e.toNat) (2 ^ (-e).toNat)
    clampInt lo hi (if s then -n else n)

/-- cvt to I32. -/
def cvtI (a : Word) : Int := fCvt (-2147483648) 2147483647 a

/-- cvt to U32. -/
def cvtU (a : Word) : Nat := (fCvt 0 4294967295 a).toNat

/-- The value is a NaN, an infinity or a subnormal in its raw form (R225). -/
def rawBad (w : Word) : Bool := fld w 23 8 == 255 || (fld w 23 8 == 0 && fld w 0 23 != 0)

/-- An I32 as a word. -/
def wInt (i : Int) : Word := BitVec.ofInt 32 (clampInt (-2147483648) 2147483647 i)

/-- A boolean as a word. -/
def wBool (b : Bool) : Word := if b then 1 else 0

/-- A word reads as true when nonzero (R187). -/
def isTrue (w : Word) : Bool := w != 0

end Sys2Proof.Machine
end

