-- ==== Sys2Proof/Machine/Sincos.lean ====
section
/-! DEFINITION. Sine and cosine of an angle by the algorithm of R192. -/

namespace Sys2Proof.Machine

/-- Part of SINQ (R192). -/
def sinq0 : List Word := [
  0x00000000, 0x3bc90f88, 0x3c490e90, 0x3c96c9b6, 0x3cc90ab0, 0x3cfb49ba, 0x3d16c32c, 0x3d2fe007,
  0x3d48fb30, 0x3d621469, 0x3d7b2b74, 0x3d8a200a, 0x3d96a905, 0x3da3308c, 0x3dafb680, 0x3dbc3ac3,
  0x3dc8bd36, 0x3dd53db9, 0x3de1bc2e, 0x3dee3876, 0x3dfab273, 0x3e039502, 0x3e09cf86, 0x3e1008b7,
  0x3e164083, 0x3e1c76de, 0x3e22abb6, 0x3e28defc, 0x3e2f10a2, 0x3e354098, 0x3e3b6ecf, 0x3e419b37,
  0x3e47c5c2, 0x3e4dee60, 0x3e541501, 0x3e5a3997, 0x3e605c13, 0x3e667c66, 0x3e6c9a7f, 0x3e72b651,
  0x3e78cfcc, 0x3e7ee6e1, 0x3e827dc0, 0x3e8586ce, 0x3e888e93, 0x3e8b9507, 0x3e8e9a22, 0x3e919ddd,
  0x3e94a031, 0x3e97a117, 0x3e9aa086, 0x3e9d9e78, 0x3ea09ae5, 0x3ea395c5, 0x3ea68f12, 0x3ea986c4,
  0x3eac7cd4, 0x3eaf713a, 0x3eb263ef, 0x3eb554ec, 0x3eb8442a, 0x3ebb31a0, 0x3ebe1d4a, 0x3ec1071e]

/-- Part of SINQ (R192). -/
def sinq1 : List Word := [
  0x3ec3ef15, 0x3ec6d529, 0x3ec9b953, 0x3ecc9b8b, 0x3ecf7bca, 0x3ed25a09, 0x3ed53641, 0x3ed8106b,
  0x3edae880, 0x3eddbe79, 0x3ee0924f, 0x3ee363fa, 0x3ee63375, 0x3ee900b7, 0x3eebcbbb, 0x3eee9479,
  0x3ef15aea, 0x3ef41f07, 0x3ef6e0cb, 0x3ef9a02d, 0x3efc5d27, 0x3eff17b2, 0x3f00e7e4, 0x3f0242b1,
  0x3f039c3d, 0x3f04f484, 0x3f064b82, 0x3f07a136, 0x3f08f59b, 0x3f0a48ad, 0x3f0b9a6b, 0x3f0cead0,
  0x3f0e39da, 0x3f0f8784, 0x3f10d3cd, 0x3f121eb0, 0x3f13682a, 0x3f14b039, 0x3f15f6d9, 0x3f173c07,
  0x3f187fc0, 0x3f19c200, 0x3f1b02c6, 0x3f1c420c, 0x3f1d7fd1, 0x3f1ebc12, 0x3f1ff6cb, 0x3f212ff9,
  0x3f226799, 0x3f239da9, 0x3f24d225, 0x3f26050a, 0x3f273656, 0x3f286605, 0x3f299415, 0x3f2ac082,
  0x3f2beb4a, 0x3f2d1469, 0x3f2e3bde, 0x3f2f61a5, 0x3f3085bb, 0x3f31a81d, 0x3f32c8c9, 0x3f33e7bc]

/-- Part of SINQ (R192). -/
def sinq2 : List Word := [
  0x3f3504f3, 0x3f36206c, 0x3f373a23, 0x3f385216, 0x3f396842, 0x3f3a7ca4, 0x3f3b8f3b, 0x3f3ca003,
  0x3f3daef9, 0x3f3ebc1b, 0x3f3fc767, 0x3f40d0da, 0x3f41d870, 0x3f42de29, 0x3f43e200, 0x3f44e3f5,
  0x3f45e403, 0x3f46e22a, 0x3f47de65, 0x3f48d8b3, 0x3f49d112, 0x3f4ac77f, 0x3f4bbbf8, 0x3f4cae79,
  0x3f4d9f02, 0x3f4e8d90, 0x3f4f7a1f, 0x3f5064af, 0x3f514d3d, 0x3f5233c6, 0x3f531849, 0x3f53fac3,
  0x3f54db31, 0x3f55b993, 0x3f5695e5, 0x3f577026, 0x3f584853, 0x3f591e6a, 0x3f59f26a, 0x3f5ac450,
  0x3f5b941a, 0x3f5c61c7, 0x3f5d2d53, 0x3f5df6be, 0x3f5ebe05, 0x3f5f8327, 0x3f604621, 0x3f6106f2,
  0x3f61c598, 0x3f628210, 0x3f633c5a, 0x3f63f473, 0x3f64aa59, 0x3f655e0b, 0x3f660f88, 0x3f66becc,
  0x3f676bd8, 0x3f6816a8, 0x3f68bf3c, 0x3f696591, 0x3f6a09a7, 0x3f6aab7b, 0x3f6b4b0c, 0x3f6be858]

/-- Part of SINQ (R192). -/
def sinq3 : List Word := [
  0x3f6c835e, 0x3f6d1c1d, 0x3f6db293, 0x3f6e46be, 0x3f6ed89e, 0x3f6f6830, 0x3f6ff573, 0x3f708066,
  0x3f710908, 0x3f718f57, 0x3f721352, 0x3f7294f8, 0x3f731447, 0x3f73913f, 0x3f740bdd, 0x3f748422,
  0x3f74fa0b, 0x3f756d97, 0x3f75dec6, 0x3f764d97, 0x3f76ba07, 0x3f772417, 0x3f778bc5, 0x3f77f110,
  0x3f7853f8, 0x3f78b47b, 0x3f791298, 0x3f796e4e, 0x3f79c79d, 0x3f7a1e84, 0x3f7a7302, 0x3f7ac516,
  0x3f7b14be, 0x3f7b61fc, 0x3f7baccd, 0x3f7bf531, 0x3f7c3b28, 0x3f7c7eb0, 0x3f7cbfc9, 0x3f7cfe73,
  0x3f7d3aac, 0x3f7d7474, 0x3f7dabcc, 0x3f7de0b1, 0x3f7e1324, 0x3f7e4323, 0x3f7e70b0, 0x3f7e9bc9,
  0x3f7ec46d, 0x3f7eea9d, 0x3f7f0e58, 0x3f7f2f9d, 0x3f7f4e6d, 0x3f7f6ac7, 0x3f7f84ab, 0x3f7f9c18,
  0x3f7fb10f, 0x3f7fc38f, 0x3f7fd397, 0x3f7fe129, 0x3f7fec43, 0x3f7ff4e6, 0x3f7ffb11, 0x3f7ffec4]

/-- Part of SINQ (R192). -/
def sinq4 : List Word := [
  0x3f800000]

/-- SINQ[k], k = 0–256: the binary32 value nearest to sin(2πk / 1,024). -/
def sinq (k : Nat) : Word :=
  (match k / 64 with
   | 0 => sinq0 | 1 => sinq1 | 2 => sinq2 | 3 => sinq3 | _ => sinq4).getD (k % 64) 0

/-- (sin θ, cos θ) of an angle in 2⁻³² turn. -/
def sincos (theta : Nat) : Word × Word :=
  let q := theta / 2 ^ 30 % 4
  let k := theta / 2 ^ 22 % 256
  let delta := fMul (fOfNat (theta % 2 ^ 22)) 0x30c90fdb
  let d2 := fMul delta delta
  let cd := fSub 0x3f800000 (fMul d2 0x3f000000)
  let sd := fSub delta (fMul (fMul delta d2) 0x3e2aaaab)
  let s0 := sinq k
  let c0 := sinq (256 - k)
  let s := fAdd (fMul s0 cd) (fMul c0 sd)
  let c := fSub (fMul c0 cd) (fMul s0 sd)
  match q with
  | 0 => (s, c)
  | 1 => (c, fNeg s)
  | 2 => (fNeg s, fNeg c)
  | _ => (fNeg c, s)

end Sys2Proof.Machine
end

