-- ==== Sys2Proof/Machine/Blocks.lean ====
section
/-! DEFINITION. The 28 block types of the control block library (chapter 7, R183 to R220): formula, reset branch, cycle
cost and state words of each. -/

namespace Sys2Proof.Machine

/-! ### What a block works on and answers -/

/-- An output word: whether R162 checks it as a real value, and the limits of the clamp the formula put on it. -/
structure BOut where
  w : Word
  real : Bool := true
  lim : Option (Word × Word) := none
deriving DecidableEq, Repr

/-- What one execution of a block gives: outputs but for FLG, the bits of FLG, the new state words, queue entries. -/
structure BRes where
  outs : List BOut := []
  flg : Nat := 0
  st : List Word := []
  sends : List Send := []
deriving DecidableEq, Repr

/-- What an execution of a block reads. -/
structure BIn where
  ins : List Word
  pars : List Word
  st : List Word
  size : Nat
  extra : List Nat
  trans : List Trans
  /-- NP of the block's PWM group (R213) -/
  np : Nat := 0
  /-- the code of the block, which the values no rule states depend on -/
  code : Nat := 0
  /-- periods elapsed since the checkpoint, at the first execution after a takeover (R190) -/
  resume : Option Nat := none

/-- Input, parameter and state word by number. -/
def BIn.i (b : BIn) (n : Nat) : Word := b.ins.getD n 0
def BIn.p (b : BIn) (n : Nat) : Word := b.pars.getD n 0
def BIn.s (b : BIn) (n : Nat) : Word := b.st.getD n 0

/-- FLG bits (R188). -/
def satHi : Nat := 1
def satLo : Nat := 2
def rateLim : Nat := 4
def resetBit : Nat := 8
def holdBit : Nat := 16
def flgB0 : Nat := 32

/-- A clamp that tells which SAT bit it sets. -/
def clampF (x lo hi : Word) : Word × Nat := if fLt x lo then (lo, satLo) else if fLt hi x then (hi, satHi) else (x, 0)

/-- A real output, one limited by a clamp, and an integer output. -/
def outR (w : Word) : BOut := { w }
def outC (w lo hi : Word) : BOut := { w, lim := some (lo, hi) }
def outI (w : Word) : BOut := { w, real := false }

/-- An output of a reset branch that no rule states: a free value, the same for equal block, inputs, parameters and live
state (R164). -/
def BIn.freeOut (b : BIn) (n : Nat) : BOut := outR (Config.blockReset b.code b.ins b.pars b.st n)

def one : Word := 0x3f800000
def fZero : Word := 0

/-- The left-to-right sum of a list of values. -/
def sumF : List Word → Word
  | [] => 0
  | a :: l => l.foldl fAdd a

/-! ### Loop control -/

/-- PI (R193). Inputs E, PRE, PV; parameters KP, KI, TS, UMIN, UMAX, I0; outputs U, P. -/
def blockPi (b : BIn) : BRes :=
  let e := b.i 0; let umin := b.p 3; let umax := b.p 4
  let p := fMul (b.p 0) e
  let pre := isTrue (b.i 1)
  let ni := fClamp (if pre then fSub (b.i 2) p else fAdd (b.s 0) (fMul (fMul (b.p 1) (b.p 2)) e)) umin umax
  let u := fAdd p ni
  if fLt umax u then
    let h := !pre && fLt 0 e
    { outs := [outC umax umin umax, outR p], flg := satHi + (if h then holdBit else 0), st := [if h then b.s 0 else ni] }
  else if fLt u umin then
    let h := !pre && fLt e 0
    { outs := [outC umin umin umax, outR p], flg := satLo + (if h then holdBit else 0), st := [if h then b.s 0 else ni] }
  else { outs := [outC u umin umax, outR p], st := [ni] }

/-- Reset of PI. -/
def resetPi (b : BIn) : BRes :=
  let p := fMul (b.p 0) (b.i 0)
  let (u, f) := clampF (fAdd p (b.p 5)) (b.p 3) (b.p 4)
  { outs := [outC u (b.p 3) (b.p 4), outR p], flg := f, st := [b.p 5] }

/-- PR (R194). Inputs E, F; parameters KP, KR, KD, TS, FMAX, UMIN, UMAX; output U. -/
def blockPr (b : BIn) : BRes :=
  let e := b.i 0; let x1 := b.s 0; let x2 := b.s 1; let ts := b.p 3
  let w := fMul 0x40c90fdb (fClamp (b.i 1) 0 (b.p 4))
  let n1 := fAdd x1 (fMul ts (fSub (fSub (fMul (b.p 1) e) (fMul w x2)) (fMul (b.p 2) x1)))
  let n2 := fAdd x2 (fMul ts (fMul w n1))
  let u := fAdd (fMul (b.p 0) e) n1
  let h := (fLt (b.p 6) u && fLt x1 n1) || (fLt u (b.p 5) && fLt n1 x1)
  let (y, f) := clampF u (b.p 5) (b.p 6)
  { outs := [outC y (b.p 5) (b.p 6)], flg := f + (if h then holdBit else 0),
    st := if h then [x1, x2] else [n1, n2] }

/-- Reset of PR; no rule states its output. -/
def resetPr (b : BIn) : BRes := { outs := [b.freeOut 0], st := [0, 0] }

/-- LEADLAG (R195). Input X; parameters B0, B1, A1, YMIN, YMAX, GDC. -/
def blockLeadlag (b : BIn) : BRes :=
  let x := b.i 0
  let (y, f) := clampF (fSub (fAdd (fMul (b.p 0) x) (fMul (b.p 1) (b.s 0))) (fMul (b.p 2) (b.s 1))) (b.p 3) (b.p 4)
  { outs := [outC y (b.p 3) (b.p 4)], flg := f, st := [x, y] }

/-- Reset of LEADLAG. -/
def resetLeadlag (b : BIn) : BRes :=
  let (y, f) := clampF (fMul (b.p 5) (b.i 0)) (b.p 3) (b.p 4)
  { outs := [outC y (b.p 3) (b.p 4)], flg := f, st := [b.i 0, y] }

/-! ### Filters -/

/-- BIQUAD (R196). Input X; parameters B0, B1, B2, A1, A2, YMIN, YMAX, GDC; state X1, X2, Y1, Y2. -/
def blockBiquad (b : BIn) : BRes :=
  let x := b.i 0
  let v := fAdd (fAdd (fMul (b.p 0) x) (fMul (b.p 1) (b.s 0))) (fMul (b.p 2) (b.s 1))
  let (y, f) := clampF (fSub (fSub v (fMul (b.p 3) (b.s 2))) (fMul (b.p 4) (b.s 3))) (b.p 5) (b.p 6)
  { outs := [outC y (b.p 5) (b.p 6)], flg := f, st := [x, b.s 0, y, b.s 2] }

/-- Reset of BIQUAD; no rule states its output. -/
def resetBiquad (b : BIn) : BRes :=
  let y := fClamp (fMul (b.p 7) (b.i 0)) (b.p 5) (b.p 6)
  { outs := [b.freeOut 0], st := [b.i 0, b.i 0, y, y] }

/-- One execution of the moving average of R197 on BUF[0…N−1], SUM, IDX: the average and the new state. -/
def mavgStep (n : Nat) (st : List Word) (x : Word) : Word × List Word :=
  let buf := padWords st n
  let idx := (st.getD (n + 1) 0).toNat % max n 1
  let sum := fAdd (fSub (st.getD n 0) (buf.getD idx 0)) x
  let buf := buf.set idx x
  if idx + 1 = n then
    let sum := sumF buf
    (fDiv sum (fOfNat n), buf ++ [sum, 0])
  else (fDiv sum (fOfNat n), buf ++ [sum, BitVec.ofNat 32 (idx + 1)])

/-- The reset state of a moving average. -/
def mavgReset (n : Nat) (x : Word) : List Word := List.replicate n x ++ [sumF (List.replicate n x), 0]

/-- MAVG (R197). Input X; size N. -/
def blockMavg (b : BIn) : BRes :=
  let (y, st) := mavgStep b.size b.st (b.i 0)
  { outs := [outR y], st }

/-- Reset of MAVG; no rule states its output. -/
def resetMavg (b : BIn) : BRes := { outs := [b.freeOut 0], st := mavgReset b.size (b.i 0) }

/-- RMS (R198). Inputs X, TH; parameters MODE (1 CYCLE), CMAX. -/
def blockRms (b : BIn) : BRes :=
  let x2 := fMul (b.i 0) (b.i 0)
  if isTrue (b.p 0) then
    let th := b.i 1
    let cnt := (b.s 1).toNat
    let wrap := th.toNat < (b.s 2).toNat
    let y := if wrap then fSqrt (fDiv (b.s 0) (fOfNat cnt)) else b.s 3
    let acc := fAdd (if wrap then 0 else b.s 0) x2
    let cnt := (if wrap then 0 else cnt) + 1
    if (b.p 1).toNat ≤ cnt then
      let y := fSqrt (fDiv acc (fOfNat cnt))
      { outs := [outR y], flg := flgB0, st := [0, 0, th, y] }
    else { outs := [outR y], st := [acc, BitVec.ofNat 32 cnt, th, y] }
  else
    let (m, st) := mavgStep b.size b.st x2
    { outs := [outR (fSqrt m)], st }

/-- Reset of RMS: Y is cleared in CYCLE mode; the output in WINDOW mode is stated by no rule. -/
def resetRms (b : BIn) : BRes :=
  if isTrue (b.p 0) then { outs := [outR 0], st := [0, 0, b.i 1, 0] }
  else { outs := [b.freeOut 0], st := mavgReset b.size (fMul (b.i 0) (b.i 0)) }

/-! ### Set-point handling -/

/-- One limited step of R199 from `y` toward `t`: the new value and whether the rate limit bound. -/
def rampStep (y t rup rdn ts : Word) : Word × Bool :=
  let d := fSub t y
  if fLt (fMul rup ts) d then (fAdd y (fMul rup ts), true)
  else if fLt d (fNeg (fMul rdn ts)) then (fSub y (fMul rdn ts), true)
  else (t, false)

/-- RAMP (R199). Inputs SP, MEAS, EN; parameters RUP, RDN, TS, YMIN, YMAX; state Y, ENP. -/
def blockRamp (b : BIn) : BRes :=
  let en := isTrue (b.i 2)
  let ymin := b.p 3; let ymax := b.p 4
  if !en || !isTrue (b.s 1) then
    let (y, f) := clampF (b.i 1) ymin ymax
    { outs := [outC y ymin ymax], flg := f, st := [y, wBool en] }
  else
    let (t, f) := clampF (b.i 0) ymin ymax
    let (y, r) := rampStep (b.s 0) t (b.p 0) (b.p 1) (b.p 2)
    { outs := [if r then outR y else outC y ymin ymax], flg := if r then rateLim else f, st := [y, wBool en] }

/-- Reset of RAMP. -/
def resetRamp (b : BIn) : BRes :=
  let (y, f) := clampF (b.i 1) (b.p 3) (b.p 4)
  { outs := [outC y (b.p 3) (b.p 4)], flg := f, st := [y, wBool (isTrue (b.i 2))] }

/-- RLIM (R200). Input X; parameters RUP, RDN, TS; state Y, INIT. -/
def blockRlim (b : BIn) : BRes :=
  let (y, r) := if isTrue (b.s 1) then rampStep (b.s 0) (b.i 0) (b.p 0) (b.p 1) (b.p 2) else (b.i 0, false)
  { outs := [outR y], flg := if r then rateLim else 0, st := [y, 1] }

/-- Reset of RLIM. -/
def resetRlim (b : BIn) : BRes := { outs := [outR (b.i 0)], st := [b.i 0, 1] }

/-- LIMIT (R201). Inputs X, LO, HI. -/
def blockLimit (b : BIn) : BRes :=
  if fLt (b.i 2) (b.i 1) then { outs := [outC (b.i 2) (b.i 1) (b.i 2)], flg := satHi + satLo }
  else
    let (y, f) := clampF (b.i 0) (b.i 1) (b.i 2)
    { outs := [outC y (b.i 1) (b.i 2)], flg := f }

/-- CTAB (R202). Inputs TH, K; parameters PHI, TAB[0…255]. -/
def blockCtab (b : BIn) : BRes :=
  let a := ((b.i 0).toNat + (b.p 0).toNat) % 4294967296
  let i := a / 16777216
  let f := fMul (fOfNat (a % 16777216)) 0x33800000
  let t0 := b.p (1 + i)
  let t1 := b.p (1 + (i + 1) % 256)
  { outs := [outR (fMul (b.i 1) (fAdd t0 (fMul f (fSub t1 t0))))] }

/-! ### Grid and frame -/

/-- SRFPLL (R203, R204). Inputs ALPHA, BETA; parameters KP, KI, TS, TSK, FNOM, FMIN, FMAX, VMIN, LOCK_TH, TH0; state TH,
IF, LCNT, LOCK; outputs TH, THN, F, VD, VQ, LOCK. -/
def blockSrfpll (b : BIn) : BRes :=
  let fnom := b.p 4
  let adv (f : Word) : Nat := cvtU (fMul f (b.p 3))
  let th := ((b.s 0).toNat + (match b.resume with
    | some k => k * adv (fAdd fnom (b.s 1))
    | none => 0)) % 4294967296
  let (s, c) := sincos th
  let vd := fAdd (fMul (b.i 0) c) (fMul (b.i 1) s)
  let vq := fSub (fMul (b.i 1) c) (fMul (b.i 0) s)
  let low := fLt vd (b.p 7)
  let vn := if low then 0 else fDiv vq vd
  let nif := if low then b.s 1
    else fClamp (fAdd (b.s 1) (fMul (fMul (b.p 1) (b.p 2)) vn)) (fSub (b.p 5) fnom) (fSub (b.p 6) fnom)
  let (f, sat) := clampF (fAdd (fAdd fnom nif) (fMul (b.p 0) vn)) (b.p 5) (b.p 6)
  let thn := (th + adv f) % 4294967296
  let locked := isTrue (b.s 3)
  let inside := fLt (fAbs vn) (b.p 8)
  let cnt := if inside == locked then 0 else (b.s 2).toNat + 1
  let (cnt, locked) := if locked then (if 8 ≤ cnt then (0, false) else (cnt, true))
    else (if 32 ≤ cnt then (0, true) else (cnt, false))
  let (cnt, locked) := if low then (0, false) else (cnt, locked)
  { outs := [outI (BitVec.ofNat 32 th), outI (BitVec.ofNat 32 thn), outC f (b.p 5) (b.p 6), outR vd, outR vq,
             outI (wBool locked)]
    flg := sat + if low then flgB0 + holdBit else 0
    st := [BitVec.ofNat 32 thn, nif, BitVec.ofNat 32 cnt, wBool locked] }

/-- Reset of SRFPLL; no rule states its outputs but those that are state. -/
def resetSrfpll (b : BIn) : BRes :=
  { outs := [outI (b.p 9), { b.freeOut 0 with real := false }, b.freeOut 1, b.freeOut 2, b.freeOut 3, outI 0]
    st := [b.p 9, 0, 0, 0] }

/-- CLARKE (R205). Inputs A, B, C; parameter TWO. -/
def blockClarke (b : BIn) : BRes :=
  let two := isTrue (b.p 0)
  let a := b.i 0; let bb := b.i 1
  let c := if two then fNeg (fAdd a bb) else b.i 2
  { outs := [outR (fDiv (fSub (fSub (fAdd a a) bb) c) 0x40400000), outR (fMul (fSub bb c) 0x3f13cd3a),
             outR (if two then 0 else fDiv (fAdd (fAdd a bb) c) 0x40400000)] }

/-- PARK (R206). Inputs ALPHA, BETA, θ. -/
def blockPark (b : BIn) : BRes :=
  let (s, c) := sincos (b.i 2).toNat
  { outs := [outR (fAdd (fMul (b.i 0) c) (fMul (b.i 1) s)), outR (fSub (fMul (b.i 1) c) (fMul (b.i 0) s))] }

/-- IPARK (R206). Inputs D, Q, θ; outputs alpha, beta, a, b, c. -/
def blockIpark (b : BIn) : BRes :=
  let (s, c) := sincos (b.i 2).toNat
  let al := fSub (fMul (b.i 0) c) (fMul (b.i 1) s)
  let be := fAdd (fMul (b.i 0) s) (fMul (b.i 1) c)
  let h := fMul 0xbf000000 al
  { outs := [outR al, outR be, outR al, outR (fAdd h (fMul 0x3f5db3d7 be)), outR (fSub h (fMul 0x3f5db3d7 be))] }

/-! ### DAB -/

/-- The base K, m and |m| of R207. Inputs P, VHV, VLV; parameters NT, LK, FMF, DMAX, VMIN. -/
def dabBase (b : BIn) : Word := fDiv (fMul (fMul (b.p 0) (b.i 1)) (b.i 2)) (fMul (fMul 0x40000000 (b.p 2)) (b.p 1))

/-- Under-voltage of R207. -/
def dabUnder (b : BIn) : Bool := fLt (b.i 1) (b.p 4) || fLt (b.i 2) (b.p 4)

/-- SAT_HI or SAT_LO by the sign of m. -/
def satSign (m : Word) : Nat := if fLt 0 m then satHi else satLo

/-- DABPH (R207). Outputs D, K. -/
def blockDabph (b : BIn) : BRes :=
  let k := dabBase b
  if dabUnder b then { outs := [outR 0, outR k], flg := flgB0 }
  else
    let m := fDiv (b.i 0) k
    let a := fAbs m
    let dmax := b.p 3
    let sat := fLt (fMul dmax (fSub one dmax)) a
    let d := if sat then dmax else fDiv (fAdd a a) (fAdd one (fSqrt (fSub one (fMul 0x40800000 a))))
    { outs := [outR (if fLt m 0 then fNeg d else d), outR k], flg := if sat then satSign m else 0 }

/-- Reset of DABPH; K is stated by no rule. -/
def resetDabph (b : BIn) : BRes := { outs := [outR 0, b.freeOut 0] }

/-- EPS (R208). Further parameters D1MAX, MEPS; outputs D1, D2. -/
def blockEps (b : BIn) : BRes :=
  let k := dabBase b
  if dabUnder b then { outs := [outR 0, outR 0], flg := flgB0 }
  else
    let m := fDiv (b.i 0) k
    let a := fAbs m
    let dmax := b.p 3
    let fin (d1 d2 : Word) (f : Nat) : BRes :=
      { outs := [outR d1, outR (if fLt m 0 then fSub d1 d2 else d2)], flg := f }
    if fLt (fMul dmax (fSub one dmax)) a then fin 0 dmax (satSign m)
    else
      let d1 := if fLt a (b.p 6) then fMul (b.p 5) (fSub one (fDiv a (b.p 6))) else 0
      let d1 := if fLt a 0x3e000000 then
          fMin d1 (fDiv (fMul 0x40800000 a) (fAdd one (fSqrt (fSub one (fMul 0x41000000 a))))) else d1
      let root := fSqrt (fSub (fSub one (fMul d1 d1)) (fMul 0x40800000 a))
      let d2 := fDiv (fSub (fAdd one d1) root) 0x40000000
      if fLt dmax d2 then fin d1 dmax (satSign m) else fin d1 d2 0

/-- Reset of EPS. -/
def resetEps (_b : BIn) : BRes := { outs := [outR 0, outR 0] }

/-- FLUXTRIM (R209). Inputs IDC, EN; parameters KI, TS, DB, TMAX. -/
def blockFluxtrim (b : BIn) : BRes :=
  let tmax := b.p 3
  if isTrue (b.i 1) && fLt (b.p 2) (fAbs (b.i 0)) then
    let (t, f) := clampF (fSub (b.s 0) (fMul (fMul (b.p 0) (b.p 1)) (b.i 0))) (fNeg tmax) tmax
    { outs := [outC t (fNeg tmax) tmax], flg := f, st := [t] }
  else { outs := [outR (b.s 0)], flg := holdBit, st := [b.s 0] }

/-- Reset of FLUXTRIM. -/
def resetFluxtrim (_b : BIn) : BRes := { outs := [outR 0], st := [0] }

/-! ### Cell and stack -/

/-- RANKSEL (R210). Inputs N, NAV, RK[0…n−1]; parameter DIR; outputs SEL, NSEL. -/
def blockRanksel (b : BIn) : BRes :=
  let n := (b.i 0).toInt; let nav := (b.i 1).toInt
  let n' := clampInt 0 nav n
  let sel := (List.range b.size).filter fun j =>
    let rk := (b.i (2 + j)).toInt
    decide (0 ≤ rk) && (if isTrue (b.p 0) then decide (nav - n' ≤ rk) else decide (rk < n'))
  { outs := [outI (BitVec.ofNat 32 (sel.foldl (fun m j => m + 2 ^ j) 0)), outI (BitVec.ofNat 32 sel.length)]
    flg := if n < 0 then satLo else if nav < n then satHi else 0 }

/-- ALLOC (R211). Inputs PSTK, SUMV, NAV, AVL, VHV[0…n−1]; parameters KB, PMAX; outputs PC[0…n−1], PCLU. -/
def blockAlloc (b : BIn) : BRes :=
  let nav := (b.i 2).toInt
  if nav = 0 then { outs := (List.replicate (b.size + 1) (outR 0)), flg := flgB0 }
  else
    let vm := fDiv (b.i 1) (fOfInt nav)
    let base := fDiv (b.i 0) (fOfInt nav)
    let pmax := b.p 1
    let pc := (List.range b.size).map fun j =>
      if bitOf (b.i 3).toNat j then
        clampF (fAdd base (fMul (b.p 0) (fSub (b.i (4 + j)) vm))) (fNeg pmax) pmax
      else (0, 0)
    let flg := (if pc.any fun x => x.2 == satHi then satHi else 0) + (if pc.any fun x => x.2 == satLo then satLo else 0)
    { outs := pc.map (fun x => outC x.1 (fNeg pmax) pmax) ++ [outR (sumF (pc.map Prod.fst))], flg }

/-- Cell `j` of a CELLFS is requested by its inputs (R212). -/
def cellfsWants (b : BIn) (j : Nat) : Bool :=
  let swf := (b.i j).toNat
  let chf := (b.i (b.size + j)).toNat
  let pol := (b.p 0).toNat
  decide (2 ≤ countBits swf 8) || (swf % 16 != 0 && !bitOf pol 0) || (swf / 16 % 16 != 0 && !bitOf pol 1) ||
    bitOf chf 0 || (bitOf chf 1 && !bitOf pol 2) || (bitOf chf 2 && !bitOf pol 3) ||
    fLt (b.p 1) (b.i (2 * b.size + j))

/-- A mask over the cells an instance serves as one over the cluster: `extra` lists them. -/
def cellMask (cells : List Nat) (m : Nat) : Nat :=
  (List.range cells.length).foldl (fun a j => if bitOf m j then withBit a (cells.getD j 0) true else a) 0

/-- CELLFS (R212). Inputs SWF[n], CHF[n], VHV[n]; parameters POL, VTRIP; outputs DEG, FSREQ. -/
def blockCellfs (b : BIn) : BRes :=
  let req := (List.range b.size).foldl (fun m j => if cellfsWants b j then withBit m j true else m) (b.s 0).toNat
  let deg := (List.range b.size).foldl (fun m j =>
    if ((b.i j).toNat % 256 != 0 || (b.i (b.size + j)).toNat % 8 != 0) && !bitOf req j then withBit m j true else m) 0
  { outs := [outI (BitVec.ofNat 32 deg), outI (BitVec.ofNat 32 req)], st := [BitVec.ofNat 32 req]
    sends := [.fsreq (cellMask b.extra (2 ^ b.size - 1)) (cellMask b.extra req)] }

/-- Reset of CELLFS: REQ clears; DEG is stated by no rule. -/
def resetCellfs (b : BIn) : BRes :=
  { outs := [{ b.freeOut 0 with real := false }, outI 0], st := [0]
    sends := [.fsreq (cellMask b.extra (2 ^ b.size - 1)) 0] }

/-! ### Modulation -/

/-- A signed sum of positions modulo NP. -/
def modNp (np : Nat) (v : Int) : Nat := (v % (max np 1 : Nat)).toNat

/-- Structure constants of PWMW: group, MODE (1 DUTY), then the cells it serves; its parameters are CPH[n] and LOAD. -/
def BIn.pwmGroup (b : BIn) : Nat := b.extra.getD 0 0
def BIn.pwmDuty (b : BIn) : Bool := b.extra.getD 1 0 == 1
def BIn.pwmLoad (b : BIn) : Bool := isTrue (b.p b.size)
def BIn.pwmCell (b : BIn) (j : Nat) : Nat := b.extra.getD (2 + j) 0

/-- The four legs of cell `j` in DAB mode (R213). Inputs D1[n], D2[n], TR[n]; parameters CPH[n]. -/
def pwmwDab (b : BIn) (j : Nat) : List Send :=
  let n := b.size
  let h := b.np / 2
  let q := 4 * b.pwmCell j
  let cph : Int := (b.p j).toNat
  let la := modNp b.np (cph + cvtI (fMul (fOfNat h) (b.i (n + j))))
  let w := fCvt 0 4294967295 (fMul (fOfNat h) (fAdd one (b.i (2 * n + j))))
  [.pwm q (modNp b.np cph) (min w.toNat b.np), .pwm (q + 1) (modNp b.np (cph + h + cvtI (fMul (fOfNat h) (b.i j)))) h,
   .pwm (q + 2) la h, .pwm (q + 3) (modNp b.np ((la : Int) + h)) h]

/-- The four legs of cell `j` in DUTY mode (R213). Inputs DTY[4n]. -/
def pwmwDuty (b : BIn) (j : Nat) : List Send :=
  (List.range 4).map fun l =>
    let w := min (cvtU (fMul (fOfNat b.np) (fClamp (b.i (4 * j + l)) 0 one))) b.np
    .pwm (4 * b.pwmCell j + l) (modNp b.np ((b.p j).toNat + (b.np - w) / 2)) w

/-- PWMW (R213). -/
def blockPwmw (b : BIn) : BRes :=
  { sends := ((List.range b.size).map fun j => if b.pwmDuty then pwmwDuty b j else pwmwDab b j).flatten ++
      (if b.pwmLoad then [.loadAll b.pwmGroup] else []) }

/-! ### Mode and logic -/

/-- MODESW (R214). Inputs AUTO, MAN; parameter MODE0; outputs PRE, PV, MODE. -/
def blockModesw (b : BIn) : BRes :=
  let auto := isTrue (b.i 0)
  let first := auto && !isTrue (b.s 0)
  { outs := [outI (wBool (!auto || first)), outR (b.i 1), outI (wBool auto)]
    flg := if first then flgB0 else 0, st := [wBool auto] }

/-- Reset of MODESW. -/
def resetModesw (b : BIn) : BRes := { outs := [outI 1, outR (b.i 1), outI (wBool (isTrue (b.p 0)))], st := [wBool (isTrue (b.p 0))] }

/-- CMPH (R215). Inputs X, HI, LO; parameters NON, NOFF, Y0; output Y. -/
def blockCmph (b : BIn) : BRes :=
  let y := isTrue (b.s 0)
  let above := fLt (b.i 1) (b.i 0)
  let below := fLt (b.i 0) (b.i 2) && !above
  let cnt := if (if y then below else above) then (b.s 1).toNat + 1 else 0
  let (y, cnt) := if (if y then (b.p 1).toNat else (b.p 0).toNat) ≤ cnt then (!y, 0) else (y, cnt)
  { outs := [outI (wBool y)], st := [wBool y, BitVec.ofNat 32 cnt] }

/-- Reset of CMPH. -/
def resetCmph (b : BIn) : BRes := { outs := [outI (wBool (isTrue (b.p 2)))], st := [wBool (isTrue (b.p 2)), 0] }

/-- The condition of a transition holds (R216). -/
def condHolds (b : BIn) (dwell : Nat) : Cond → Bool
  | .input i pol => isTrue (b.i i.val) == pol
  | .always => true
  | .dwell n => decide (n ≤ dwell)

/-- FSM (R216). Sixteen inputs; parameters OUT[0…15]; structure constant S0; outputs STATE, ENTRY, DWELL, OUT[STATE]. -/
def blockFsm (b : BIn) : BRes :=
  let st := (b.s 0).toNat % 16
  let dwell := (b.s 1).toNat
  let (st, dwell, entry) := match b.trans.find? fun t =>
      (match t.frm with | none => true | some f => f.val == st) && condHolds b dwell t.cond with
    | some t => (t.dst.val, 0, true)
    | none => (st, min (dwell + 1) 2147483647, false)
  { outs := [outI (BitVec.ofNat 32 st), outI (wBool entry), outI (BitVec.ofNat 32 dwell), outI (b.p st)]
    st := [BitVec.ofNat 32 st, BitVec.ofNat 32 dwell] }

/-- Reset of FSM. -/
def resetFsm (b : BIn) : BRes :=
  let s0 := b.extra.getD 0 0 % 16
  { outs := [outI (BitVec.ofNat 32 s0), outI 1, outI 0, outI (b.p s0)], st := [BitVec.ofNat 32 s0, 0] }

/-- EVEMIT (R217). Inputs TRG, A, B; parameters ID, EDGE, MINGAP; state the previous TRG and the executions since the
last emission. -/
def blockEvemit (b : BIn) : BRes :=
  let trg := isTrue (b.i 0)
  let cnt := (b.s 1).toNat
  let emit := trg && (if isTrue (b.p 1) then !isTrue (b.s 0) else decide ((b.p 2).toNat ≤ cnt))
  { st := [wBool trg, BitVec.ofNat 32 (if emit then 0 else min (cnt + 1) 65535)]
    sends := if emit then [.event ((b.p 0).toNat % 64) (b.i 1) (b.i 2)] else [] }

/-- Reset of EVEMIT. -/
def resetEvemit (_b : BIn) : BRes := { st := [0, 65535] }

/-! ### Wear -/

/-- FOSTER (R218). Inputs PL, TREF; parameters A[4], B[4]; output TJ. -/
def blockFoster (b : BIn) : BRes :=
  let th := [0, 1, 2, 3].map fun i => fAdd (fMul (b.p i) (b.s i)) (fMul (b.p (4 + i)) (b.i 0))
  { outs := [outR (sumF (b.i 1 :: th))], st := th }

/-- Reset of FOSTER; TJ is stated by no rule. -/
def resetFoster (b : BIn) : BRes := { outs := [b.freeOut 0], st := [0, 0, 0, 0] }

/-- A counted cycle: range, mean, weight. -/
abbrev Cycle := Word × Word × Word

/-- The mean of two points. -/
def meanF (a b : Word) : Word := fDiv (fAdd a b) 0x40000000

/-- A push of R219: into a full stack it first counts the half cycle of the two oldest points. -/
def rainPush (pts : List Word) (p : Word) : List Word × List Cycle :=
  match pts with
  | a :: b :: rest =>
    if 16 ≤ pts.length then (b :: rest ++ [p], [(fAbs (fSub a b), meanF a b, 0x3f000000)]) else (pts ++ [p], [])
  | _ => (pts ++ [p], [])

/-- The four-point rule, at most `n` times. -/
def rainRule : Nat → List Word → List Word × List Cycle
  | 0, pts => (pts, [])
  | n + 1, pts =>
    match pts.reverse with
    | s4 :: s3 :: s2 :: s1 :: _ =>
      let r := fAbs (fSub s2 s3)
      if fLe r (fAbs (fSub s1 s2)) && fLe r (fAbs (fSub s3 s4)) then
        let (l, c) := rainRule n (pts.take (pts.length - 3) ++ [s4])
        (l, (r, meanF s2 s3, one) :: c)
      else (pts, [])
    | _ => (pts, [])

/-- RAINF (R219). Inputs X, EN; parameter HYS; state 16 points, NS, DIR, EXT and a spare word; outputs NC and two
triples. -/
def blockRainf (b : BIn) : BRes :=
  let cycles (l : List Cycle) : List BOut :=
    outI (BitVec.ofNat 32 l.length) :: ((l ++ [(0, 0, 0), (0, 0, 0)]).take 2).flatMap fun (c : Cycle) => [outR c.1, outR c.2.1, outR c.2.2]
  if !isTrue (b.i 1) then { outs := cycles [], st := padWords b.st 20 }
  else
    let x := b.i 0; let hys := b.p 0
    let ns := (b.s 16).toNat
    let pts := padWords b.st (min ns 16)
    let dir := (b.s 17).toInt
    let ext := b.s 18
    let (pts, half, dir, ext) : List Word × List Cycle × Int × Word :=
      if pts.isEmpty then ([x], [], 0, x)
      else if dir = 0 then
        let top := pts.getLastD 0
        let (dir, ext) := if fLe (fAdd top hys) x then ((1 : Int), x) else (0, ext)
        let (dir, ext) := if fLe x (fSub top hys) then (-1, x) else (dir, ext)
        (pts, [], dir, ext)
      else if dir = 1 then
        if fLt ext x then (pts, [], 1, x)
        else if fLe x (fSub ext hys) then let (l, c) := rainPush pts ext; (l, c, -1, x)
        else (pts, [], 1, ext)
      else
        if fLt x ext then (pts, [], dir, x)
        else if fLe (fAdd ext hys) x then let (l, c) := rainPush pts ext; (l, c, 1, x)
        else (pts, [], dir, ext)
    let (pts, full) := rainRule (2 - half.length) pts
    { outs := cycles (half ++ full)
      st := padWords pts 16 ++ [BitVec.ofNat 32 pts.length, BitVec.ofInt 32 dir, ext, 0] }

/-- Reset of RAINF. -/
def resetRainf (_b : BIn) : BRes :=
  { outs := outI 0 :: List.replicate 6 (outR 0), st := List.replicate 20 0 }

/-- The largest index whose edge is at most `v`, if any. -/
def binOf (edges : List Word) (v : Word) : Option Nat := ((List.range edges.length).filter fun i => fLe (edges.getD i 0) v).getLast?

/-- What one counted cycle adds to ACC (R220); none for a cycle below DTE[0]. -/
def minerAdds (b : BIn) (r m w : Word) : Option Nat :=
  match binOf (b.pars.take 16) r with
  | none => none
  | some i =>
    let j := (binOf ((b.pars.drop 16).take 8) m).getD 0
    some (fCvt 0 18446744073709551615 (fMul (fDiv w (b.p (24 + 8 * i + j))) 0x5b800000)).toNat

/-- MINER (R220). Inputs NC, R1, M1, W1, R2, M2, W2; parameters DTE[16], TME[8], NF[16][8]; state ACC, CNT; outputs D,
ACC low and high, CNT. -/
def blockMiner (b : BIn) : BRes :=
  let acc := (b.s 0).toNat + (b.s 1).toNat * 4294967296
  let cnt := (b.s 2).toNat
  let (acc, cnt) := (List.range (min (b.i 0).toNat 2)).foldl (fun (a : Nat × Nat) c =>
    match minerAdds b (b.i (1 + 3 * c)) (b.i (2 + 3 * c)) (b.i (3 + 3 * c)) with
    | some v => (min (a.1 + v) 18446744073709551615, min (a.2 + 1) 2147483647)
    | none => a) (acc, cnt)
  let ws := [BitVec.ofNat 32 acc, BitVec.ofNat 32 (acc / 4294967296), BitVec.ofNat 32 cnt]
  { outs := outR (fMul (fOfNat acc) 0x23800000) :: ws.map outI, st := ws }

/-- Reset of MINER. -/
def resetMiner (_b : BIn) : BRes := { outs := outR 0 :: List.replicate 3 (outI 0), st := [0, 0, 0] }

/-! ### All block types -/

/-- Cycle cost of a block (R183). -/
def blockCost (b : Block) : Nat :=
  match b.code.toNat with
  | 0x01 => 24 | 0x02 => 40 | 0x03 => 20 | 0x04 => 30 | 0x05 => 20 + b.size
  | 0x06 => if b.size = 0 then 36 else 28 + b.size
  | 0x07 => 22 | 0x08 => 18 | 0x09 => 10 | 0x0a => 20 | 0x0b => 96 | 0x0c => 14 | 0x0d => 40 | 0x0e => 48 | 0x0f => 44
  | 0x10 => 72 | 0x11 => 20 | 0x12 => 16 + 2 * b.size | 0x13 => 24 + 12 * b.size | 0x14 => 8 + 6 * b.size
  | 0x15 => 16 + 40 * b.size | 0x16 => 12 | 0x17 => 10 | 0x18 => 16 + 2 * b.trans.length | 0x19 => 14 | 0x1a => 26
  | 0x1b => 60 | 0x1c => 104 | _ => 0

/-- State words of a block (R183). -/
def blockWords (b : Block) : Nat :=
  match b.code.toNat with
  | 0x01 => 1 | 0x02 => 2 | 0x03 => 2 | 0x04 => 4 | 0x05 => b.size + 2
  | 0x06 => if b.size = 0 then 4 else b.size + 2
  | 0x07 => 2 | 0x08 => 2 | 0x0b => 4 | 0x11 => 1 | 0x14 => 1 | 0x16 => 1 | 0x17 => 2 | 0x18 => 2 | 0x19 => 2
  | 0x1a => 4 | 0x1b => 20 | 0x1c => 3 | _ => 0

/-- The normal formula of a block type; a code outside the library computes nothing (refused at load, R47). -/
def blockEval (code : Nat) (b : BIn) : BRes :=
  match code with
  | 0x01 => blockPi b | 0x02 => blockPr b | 0x03 => blockLeadlag b | 0x04 => blockBiquad b | 0x05 => blockMavg b
  | 0x06 => blockRms b | 0x07 => blockRamp b | 0x08 => blockRlim b | 0x09 => blockLimit b | 0x0a => blockCtab b
  | 0x0b => blockSrfpll b | 0x0c => blockClarke b | 0x0d => blockPark b | 0x0e => blockIpark b | 0x0f => blockDabph b
  | 0x10 => blockEps b | 0x11 => blockFluxtrim b | 0x12 => blockRanksel b | 0x13 => blockAlloc b
  | 0x14 => blockCellfs b | 0x15 => blockPwmw b | 0x16 => blockModesw b | 0x17 => blockCmph b | 0x18 => blockFsm b
  | 0x19 => blockEvemit b | 0x1a => blockFoster b | 0x1b => blockRainf b | 0x1c => blockMiner b | _ => {}

/-- The reset branch of a block type; a stateless type without reset outputs of its own runs its formula. -/
def blockReset (code : Nat) (b : BIn) : BRes :=
  let r := match code with
    | 0x01 => resetPi b | 0x02 => resetPr b | 0x03 => resetLeadlag b | 0x04 => resetBiquad b | 0x05 => resetMavg b
    | 0x06 => resetRms b | 0x07 => resetRamp b | 0x08 => resetRlim b | 0x0b => resetSrfpll b | 0x0f => resetDabph b
    | 0x10 => resetEps b | 0x11 => resetFluxtrim b | 0x14 => resetCellfs b | 0x16 => resetModesw b
    | 0x17 => resetCmph b | 0x18 => resetFsm b | 0x19 => resetEvemit b | 0x1a => resetFoster b
    | 0x1b => resetRainf b | 0x1c => resetMiner b | _ => blockEval code b
  { r with flg := r.flg + (if bitOf r.flg 3 then 0 else resetBit) }

/-- A reset branch that reads inputs waits for its first execution behind an image load (R189). -/
def resetReadsInput (code : Nat) : Bool := code ∈ [0x03, 0x04, 0x05, 0x06, 0x07, 0x08]

end Sys2Proof.Machine
end

