-- ==== Sys2Proof/Machine/Arbiter.lean ====
section
/-! DEFINITION. The arbiters of the SSM banks (chapter 16, R462 to R474): keys, grants, preemption, lock sequences and wounds. -/

namespace Sys2Proof.Machine

/-! ### Banks, sequences and keys -/

/-- FCLK cycles since the run began; `late` marks the second cycle of the present tick. -/
def State.fclk (s : State) (late : Bool) : Nat := 2 * s.now + late.toNat

/-- The arbiter of a bank. -/
def State.arbBank (s : State) (b : Nat) : ArbBank := s.arb.banks.at b {}

/-- Sets it. -/
def State.setArbBank (s : State) (b : Nat) (x : ArbBank) : State := { s with arb.banks := s.arb.banks.put b {} x }

/-- The lock sequence of a requester. -/
def State.lockSeq (s : State) (r : Nat) : Option LockSeq := s.arb.seqs.at r none

/-- Sets it. -/
def State.setLockSeq (s : State) (r : Nat) (q : Option LockSeq) : State :=
  { s with arb.seqs := s.arb.seqs.put r none q }

/-- The requester whose sequence reserves a bank (R470). -/
def State.reservedBy (s : State) (b : Nat) : Option Nat :=
  (List.range 12).find? fun r => match s.lockSeq r with | some q => q.banks.contains b | none => false

/-- The longest transfer of a requester in beats (R462). -/
def longest (r : Nat) : Nat := if r < 8 then 8 else if r < 10 then 16 else if r = 10 then 32 else 4

/-- A requester has been cut off and is demoted: ARB_CUT bit r (R473). -/
def State.demoted (s : State) (r : Nat) : Bool := s.bit Reg.ARB_CUT r

/-- The effective class of a requester (R464); a class written in this cycle counts from the next one (R467, R475). -/
def State.arbClass (s : State) (cycle r : Nat) : Nat :=
  if s.demoted r then 0
  else match s.arb.oldClass.at r none with
    | some (c, k) => if cycle ≤ c then k else s.rf (Reg.ARB_CLASS r) 0 2
    | none => s.rf (Reg.ARB_CLASS r) 0 2

/-- URG of a request (R464): from 1,024 cycles behind its arrival on, never for a demoted requester. -/
def State.urg (s : State) (cycle : Nat) (q : ArbReq) : Bool := (q.urgent || decide (1024 ≤ cycle - q.since)) && !s.demoted q.r

/-- URG and CLASS together. -/
def State.rank (s : State) (cycle : Nat) (q : ArbReq) : Nat := (s.urg cycle q).toNat * 4 + s.arbClass cycle q.r

/-- The 17-bit key (R464). -/
def State.key (s : State) (cycle : Nat) (q : ArbReq) : Nat :=
  s.rank cycle q * 16384 + min (cycle - q.since) 1023 * 16 + (15 - q.r)

/-- The key of a lock sequence: that of its age. -/
def State.seqKey (s : State) (cycle r : Nat) (q : LockSeq) : Nat := s.key cycle { r, since := q.since, beats := 0 }

/-- Requesters with an urgent request now: ARB_STAT[27:16]. -/
def State.urgentNow (s : State) : Nat :=
  (List.range 12).foldl (fun m r => if (List.range 16).any fun b => (s.arbBank b).waiting.any fun q =>
    q.r == r && s.urg (s.fclk false) q then m + 2 ^ r else m) 0

/-! ### Grants -/

/-- The request with the largest key. -/
def State.best (s : State) (cycle : Nat) (l : List ArbReq) : Option ArbReq :=
  l.foldl (fun best q => match best with
    | none => some q
    | some p => if s.key cycle p < s.key cycle q then some q else best) none

/-- The waiting request with the largest key among those that may have the bank. -/
def State.winner (s : State) (b cycle : Nat) : Option ArbReq :=
  s.best cycle ((s.arbBank b).waiting.filter fun q => match s.reservedBy b with | some r => q.r == r | none => true)

/-- Grants a request from the next FCLK cycle on: wait and urgency are recorded, and a lock request reserves the bank. -/
def State.grant (s : State) (b cycle : Nat) (q : ArbReq) : State :=
  let x := s.arbBank b
  let made := q.lock && (s.lockSeq q.r).any fun z => !z.banks.contains b
  let s := s.setArbBank b { holder := some { q with granted := cycle + 1, made }, waiting := x.waiting.erase q }
  let w := min (cycle + 1 - q.arrived) 65535
  let s := if s.rf (Reg.ARB_WAITMAX q.r) 0 16 < w then s.wf (Reg.ARB_WAITMAX q.r) 0 16 w else s
  let s := if s.urg cycle q then s.count Reg.ARB_URGENT else s
  match s.lockSeq q.r with
  | some z => if made then s.setLockSeq q.r (some { z with banks := z.banks ++ [b] }) else s
  | none => s

/-- Grants the best waiting request of a bank that nothing holds. -/
def State.grantNext (s : State) (b cycle : Nat) : State :=
  if (s.arbBank b).holder.isSome then s
  else match s.winner b cycle with
    | some q => s.grant b cycle q
    | none => s

/-- What a read transfer has returned by the end of a cycle (R463). -/
def State.returned (s : State) (h : ArbReq) (cycle : Nat) : State :=
  let n := min (cycle + 1 - h.granted) h.beats
  if h.kind != ArbKind.plain || !h.data.isEmpty || n = 0 then s
  else s.emit (.arbRead h.r ((List.range n).map fun i => leNat (s.bytes (h.addr + 8 * i) 8)))

/-- The holder of a bank waits again, its transfer without effect (R463, R466): what it had reserved by this grant is free. -/
def State.ungrant (s : State) (b cycle : Nat) (h : ArbReq) : State :=
  let s := s.returned h cycle
  let x := s.arbBank b
  let s := s.setArbBank b { holder := none, waiting := { h with granted := 0, made := false } :: x.waiting }
  match s.lockSeq h.r with
  | some z => if h.made then s.setLockSeq h.r (some { z with banks := z.banks.erase b }) else s
  | none => s

/-- Releases every bank of a lock sequence, with its grants and waiting requests, without effect. -/
def State.dropSeq (s : State) (r cycle : Nat) (banks : List Nat) : State :=
  let s := s.setLockSeq r none
  s.each 16 fun s b =>
    let x := s.arbBank b
    let mine := banks.contains b && x.holder.any fun q => q.r == r
    let s := match x.holder with
      | some h => if mine then s.returned h cycle else s
      | none => s
    s.setArbBank b { holder := if mine then none else x.holder, waiting := x.waiting.filter fun q => !(q.r == r && q.lock) }

/-- Wounds the sequence of requester `r` (R471): within one cycle it releases its banks without effect, and it restarts from its
first lock with its original age; the next grants are decided in the cycle of the release. -/
def State.wound (s : State) (r cycle : Nat) : State :=
  match s.lockSeq r with
  | none => s
  | some z =>
    let s := { s with arb.wounded := s.arb.wounded.put r none (some (cycle, z.banks, s.rg Reg.ARB_WOUND)) }
    let s := (s.dropSeq r cycle z.banks).count Reg.ARB_WOUND
    let b := z.first.1
    let x := s.arbBank b
    let s := s.setArbBank b { x with waiting := x.waiting ++ [{ z.first.2 with since := z.since, granted := 0, made := false }] }
    let s := s.setLockSeq r (some { since := z.since, first := z.first })
    z.banks.foldl (fun s b => s.grantNext b (cycle + 1)) s

/-- The strongest waiting request of a bank against what holds it (R466, R471). -/
def State.challenge (s : State) (b cycle : Nat) (q : ArbReq) : State :=
  match s.reservedBy b with
  | some r =>
    match s.lockSeq r with
    | some z => if r ≠ q.r ∧ s.seqKey cycle r z < s.key cycle q then s.wound r cycle else s.grantNext b cycle
    | none => s
  | none =>
    match (s.arbBank b).holder with
    | none => s.grantNext b cycle
    | some h =>
      if s.rank cycle h < s.rank cycle q && decide (cycle - h.granted + 1 < h.beats) then
        ((s.ungrant b cycle h).count Reg.ARB_PREEMPT).grant b cycle q
      else s

/-- Weighs the requests that wait at a bank against what holds it. A grant decided in this cycle is decided among all requests that
stand in it (R465): nothing is preempted before its first beat. -/
def State.contest (s : State) (b cycle : Nat) : State :=
  let x := s.arbBank b
  match s.best cycle x.waiting with
  | none => s
  | some q =>
    match x.holder with
    | some h =>
      if cycle < h.granted && ((s.reservedBy b).isNone || h.made) then
        if s.key cycle h < s.key cycle q then (s.ungrant b cycle h).grant b (h.granted - 1) q else s
      else s.challenge b cycle q
    | none => s.challenge b cycle q

/-- ARB_REQUEST (R465, R466, R470, R471): a transfer or lock request arrives; a lock request of a requester that may not
lock is a plain request. -/
def arbRequest (q : ArbReq) (b cycle : Nat) (s : State) : State :=
  let may := q.lock && s.bit Reg.ARB_LOCKEN q.r && (q.r == 8 || q.r == 10)
  let q := { q with lock := may }
  let (s, q) := if !may then (s, q)
    else match s.lockSeq q.r with
      | some z => (s, { q with since := z.since })
      | none => (s.setLockSeq q.r (some { since := cycle, first := (b, q) }), q)
  let x := s.arbBank b
  (s.setArbBank b { x with waiting := x.waiting ++ [q] }).contest b cycle

/-- ARB_URGENT (R464): the request of `r` at bank `b` has reached age 1,023; its URG reads 0 while `r` is demoted. -/
def arbUrgent (r b cycle : Nat) (s : State) : State :=
  let x := s.arbBank b
  (s.setArbBank b { x with waiting := x.waiting.map fun q => if q.r = r then { q with urgent := true } else q }).contest b cycle

/-- Requesters are demoted no longer (R473): their own class and urgency count again in every contest. -/
def State.promote (s : State) (cycle : Nat) : State := s.each 16 fun s b => s.contest b cycle

/-- A write of ARB_CLASS[r] (R467): the new class takes part in every contest from the next cycle. -/
def classWrite (r : Nat) (v : Word) (cycle : Nat) (s : State) : State :=
  let old := match s.arb.oldClass.at r none with
    | some (c, k) => if cycle ≤ c then k else s.rf (Reg.ARB_CLASS r) 0 2
    | none => s.rf (Reg.ARB_CLASS r) 0 2
  let s := { s with arb.oldClass := s.arb.oldClass.put r none (some (cycle, old)) }
  (s.wn (Reg.ARB_CLASS r) (fld v 0 2)).each 16 fun s b => s.contest b (cycle + 1)

/-! ### Cut-off (R472 to R474) -/

/-- A requester is cut off (R473): its grant, or its whole sequence, ends without effect, ARB_CUT and event 0x0C04, and it
is demoted, which every bank weighs. Behind a withdrawal the bank stays idle for a cycle. DESIGN CHOICE: a request of the device's own,
a scrub's or a write-back's, waits again. -/
def State.cutOff (s : State) (r b cause cycle : Nat) : State :=
  let banks := match s.lockSeq r with | some z => z.banks | none => []
  let s := if banks.isEmpty then s else s.dropSeq r cycle banks
  let s := match (s.arbBank b).holder with
    | some h => if h.r = r then
        let s := s.ungrant b cycle h
        if h.kind = ArbKind.plain then s.setArbBank b { s.arbBank b with waiting := (s.arbBank b).waiting.drop 1 } else s
      else s
    | none => s
  let s := (s.wbit Reg.ARB_CUT r true).wf Reg.ARB_CUT (16 + r) 1 cause
  let s := s.raise 0x0c04 0 [r, cause]
  s.each 16 fun s i => s.contest i (if i = b then cycle + cause else cycle)

/-- The arbiter enforces its limits: ARB_STAT.MODE is SERVICE (R472). -/
def State.arbService (s : State) : Bool := !s.bit Reg.ARB_STAT 0

/-- `r` holds bank `b` by a grant or a reservation. -/
def State.holds (s : State) (r b : Nat) : Bool :=
  ((s.arbBank b).holder.map ArbReq.r) == some r || s.reservedBy b == some r

/-- ARB_HOLD_CUTOFF (R473): nothing in LENIENT mode (R474). A wound of the same tick that has released the bank already is not counted
(R475). -/
def holdCutoff (r b cycle : Nat) (s : State) : State :=
  if !s.arbService then s
  else if s.holds r b then s.cutOff r b 0 cycle
  else match s.arb.wounded.at r none with
    | some (c, banks, n) =>
      if c / 2 = cycle / 2 && banks.contains b then (s.wr Reg.ARB_WOUND n).cutOff r b 0 cycle else s
    | none => s

/-- ARB_WITHDRAW (R473, R474): the request withdrawn in its grant cycle; in LENIENT mode it costs a dead cycle only, and what its grant
has reserved is free. -/
def withdraw (r b cycle : Nat) (s : State) : State :=
  if !s.holds r b then s
  else if s.arbService then s.cutOff r b 1 cycle
  else
    let s := match (s.arbBank b).holder with
      | some h => if h.r = r then
          let s := s.ungrant b cycle h
          s.setArbBank b { s.arbBank b with waiting := (s.arbBank b).waiting.drop 1 }
        else s
      | none => s
    s.grantNext b (cycle + 1)

end Sys2Proof.Machine
end

