-- ==== Sys2Proof/Machine/Ecc.lean ====
section
/-! DEFINITION. Memory integrity (chapter 16, R449 to R460): the SEC-DED code, corrections and their log, write-backs, the
scrubber's reads. -/

namespace Sys2Proof.Machine

/-! ### The code (R450)

`mem` holds what a normal read delivers. A word whose stored check bits do not match its stored data stands in `memi.raw` as well,
with both; only test mode writes such words. -/

/-- The check bits of a word. -/
def checkBits (data : Nat) : Nat := Config.eccBits data % 256

/-- A number with bit `i` inverted. -/
def flipBit (m i : Nat) : Nat := withBit m i !(bitOf m i)

/-- The word the code makes of stored data and check bits, if at most one bit of the 72 is wrong. -/
def eccFix (data chk : Nat) : Option Nat :=
  if chk = checkBits data || (List.range 8).any fun i => flipBit chk i == checkBits data then some data
  else ((List.range 64).map (flipBit data)).find? fun d => checkBits d == chk

/-- The checker's classification (R460): 0 none, 1 single, 2 uncorrectable. -/
def eccClass (data chk : Nat) : Nat := if chk = checkBits data then 0 else if (eccFix data chk).isSome then 1 else 2

/-- The syndrome of stored data and check bits. DEDUCED: where the stored check bits differ from those of the data. -/
def eccSyndrome (data chk : Nat) : Nat := (BitVec.ofNat 8 chk ^^^ BitVec.ofNat 8 (checkBits data)).toNat

/-- What a normal read delivers. -/
def eccWord (data chk : Nat) : Nat := (eccFix data chk).getD (Config.eccRead data chk)

/-! ### Regions (R449) -/

/-- What a BAR2 offset belongs to: 0 unmapped, 1 SSM general region, 2 Geode region, 3 GCT, 4 an engine memory. -/
def region (a : Nat) : Nat :=
  if a < 0x300000 then 1 else if a < 0x400000 then 2 else if a < 0x408000 then 3
  else if 0x800000 ≤ a ∧ a < 0x900000 then 4 else 0

/-- A 64-bit word of memory. -/
def State.mem64 (s : State) (w : Nat) : Nat := leNat (s.bytes (8 * w) 8)

/-- The first mapped word at or behind word `w`. -/
def mappedFrom (w : Nat) : Nat := if 0x81000 ≤ w ∧ w < 0x100000 then 0x100000 else w

/-! ### The correction log (R453 to R456) -/

/-- The entry of the log to replace (R454): a free one, else the lowest count among those without PERS, and among equal
counts the one written longest ago. -/
def victim (l : List (Option LogEntry)) : Option Nat :=
  match (List.range 16).find? fun i => (l.getD i none).isNone with
  | some i => some i
  | none =>
    (List.range 16).foldl (fun best i =>
      match l.getD i none with
      | none => best
      | some e =>
        if e.pers then best
        else match best with
          | none => some i
          | some j => match l.getD j none with
            | none => best
            | some f => if e.count < f.count ∨ (e.count = f.count ∧ e.at' < f.at') then some i else best) none

/-- The entry of word `w`. -/
def entryOf (l : List (Option LogEntry)) (w : Nat) : Option (Nat × LogEntry) :=
  (List.range 16).findSome? fun i => match l.getD i none with
    | some e => if e.addr = w then some (i, e) else none
    | none => none

/-- Stores log entry `i`. -/
def State.putLog (s : State) (i : Nat) (e : LogEntry) : State :=
  { s with memi := { s.memi with log := s.memi.log.set i (some { e with at' := s.memi.serial })
                                 serial := s.memi.serial + 1 } }

/-- The log entry of word `w` counts from zero and has REWRITTEN set, the word is as good as written (R455, R456). -/
def State.rewritten (s : State) (w : Nat) : State :=
  { s with memi := { s.memi with log := rewriteLog w s.memi.log, raw := s.memi.raw.put w none none } }

/-- The write-back of word `w` (R455): its own read decides whether the corrected value is written; the entry counts from zero with
REWRITTEN set in every case. -/
def State.writeBack (s : State) (w : Nat) : State :=
  match s.memi.raw.at w none with
  | some (d, c) => if eccClass d c = 1 then s.rewritten w
    else { s with memi := { s.memi with log := rewriteLog w s.memi.log } }
  | none => s.rewritten w

/-- The threshold (R455), where the count of an entry has come to it from `was`: event 0x0C01; with AUTO_WB the word is written
back, in an engine memory through its second port, in the SSM by a request of the scrubber for 2 beats. DESIGN CHOICE: a word of
the GCT, which has no bank arbiter, is written back at once. -/
def State.threshold (s : State) (was : Nat) (e : LogEntry) : State :=
  if e.count = was || e.count != s.rf Reg.MEM_CFG 0 4 then s
  else
    let wb := s.bit Reg.MEM_CFG 4
    let s := (s.wbit Reg.MEM_FLAGS 1 true).raise 0x0c01 0 [8 * e.addr, e.count, wb.toNat]
    if !wb then s
    else if e.addr < 0x80000 then
      arbRequest { r := 9, kind := .writeBack, since := s.fclk true, beats := 2, addr := 8 * e.addr } (e.addr / 0x8000) (s.fclk true) s
    else s.writeBack e.addr

/-- One correction enters the log (R454, R456). -/
def State.logCorrection (s : State) (reader w : Nat) : State :=
  let s := { s with memi := { s.memi with newest := some (s.now, reader, w) } }
  match entryOf s.memi.log w with
  | some (i, e) =>
    let new := e.rewritten && !e.pers
    let was := e.count
    let e := { e with count := min (e.count + 1) 15, src := reader, pers := e.pers || e.rewritten }
    let s := s.putLog i e
    let s := if new then (s.wbit Reg.MEM_FLAGS 2 true).raise 0x0c02 0 [8 * w, reader] else s
    s.threshold was e
  | none =>
    match victim s.memi.log with
    | some i =>
      let e : LogEntry := { addr := w, count := 1, src := reader }
      (s.putLog i e).threshold 0 e
    | none =>
      let s := s.count Reg.MEM_LOGOVF
      if s.bit Reg.MEM_FLAGS 4 then s else (s.wbit Reg.MEM_FLAGS 4 true).raise 0x0c06 0 [s.rn Reg.MEM_LOGOVF]

/-- The update of the log in one FCLK cycle (R454): the oldest correction that waits. -/
def State.logOne (s : State) : State :=
  match s.memi.queue with
  | [] => s
  | x :: l => ({ s with memi := { s.memi with queue := l } } : State).logCorrection x.1 x.2

/-! ### The scrubber (R457 to R459) -/

/-- A scrub runs. -/
def State.scrubbing (s : State) : Bool := s.bit Reg.MEM_STAT 1

/-- A failing word in the summary of the running scrub. -/
def State.scrubFail (s : State) (w : Nat) : State :=
  let none' := s.rn Reg.MEM_SCRUB_CORR + s.rn Reg.MEM_SCRUB_UE == 0
  let s := if none' || decide (8 * w < s.rn Reg.MEM_SCRUB_FIRST) then s.wn Reg.MEM_SCRUB_FIRST (8 * w) else s
  if none' || decide (s.rn Reg.MEM_SCRUB_LAST < 8 * w) then s.wn Reg.MEM_SCRUB_LAST (8 * w) else s

/-- One correcting read (R453, R458): counted; it waits for the log behind at most seven others, and is counted in MEM_LOGOVF where
eight wait. What the scrubber with WB corrects it writes back instead. -/
def State.correction (s : State) (reader w : Nat) : State :=
  let s := (s.count Reg.MEM_CORR_CNT).wbit Reg.MEM_FLAGS 0 true
  let s := if reader = 9 && s.scrubbing then (s.scrubFail w).count Reg.MEM_SCRUB_CORR else s
  if reader = 9 && s.scrubbing && s.bit Reg.MEM_SCRUB_CTL 1 then s.rewritten w
  else if s.memi.queue.length < 8 then { s with memi := { s.memi with queue := s.memi.queue ++ [(reader, w)] } }
  else s.count Reg.MEM_LOGOVF

/-- An uncorrectable error is recorded (R450): MEM_UE_CNT, address and reader, event 0x0C03. -/
def State.recordUe (s : State) (reader w : Nat) : State :=
  let s := ((s.count Reg.MEM_UE_CNT).wn Reg.MEM_UE_ADDR (8 * w)).wn Reg.MEM_UE_INFO reader
  (s.wbit Reg.MEM_FLAGS 3 true).raise 0x0c03 0 [8 * w, reader]

/-- The uncorrectable word a scrub has met (R458). -/
def State.scrubUe (s : State) (w : Nat) : State := ((s.recordUe 9 w).scrubFail w).count Reg.MEM_SCRUB_UE

/-- A reader meets the words from offset `a` on, `n` bytes, that test mode has left with check bits of another word: each in an FCLK
cycle of its own. Answers the first one that the code does not correct. -/
def State.meet (s : State) (reader a n : Nat) : State × Option Nat :=
  (s.memi.raw.filter fun x => decide (a < 8 * x.1 + 8) && decide (8 * x.1 < a + n)).foldl (fun (s, bad) x =>
    match x.2 with
    | none => (s, bad)
    | some (d, c) =>
      if eccClass d c = 2 then (if reader = 9 && s.scrubbing then s.scrubUe x.1 else s.recordUe reader x.1, bad.or (some x.1))
      else ((s.correction reader x.1).logOne, bad)) (s, none)

/-- The scrubber reads `n` words from word `w` on. -/
def State.scrubRead (s : State) (w n : Nat) : State :=
  if n = 0 then s
  else
    let s := (s.meet 9 (8 * w) (8 * n)).1
    { s with memi := { s.memi with scrubNext := mappedFrom (w + n), scrubLast := w + n - 1 } }

/-- The scrubber asks the bank of its next words for up to 8 reads, with a beat more for each word it is to write back; words outside the
SSM need no request (R457). DESIGN CHOICE: those of the GCT, which has no bank arbiter, are read like those of an engine memory. -/
def State.scrubAsk (s : State) : State :=
  let w := s.memi.scrubNext
  let e := s.rn Reg.MEM_SCRUB_END / 8
  if !s.scrubbing || e < w || 0x80000 ≤ w then s
  else
    let n := min 8 (min (e + 1 - w) (0x8000 - w % 0x8000))
    let wb := if s.bit Reg.MEM_SCRUB_CTL 1 then
        (s.memi.raw.filter fun x => decide (w ≤ x.1) && decide (x.1 < w + n) && x.2.any fun y => eccClass y.1 y.2 == 1).length else 0
    arbRequest { r := 9, kind := .scrub n, since := s.fclk true, beats := n + wb, addr := 8 * w } (w / 0x8000) (s.fclk true) s

/-- The scrubber's reads of a tick outside the SSM: one word in each of its two FCLK cycles. -/
def State.scrubTick (s : State) : State :=
  let w := s.memi.scrubNext
  if s.scrubbing && decide (0x80000 ≤ w) then s.scrubRead w (min 2 (s.rn Reg.MEM_SCRUB_END / 8 + 1 - w)) else s

/-- The requests of a scrub that is over leave the banks. -/
def State.scrubDrop (s : State) : State :=
  s.each 16 fun s b =>
    let x := s.arbBank b
    let mine (q : ArbReq) : Bool := match q.kind with | .scrub _ => true | _ => false
    let s := s.setArbBank b { holder := x.holder.filter fun q => !mine q, waiting := x.waiting.filter fun q => !mine q }
    s.grantNext b (s.fclk true)

/-- The end of a scrub (R459). -/
def State.scrubEnd (s : State) (state last : Nat) : State :=
  let s := (s.wbit Reg.MEM_STAT 1 false).wn Reg.MEM_SCRUB_STAT (state + 8 * last)
  ((s.wbit Reg.MEM_FLAGS 5 true).raise 0x0c05 0 [state, s.rn Reg.MEM_SCRUB_CORR, s.rn Reg.MEM_SCRUB_UE]).scrubDrop

/-- A write of MEM_SCRUB_CTL with GO: ignored while a scrub runs, refused with START above END (R457). -/
def scrubGo (wb : Bool) (s : State) : State :=
  if s.scrubbing then s
  else
    let s := s.wbit Reg.MEM_SCRUB_CTL 1 wb
    if s.rn Reg.MEM_SCRUB_END < s.rn Reg.MEM_SCRUB_START then s.wf Reg.MEM_SCRUB_STAT 0 3 4
    else
      let s := ((s.wn Reg.MEM_SCRUB_CORR 0).wn Reg.MEM_SCRUB_UE 0).wn Reg.MEM_SCRUB_FIRST 0
      let s := ((s.wn Reg.MEM_SCRUB_LAST 0).wn Reg.MEM_SCRUB_STAT 1).wbit Reg.MEM_STAT 1 true
      ({ s with memi := { s.memi with scrubNext := mappedFrom (s.rn Reg.MEM_SCRUB_START / 8), scrubLast := 0 } } : State).scrubAsk

/-- A write of MEM_SCRUB_CTL with ABORT (R459); `last` is the word the scrubber had come to, if that is farther than it has read.
DESIGN CHOICE: a scrub that has read nothing shows LAST_ADDR 0. -/
def scrubAbort (last : Nat) (s : State) : State :=
  if !s.scrubbing then s
  else
    let s := s.scrubRead s.memi.scrubNext (last + 1 - s.memi.scrubNext)
    s.scrubEnd 3 s.memi.scrubLast

/-- SCRUB_DONE (R459): what it has not read yet it reads. -/
def scrubDone (s : State) : State :=
  if !s.scrubbing then s
  else
    let s := s.scrubRead s.memi.scrubNext (s.rn Reg.MEM_SCRUB_END / 8 + 1 - s.memi.scrubNext)
    s.scrubEnd 2 (s.rf Reg.MEM_SCRUB_END 3 21)

/-! ### Meanings -/

/-- SCRUB_GO (R457). -/
def execScrubGo (src : Src) (wb : Bool) (s : State) : Host.Outcome State Fault Refusal :=
  State.finish (s.unkeyed src Reg.MEM_SCRUB_CTL (scrubGo wb))

/-- SCRUB_ABORT (R459). -/
def execScrubAbort (src : Src) (last : Fin 2097152) (s : State) : Host.Outcome State Fault Refusal :=
  State.finish (s.unkeyed src Reg.MEM_SCRUB_CTL (scrubAbort last.val))

/-- SCRUB_DONE (R459). -/
def execScrubDone (s : State) : Host.Outcome State Fault Refusal := s.main scrubDone

end Sys2Proof.Machine
end

