-- ==== Sys2Proof/Machine/RingMap.lean ====
section
/-! DEFINITION. What the ring is configured as, and the link map: node count, configuration digest, ring state and the
direction of ring time (chapter 9, R252, R282 to R284; R104). -/

namespace Sys2Proof.Machine

/-! ### The stack as configured -/

/-- The live node count N (R283). -/
def State.nodes (s : State) : Nat := s.rf Reg.RNG_CFG_L 0 7

/-- ROLE strap, as latched: true for B. -/
def State.role (s : State) : Bool := s.bit Reg.GLB_STRAP 6

/-- The CRC-32 over the stack-wide configuration (R282), as little-endian words RNG_CFG, RNG_SCALE, STR_GCFG, STR_GMAP. -/
def State.rcd (s : State) : Word :=
  let ws := [s.rg Reg.RNG_CFG_L, s.rg Reg.RNG_SCALE] ++ (List.range 16).map (fun i => s.rg (Reg.STR_GCFG i)) ++
    (List.range 384).map fun i => s.rg (Reg.STR_GMAP i)
  crc32 (ws.flatMap fun w => leBytes w.toNat 4)

/-- Shows the digest. -/
def State.setRcd (s : State) : State := s.wr Reg.RNG_RCD s.rcd

/-! ### The link map (R252) -/

/-- The east and west lane of a lane pair. -/
def eastLane (p : Nat) : Nat := if p = 0 then 0 else 6
def westLane (p : Nat) : Nat := if p = 0 then 1 else 7

/-- The link from node n east to its neighbour is down: either end reports it. -/
def linkDown (l : List (Nat × Nat)) (p nodes n : Nat) : Bool :=
  l.contains (n, eastLane p) || l.contains ((n + 1) % nodes, westLane p)

/-- Hops that can be made east from node n, at most `fuel`. -/
def reachEast (l : List (Nat × Nat)) (p nodes n : Nat) : Nat → Nat
  | 0 => 0
  | f + 1 => if linkDown l p nodes n then 0 else 1 + reachEast l p nodes ((n + 1) % nodes) f

/-- Hops that can be made west from node n. -/
def reachWest (l : List (Nat × Nat)) (p nodes n : Nat) : Nat → Nat
  | 0 => 0
  | f + 1 =>
    let m := (n + nodes - 1) % nodes
    if linkDown l p nodes m then 0 else 1 + reachWest l p nodes m f

/-- The number of broken links of a lane pair. -/
def breaks (l : List (Nat × Nat)) (p nodes : Nat) : Nat := ((List.range nodes).filter (linkDown l p nodes)).length

/-- RSTATE of a lane pair (R284): 0 none, 1 RING, 2 LINE, 3 SPLIT. -/
def ringStateOf (l : List (Nat × Nat)) (p nodes : Nat) : Nat :=
  if nodes < 2 then 0 else match breaks l p nodes with | 0 => 1 | 1 => 2 | _ => 3

/-- RNG_STAT.RSTATE and P2STATE, once an image is in force. -/
def State.showRing (s : State) : State :=
  if !s.cfg.inForce then s
  else (s.wf Reg.RNG_STAT 0 2 (ringStateOf s.ring.down 0 s.nodes)).wf Reg.RNG_STAT 2 2
    (if s.bit Reg.RNG_CFG_L 7 then ringStateOf s.ring.down 1 s.nodes else 0)

/-- The direction of ring time and its hops from node 0 (R104): fewer hops, and L1 when they are equal. -/
def State.timeDirection (s : State) : Nat × Nat :=
  let n := s.nodes
  let west := reachWest s.ring.down 0 n s.node (n - 1)
  let east := reachEast s.ring.down 0 n s.node (n - 1)
  if s.node ≤ west && (s.node ≤ n - s.node || east < n - s.node) then (1, s.node)
  else if n - s.node ≤ east then (0, n - s.node)
  else (s.tim.follow, s.tim.hops)

/-- Takes that direction; a change behind a break is reported (R104). -/
def State.chooseDirection (s : State) (report : Bool) : State :=
  let (lane, hops) := s.timeDirection
  let changed := lane != s.tim.follow
  let s := { s with tim.follow := lane, tim.hops := hops }
  if changed && report then (s.wbit Reg.TIM_FLAGS 1 true).raise 0x0211 lane [lane, hops] else s

end Sys2Proof.Machine
end

