-- ==== Sys2Proof/Machine/Commit.lean ====
section
/-! DEFINITION. Coherence groups (chapter 2, R54 to R61, R623, R624): their members, their checks, and their commit. -/

namespace Sys2Proof.Machine

/-! ### Groups and members -/

/-- The number of instances of each class (R55). -/
def classSize (c : Nat) : Nat :=
  match c with
  | 1 => 1 | 2 => 1 | 3 => 8 | 4 => 96 | 5 => 1 | 6 => 8 | 7 => 4 | 8 => 1 | 9 => 1 | _ => 0

/-- Every group as class and instance, in ascending order. -/
def allGroups : List (Nat × Nat) := [1, 2, 3, 4, 5, 6, 7, 8, 9].flatMap fun c => (List.range (classSize c)).map fun i => (c, i)

/-- The key of a group in the pending table. -/
def groupKey (c i : Nat) : Nat := 256 * c + i

/-- Trigger `t` is sourced from PWM group `g` (R132). -/
def State.trigOf (s : State) (t g : Nat) : Bool :=
  s.rf (Reg.ADC_TRIG_SRC t) 0 6 == 1 + g || s.rf (Reg.ADC_TRIG_SRC t) 0 6 == 9 + g

/-- Trigger `t` is sourced from some PWM group. -/
def State.trigSourced (s : State) (t : Nat) : Bool := (List.range 8).any fun g => s.trigOf t g

/-- The members of a group as pairs of shadow and live address (R624); the parameter banks have no registers. -/
def State.membersOf (s : State) (c i : Nat) : List (Nat × Nat) :=
  match c with
  | 1 => [(Reg.SLT_PER, Reg.SLT_PER_L), (Reg.SLT_PEPO, Reg.SLT_PEPO_L), (Reg.SLT_PCFG, Reg.SLT_PCFG_L)]
  | 2 => (List.range 64).flatMap fun e => [(Reg.SLT_WIN e, Reg.SLT_WIN_L e), (Reg.SLT_CTL e, Reg.SLT_CTL_L e)]
  | 3 => [(Reg.PWM_GPER i, Reg.PWM_GPER_L i), (Reg.PWM_GEPO i, Reg.PWM_GEPO_L i), (Reg.PWM_GCFG i, Reg.PWM_GCFG_L i)] ++
      (List.range 16).filterMap fun t => if s.trigOf t i then some (Reg.ADC_TRIG_DLY t, Reg.ADC_TRIG_DLY_L t) else none
  | 4 => [(Reg.PWM_DT i, Reg.PWM_DT_L i), (Reg.PWM_DTLIM i, Reg.PWM_DTLIM_L i), (Reg.PWM_MPW i, Reg.PWM_MPW_L i)]
  | 5 => [(Reg.GPR_ESC, Reg.GPR_ESC_L), (Reg.GPR_CLUWIN, Reg.GPR_CLUWIN_L)] ++
      (List.range 192).map fun g => (Reg.GPR_BQ g, Reg.GPR_BQ_L g)
  | 7 => [0, 1, 2].flatMap fun p => [(Reg.MTR_VSC i p, Reg.MTR_VSC_L i p), (Reg.MTR_ISC i p, Reg.MTR_ISC_L i p),
      (Reg.MTR_PSC i p, Reg.MTR_PSC_L i p)]
  | 8 => [(Reg.RNG_CFG, Reg.RNG_CFG_L), (Reg.RNG_FIBMAX, Reg.RNG_FIBMAX_L), (Reg.RNG_BUDGET, Reg.RNG_BUDGET_L)]
  | 9 => [(Reg.TIM_ADDEND_LO, Reg.TIM_ADDEND_LO_L), (Reg.TIM_ADDEND_HI, Reg.TIM_ADDEND_HI_L),
      (Reg.TIM_EPOCH_S_LO, Reg.TIM_EPOCH_S_LO_L), (Reg.TIM_EPOCH_S_HI, Reg.TIM_EPOCH_S_HI_L),
      (Reg.TIM_EPOCH_NS, Reg.TIM_EPOCH_NS_L)]
  | _ => []

/-- The group a shadow register belongs to: class and instance. -/
def State.groupOf (s : State) (a : Nat) : Option (Nat × Nat) :=
  let o := a % 0x10000
  if 0x80410 ≤ a ∧ a ≤ 0x80418 then some (1, 0)
  else if 0x80000 ≤ a ∧ a < 0x80200 then some (2, 0)
  else if 0x90100 ≤ a ∧ a < 0x90180 ∧ o % 16 ≠ 12 then some (3, (o - 0x100) / 16)
  else if 0x50100 ≤ a ∧ a < 0x50180 ∧ o % 8 = 4 then
    ((List.range 8).find? fun g => s.trigOf ((o - 0x100) / 8) g).map fun g => (3, g)
  else if 0x92000 ≤ a ∧ a < 0x92600 ∧ o % 16 ≠ 12 then some (4, (o - 0x2000) / 16)
  else if a = 0xb1008 ∨ a = 0xb100c ∨ (0xb1800 ≤ a ∧ a < 0xb1b00) then some (5, 0)
  else if 0x101010 ≤ a ∧ a < 0x102000 ∧ 0x10 ≤ o % 0x400 ∧ o % 0x400 < 0x40 ∧ o % 16 ≠ 12 then some (7, (o - 0x1000) / 0x400)
  else if 0xc0004 ≤ a ∧ a ≤ 0xc000c then some (8, 0)
  else if 0x20020 ≤ a ∧ a ≤ 0x20030 then some (9, 0)
  else none

/-- The address is a live copy (R12, R624), or a register of the live slot table. -/
def isLiveCopy (a : Nat) : Bool :=
  let o := a % 0x10000
  a % 4 == 0 && ((0x80420 ≤ a && a ≤ 0x80428) || (0x80200 ≤ a && a < 0x80400) || (0x90200 ≤ a && a < 0x90280 && o % 16 != 12) ||
  (0x50500 ≤ a && a < 0x50580 && o % 8 == 4) || (0x93000 ≤ a && a < 0x93600 && o % 16 != 12) || a == 0xb1028 ||
  a == 0xb102c || (0xb1c00 ≤ a && a < 0xb1f00) ||
  (0x101210 ≤ a && a < 0x102000 && 0x210 ≤ o % 0x400 && o % 0x400 < 0x240 && o % 16 != 12) ||
  (0xc0104 ≤ a && a ≤ 0xc010c) || (0x20120 ≤ a && a ≤ 0x20130))

/-- A group is pending (R57). -/
def State.isPending (s : State) (c i : Nat) : Bool := (s.cfg.pend.at (groupKey c i) none).isSome

/-- The shadow of a group differs from its live copy. -/
def State.differs (s : State) (c i : Nat) : Bool :=
  (s.membersOf c i).any (fun p => s.rg p.1 != s.rg p.2) || (c == 6 && (s.cfg.parNext.at i none).isSome)

/-! ### Values under a check -/

/-- A value of a member as a commit of the groups `l` would leave it: the shadow of a committed group, else the live
copy. -/
def State.val (s : State) (l : List (Nat × Nat)) (c i sh lv : Nat) : Nat := if l.contains (c, i) then s.rn sh else s.rn lv

/-- The graph of engine `k`. -/
def State.graph (s : State) (k : Nat) : Graph := s.cfg.graphs.at k {}

/-- Segment `j` of engine `k`. -/
def State.segment (s : State) (k j : Nat) : Option Segment := ((s.graph k).segs.getD j none)

/-- The ring latency sum of R267 in tenths of a nanosecond. -/
def ringSum (n : Nat) (pair2 : Bool) (fib : Nat) : Nat :=
  let h := n / 2
  (if pair2 then (h + 1) / 2 else h) * 1856 + h * (1280 + 10 * fib) + 1500

/-- The ring latency sum holds: T_RING ≤ RNG_BUDGET ≤ L × 3.2 ns − 500 ns. -/
def State.ringFits (s : State) (l : List (Nat × Nat)) : Bool :=
  let cfg := s.val l 8 0 Reg.RNG_CFG Reg.RNG_CFG_L
  let fib := s.val l 8 0 Reg.RNG_FIBMAX Reg.RNG_FIBMAX_L % 65536
  let bud := s.val l 8 0 Reg.RNG_BUDGET Reg.RNG_BUDGET_L % 65536
  let len := s.val l 1 0 Reg.SLT_PER Reg.SLT_PER_L % 262144
  decide (ringSum (cfg % 128) (bitOf cfg 7) fib ≤ 10 * bud) && decide (10 * bud + 5000 ≤ 32 * len)

/-- The first index of a list of tests that fails. -/
def firstFail (n : Nat) (p : Nat → Bool) : Option Nat := (List.range n).find? fun i => !p i

/-- A check with its number: the member index where it fails. -/
def checkThat (num : Nat) (b : Bool) : Option (Nat × Nat) := if b then none else some (num, 0)

/-- A check over members. -/
def checkEach (num n : Nat) (p : Nat → Bool) : Option (Nat × Nat) := (firstFail n p).map fun i => (num, i)

/-- The first failure of several checks. -/
def firstOf (l : List (Option (Nat × Nat))) : Option (Nat × Nat) := l.findSome? id

/-- Check group PERIOD (R55). -/
def State.checkPeriod (s : State) (l : List (Nat × Nat)) : Option (Nat × Nat) :=
  let len := s.val l 1 0 Reg.SLT_PER Reg.SLT_PER_L % 262144
  firstOf [checkThat 1 (decide (3125 ≤ len ∧ len ≤ 156250)), checkThat 2 (s.ringFits l),
    checkEach 3 64 fun e =>
      let c := s.val l 2 0 (Reg.SLT_CTL e) (Reg.SLT_CTL_L e)
      !bitOf c 24 || decide (c % 262144 ≤ len),
    checkThat 4 (decide (s.val l 1 0 Reg.SLT_PEPO Reg.SLT_PEPO_L % 262144 + 1 ≤ len))]

/-- The effective start of a window (R169, R172). -/
def effStart (len start : Nat) (mid : Bool) : Nat := max start (if mid then len / 2 + 64 else 64)

/-- Check group SLOT (R55, R169, R174). -/
def State.checkSlot (s : State) (l : List (Nat × Nat)) : Option (Nat × Nat) :=
  let len := s.val l 1 0 Reg.SLT_PER Reg.SLT_PER_L % 262144
  let win (e : Nat) := s.val l 2 0 (Reg.SLT_WIN e) (Reg.SLT_WIN_L e) % 262144
  let ctl (e : Nat) := s.val l 2 0 (Reg.SLT_CTL e) (Reg.SLT_CTL_L e)
  let fin (e : Nat) := ctl e % 262144
  let eng (e : Nat) := ctl e / 262144 % 8
  let seg (e : Nat) := ctl e / 2097152 % 8
  let on (e : Nat) := bitOf (ctl e) 24
  firstOf [checkEach 1 64 fun e => !on e || decide (win e < fin e ∧ fin e ≤ len),
    checkEach 2 64 fun e => !on e || (List.range e).all fun d =>
      !on d || eng d != eng e || decide (fin d ≤ win e ∨ fin e ≤ win d),
    checkEach 3 64 fun e => !on e ||
      decide (effStart len (win e) (bitOf (ctl e) 25) + (s.rn (Reg.VTX_WCET (eng e) (seg e)) + 3) / 4 ≤ fin e),
    checkEach 4 64 fun e => !on e || (s.segment (eng e) (seg e)).isSome]

/-- Check group PWMGRP g (R55). DESIGN CHOICE: the member index of check 2 is the position among the triggers sourced from
the group. Before the first image no old period runs, so check 5 finds none. -/
def State.checkPwmgrp (s : State) (l : List (Nat × Nat)) (g : Nat) : Option (Nat × Nat) :=
  let p := s.val l 3 g (Reg.PWM_GPER g) (Reg.PWM_GPER_L g)
  let cfg := s.val l 3 g (Reg.PWM_GCFG g) (Reg.PWM_GCFG_L g)
  let trig := (List.range 16).filter fun t => s.trigOf t g
  firstOf [checkThat 1 (decide (16 ≤ p)),
    checkEach 2 trig.length fun i =>
      decide (s.val l 3 g (Reg.ADC_TRIG_DLY (trig.getD i 0)) (Reg.ADC_TRIG_DLY_L (trig.getD i 0)) % 65536 < p),
    checkThat 3 (!bitOf cfg 0 || p % 2 == 0),
    checkThat 4 (!bitOf cfg 1 || p == 2 * (s.val l 1 0 Reg.SLT_PER Reg.SLT_PER_L % 262144)),
    checkThat 5 (!s.cfg.inForce || decide (Nat.lcm p (s.rn (Reg.PWM_GPER_L g)) ≤ 16777216)),
    checkThat 6 (decide (s.val l 3 g (Reg.PWM_GEPO g) (Reg.PWM_GEPO_L g) + 1 ≤ p))]

/-- Check group DEADTIME q (R55), in fine units. -/
def State.checkDeadtime (s : State) (l : List (Nat × Nat)) (q : Nat) : Option (Nat × Nat) :=
  let dt := s.val l 4 q (Reg.PWM_DT q) (Reg.PWM_DT_L q)
  let lim := s.val l 4 q (Reg.PWM_DTLIM q) (Reg.PWM_DTLIM_L q)
  let mpw := s.val l 4 q (Reg.PWM_MPW q) (Reg.PWM_MPW_L q)
  let g := s.rf (Reg.PWM_PCFG q) 0 3
  let p := s.val l 3 g (Reg.PWM_GPER g) (Reg.PWM_GPER_L g)
  let r := dt % 65536
  let f := dt / 65536
  firstOf [checkThat 1 (decide (lim % 65536 ≤ r ∧ r ≤ lim / 65536 ∧ lim % 65536 ≤ f ∧ f ≤ lim / 65536)),
    checkThat 2 (decide (64 * (mpw % 1024) + max r f ≤ 32 * p))]

/-- Check group PROT (R55). -/
def State.checkProt (s : State) (l : List (Nat × Nat)) : Option (Nat × Nat) :=
  let esc := s.val l 5 0 Reg.GPR_ESC Reg.GPR_ESC_L
  let win := s.val l 5 0 Reg.GPR_CLUWIN Reg.GPR_CLUWIN_L % 1048576
  let k := esc / 65536 % 32
  firstOf [checkThat 1 (decide (1 ≤ k ∧ k ≤ 24)), checkThat 2 (decide (esc % 65536 ≤ win))]

/-- The parameter words of engine `k`: those a patch brings, else the copy in data memory. -/
def State.parWords (s : State) (k : Nat) : List Word :=
  match s.cfg.parNext.at k none with
  | some l => l
  | none => (List.range (s.graph k).pars.length).map fun i =>
      s.mem32 (0x810000 + 0x20000 * k + (s.graph k).parBase + 4 * i)

/-- A parameter word within the range declared for it, as its type orders words (R186, R187). -/
def parWithin (d : ParDecl) (w : Word) : Bool :=
  match d.type with
  | .real => fLe d.lo w && fLe w d.hi
  | .unsigned => decide (d.lo.toNat ≤ w.toNat ∧ w.toNat ≤ d.hi.toNat)
  | .signed | .bool => decide (d.lo.toInt ≤ w.toInt ∧ w.toInt ≤ d.hi.toInt)

/-- Check group GRAPHPAR k (R55). DEDUCED: check 1 judges the parameters of type F32, since an integer is no binary32 (R187). -/
def State.checkGraphpar (s : State) (k : Nat) : Option (Nat × Nat) :=
  let w := s.parWords k
  let l := (s.graph k).pars
  firstOf [checkEach 1 l.length fun i => (match l[i]? with | some d => d.type != .real || !rawBad (w.getD i 0) | none => true),
    checkEach 2 l.length fun i => (match l[i]? with | some d => parWithin d (w.getD i 0) | none => true)]

/-- A scale is finite and nonzero. -/
def scaleOk (w : Word) : Bool := fld w 23 8 != 255 && fld w 0 31 != 0

/-- Check group METER k (R55). DESIGN CHOICE: check 1 judges all three pairs of the point, used or not. -/
def State.checkMeter (s : State) (l : List (Nat × Nat)) (k : Nat) : Option (Nat × Nat) :=
  let v (p : Nat) := BitVec.ofNat 32 (s.val l 7 k (Reg.MTR_VSC k p) (Reg.MTR_VSC_L k p))
  let i (p : Nat) := BitVec.ofNat 32 (s.val l 7 k (Reg.MTR_ISC k p) (Reg.MTR_ISC_L k p))
  let w (p : Nat) := BitVec.ofNat 32 (s.val l 7 k (Reg.MTR_PSC k p) (Reg.MTR_PSC_L k p))
  firstOf [checkEach 1 3 fun p => scaleOk (v p) && scaleOk (i p) && scaleOk (w p),
    checkEach 2 3 fun p => w p == fMul (v p) (i p)]

/-- Check group RING (R55). -/
def State.checkRing (s : State) (l : List (Nat × Nat)) : Option (Nat × Nat) :=
  firstOf [checkThat 1 (s.ringFits l), checkThat 2 (decide (s.node < s.val l 8 0 Reg.RNG_CFG Reg.RNG_CFG_L % 128))]

/-- Check group TIME (R55): the addend within ±200 ppm of 3.2 ns. -/
def State.checkTime (s : State) (l : List (Nat × Nat)) : Option (Nat × Nat) :=
  let a : Int := s.val l 9 0 Reg.TIM_ADDEND_LO Reg.TIM_ADDEND_LO_L +
    s.val l 9 0 Reg.TIM_ADDEND_HI Reg.TIM_ADDEND_HI_L % 256 * 4294967296
  checkThat 1 (decide ((10 * a - 137438953472).natAbs * 1000000 ≤ 200 * 137438953472))

/-- The first failing check of a group, as number and member index. -/
def State.checkGroup (s : State) (l : List (Nat × Nat)) (c i : Nat) : Option (Nat × Nat) :=
  match c with
  | 1 => s.checkPeriod l
  | 2 => s.checkSlot l
  | 3 => s.checkPwmgrp l i
  | 4 => s.checkDeadtime l i
  | 5 => s.checkProt l
  | 6 => s.checkGraphpar i
  | 7 => s.checkMeter l i
  | 8 => s.checkRing l
  | 9 => s.checkTime l
  | _ => none

/-! ### Status -/

/-- CFG_PEND, SLT_STAT as they follow from the pending groups and the slot table (R63, R180). -/
def State.showPending (s : State) : State :=
  let m := [1, 2, 3, 4, 5, 6, 7, 8, 9].foldl (fun m c =>
    if (List.range (classSize c)).any fun i => s.isPending c i then m + 2 ^ (c - 1) else m) 0
  let n := ((List.range 64).filter fun e => s.bit (Reg.SLT_CTL_L e) 24).length
  (s.wn Reg.CFG_PEND m).wn Reg.SLT_STAT (n + (s.differs 2 0).toNat * 128 + (s.isPending 2 0).toNat * 256)

/-- CFG_COMMIT_STAT (R65): 1 CHECKING, 2 PENDING, 3 DONE, 4 REFUSED. -/
def State.commitStat (s : State) (st code c i chk : Nat) : State :=
  s.wn Reg.CFG_COMMIT_STAT (code + c % 256 * 256 + i % 256 * 65536 + chk % 16 * 16777216 + st * 268435456)

/-- CFG_COMMIT_AT governs the commit under way: EN is set and no earlier commit has taken it (R65). -/
def State.atFree (s : State) : Bool := s.bit Reg.CFG_COMMIT_AT 0 && s.cfg.atBy.isNone

/-- A refused commit (R59, R65): status, event, and CFG_COMMIT_AT.EN cleared where it governs this commit. -/
def State.commitRefused (s : State) (governed : Bool) (code c i chk mem : Nat) : State :=
  (((s.commitStat 4 code c i chk).doIf governed fun s =>
    { s with cfg.atBy := none }.wbit Reg.CFG_COMMIT_AT 0 false)).raise (0x0300 + code) 0
    (match code with | 0x22 => [c, i, chk, mem] | 0x26 => [] | _ => [c, i])

/-! ### Going live -/

/-- The live scales of point `k`, which a commit is about to replace, are kept for the samples whose instant does not follow it
(R425). -/
def State.keepScales (s : State) (k : Nat) : State :=
  s.setPoint k { s.point k with
    scales := (s.point k).scales ++ [((s.time50 / 4294967296), (s.membersOf 7 k).map fun p => s.rg p.2)] }

/-- Copies every member of a group to its live copy; a parameter bank goes to data memory. -/
def State.copyGroup (s : State) (c i : Nat) : State :=
  let s := if c = 7 then s.keepScales i else s
  let s := (s.membersOf c i).foldl (fun s p => s.wr p.2 (s.rg p.1)) s
  if c = 6 then
    match s.cfg.parNext.at i none with
    | some l =>
      let s := (List.range l.length).foldl (fun s j =>
        s.setMem32 (0x810000 + 0x20000 * i + (s.graph i).parBase + 4 * j) (l.getD j 0)) s
      { s with cfg.parNext := s.cfg.parNext.put i none none }
    | none => s
  else s

/-- Delays of triggers no PWM group sources take their shadow at a commit made while halted (R624). -/
def State.copyUnsourced (s : State) : State :=
  s.each 16 fun s t => if s.trigSourced t then s else s.wr (Reg.ADC_TRIG_DLY_L t) (s.rg (Reg.ADC_TRIG_DLY t))

/-- Adapted dead times start from the live dead times at each commit of a DEADTIME group (R307). -/
def State.seedAdt (s : State) (q : Nat) : State :=
  let d := s.rn (Reg.PWM_DT_L q)
  (s.setPair q { s.pair q with adtR := d % 65536, adtF := d / 65536, cleanR := 0, cleanF := 0 }).wn (Reg.PWM_ADT_STAT q) d

/-- COARSE of every group (R291). -/
def State.showCoarse (s : State) : State :=
  s.each 8 fun s g => s.wbit (Reg.PWM_GSTAT g) 0 (decide (67108863 < s.rn (Reg.PWM_GPER_L g)))

/-- CFG_STAT.STATE (R64): 0 EMPTY, 1 RECEIVING, 2 CHECKING, 3 APPLYING, 4 LOADED: a load under way before a patch that
still applies, before the image in force. -/
def State.showLoad (s : State) : State :=
  s.wf Reg.CFG_STAT 0 3 (match s.cfg.load with
    | some l => if l.checking then 2 else 1
    | none => if !s.cfg.patches.isEmpty then 3 else if s.cfg.inForce then 4 else 0)

/-- A group of patch `n` is still pending. -/
def State.patchPends (s : State) (n : Nat) : Bool :=
  allGroups.any fun g => (s.cfg.pend.at (groupKey g.1 g.2) none).any fun p => p.patch == some n

/-- The last group of patch `n` is live (R52): event 0x0341, and the patch is the image in force (R53, R63, R64). -/
def State.patchDone (s : State) (n : Nat) : State :=
  match s.cfg.patches.find? fun p => p.no == n with
  | none => s
  | some p =>
    let s := { s with cfg.patches := s.cfg.patches.filter fun q => q.no != n }
    let s := (((s.wr Reg.CFG_IMG_ID p.id).wr Reg.CFG_IMG_VER p.ver).wr Reg.CFG_IMG_DIGEST_HI p.hi).wr Reg.CFG_IMG_DIGEST_LO p.lo
    let s := ((s.showLoad.wbit Reg.CFG_STAT 3 false).wbit Reg.CFG_STAT 4 p.signed).wbit Reg.CFG_STAT 5 p.trusted
    ((s.wf Reg.CFG_STAT 8 8 0x41).wf Reg.CFG_STAT 16 16 0).raise 0x0341 0 [p.id.toNat]

/-- CFG_COMMIT_AT.EN is cleared once every group of the commit it governs is live (R65). -/
def State.atDone (s : State) (n : Nat) : State :=
  if s.cfg.atBy == some n && !(allGroups.any fun g => (s.cfg.pend.at (groupKey g.1 g.2) none).any fun p =>
      p.patch.isNone && p.no == n) then
    { s with cfg.atBy := none }.wbit Reg.CFG_COMMIT_AT 0 false
  else s

/-! ### Leg pairs and their group -/

/-- The group of leg pair `q` (R288). -/
def State.groupOfPair (s : State) (q : Nat) : Nat := s.rf (Reg.PWM_PCFG q) 0 3

/-- The live period of group `g` in ticks. -/
def State.groupLen (s : State) (g : Nat) : Nat := s.rn (Reg.PWM_GPER_L g)

/-- Group `g` counts channel values in ticks (R291). -/
def State.coarse (s : State) (g : Nat) : Bool := decide (67108863 < s.groupLen g)

/-- NP of group `g` in units of its channel values (R291). -/
def State.npOf (s : State) (g : Nat) : Nat := if s.coarse g then s.groupLen g else 64 * s.groupLen g

/-- The length of a group period in fine units. -/
def State.fineLen (s : State) (g : Nat) : Nat := 64 * s.groupLen g

/-- M of pair `q` in fine units. -/
def State.minPulse (s : State) (q : Nat) : Nat := 64 * s.rf (Reg.PWM_MPW_L q) 0 10

/-- Adaptive dead time is enabled for pair `q`. -/
def State.adaptive (s : State) (q : Nat) : Bool := s.bit (Reg.PWM_MPW_L q) 13

/-- The bounds of an adapted dead time: DT_MIN, and DT_MAX but never above NP / 2 − M. -/
def State.adtBounds (s : State) (q : Nat) : Nat × Nat :=
  (s.rf (Reg.PWM_DTLIM_L q) 0 16, min (s.rf (Reg.PWM_DTLIM_L q) 16 16) (s.fineLen (s.groupOfPair q) / 2 - s.minPulse q))

/-- Sets one adapted dead time with its clean count; PWM_ADT_STAT follows. -/
def State.setAdt (s : State) (q : Nat) (up : Bool) (dt clean : Nat) : State :=
  let p := s.pair q
  let p := if up then { p with adtR := dt, cleanR := clean } else { p with adtF := dt, cleanF := clean }
  (s.setPair q p).wn (Reg.PWM_ADT_STAT q) (p.adtR + p.adtF * 65536)

/-- Reduces the live values of pair `q` to the live NP (R295). -/
def State.clampLive (s : State) (q np : Nat) : State :=
  let on := s.rn (Reg.PWM_ON_L q)
  let wid := s.rn (Reg.PWM_WID_L q)
  if on < np ∧ wid ≤ np then s
  else ((s.wn (Reg.PWM_ON_L q) (on % max np 1)).wn (Reg.PWM_WID_L q) (min wid np)).wbit Reg.PWM_FLAGS 6 true

/-- An adapted dead time never exceeds NP / 2 − M (R308). DEDUCED: one that a new period reduces raises nothing. -/
def State.limitAdt (s : State) (q : Nat) : State :=
  let hi := (s.adtBounds q).2
  let p := s.pair q
  if !s.adaptive q || decide (p.adtR ≤ hi ∧ p.adtF ≤ hi) then s
  else (s.setAdt q true (min p.adtR hi) p.cleanR).setAdt q false (min p.adtF hi) p.cleanF

/-- Leg pairs whose live values no longer fit the group period that has become live are reduced (R295, R308), but for
values that others replace in the same tick. -/
def State.fitPairs (s : State) (g : Nat) : State :=
  s.each 96 fun s q =>
    if s.groupOfPair q != g then s
    else (if (s.pair q).shut.isSome && !s.halted then s else s.clampLive q (s.npOf g)).limitAdt q

/-! ### Commit points -/


/-- A group becomes live (R57): its members change together, CFG_COMMIT_TS records the tick, and the period numbers
follow a changed grid (R106). A patch is reported once its last group is live (R52). -/
def State.goLive (s : State) (c i : Nat) : State :=
  let p := (s.cfg.pend.at (groupKey c i) none).getD {}
  let s := s.copyGroup c i
  let s := { s with cfg.pend := s.cfg.pend.put (groupKey c i) none none }
  let s := s.wr Reg.CFG_COMMIT_TS s.tim.ts32
  let s := if c = 4 then s.seedAdt i else s
  let s := if c = 1 ∨ c = 3 ∨ c = 9 then s.regrid.showCoarse else s
  let s := if c = 3 then s.fitPairs i else s
  let s := if c = 8 then (s.setRcd.showRing).chooseDirection false else s
  let s := if s.halted then s.copyUnsourced else s
  let s := s.showPending
  match p.patch with
  | some n => if s.patchPends n then s else s.patchDone n
  | none =>
    let s := s.atDone p.no
    if allGroups.any fun g => (s.cfg.pend.at (groupKey g.1 g.2) none).any fun q => q.patch.isNone then s
    else s.commitStat 3 0 c i 0

/-- The earliest instant of a pending group has come (R57): TS32 at or after it. -/
def State.dueNow (s : State) (c i : Nat) : Bool :=
  match s.cfg.pend.at (groupKey c i) none with
  | none => false
  | some p => !p.hold && match p.earliest with
    | none => true
    | some t => decide (0 ≤ (s.tim.ts32 - t).toInt)

/-- A pending group at its commit point. -/
def State.commitPoint (s : State) (c i : Nat) : State := if s.dueNow c i then s.goLive c i else s

/-- A group has an immediate commit point: classes PERIOD, PROT, RING and TIME, and every class while halted (R55, R60).
DEDUCED: while slots run in a dry-run, SLOT still waits for the boundary, since R61 lets nothing change in the running
period. -/
def State.immediate (s : State) (c : Nat) : Bool :=
  (s.halted && !(c == 2 && s.enginesRun)) || c == 1 || c == 5 || c == 8 || c == 9

/-- The pending groups whose commit point is any instant. -/
def State.commitNow (s : State) : State :=
  if s.cfg.pend.isEmpty then s
  else allGroups.foldl (fun s g => if s.immediate g.1 then s.commitPoint g.1 g.2 else s) s

/-- The groups a commit covers: one group, or every group whose shadow differs (R56). -/
def State.covered (s : State) (r : CommitReq) : List (Nat × Nat) :=
  if r.all then allGroups.filter fun g => s.differs g.1 g.2 else [(r.cls, r.inst)]

/-- A write of CFG_COMMIT (R56, R58, R60): refused with 0x26, 0x20 or 0x21, else the checks run. DESIGN CHOICE:
CFG_COMMIT_AT is read here, and governs the first commit written behind its own write; a group whose checks still run is not
pending, so a second commit of it is not refused here but where its checks complete. -/
def startCommit (r : CommitReq) (s : State) : State :=
  let at' := s.atFree
  if !s.cfg.inForce then s.commitRefused at' 0x26 r.cls r.inst 0 0
  else if !r.all && decide (classSize r.cls ≤ r.inst) then s.commitRefused at' 0x20 r.cls r.inst 0 0
  else
    match (s.covered r).find? fun g => s.isPending g.1 g.2 with
    | some g => s.commitRefused at' 0x21 g.1 g.2 0 0
    | none =>
      let n := s.cfg.commitNo
      let r := { r with no := n, earliest := if at' then some (s.rg Reg.CFG_COMMIT_AT &&& 0xfffffffe) else none }
      let s := s.commitStat 1 0 r.cls r.inst 0
      { s with cfg := { s.cfg with checking := s.cfg.checking ++ [r], commitNo := n + 1
                                   atBy := if at' then some n else s.cfg.atBy } }

/-- A group whose checks have passed becomes pending, and live at once where its commit point is immediate. -/
def State.makePending (s : State) (c i : Nat) (p : Pend) : State :=
  { s with cfg.pend := s.cfg.pend.put (groupKey c i) none (some p) }

/-- COMMIT_CHECK_DONE (R56 to R60): the checks of the oldest commit complete. A group that another commit or a patch has made
pending meanwhile refuses it with 0x21 (R58). -/
def commitChecked (s : State) : State :=
  match s.cfg.checking with
  | [] => s
  | r :: rs =>
    let s := { s with cfg.checking := rs }
    let l := s.covered r
    let at' := s.cfg.atBy == some r.no
    match l.find? fun g => s.isPending g.1 g.2 with
    | some g => s.commitRefused at' 0x21 g.1 g.2 0 0
    | none =>
      match l.findSome? fun g => (s.checkGroup l g.1 g.2).map fun f => (g, f) with
      | some (g, f) => s.commitRefused at' 0x22 g.1 g.2 f.1 f.2
      | none =>
        let s := l.foldl (fun s g => s.makePending g.1 g.2 { earliest := r.earliest, no := r.no }) s
        let s := (s.commitStat (if l.isEmpty then 3 else 2) 0 r.cls r.inst 0).showPending
        if l.isEmpty then s.atDone r.no else s.commitNow

/-- The groups of the patches wait no longer; its METER groups become live with the others (R52). -/
def State.releasePatch (s : State) : State :=
  allGroups.foldl (fun s g =>
    match s.cfg.pend.at (groupKey g.1 g.2) none with
    | some p =>
      if !p.hold then s
      else
        let s := s.makePending g.1 g.2 { p with hold := false }
        if g.1 = 7 then s.commitPoint 7 g.2 else s
    | none => s) s

/-- The boundary of a control period as a commit point: SLOT and GRAPHPAR (R55, R61). -/
def State.commitBoundary (s : State) : State :=
  let s := s.releasePatch.commitNow
  let s := s.commitPoint 2 0
  s.each 8 fun s k => s.commitPoint 6 k

/-! ### Meanings -/

/-- COMMIT_GROUP: a write of CFG_COMMIT with ALL clear. -/
def execCommitGroup (src : Src) (cls inst : BitVec 8) (s : State) : Host.Outcome State Fault Refusal :=
  s.access fun s => s.unkeyed src Reg.CFG_COMMIT (startCommit { all := false, cls := cls.toNat, inst := inst.toNat })

/-- COMMIT_ALL: a write of CFG_COMMIT with ALL set; class and instance are ignored. -/
def execCommitAll (src : Src) (s : State) : Host.Outcome State Fault Refusal :=
  s.access fun s => s.unkeyed src Reg.CFG_COMMIT (startCommit { all := true })

/-- COMMIT_CHECK_DONE. -/
def execCommitCheckDone (s : State) : Host.Outcome State Fault Refusal := s.main commitChecked

end Sys2Proof.Machine
end

