-- ==== Sys2Proof/Machine/Pwm.lean ====
section
/-! DEFINITION. The PWM edge generator (chapter 10, R288 to R319): shadow, pending and live values, the command waveform,
bootstrap refresh, the minimum-pulse filter, dead time, placement, calibration, and the release of pairs (R345, R413). -/

namespace Sys2Proof.Machine

/-! ### Groups and values -/

/-- Fine units in one unit of a channel value of group `g`. -/
def State.unitOf (s : State) (g : Nat) : Nat := if s.coarse g then 64 else 1

/-- CP of group `g`: the mid-period event is a commit point too (R293). -/
def State.midCommit (s : State) (g : Nat) : Bool := s.bit (Reg.PWM_GCFG_L g) 0

/-- The position of the mid-period event (R289). -/
def State.midPos (s : State) (g : Nat) : Nat := 64 * (s.groupLen g / 2)

/-- The live ON and WID of pair `q` in fine units. -/
def State.liveSet (s : State) (q : Nat) : Nat × Nat :=
  let k := s.unitOf (s.groupOfPair q)
  (k * s.rn (Reg.PWM_ON_L q), k * s.rn (Reg.PWM_WID_L q))

/-- PWM_STAT.PEND: a group holds pending values. -/
def State.showPend (s : State) : State :=
  s.wf Reg.PWM_STAT 0 8 ((List.range 8).foldl (fun m g =>
    if (List.range 96).any fun q =>
        s.groupOfPair q == g && ((s.pair q).pending.isSome || (s.pair q).shut.isSome) then m + 2 ^ g else m) 0)

/-! ### The command waveform (R297) -/

/-- The distance of position `x` behind the last ON instant. -/
def phase (on np x : Nat) : Nat := (x + np - on % np) % np

/-- f_S at position `x`. -/
def fLevel (set : Nat × Nat) (np x : Nat) : Bool := decide (phase set.1 np x < set.2)

/-- The distance from `x` to the next transition of f_S; none where it has none. -/
def fNext (set : Nat × Nat) (np x : Nat) : Option Nat :=
  if set.2 = 0 ∨ np ≤ set.2 then none
  else if phase set.1 np x < set.2 then some (set.2 - phase set.1 np x) else some (np - phase set.1 np x)

/-- u at position `x`: f_S with the refresh low intervals of the period (R297, R304). -/
def uLevel (set : Nat × Nat) (np : Nat) (cut : List (Nat × Nat)) (x : Nat) : Bool :=
  fLevel set np x && !(cut.any fun c => decide (c.1 ≤ x ∧ x < c.2))

/-- The first position behind `x` at which u changes level, without commits. -/
def uNext (set : Nat × Nat) (np : Nat) (cut : List (Nat × Nat)) (x : Nat) : Option Nat :=
  let c1 := (fNext set np x).map (x + ·)
  let c2 := c1.bind fun y => (fNext set np y).map (y + ·)
  let c3 := c2.bind fun y => (fNext set np y).map (y + ·)
  let l := ([c1, c2, c3].filterMap id ++ cut.flatMap fun c => [c.1, c.2]).filter fun y =>
    decide (x < y) && uLevel set np cut y != uLevel set np cut x
  l.foldl (fun m y => match m with | none => some y | some z => some (min y z)) none

/-- The next commit point of group `g` behind position `x`. -/
def State.nextCommit (s : State) (g x : Nat) : Nat :=
  if s.midCommit g && decide (x < s.midPos g) then s.midPos g else s.fineLen g

/-- The set pending for the next commit point of a pair's group: the closed one, or before the close the one that would
close (R294). -/
def State.nextSet (s : State) (q : Nat) : Option (Nat × Nat) :=
  match (s.pair q).shut with
  | some v => some v
  | none => if s.pwm.closed.at (s.groupOfPair q) false then none else (s.pair q).pending

/-- The end of the interval of u that holds position `x`, by the live set and, across a commit point, by the set pending
at this instant (R303). -/
def State.endOf (s : State) (q x : Nat) : Option Nat :=
  let g := s.groupOfPair q
  let p := s.pair q
  let np := s.fineLen g
  let e := uNext (s.liveSet q) np p.cut x
  let c := s.nextCommit g x
  match s.nextSet q with
  | none => e
  | some (on, wid) =>
    if (match e with | some y => decide (y ≤ c) | none => false) then e
    else
      let k := s.unitOf g
      let set := (k * on, k * wid)
      if uLevel set np p.cut c != uLevel (s.liveSet q) np p.cut x then some c else uNext set np p.cut c

/-! ### Placement (R310) -/

/-- The stack time of a position of group `g`'s present period, in units of 50 ps × 2⁻³². -/
def State.instantOf (s : State) (g : Nat) (pos : Int) : Int :=
  let ofs := s.rn (Reg.PWM_GEPO_L g)
  (s.epoch50 : Int) + (ofs * 64 + pos + s.gridIndex ofs (s.groupLen g) * s.fineLen g) * 4294967296

/-- The newest tick that starts at or before an instant, of ticks listed newest first; the oldest where none does. Answered
are how many ticks ago it began, its start time and its addend. -/
def tickOf (m : Int) : Nat → Nat × Nat → List (Nat × Nat) → Nat × Nat × Nat
  | n, x, [] => (n, x)
  | n, x, y :: l => if (x.1 : Int) ≤ m then (n, x) else tickOf m (n + 1) y l

/-- The tick, counted from the present one, and the fine position of an instant, computed in the tick that holds the instant
102.4 ns before it (R310); a bank whose replica loop is out of range places at the nearest tick (R315). -/
def State.place (s : State) (t : Int) (nearest : Bool) : Nat × Nat :=
  let (n, start, addend) := tickOf (t - 2048 * 4294967296) 0 (s.time50, 20 * s.covers 1) s.tim.past
  let a := max addend 1
  let d := (t - start).toNat
  if nearest then ((2 * d + a) / (2 * a) - n, 0)
  else
    let f := roundEven (d % a * 64) a
    if f = 64 then (d / a + 1 - n, 0) else (d / a - n, f)

/-- The bank of a delay line: 0–7 the gate I/O banks, 8 the TPO lines (R312). -/
def bankOfLine (line : Nat) : Nat := if line < 192 then line / 24 else 8

/-- The tap of a line for a fine position (R313); before it is measured, the position itself. -/
def State.tapOf (s : State) (line f : Nat) : Nat := Tab.get (fun k => k % 64) s.pwm.tap (64 * line + f)

/-- A transition computed for a line aborts a measurement of it (R313) and is driven at its tick and tap. -/
def State.placeEdge (s : State) (line : Nat) (level : Bool) (t : Int) : State :=
  let (i, f) := s.place t (s.pwm.out.at (bankOfLine line) false)
  ({ s with pwm.measuring := s.pwm.measuring.put line none none } : State).emit (.edge line level i f (s.tapOf line f))

/-! ### Dead time (R299, R300) -/

/-- The dead time before a turn-on of the upper (true) or lower switch. -/
def State.deadTime (s : State) (q : Nat) (up : Bool) : Nat :=
  if s.adaptive q then (if up then (s.pair q).adtR else (s.pair q).adtF)
  else s.rf (Reg.PWM_DT_L q) (if up then 0 else 16) 16

/-- The switch of pair `q` turns on at its position. -/
def State.turnOn (s : State) (q : Nat) (up : Bool) (pos : Int) : State :=
  let s := s.placeEdge (2 * q + (if up then 0 else 1)) true (s.instantOf (s.groupOfPair q) pos)
  let p := s.pair q
  (s.setPair q { p with up := up || p.up, low := !up || p.low, pend := none }).settleCell (q / 4)

/-- A transition of u′ to `v` at position `pos`: the other switch turns off, and the dead time of this one starts. -/
def State.actTransition (s : State) (q : Nat) (v : Bool) (pos : Int) : State :=
  let p := s.pair q
  let s := if (if v then p.low else p.up) then
      s.placeEdge (2 * q + (if v then 1 else 0)) false (s.instantOf (s.groupOfPair q) pos) else s
  let dt := s.deadTime q v
  let p := { p with level := v, up := p.up && v, low := p.low && !v, pend := some v, pendAt := pos + dt, dt }
  let s := (s.setPair q p).settleCell (q / 4)
  if dt = 0 then s.turnOn q v pos else s

/-! ### Minimum pulse (R302, R303, R305) -/

/-- STRETCH mode of pair `q`. -/
def State.stretchMode (s : State) (q : Nat) : Bool := s.bit (Reg.PWM_MPW_L q) 12

/-- An interval of level `v` is removed: counted, flagged and reported once per pair. -/
def State.removeInterval (s : State) (q : Nat) (v : Bool) (w : Nat) : State :=
  let s := (s.satAdd (Reg.PWM_MPCNT q) 0 16 1).wbit Reg.PWM_FLAGS 0 true
  let p := s.pair q
  let s := s.setPair q { p with drop := true, carry := 0, toldDrop := true }
  if p.toldDrop then s else s.raise 0x0701 q [q, v.toNat, w]

/-- The trailing transition of the present interval is delayed. -/
def State.stretchInterval (s : State) (q : Nat) (v : Bool) (d : Nat) : State :=
  let s := (s.satAdd (Reg.PWM_MPCNT q) 16 16 1).wbit Reg.PWM_FLAGS 1 true
  let p := s.pair q
  let s := s.setPair q { p with carry := d, toldStretch := true }
  if p.toldStretch then s else s.raise 0x0702 q [q, v.toNat, d]

/-- The low interval of u from `uAt` to `e` is a refresh low interval: it covers a cut of this period (R305). -/
def refreshLow (p : Pair) (v : Bool) (e : Int) : Bool := !v && p.cut.any fun c => decide ((c.1 : Int) < e ∧ p.uAt < c.2)

/-- A high interval of u that ends at `e` is one that refresh shortens (R305). -/
def refreshHigh (p : Pair) (v : Bool) (e : Int) : Bool := v && p.cut.any fun c => decide ((c.1 : Int) = e)

/-- An interval of u of level `v` begins at position `t`, or is joined there behind a stretch that has shortened it, and is
judged to its end `e`. A refresh low interval passes; a high one that refresh shortens is removed in either mode. -/
def State.judge (s : State) (q : Nat) (v : Bool) (t : Int) (e : Option Nat) (short : Bool) : State :=
  let p := { s.pair q with fin := e.map Int.ofNat, short }
  let s := s.setPair q p
  let pass := (s.setPair q { p with ivl := t, drop := false, carry := 0 }).actTransition q v t
  match e with
  | none => pass
  | some e =>
    let lack := (s.minPulse q : Int) - ((e : Int) - t - s.deadTime q v)
    if refreshLow p v e || decide (lack ≤ 0) then pass
    else if !s.stretchMode q || short || refreshHigh p v e then s.removeInterval q v (e - p.uAt).toNat
    else pass.stretchInterval q v lack.toNat

/-- Notes a transition of u for the qualification of the group period (R304). -/
def noteLow (p : Pair) (v : Bool) (x : Nat) (lb : Nat) : Pair :=
  if v then { p with qual := p.qual || decide ((lb : Int) ≤ (x : Int) - max p.lowAt 0) } else { p with lowAt := x }

/-- L_B of pair `q` (R304), with the dead time in force (R299). -/
def State.bootLen (s : State) (q : Nat) : Nat := 64 * s.rf (Reg.PWM_BOOT q) 0 10 + s.deadTime q false

/-- What happens to pair `q` at position `x`: a delayed transition that is due, or a transition of u (R297 to R303). A
transition of u that comes no later than the delayed one before it finds its interval vanished, which is removed. -/
def State.transitionAt (s : State) (q x : Nat) : State :=
  let p := s.pair q
  let v := uLevel (s.liveSet q) (s.fineLen (s.groupOfPair q)) p.cut x
  if !p.started then s
  else if v = p.raw then
    if p.due = some (x : Int) then (s.setPair q { p with due := none }).judge q v x (s.endOf q x) true else s
  else
      let w := ((x : Int) - p.uAt).toNat
      let p := noteLow { p with raw := v, uAt := x } v x (s.bootLen q)
      if p.drop then s.setPair q { p with drop := false }
      else if p.due.isSome then
        let s := (s.setPair q { p with due := none }).removeInterval q (!v) w
        s.setPair q { s.pair q with drop := false }
      else if 0 < p.carry then s.setPair q { p with due := some ((x : Int) + p.carry), carry := 0 }
      else (s.setPair q p).judge q v x (s.endOf q x) false

/-- A commit at position `c` (R303), or a refresh of the period: where it has moved the end of the present
interval, that is judged again while its switch has not turned on; once it has, the end is delayed as far as M needs, in
either mode (DEDUCED: so too where refresh shortens it, since a pulse under way can no longer be removed). -/
def State.rejudge (s : State) (q c : Nat) : State :=
  let p := s.pair q
  if !p.started || p.drop || p.due.isSome then s
  else
    let np := s.fineLen (s.groupOfPair q)
    let u := uLevel (s.liveSet q) np p.cut c
    let e := if u != p.raw then some c else s.endOf q c
    let p' := { p with fin := e.map Int.ofNat }
    let s := s.setPair q p'
    if p'.fin = p.fin then s
    else match e with
    | none => s.setPair q { p' with carry := 0 }
    | some e =>
      let lack := (s.minPulse q : Int) - ((e : Int) - p.ivl - p.dt)
      if refreshLow p p.raw e || decide (lack ≤ 0) then s.setPair q { p' with carry := 0 }
      else if (if p.raw then p.up else p.low) || (s.stretchMode q && !p.short && !refreshHigh p p.raw e) then
        if p.carry = lack.toNat then s else s.stretchInterval q p.raw lack.toNat
      else (s.removeInterval q p.raw (e - p.uAt).toNat).actTransition q (!p.raw) c

/-! ### Bootstrap refresh (R304) -/

/-- A period of the live set qualifies by itself. -/
def qualifies (set : Nat × Nat) (np lb : Nat) : Bool :=
  let z := (set.1 + set.2) % max np 1
  if set.2 = 0 then decide (lb ≤ np)
  else if np ≤ set.2 then false
  else if z + (np - set.2) ≤ np then decide (lb ≤ np - set.2)
  else decide (lb ≤ np - z) || decide (lb ≤ z - set.2)

/-- The refresh low interval of a period that must qualify, of length L_B: it begins where the last high interval of u that
ends in the period is cut. DESIGN CHOICE: one that would have to begin before the period begins with it, at full length. -/
def refreshCut (set : Nat × Nat) (np lb : Nat) : Nat × Nat :=
  let z := (set.1 + set.2) % max np 1
  let e := if np ≤ set.2 then (if set.1 % max np 1 = 0 then np else set.1 % max np 1) else if z = 0 then np else z
  let a := e - (lb - (np - set.2))
  (a, a + lb)

/-- A period qualifies by the low intervals that the set leaves from position `c` on; the one that stands at `c` began at `st`. -/
def qualifiesFrom (set : Nat × Nat) (np lb st c : Nat) : Bool :=
  let next (x : Nat) : Nat := match fNext set np x with | some d => min np (x + d) | none => np
  let low (from' x : Nat) : Bool := !fLevel set np x && decide (x < np ∧ lb ≤ next x - from')
  let x1 := next c
  let x2 := next x1
  low st c || low x1 x1 || low x2 x2

/-- What a refresh low interval has left behind the boundary at which a period of `np` ends; one that has begun lasts to its
end. -/
def carryCut (np : Nat) (l : List (Nat × Nat)) : List (Nat × Nat) :=
  (l.filter fun c => decide (np < c.2)).map fun c => (c.1 - np, c.2 - np)

/-- A refresh low interval enters the period of pair `q`: event 0x0703 once (R304). -/
def State.insertCut (s : State) (q g : Nat) (c : Nat × Nat) : State :=
  let told := s.bit Reg.PWM_FLAGS 2
  let s := (s.setPair q { s.pair q with cut := (s.pair q).cut ++ [c], qual := true }).wbit Reg.PWM_FLAGS 2 true
  if told then s else s.raise 0x0703 q [q, s.rf (Reg.PWM_GSTAT g) 8 24]

/-- The boundary of a group period for the refresh of pair `q`; its positions already count from this boundary. -/
def State.refresh (s : State) (q g : Nat) : State :=
  let p := s.pair q
  let lb := s.bootLen q
  let np := s.fineLen g
  let qual := p.qual || (!p.raw && decide ((lb : Int) ≤ -p.lowAt))
  let cnt := if qual then 0 else p.bootCnt + 1
  let p := { p with bootCnt := cnt, qual := false, lowAt := 0, must := false }
  if !s.bit (Reg.PWM_BOOT q) 31 || !p.started then s.setPair q { p with bootCnt := 0 }
  else
    let must := decide (s.rf (Reg.PWM_BOOT q) 16 8 ≤ cnt + 1)
    let s := s.setPair q { p with must }
    if must && !qualifies (s.liveSet q) np lb then s.insertCut q g (refreshCut (s.liveSet q) np lb) else s

/-- A commit in the middle of a period that must qualify and that its new set would leave without a qualifying low interval
(R304). DESIGN CHOICE: the refresh goes to the last high interval of the new set, from the commit on at the earliest. -/
def State.refreshMid (s : State) (q g c : Nat) : State :=
  let p := s.pair q
  let lb := s.bootLen q
  let np := s.fineLen g
  let st := if p.raw then c else (max p.lowAt 0).toNat
  if !p.must || p.qual || !p.started || qualifiesFrom (s.liveSet q) np lb st c then s
  else
    let a := max c (refreshCut (s.liveSet q) np lb).1
    s.insertCut q g (a, a + lb)

/-! ### Loading and committing (R292 to R296) -/

/-- A write of PWM_ON or PWM_WID (R292). -/
def shadowWrite (q : Nat) (wid : Bool) (v : Word) (s : State) : State :=
  (s.wr (if wid then Reg.PWM_WID q else Reg.PWM_ON q) v).setPair q { s.pair q with dirty := true }

/-- LOAD_ALL of one group: dirty shadows become pending; nothing while no image is loaded (R292). -/
def State.loadAll (s : State) (g : Nat) : State :=
  if !s.cfg.inForce then s
  else (s.each 96 fun s q =>
    if s.groupOfPair q == g && (s.pair q).dirty then
      s.setPair q { s.pair q with
        pending := some (s.rn (Reg.PWM_ON q), s.rn (Reg.PWM_WID q)), dirty := false
        fresh := (s.pair q).wait && s.pairState == 3 && s.par.warm != some s.tim.period }
    else s).showPend

/-- PWM_LOAD. -/
def pwmLoad (v : Word) (s : State) : State := s.each 8 fun s g => if bitOf v.toNat g then s.loadAll g else s

/-- PENDING_SET_CLOSE (R294): the pending values of a group close for its next commit point. -/
def closeSet (g : Nat) (s : State) : State :=
  ({ s with pwm.closed := s.pwm.closed.put g false true } : State).each 96 fun s q =>
    match (s.pair q).pending with
    | some v => if s.groupOfPair q == g then s.setPair q { s.pair q with shut := some v, pending := none } else s
    | none => s

/-- The commit of pair `q`'s values: closed pending values become live (R293), in range of the live NP (R295). -/
def State.commitPair (s : State) (q np : Nat) : State :=
  match (s.pair q).shut with
  | none => s.clampLive q np
  | some (on, wid) =>
    let s := (s.wn (Reg.PWM_ON_L q) on).wn (Reg.PWM_WID_L q) wid
    (s.setPair q { s.pair q with shut := none }).clampLive q np

/-! ### Start and release (R289, R301, R345, R413) -/

/-- The first release behind a takeover (R412, R414, R417): event 0x0A02, the takeover counted, and the blocked time since
heartbeat loss, or since B_s, in 0.1 µs. -/
def State.takeoverDone (s : State) : State :=
  if !s.par.announce then s
  else
    let blocked := (s.now - s.par.blockAt) * 4 / 125 + s.par.blockAdd
    let s := { s with par.announce := false }
    let s := ((s.wf Reg.PAR_TO_BLK 0 16 (min blocked 65535)).count Reg.PAR_TO_CNT).wbit Reg.PAR_FLAGS 1 true
    s.raise 0x0a02 0 [blocked, (s.par.resumed.map fun c => c.seq.toNat).getD 0, s.par.planned.toNat]

/-- What a high interval of u that stands at a release lacks of M: u′ counts as low before it, so the filter judges it
from there (R301, R302). -/
def State.releaseLack (s : State) (q pos : Nat) (u : Bool) : Int :=
  if !u then 0 else match s.endOf q pos with
    | none => 0
    | some e => (s.minPulse q : Int) - ((e : Int) - pos - s.deadTime q true)

/-- Pair `q` leaves its halted or fail-safe command at position `pos`: a switch off under u′ turns off, one on under u′
turns on after its dead time unless it is on already. -/
def State.releasePair (s : State) (q : Nat) (pos : Nat) : State :=
  let g := s.groupOfPair q
  let u := uLevel (s.liveSet q) (s.fineLen g) [] pos
  let gu := s.gate (2 * q)
  let gl := s.gate (2 * q + 1)
  let s := s.setPair q { s.pair q with
    started := true, hold := false, freed := none, wait := false, fresh := false, raw := u, pend := none, ivl := pos, uAt := pos,
    drop := false, carry := 0, due := none, lowAt := pos, qual := false, cut := [], must := false, fin := none
    short := false }
  let lack := s.releaseLack q pos u
  let s := if lack ≤ 0 then s else if s.stretchMode q then s.stretchInterval q true lack.toNat
    else s.removeInterval q true (((s.endOf q pos).getD pos) - pos)
  let v := u && !(s.pair q).drop
  let p := { s.pair q with level := v, up := gu && v, low := gl && !v, fin := (s.endOf q pos).map Int.ofNat, dt := s.deadTime q v }
  let on := if v then p.up else p.low
  let p := if on then p else { p with pend := some v, pendAt := (pos : Int) + s.deadTime q v }
  let s := if (if v then gl else gu) then s.placeEdge (2 * q + v.toNat) false (s.instantOf g pos) else s
  let s := (s.setPair q p).settleCell (q / 4)
  let s := if !on && s.deadTime q v = 0 then s.turnOn q v pos else s
  s.takeoverDone

/-- The event that the pair of the group waits for: the boundary behind the ARM or a clear; after a takeover a commit point at
which it holds values loaded after B_{r+1} (R413), 8 µs behind its first heartbeat edge (R27). -/
def State.mayBegin (s : State) (q : Nat) (mid loaded : Bool) : Bool :=
  s.outEn && s.pairEnabled q &&
    (if (s.pair q).wait then loaded && decide (s.par.hbAt + 2500 ≤ s.now) else !mid && decide (s.pwm.armedAt < s.now))

/-- A pair of the group may leave its command at this event; a HELD bypass must have opened (R345). -/
def State.mayRelease (s : State) (q : Nat) (mid loaded : Bool) : Bool :=
  let p := s.pair q
  s.mayBegin q mid loaded && (!p.started || p.hold) && !s.cellFs (q / 4) && !bitOf s.prot.waitOpen (q / 4) && !s.clusterPattern

/-- Pair `q` leaves its command, or where BYP_O falls with the release of a cell whose HELD bypass is closed, goes on
holding it until the boundary behind the accepted opening (R341, R345, R413). -/
def State.leaveHold (s : State) (q pos : Nat) : State :=
  let c := q / 4
  if (s.pair q).hold && (s.pair q).freed.isNone && s.heldType c && s.bypClosed c && bitOf s.prot.byp c then
    ((s.setPair q { s.pair q with freed := some false, wait := false, fresh := false }).awaitOpening c).settleCell c
  else s.releasePair q pos

/-! ### Group boundary (R289) -/

/-- Moves the positions of pair `q` to the origin of the next group period. -/
def rebase (np : Nat) (p : Pair) : Pair :=
  { p with pendAt := p.pendAt - np, ivl := p.ivl - np, uAt := p.uAt - np, cut := carryCut np p.cut
           fin := p.fin.map (· - np), due := p.due.map (· - np), lowAt := p.lowAt - np }

/-- The present boundary lies on the grids of the old and the new period (R55). -/
def State.commonGrid (s : State) (g : Nat) : Bool :=
  let n := s.gridIndex (s.rn (Reg.PWM_GEPO_L g)) (s.groupLen g)
  decide (n * s.groupLen g % (max (s.rn (Reg.PWM_GPER g)) 1 : Nat) = 0)

/-- The commit point of group `g` at position `pos`: DEADTIME groups and channel values go live in the same tick (R293,
R296), then each pair is released, judged again and moved as its new u demands. -/
def State.pwmCommit (s : State) (g pos : Nat) (mid : Bool) : State :=
  (({ s with pwm.closed := s.pwm.closed.put g false false } : State).each 96 fun s q =>
    if s.groupOfPair q != g then s
    else
      let loaded := (s.pair q).fresh && ((s.pair q).shut.isSome || (s.pair q).pending.isNone)
      let s := (s.commitPoint 4 q).commitPair q (s.npOf g)
      let s := if mid then s.refreshMid q g pos else s.refresh q g
      let s := s.rejudge q pos
      let s := if s.mayBegin q mid loaded then s.setPair q { s.pair q with begun := true } else s
      if s.mayRelease q mid loaded then s.leaveHold q pos else s.transitionAt q pos).showPend

/-- PWM_GROUP_BOUNDARY (R289 to R304): the group's boundary or mid-period event. It is an ADC source, whose trigger delays
change with the group period (R133); a boundary counts the period, may take a new period, and starts pairs. -/
def groupBoundary (g : Nat) (mid : Bool) (s : State) : State :=
  if !s.cfg.inForce then s
  else if mid then
    let s := s.adcSource (9 + g)
    if s.midCommit g then s.pwmCommit g (s.midPos g) true else s
  else
    let np := s.fineLen g
    let s := s.each 96 fun s q => if s.groupOfPair q == g then s.setPair q (rebase np (s.pair q)) else s
    let s := s.wf (Reg.PWM_GSTAT g) 8 24 (s.rf (Reg.PWM_GSTAT g) 8 24 + 1)
    let s := if s.commonGrid g then s.commitPoint 3 g else s
    (s.adcSource (1 + g)).pwmCommit g 0 false

/-! ### Timed edges -/

/-- COMMAND_TRANSITION (R299): u or a delayed u′ of pair `q` changes level at a position of the group period. -/
def commandTransition (q pos : Nat) (s : State) : State :=
  if s.outEn && s.pairEnabled q then s.transitionAt q pos else s

/-- DEAD_TIME_EXPIRY (R299): the switch whose dead time has run turns on. -/
def deadTimeExpiry (q : Nat) (s : State) : State :=
  match (s.pair q).pend with
  | some up => s.turnOn q up (s.pair q).pendAt
  | none => s

/-! ### Adaptive dead time (R307, R308) -/

/-- ADT_SAMPLE (R307, R308): the DSAT_I level SPT ticks behind a turn-on of switch `g`; it counts only while the
generator's command alone holds the switch on. -/
def adtSample (g : Nat) (level : Bool) (s : State) : State :=
  let q := g / 2
  let up := g % 2 == 0
  let p := s.pair q
  let s := s.setDsat g level
  if !s.adaptive q || s.padCmd g != .gen true then s
  else
    let step := s.rf (Reg.PWM_ADT q) 16 8
    let old := if up then p.adtR else p.adtF
    let (lo, hi) := s.adtBounds q
    if level then
      let dt := min (old + step) hi
      let s := (s.setAdt q up dt 0).satAdd (Reg.PWM_ADT_CNT q) 0 16 (decide (old < dt)).toNat
      if dt = hi then
        let k := 2 * q + (if up then 0 else 1)
        let told := s.pwm.toldAdt.at k false
        let s := { s with pwm.toldAdt := s.pwm.toldAdt.put k false true }
        let s := s.wbit Reg.PWM_FLAGS 3 true
        if told then s else s.raise 0x0704 q [q, (!up).toNat, dt]
      else s
    else
      let clean := (if up then p.cleanR else p.cleanF) + 1
      if s.rf (Reg.PWM_ADT q) 24 8 ≤ clean then
        let dt := max (old - step) lo
        (s.setAdt q up dt 0).satAdd (Reg.PWM_ADT_CNT q) 16 16 (decide (dt < old)).toNat
      else s.setAdt q up old clean

/-- An adapted dead time whose event stands told is still at its upper bound: PWM_FLAGS.ADTMAX stands. -/
def State.adtMaxed (s : State) : Bool := (List.range 192).any fun k =>
  s.pwm.toldAdt.at k false && s.adaptive (k / 2) &&
    decide ((s.adtBounds (k / 2)).2 ≤ if k % 2 = 0 then (s.pair (k / 2)).adtR else (s.pair (k / 2)).adtF)

/-! ### Delay lines (R312 to R315) -/

/-- REPLICA_BIAS_UPDATE (R312, R315): the bias code of a loop, and whether it stands at an end of its range. Leaving the
range raises 0x0706 and asks for a planned handover (R357). -/
def biasUpdate (loop code : Nat) (atEnd : Bool) (s : State) : State :=
  let was := s.pwm.out.at loop false
  let s := { s with pwm.bias := s.pwm.bias.put loop 0 code, pwm.out := s.pwm.out.put loop false atEnd }
  let s := s.wbit Reg.PWM_CALSTAT loop (!atEnd)
  if atEnd && !was then ((s.wbit Reg.PWM_FLAGS 5 true).raise 0x0706 loop [loop, code]).faultHandover 0x0706 true else s

/-- LINE_MEASUREMENT_START (R313): the measurement of one fine position of an idle line starts. -/
def measureStart (line fine : Nat) (s : State) : State :=
  { s with pwm.measuring := s.pwm.measuring.put line none (some fine) }

/-- CAL_MEASUREMENT_DONE (R313): a measurement that no transition has aborted rewrites its tap map entry. -/
def measureDone (line tap : Nat) (s : State) : State :=
  match s.pwm.measuring.at line none with
  | none => s
  | some f =>
    let k := 64 * line + f
    { s with pwm.measuring := s.pwm.measuring.put line none none, pwm.tap := Tab.set (fun k => k % 64) s.pwm.tap k tap
             pwm.tapAt := s.pwm.tapAt.put k 0 s.now }

/-- The age of a line in ticks (R314): of the oldest entry of its tap map. -/
def State.lineTicks (s : State) (line : Nat) : Nat :=
  s.now - (List.range 64).foldl (fun m f => min m (max s.pwm.since (s.pwm.tapAt.at (64 * line + f) 0))) s.now

/-- The age of a line as PWM_CALAGE shows it, in ms. -/
def State.lineAge (s : State) (line : Nat) : Nat := min (s.lineTicks line / 312500) 65535

/-- A line is older than AGE_MAX. -/
def State.lineStale (s : State) (line : Nat) : Bool := decide (312500 * s.rf Reg.PWM_CALCFG 0 16 < s.lineTicks line)

/-- Some line is older than AGE_MAX: PWM_FLAGS.STALE stands. -/
def State.linesStale (s : State) : Bool := (List.range 200).any s.lineStale

/-- LINE_AGE_EXCEEDED (R314): a line older than AGE_MAX raises 0x0705 once until PWM_FLAGS.STALE is cleared. -/
def lineAged (line : Nat) (s : State) : State :=
  if !s.lineStale line then s
  else
    let told := s.pwm.toldStale.at line false
    let s := { s with pwm.toldStale := s.pwm.toldStale.put line false true }.wbit Reg.PWM_FLAGS 4 true
    if told then s else s.raise 0x0705 line [line, s.lineTicks line / 312500]

/-! ### Meanings -/

/-- PWM_LOAD: a write of PWM_LOAD. -/
def execPwmLoad (src : Src) (v : Word) (s : State) : Host.Outcome State Fault Refusal :=
  s.access fun s => s.unkeyed src Reg.PWM_LOAD (pwmLoad v)

/-- PWM_SHADOW_WRITE. -/
def execPwmShadowWrite (src : Src) (q : LegPair) (wid : Bool) (v : Word) (s : State) :
    Host.Outcome State Fault Refusal :=
  s.access fun s => s.unkeyed src (if wid then Reg.PWM_WID q.val else Reg.PWM_ON q.val) (shadowWrite q.val wid v)

/-- PENDING_SET_CLOSE. -/
def execPendingSetClose (g : Group) (s : State) : Host.Outcome State Fault Refusal := s.main (closeSet g.val)

/-- PWM_GROUP_BOUNDARY. -/
def execPwmGroupBoundary (g : Group) (mid : Bool) (s : State) : Host.Outcome State Fault Refusal :=
  s.main (groupBoundary g.val mid)

/-- COMMAND_TRANSITION. -/
def execCommandTransition (q : LegPair) (pos : Nat) (s : State) : Host.Outcome State Fault Refusal :=
  s.main (commandTransition q.val pos)

/-- DEAD_TIME_EXPIRY. -/
def execDeadTimeExpiry (q : LegPair) (s : State) : Host.Outcome State Fault Refusal := s.main (deadTimeExpiry q.val)

/-- ADT_SAMPLE. -/
def execAdtSample (g : Gate) (level : Bool) (s : State) : Host.Outcome State Fault Refusal :=
  s.main (adtSample g.val level)

/-- REPLICA_BIAS_UPDATE. -/
def execReplicaBiasUpdate (loop : Fin 9) (code : Nat) (atEnd : Bool) (s : State) : Host.Outcome State Fault Refusal :=
  s.main (biasUpdate loop.val code atEnd)

/-- LINE_MEASUREMENT_START. -/
def execLineMeasurementStart (line : Fin 200) (fine : Fin 64) (s : State) : Host.Outcome State Fault Refusal :=
  s.main (measureStart line.val fine.val)

/-- CAL_MEASUREMENT_DONE. -/
def execCalMeasurementDone (line : Fin 200) (tap : Fin 80) (s : State) : Host.Outcome State Fault Refusal :=
  s.main (measureDone line.val tap.val)

/-- LINE_AGE_EXCEEDED. -/
def execLineAgeExceeded (line : Fin 200) (s : State) : Host.Outcome State Fault Refusal := s.main (lineAged line.val)

end Sys2Proof.Machine
end

