-- ==== Sys2Proof/Machine/Timed.lean ====
section
/-! DEFINITION. Timed pulse outputs, capture inputs and PPS (chapter 4, R108 to R114). -/

namespace Sys2Proof.Machine

/-! ### Timed pulse outputs -/

/-- The settings of output `n` as TIM_TPO_CFG = `v` would take them (R108); start in 50 ps units. -/
def State.tpoSettings (s : State) (n : Nat) (v : Word) : Tpo :=
  let first := (s.rn (Reg.TIM_TPO_START_S n) * 1000000000 + s.rf (Reg.TIM_TPO_START_NS n) 0 30) * 20 + fld v 8 5
  { first, start := first, per := s.rn (Reg.TIM_TPO_PER n), wid := s.rn (Reg.TIM_TPO_WID n)
    periodic := fld v 1 1 == 1, activeLow := fld v 2 1 == 1 }

/-- The checks of R108. -/
def tpoOk (t : Tpo) : Bool := decide (7 ≤ t.wid) && (!t.periodic || (decide (20 ≤ t.per) && decide (t.wid + 7 ≤ t.per)))

/-- TIM_TPO_STAT[n]: active, ERR, LATE. -/
def State.tpoStat (s : State) (n : Nat) (active err late : Bool) : State :=
  s.wn (Reg.TIM_TPO_STAT n) (active.toNat + err.toNat * 2 + late.toNat * 4)

/-- The output goes to the inactive level of its configuration (R588). -/
def State.tpoRest (s : State) (n : Nat) (activeLow : Bool) : State :=
  if s.tim.tpoIdle.at n false = activeLow then s
  else ({ s with tim.tpoIdle := s.tim.tpoIdle.put n false activeLow } : State).emit (.pin (.tpo n) activeLow)

/-- The setting of the output: one that starts takes its inactive level, one that stops keeps the level (R110). -/
def State.tpoSet (s : State) (n : Nat) (t : Option Tpo) : State :=
  let s := { s with tim.tpo := s.tim.tpo.put n none t }
  match t with
  | some t => s.tpoRest n t.activeLow
  | none => s

/-- The output takes a new setting, or stops: at once, or behind the present high interval (R110). -/
def State.tpoTake (s : State) (n : Nat) (t : Option Tpo) : State :=
  if s.tim.tpoHigh.at n false then { s with tim.tpoNext := s.tim.tpoNext.put n none (some t) } else s.tpoSet n t

/-- TPO_ARM (R108 to R110): a write of TIM_TPO_CFG[n], refused with START_F outside 0 to 19 (R54, R116). A start less than
64 ticks (204.8 ns) ahead is late. -/
def tpoArm (n : Nat) (v : Word) (s : State) : State :=
  if 19 < fld v 8 5 then s.refuse (Reg.TIM_TPO_CFG n) 0x25
  else
  let s := s.wr (Reg.TIM_TPO_CFG n) (v &&& 0x00001f07)
  if fld v 0 1 = 0 then (s.tpoTake n none).tpoStat n (s.tim.tpoHigh.at n false) false false
  else
    let t := s.tpoSettings n v
    if !tpoOk t then (s.tpoTake n none).tpoStat n (s.tim.tpoHigh.at n false) true false
    else
      let soonest := s.startClock + 4096
      match tpoStart t soonest with
      | some x => (s.tpoTake n (some { t with start := x })).tpoStat n true false false
      | none => ((s.tpoTake n none).tpoStat n (s.tim.tpoHigh.at n false) false true).raise 0x0222 n [n]

/-- Drives output `n` active or inactive. -/
def State.tpoDrive (s : State) (n : Nat) (t : Tpo) (on : Bool) (at50 : Nat) : State :=
  let whole := s.tim.s / 4294967296 * 4294967296 * 20000000000
  ({ s with tim.tpoHigh := s.tim.tpoHigh.put n false on } : State).placeEdge (192 + n) (on != t.activeLow)
    ((whole + at50 : Nat) * 4294967296)

/-- The setting that waited takes effect (R110). DESIGN CHOICE: a start that the high interval has passed gives no pulse: a
periodic output begins at its next grid instant, a one-shot one is late (R109). -/
def State.tpoWaited (s : State) (n : Nat) (u : Option Tpo) (at50 : Nat) : State :=
  let v := laterStart at50 u
  let s := ({ s with tim.tpoNext := s.tim.tpoNext.put n none none }.tpoSet n v).wbit (Reg.TIM_TPO_STAT n) 0 v.isSome
  if u.isSome && v.isNone then (s.wbit (Reg.TIM_TPO_STAT n) 2 true).raise 0x0222 n [n] else s

/-- TPO_PULSE_EDGE (R109, R110): the leading edge is an ADC source; behind the trailing edge a waiting setting is taken,
a one-shot output ends and a periodic one goes on. -/
def tpoEdge (n : Nat) (leading : Bool) (s : State) : State :=
  match s.tim.tpo.at n none with
  | none => s
  | some t =>
    let high := s.tim.tpoHigh.at n false
    if leading then (if high then s else (s.tpoDrive n t true t.start).adcSource (0x13 + n))
    else if !high then s
    else
      let s := s.tpoDrive n t false (t.start + t.wid * 20)
      match s.tim.tpoNext.at n none with
      | some u => s.tpoWaited n u (max s.startClock (t.start + t.wid * 20))
      | none =>
        if t.periodic then
          { s with tim.tpo := s.tim.tpo.put n none (some { t with start := (tpoStart t (max s.startClock (t.start + 1))).getD 0 }) }
        else ({ s with tim.tpo := s.tim.tpo.put n none none }).wbit (Reg.TIM_TPO_STAT n) 0 false

/-! ### Capture inputs -/

/-- The stamp of an edge at a fine position of the present tick, in 50 ps units. -/
def State.edgeStamp (s : State) (fine : Nat) : Nat := (s.time50 + fine * (s.covers 1 * 20) / 64) / 4294967296

/-- A stamp as seconds, ns and 50 ps units. -/
def stampParts (t : Nat) : Nat × Nat × Nat := (t / 20000000000 % 4294967296, t / 20 % 1000000000, t % 20)

/-- The level of FIFO `n` as TIM_TCAP_F shows it. -/
def State.showLevel (s : State) (n : Nat) : State := s.wf (Reg.TIM_TCAP_F n) 8 5 (s.tim.fifo.at n []).length

/-- A stamp enters FIFO `n`, or is lost when 16 entries wait (R111, R112). -/
def State.capture (s : State) (n stamp : Nat) : State :=
  let l := s.tim.fifo.at n []
  if 16 ≤ l.length then
    let told := s.tim.capTold.at n false
    let s := ({ s with tim.capTold := s.tim.capTold.put n false true } : State).count (Reg.TIM_TCAP_LOST n)
    if told then s else s.raise 0x0221 n [n]
  else
    let (a, b, c) := stampParts stamp
    let s := ({ s with tim.fifo := s.tim.fifo.put n [] (l ++ [(a, b, c)]) } : State).showLevel n
    let s := if n < 4 then s.adcSource (0x1b + n) else s
    if s.bit (Reg.TIM_TCAP_CFG n) 3 then
      s.raise 0x0220 n [n, stamp / 20000000000 % 4294967296, stamp / 20000000000 / 4294967296, b, c]
    else s

/-- The distance of a stamp from the nearest stack second, in 50 ps units (R114). -/
def phaseOf (t : Nat) : Int :=
  let p := t % 20000000000
  if p < 10000000000 then p else (p : Int) - 20000000000

/-- TIM_TCAP_CFG[n] selects the edge (R111). -/
def State.edgeSelected (s : State) (n : Nat) (rising : Bool) : Bool :=
  s.bit (Reg.TIM_TCAP_CFG n) 0 && let e := s.rf (Reg.TIM_TCAP_CFG n) 1 2
    if rising then e == 0 || e == 2 else e == 1 || e == 2

/-- The time at which an edge is stamped, in 64ths of a tick since the start of the run, plus one. -/
def State.edgeTime (s : State) (fine : Nat) : Nat := 64 * s.now + fine + 1

/-- TCAP_EDGE (R111, R112, R114): edges less than 8 ticks behind the last one stamped are part of it. Under SRC 0b01 a rising
edge of PPS_IN sets the phase of a device whose seconds IEEE 1588 has supplied; an edge of PPS_IN more than 100 µs from a
stack second is discarded. -/
def tcapEdge (n : Nat) (rising : Bool) (fine : Nat) (s : State) : State :=
  let t := s.edgeStamp fine
  let pps := n == 4 && rising && s.takesStation && s.rf Reg.TIM_CFG 0 2 == 1
  let sel := s.edgeSelected n rising
  let last := s.tim.lastEdge.at n 0
  if !(pps || sel) || (last != 0 && decide (s.edgeTime fine < last + 512)) then s
  else
    let s := { s with tim.lastEdge := s.tim.lastEdge.put n 0 (s.edgeTime fine) }
    if n = 4 ∧ 2000000 < (phaseOf t).natAbs then s.wbit Reg.TIM_FLAGS 2 true
    else
      let s := if pps && s.timState != 0 then s.measured (phaseOf t) s.tim.port true else s
      if sel then s.capture n t else s

/-- A read of TIM_TCAP_S[n] (R111): the oldest entry moves to the holding set, and its seconds are returned. DESIGN CHOICE:
it is this read behind which R112 raises 0x0221 anew; F.EMPTY, once set, stays when an entry arrives and clears at the next
read that pops one. -/
def State.popFifo (s : State) (n : Nat) : State × Word :=
  let s := { s with tim.capTold := s.tim.capTold.put n false false }
  match s.tim.fifo.at n [] with
  | [] => (s.wbit (Reg.TIM_TCAP_F n) 16 true, 0xffffffff)
  | (a, b, c) :: l =>
    let s := { s with tim.fifo := s.tim.fifo.put n [] l }
    let s := (s.wn (Reg.TIM_TCAP_S n) a).wn (Reg.TIM_TCAP_NS n) b
    (((s.wf (Reg.TIM_TCAP_F n) 0 5 c).wbit (Reg.TIM_TCAP_F n) 16 false).showLevel n, BitVec.ofNat 32 a)

/-- TCAP_POP. -/
def tcapPop (n : Nat) (s : State) : State :=
  let (s, v) := s.popFifo n
  s.emit (.readValue v)

/-! ### PPS output -/

/-- TIM_PPS.OFS in 50 ps units (R116). -/
def State.ppsOfs (s : State) : Int := signed 16 (s.rf Reg.TIM_PPS 16 16)

/-- The rise of PPS_OUT nearest to the present time: a stack second shifted by OFS, in 50 ps units (R113). -/
def State.ppsRise (s : State) : Int := wholeSeconds ((s.stamp50 : Int) - s.ppsOfs) * 20000000000 + s.ppsOfs

/-- PPS_OUT_PULSE (R113): only while LOCKED or in HOLDOVER does PPS_OUT rise, and it stays high for WID. -/
def ppsPulse (rising : Bool) (s : State) : State :=
  if rising then
    if s.tim.ppsOut || decide (s.timState < 2) then s
    else
      let t := s.ppsRise
      ({ s with tim.ppsOut := true, tim.ppsEnd := t + s.rf Reg.TIM_PPS 0 9 * 20000000 } : State).emit (.pps true t)
  else if s.tim.ppsOut then ({ s with tim.ppsOut := false } : State).emit (.pps false s.tim.ppsEnd)
  else s

/-! ### Meanings -/

/-- TPO_ARM: a write of TIM_TPO_CFG[n]. -/
def execTpoArm (src : Src) (n : Fin 8) (v : Word) (s : State) : Host.Outcome State Fault Refusal :=
  s.access fun s => s.unkeyed src (Reg.TIM_TPO_CFG n.val) (tpoArm n.val v)

/-- TPO_PULSE_EDGE. -/
def execTpoPulseEdge (n : Fin 8) (leading : Bool) (s : State) : Host.Outcome State Fault Refusal :=
  s.main (tpoEdge n.val leading)

/-- TCAP_EDGE. -/
def execTcapEdge (n : Fin 5) (rising : Bool) (fine : Fin 64) (s : State) : Host.Outcome State Fault Refusal :=
  s.main (tcapEdge n.val rising fine.val)

/-- TCAP_POP: a read of TIM_TCAP_S[n]; until READY it returns zero (R561). -/
def execTcapPop (n : Fin 5) (s : State) : Host.Outcome State Fault Refusal :=
  s.access fun s => if s.sys.ready then tcapPop n.val s else s.emit (.readValue 0)

/-- PPS_OUT_PULSE. -/
def execPpsOutPulse (rising : Bool) (s : State) : Host.Outcome State Fault Refusal := s.main (ppsPulse rising)

end Sys2Proof.Machine
end

