-- ==== Sys2Proof/Machine/Engine.lean ====
section
/-! DEFINITION. The Vertex engines (chapter 6, R152 to R182), the ROUTE fill and the run-time inputs (R163, R171, R172,
R225, R226, R229). -/

namespace Sys2Proof.Machine

/-! ### Data memory (R635) -/

/-- BAR2 offset of a byte of the data memory of engine `k`. -/
def dataAt (k off : Nat) : Nat := 0x810000 + 0x20000 * k + off

/-- Data memory offset of the two banks of the state area. -/
def bankBase (upper : Bool) : Nat := if upper then 0xa000 else 0x4000

/-- The live bank of segment `j` of engine `k`: VTX_BSEL. -/
def State.liveBank (s : State) (k j : Nat) : Bool := s.bit (Reg.VTX_BSEL k) j

/-- A word of the data memory of engine `k`. -/
def State.dataWord (s : State) (k off : Nat) : Word := s.mem32 (dataAt k off)

/-- Stores consecutive words into the data memory of engine `k`. -/
def State.setData (s : State) (k off : Nat) : List Word → State
  | [] => s
  | w :: ws => (s.setMem32 (dataAt k off) w).setData k (off + 4) ws

/-- Consecutive words of the data memory of engine `k`. -/
def State.dataWords (s : State) (k off n : Nat) : List Word := (List.range n).map fun i => s.dataWord k (off + 4 * i)

/-! ### Running -/

/-- Period r of a takeover is a warm-up period (R412). -/
def State.warm (s : State) : Bool := s.par.warm == some s.tim.period

/-- VTX_STAT.STATE and SEG of engine `k`. -/
def State.engineState (s : State) (k st seg : Nat) : State := (s.wf (Reg.VTX_STAT k) 0 2 st).wf (Reg.VTX_STAT k) 2 3 seg

/-- The segment engine `k` is executing. -/
def State.runOf (s : State) (k : Nat) : Option SegRun := s.vtx.run.at k none

/-- Sets it. -/
def State.setRun (s : State) (k : Nat) (r : Option SegRun) : State := { s with vtx.run := s.vtx.run.put k none r }

/-- Fields of an entry of the live slot table (R181). -/
def State.slotEngine (s : State) (e : Nat) : Nat := s.rf (Reg.SLT_CTL_L e) 18 3
def State.slotSeg (s : State) (e : Nat) : Nat := s.rf (Reg.SLT_CTL_L e) 21 3
def State.slotValid (s : State) (e : Nat) : Bool := s.bit (Reg.SLT_CTL_L e) 24
def State.slotMid (s : State) (e : Nat) : Bool := s.bit (Reg.SLT_CTL_L e) 25

/-- SLOT_WINDOW_START (R152, R159, R174): the engine starts the segment the entry names. -/
def windowStart (e : Nat) (s : State) : State :=
  let k := s.slotEngine e
  let j := s.slotSeg e
  if s.slotValid e && s.enginesRun && !s.vtx.stopped.at k false && (s.runOf k).isNone && (s.segment k j).isSome then
    (s.setRun k (some { entry := e, seg := j, mid := s.slotMid e })).engineState k 2 j
  else s

/-! ### Blocks -/

/-- Where an operand stands in the data memory of engine `k`, for a segment that runs with the given MID bit and writes bank `w`
(R172, R185); none for a constant. -/
def State.operandAt (s : State) (k : Nat) (mid w : Bool) : Opnd → Option Nat
  | .area off => some ((if mid then 0x2000 else 0) + off)
  | .out off seg fwd => some (bankBase (if fwd then w else s.liveBank k seg) + off)
  | .par i => some ((s.graph k).parBase + 4 * i)
  | .const _ => none

/-- The value of an operand. -/
def State.operand (s : State) (k : Nat) (mid w : Bool) (o : Opnd) : Word :=
  match s.operandAt k mid w o, o with
  | some off, _ => s.dataWord k off
  | none, .const v => v
  | none, _ => 0

/-- The key of a segment in the resume table. -/
def segKey (k j : Nat) : Nat := 8 * k + j

/-- What a block reads in an execution. -/
def State.blockIn (s : State) (k : Nat) (r : SegRun) (b : Block) : BIn :=
  let live := s.liveBank k r.seg
  let val := s.operand k r.mid (!live)
  { ins := b.ins.map val, pars := b.pars.map val, st := s.dataWords k (bankBase live + b.st) (blockWords b)
    size := b.size, extra := b.extra, trans := b.trans, np := s.npOf (b.extra.getD 0 0), code := b.code.toNat
    resume := s.vtx.resume.at (segKey k r.seg) none }

/-- The engine reads the operands and the state words of a block (R450): words that test mode has spoilt are corrected, or met as
uncorrectable. -/
def State.readBlock (s : State) (k : Nat) (r : SegRun) (b : Block) : State × Option Nat :=
  if s.memi.raw.isEmpty then (s, none)
  else
    let live := s.liveBank k r.seg
    let l := ((b.rst.toList ++ b.ins ++ b.pars).filterMap (s.operandAt k r.mid !live)).map fun o => (o, 4)
    (l ++ [(bankBase live + b.st, 4 * blockWords b)]).foldl (fun (s, bad) x =>
      let (s, w) := s.meet 12 (dataAt k x.1) x.2
      (s, bad.or w)) (s, none)

/-- The block executes its reset branch: RST true, a first-execution mark, or RAMP at the first execution behind a
takeover (R189, R190). -/
def State.blockResets (s : State) (k : Nat) (r : SegRun) (b : Block) : Bool :=
  (match b.rst with
   | some o => isTrue (s.operand k r.mid (!s.liveBank k r.seg) o)
   | none => false) ||
  s.vtx.marks.contains (k, r.seg, r.blk) ||
  (b.code == 0x07 && (s.vtx.resume.at (segKey k r.seg) none).isSome)

/-- The check of one output (R162) against its live value: the word, the FLG bits it sets, and whether it was replaced. -/
def checkOut (o : BOut) (live : Word) : Word × Nat × Bool :=
  if !o.real then (o.w, 0, false)
  else match Fl.ofWord o.w with
    | .nan => (live, 0, true)
    | .inf neg =>
      match o.lim with
      | none => (maxFinite neg, 0, true)
      | some (lo, hi) => let (y, f) := clampF (maxFinite neg) lo hi; (y, f, true)
    | .fin _ _ _ => (o.w, 0, false)

/-- Sets a FLG bit that may be set already. -/
def orFlg (a b : Nat) : Nat := (BitVec.ofNat 8 a ||| BitVec.ofNat 8 b).toNat

/-- Executes block `b` of the segment: reset branch or formula, output check, words written to the other bank, releases
queued (R153, R155, R162). -/
def State.execBlock (s : State) (k : Nat) (r : SegRun) (b : Block) : State × SegRun :=
  let bin := s.blockIn k r b
  let res := if s.blockResets k r b then blockReset b.code.toNat bin else blockEval b.code.toNat bin
  let live := bankBase (s.liveBank k r.seg)
  let other := bankBase (!s.liveBank k r.seg)
  let chk := (List.range res.outs.length).map fun i =>
    checkOut (res.outs.getD i { w := 0 }) (s.dataWord k (live + b.outs + 4 * i))
  let flg := chk.foldl (fun f c => orFlg f c.2.1) res.flg
  let n := (chk.filter fun c => c.2.2).length
  let ws := chk.map (fun c => c.1) ++ [BitVec.ofNat 32 flg]
  let s := (s.setData k (other + b.outs) ws).setData k (other + b.st) res.st
  let s := if n = 0 then s
    else
      let s := (s.satAdd (Reg.VTX_NUMX k) 0 32 n).wbit (Reg.VTX_FLAGS k) 2 true
      { s with vtx.numeric := s.vtx.numeric.put k 0 (s.vtx.numeric.at k 0 + n) }
  let rel := b.rel.map fun x =>
    let w := ws.getD x.out 0
    Send.value x.dest (match x.bit with | none => w | some i => wBool (bitOf w.toNat i))
  (s, { r with queue := r.queue ++ res.sends ++ rel })

/-- A skipped block (R167): its state words, and the outputs it keeps, are copied to the other bank. -/
def State.skipBlock (s : State) (k : Nat) (r : SegRun) (b : Block) : State :=
  let live := bankBase (s.liveBank k r.seg)
  let other := bankBase (!s.liveBank k r.seg)
  let bin := s.blockIn k r b
  let n := (blockEval b.code.toNat bin).outs.length + 1
  let s := (s.setData k (other + b.st) bin.st).setData k (other + b.outs) (s.dataWords k (live + b.outs) n)
  s.wbit (Reg.VTX_FLAGS k) 5 true

/-- The number of blocks of a segment that carry DEFER. -/
def deferCount (g : Segment) : Nat := (g.blocks.filter Block.defer).length

/-- An engine fault (R166): the engine stops at once without committing, and the cluster fault reaction follows with
cause 3. -/
def State.engineFault (s : State) (k cause seg blk : Nat) : State :=
  let s := (s.setRun k none).engineState k 3 seg
  let s := { s with vtx.stopped := s.vtx.stopped.put k false true }
  let s := (s.wn (Reg.VTX_FAULT_INFO k) (cause + seg * 4 + blk % 2048 * 32)).wbit (Reg.VTX_FLAGS k) 3 true
  (s.raise 0x0502 k [k, cause, seg, blk]).clusterFault 3 0

/-- BLOCK_COMPLETE (R152, R165, R166): the next block of the running segment ends its execution. Mismatch 1: it was
executed once more without one; 2: the recomputation failed too. A throttled DEFER block is skipped (R167). -/
def blockDone (k mismatch : Nat) (s : State) : State :=
  match s.runOf k with
  | none => s
  | some r =>
    match s.segment k r.seg with
    | none => s
    | some g =>
      match g.blocks[r.blk]? with
      | none => s
      | some b =>
        if b.defer && s.bit Reg.THW_STAT 19 then
          let s := (s.skipBlock k r b).setRun k (some { r with blk := r.blk + 1, cycles := r.cycles + blockWords b })
          if s.vtx.deferTold.at k false then s
          else ({ s with vtx.deferTold := s.vtx.deferTold.put k false true } : State).raise 0x0506 k [k, deferCount g]
        else if mismatch = 2 then s.engineFault k 1 r.seg r.blk
        else
          let (s, bad) := s.readBlock k r b
          if bad.isSome then s.engineFault k 2 r.seg r.blk
          else
            let (s, r') := s.execBlock k r b
            let s := s.setRun k (some { r' with blk := r.blk + 1
                                                cycles := r.cycles + (if mismatch = 1 then 2 else 1) * blockCost b })
            if mismatch = 1 then
              ((s.count (Reg.VTX_RES_CNT k)).wbit (Reg.VTX_FLAGS k) 1 true).raise 0x0503 k [k, r.seg, r.blk]
            else s

/-! ### Commit and overrun -/

/-- The number of a released record field. -/
def recIndex : RecField → Nat
  | .vhv => 0 | .vlv => 1 | .imf => 2 | .tj => 3 | .deg => 4 | .gf => 5

/-- A released value reaches its destination (R155, R237, R247, R542). -/
def State.releaseValue (s : State) (d : Dest) (w : Word) : State :=
  match d with
  | .obs i => s.wr (Reg.GPR_OBS i.val) w
  | .record c f => { s with ring.recs := s.ring.recs.put (8 * c.val + recIndex f) none (some w) }
  | .ord => { s with ring.ordOut := some w }
  | .armref i => { s with ring.armref := some (if i then wInt (cvtI w) else w), ring.armrefNew := true }
  | .armsgn => { s with ring.armsgn := some w, ring.armsgnNew := true }
  | .wear g i =>
    s.wr (match i.val with
      | 0 => Reg.THW_SW_ACC_LO g.val | 1 => Reg.THW_SW_ACC_HI g.val | _ => Reg.THW_SW_CNT g.val) w
  | .telemetry => s

/-- One entry of an output queue is released; dry-run and the warm-up period discard PWM writes, and dry-run FSREQ too
(R160, R412). -/
def State.releaseOne (s : State) (k j : Nat) (x : Send) : State :=
  match x with
  | .pwm q on wid =>
    if s.dry || s.warm then s
    else shadowWrite q true (BitVec.ofNat 32 wid) (shadowWrite q false (BitVec.ofNat 32 on) s)
  | .loadAll g => if s.dry || s.warm then s else s.loadAll g
  | .fsreq serves req => if s.dry then s else s.releaseFsreq serves req
  | .event id a b => s.raise (0x0540 + id) k [k, j, id, a.toNat, b.toNat]
  | .value d w => s.releaseValue d w

/-- LOAD_ALL entries are released last (R156). -/
def queueOrder (l : List Send) : List Send :=
  (l.filter fun x => match x with | .loadAll _ => false | _ => true) ++
  (l.filter fun x => match x with | .loadAll _ => true | _ => false)

/-- The words of telemetry in a queue: one record on HQ1 (R634). -/
def telemetryOf (l : List Send) : List Nat := l.filterMap fun x => match x with | .value .telemetry w => some w.toNat | _ => none

/-- Records the executed cycles of a segment (R178). -/
def State.noteCycles (s : State) (k j c : Nat) : State :=
  (s.wn (Reg.VTX_EXEC_LAST k j) c).wn (Reg.VTX_EXEC_MAX k j) (max (s.rn (Reg.VTX_EXEC_MAX k j)) c)

/-- The commit of a completed segment (R156): its bank flips, its first executions are over, its queue is released. -/
def State.commitSegment (s : State) (k : Nat) (r : SegRun) : State :=
  let s := s.wbit (Reg.VTX_BSEL k) r.seg (!s.liveBank k r.seg)
  let s := { s with vtx.marks := s.vtx.marks.filter fun m => !(m.1 == k && m.2.1 == r.seg)
                    vtx.resume := s.vtx.resume.put (segKey k r.seg) none none }
  let s := s.noteCycles k r.seg (r.cycles + 16)
  let s := (queueOrder r.queue).foldl (fun s x => s.releaseOne k r.seg x) s
  let t := telemetryOf r.queue
  if t.isEmpty then s else s.report 1 0x0580 k t

/-- The consecutive overrun count of R177. -/
def State.overConsec (s : State) (k : Nat) : Nat := s.rf (Reg.VTX_STAT k) 8 4

/-- An overrun (R176, R177): the segment is aborted; at OVR_LIM consecutive periods the cluster fault reaction follows
with cause 2. -/
def State.overrun (s : State) (k : Nat) (r : SegRun) : State :=
  let s := s.noteCycles k r.seg r.cycles
  let s := ((s.count (Reg.VTX_OVR_CNT k)).wbit (Reg.VTX_FLAGS k) 0 true).raise 0x0501 k [k, r.seg, r.cycles, r.blk]
  if s.vtx.overs.at k false then s
  else
    let n := s.overConsec k + 1
    let s := { s with vtx.overs := s.vtx.overs.put k false true }
    let s := s.wf (Reg.VTX_STAT k) 8 4 (min n 15)
    let lim := s.rf (Reg.VTX_CFG k) 0 4
    if n = lim then ((s.wbit (Reg.VTX_FLAGS k) 4 true).raise 0x0505 k [k, lim]).clusterFault 2 0 else s

/-- No valid entry of the engine has a later window in the period. -/
def State.lastWindow (s : State) (k e : Nat) : Bool :=
  (List.range 64).all fun d => !(s.slotValid d && s.slotEngine d == k && decide (s.rf (Reg.SLT_WIN_L e) 0 18 < s.rf (Reg.SLT_WIN_L d) 0 18))

/-- The window of the running segment of engine `k` ends (R156, R176). -/
def State.closeWindow (s : State) (k : Nat) : State :=
  match s.runOf k with
  | none => s
  | some r =>
    let s := (s.setRun k none).engineState k 1 0
    match s.segment k r.seg with
    | none => s
    | some g =>
      if g.blocks.length ≤ r.blk then
        let s := s.commitSegment k r
        if !s.vtx.overs.at k false && s.lastWindow k r.entry then s.wf (Reg.VTX_STAT k) 8 4 0 else s
      else s.overrun k r

/-- WINDOW_END (R156): the window of an entry of the live slot table ends. -/
def windowEnd (e : Nat) (s : State) : State :=
  let k := s.slotEngine e
  match s.runOf k with
  | some r => if r.entry = e then s.closeWindow k else s
  | none => s

/-- The engines at a boundary: open windows end (R170), an engine without an overrun clears its count (R177), numeric
replacements of the period are reported (R162). -/
def State.enginesBoundary (s : State) : State :=
  s.each 8 fun s k =>
    let s := s.closeWindow k
    let s := if s.vtx.overs.at k false then s else s.wf (Reg.VTX_STAT k) 8 4 0
    let n := s.vtx.numeric.at k 0
    let s := { s with vtx.overs := s.vtx.overs.put k false false, vtx.numeric := s.vtx.numeric.put k 0 0 }
    if n = 0 then s else s.raise 0x0504 k [k, n]

/-- Dry-run ends: DRY clears, and the engines stop (R159, R160). -/
def State.stopDry (s : State) : State :=
  if s.dry then ((s.each 8 fun s k => s.wbit (Reg.VTX_STAT k) 5 false).wbit Reg.VTX_CTRL 0 false).abandonEngines else s

/-- VTX_CTRL.DRY accepted by its key (R160, R628): refused with 0x25 unless halted; a write of 0 ends dry-run. -/
def setDry (v : Word) (s : State) : State :=
  if !s.halted then s.refuse Reg.VTX_CTRL 0x25
  else if fld v 0 1 = 0 then s.stopDry
  else if s.dry then s
  else ((s.each 8 fun s k => s.wbit (Reg.VTX_STAT k) 5 true).wbit Reg.VTX_CTRL 0 true).enginesOn

/-! ### Measurement sets (R145) -/

/-- The measurement set of this tick. -/
def State.measurementSet (s : State) : Tab SetEntry :=
  let sd := (List.range 72).foldl (fun t c =>
    Tab.put t c {} { val := s.rf (Reg.SDM_RES c) 0 24, ok := s.bit (Reg.SDM_RES c) 24
                     age := min (s.now - s.meas.done.at c 0) 65535 }) ([] : Tab SetEntry)
  (List.range 8).foldl (fun t k => (List.range 20).foldl (fun t n =>
    let a := if n < 16 then Reg.ADC_RES k n else Reg.ADC_IRES k (n - 16)
    Tab.put t (128 + 32 * k + n) {} { val := s.rf a 0 16, ok := s.bit a 16, age := s.meas.offset.at (32 * k + n) 0 }) t) sd

/-- Clears NEW of every result slot: it reports results since the last latch (R150). -/
def State.clearNew (s : State) : State :=
  s.each 8 fun s k => (s.each 16 fun s n => s.wbit (Reg.ADC_RES k n) 16 false).each 4 fun s n =>
    s.wbit (Reg.ADC_IRES k n) 16 false

/-- Latches the boundary set, or the mid-period set. -/
def State.latchSet (s : State) (mid : Bool) : State :=
  let t := s.measurementSet
  (if mid then { s with meas.midSet := t } else { s with meas.set := t }).clearNew

/-! ### ROUTE fill -/

/-- A source of a route that comes from a measurement set (R172). -/
def fromSet : RouteSrc → Bool
  | .sd _ _ => true | .sdValid _ => true | .sdAge _ => true | .adc _ _ _ => true | .adcNew _ _ => true
  | .adcOfs _ _ => true | _ => false

/-- The governing arm fields of group `r` (R229, R271). -/
def State.armOf (s : State) (r : Nat) : Word × Bool × Bool :=
  match s.ring.gov with
  | some g => g.arms.getD r (0, false, false)
  | none => (0, false, false)

/-- The value of a route (R163, R210, R225, R229, R241) from a measurement set. -/
def State.routeValue (s : State) (t : Tab SetEntry) : RouteSrc → Word
  | .sd c scale => fMul (fOfInt (signed 24 (t.at c.val {}).val)) scale
  | .sdValid c => wBool (t.at c.val {}).ok
  | .sdAge c => BitVec.ofNat 32 (t.at c.val {}).age
  | .adc k n scale => fMul (fOfInt (signed 16 (t.at (128 + 32 * k.val + n.val) {}).val)) scale
  | .adcNew k n => wBool (t.at (128 + 32 * k.val + n.val) {}).ok
  | .adcOfs k n => BitVec.ofNat 32 (t.at (128 + 32 * k.val + n.val) {}).age
  | .gpr i _ => s.inp.accepted.at i.val 0
  | .nav r => s.rg (Reg.STR_NAV r.val)
  | .sumv r => s.rg (Reg.STR_SUMV r.val)
  | .rank r c =>
    if s.bit (Reg.STR_RANK c.val) 11 && s.rf (Reg.STR_RANK c.val) 12 4 == r.val then
      BitVec.ofNat 32 (s.rf (Reg.STR_RANK c.val) 0 11) else 0xffffffff
  | .snapVhv c => match s.ring.gov with | some g => g.vhv.getD c.val 0 | none => 0
  | .avl c => match s.ring.gov with | some g => BitVec.ofNat 32 (g.avl / 2 ^ c.val) | none => 0
  | .ord => match s.ring.gov with | some g => g.ord | none => 0
  | .armref r => (s.armOf r.val).1
  | .armsgn r => wBool (s.armOf r.val).2.1
  | .armAbs r => BitVec.ofNat 32 (min (s.armOf r.val).1.toInt.natAbs 2147483647)
  | .armPol r => wBool (decide (0 ≤ (s.armOf r.val).1.toInt))
  | .swf c => BitVec.ofNat 32 ((List.range 8).foldl (fun m i => if s.latched (8 * c.val + i) then m + 2 ^ i else m) 0)
  | .chf c => BitVec.ofNat 32 ((List.range 3).foldl (fun m i => if s.sdFaulted (3 * c.val + i) then m + 2 ^ i else m) 0)

/-- The GPR_IN word a fill copies: the one that stood when HOLD was set, else the present one (R226). -/
def State.gprWord (s : State) (i : Nat) : Word :=
  match s.inp.held with
  | some l => l.getD i 0
  | none => s.rg (Reg.GPR_IN i)

/-- The routed GPR_IN words with the type ROUTE declares, each once. -/
def State.routedWords (s : State) : List (Nat × Bool) :=
  (s.cfg.routes.filterMap fun r => match r.src with | .gpr i real => some (i.val, real) | _ => none).eraseDups

/-- GPR_STAT.ROUTED: the number of GPR_IN words the image routes (R247). -/
def State.showRouted (s : State) : State := s.wf Reg.GPR_STAT 8 8 s.routedWords.length

/-- The boundary fill takes every routed GPR_IN word; an F32 word that is no number of R161 keeps its last accepted value
and is counted and reported once per period (R225). -/
def State.takeInputs (s : State) : State :=
  let l := s.routedWords
  let bad := l.filter fun p => p.2 && rawBad (s.gprWord p.1)
  let s := l.foldl (fun s p =>
    if p.2 && rawBad (s.gprWord p.1) then s
    else { s with inp.accepted := s.inp.accepted.put p.1 0 (s.gprWord p.1) }) s
  let s := bad.foldl (fun s p => (s.satAdd Reg.GPR_REJ 0 16 1).wf Reg.GPR_REJ 16 6 p.1) s
  let s := (s.wbit Reg.GPR_STAT 0 s.inp.held.isSome).wbit Reg.GPR_STAT 1 (!bad.isEmpty)
  let s := s.showRouted.wr Reg.GPR_FILL_TS s.tim.ts32
  match bad with
  | [] => s
  | p :: _ => s.raise 0x0510 0 [p.1, (s.gprWord p.1).toNat]

/-- The boundary ROUTE fill (R171). -/
def State.fillBoundary (s : State) : State :=
  let s := s.takeInputs
  s.cfg.routes.foldl (fun s r => s.setMem32 (dataAt r.engine.val r.off) (s.routeValue s.meas.set r.src)) s

/-- The mid-period fill (R172): measurements from the mid set, every other word as the boundary fill wrote it. -/
def State.fillMid (s : State) : State :=
  s.cfg.routes.foldl (fun s r => s.setMem32 (dataAt r.engine.val (0x2000 + r.off))
    (if fromSet r.src then s.routeValue s.meas.midSet r.src else s.dataWord r.engine.val r.off)) s

/-- MID_PERIOD_LATCH (R132, R145, R172): the mid-period instant of a control period. -/
def midPeriod (s : State) : State :=
  let s := s.adcSource 0x12
  if s.bit Reg.SLT_PCFG_L 0 then (s.latchSet true).fillMid else s

/-- GPR_HOLD (R226): setting HOLD keeps the words that stand; clearing it releases later writes together. -/
def gprHold (v : Word) (s : State) : State :=
  let on := fld v 0 1 == 1
  let s := s.wbit Reg.GPR_CTL 0 on
  if !on then { s with inp.held := none }
  else if s.inp.held.isSome then s
  else { s with inp.held := some ((List.range 64).map fun i => s.rg (Reg.GPR_IN i)) }

/-! ### Meanings -/

/-- MID_PERIOD_LATCH. -/
def execMidPeriodLatch (s : State) : Host.Outcome State Fault Refusal := s.main midPeriod

/-- SLOT_WINDOW_START. -/
def execSlotWindowStart (e : Fin 64) (s : State) : Host.Outcome State Fault Refusal := s.main (windowStart e.val)

/-- BLOCK_COMPLETE. -/
def execBlockComplete (k : Engine) (mismatch : Fin 3) (s : State) : Host.Outcome State Fault Refusal :=
  s.main (blockDone k.val mismatch.val)

/-- WINDOW_END. -/
def execWindowEnd (e : Fin 64) (s : State) : Host.Outcome State Fault Refusal := s.main (windowEnd e.val)

/-- VTX_DRY: a keyed write of VTX_CTRL.DRY on engine 0. -/
def execVtxDry (src : Src) (s : State) : Host.Outcome State Fault Refusal :=
  s.access fun s => s.keyed src Reg.VTX_CTRL (setDry 1)

/-- GPR_HOLD: a write of GPR_CTL. -/
def execGprHold (src : Src) (v : Word) (s : State) : Host.Outcome State Fault Refusal :=
  s.access fun s => s.unkeyed src Reg.GPR_CTL (gprHold v)

end Sys2Proof.Machine
end

