-- ==== Sys2Proof/Machine/Ring.lean ====
section
/-! DEFINITION. The Opnis ring and Strata (chapter 9, R249 to R287, R636, R637, R639), the margin check (R35), and the
discovery sets of R570. -/

namespace Sys2Proof.Machine

/-! ### Membership and origin -/

/-- The member nodes as a mask. -/
def State.memb (s : State) : Nat := s.rn Reg.RNG_MEMB_LO + s.rn Reg.RNG_MEMB_HI * 4294967296

/-- Sets the membership: RNG_MEMB, MCOUNT and MEMBER. -/
def State.setMemb (s : State) (m : Nat) : State :=
  ((s.wn Reg.RNG_MEMB_LO (m % 4294967296)).wn Reg.RNG_MEMB_HI (m / 4294967296)).wf Reg.RNG_STAT 16 7 (countBits m 64)
    |>.wbit Reg.RNG_STAT 4 (bitOf m s.node)

/-- The membership generation. -/
def State.mgen (s : State) : Nat := s.rf Reg.RNG_STAT 24 8

/-- The other device of the node is active: its last report says so while the partner link is up, or its heartbeat is alive
at HB_IN, which only a device in TAKING or ACTIVE drives (R398). -/
def State.partnerActive (s : State) : Bool := (s.partnerUp && s.bit Reg.PAR_HLTH_PEER 0) || s.bit Reg.PAR_STAT 2

/-- The device is active and armed. -/
def State.active (s : State) : Bool := !s.halted && s.pairState == 3

/-- The origin device of the node (R249); TAKING has the ring duty of ACTIVE (R398). -/
def State.isOrigin (s : State) : Bool :=
  if s.active || s.pairState == 2 then true else if s.partnerActive then false else !s.role || !s.partnerUp

/-! ### Links (R252) -/

/-- An end of a link changes in the map (R252): event 0x0606. -/
def State.setLink (s : State) (node lane : Nat) (up : Bool) : State :=
  let was := s.ring.down.contains (node, lane)
  if was != up then s
  else
    let l := if up then s.ring.down.filter (· != (node, lane)) else s.ring.down ++ [(node, lane)]
    let s := ({ s with ring.down := l } : State).showRing
    let p := if lane < 2 then 0 else 1
    if !s.cfg.inForce then s
    else
      let s := (s.wbit Reg.RNG_FLAGS 5 true).raise 0x0606 p [p, ringStateOf l p s.nodes, node, lane]
      s.chooseDirection true

/-- A message on a ring lane if the lane is up. -/
def State.sendRing (s : State) (lane : Nat) (m : Msg) : State := if s.laneUp lane then s.send lane (.lane lane m) else s

/-- A lane of this device gains or loses qualified lock (R252, R284): its link map and RNG_LINK follow, and the set goes out on its
other ring links. -/
def State.ringLane (s : State) (lane : Nat) (up : Bool) : State :=
  let s := s.wf Reg.RNG_LINK (2 * (if lane < 2 then lane else lane - 4)) 2 up.toNat
  ((s.setLink s.node lane up).toRing lane (.ringState s.node lane up))

/-- RING_STATE_SET (R252): every device forwards each set once. DESIGN CHOICE: a set carries no number, so one that repeats
the state last forwarded for its node and lane in this control period is taken for a copy of that set. -/
def ringStateSet (lane node lane' : Nat) (up : Bool) (s : State) : State :=
  if node = s.node then s
  else
    let s := if s.ring.sets.contains (node, lane', up) then s
      else
        let l := s.ring.sets.filter fun x => !(x.1 == node && x.2.1 == lane')
        ({ s with ring.sets := (node, lane', up) :: l } : State).toRing lane (.ringState node lane' up)
    s.setLink node lane' up

/-! ### Period frames on lanes -/

/-- The lane pair this device originates on (R253). -/
def State.originPair (s : State) : Nat :=
  if s.bit Reg.RNG_CFG_L 7 && s.node % 2 == 1 && (s.laneUp 6 || s.laneUp 7) then 1 else 0

/-- The hop counts east and west of a frame originated on a lane pair (R251). -/
def State.ttls (s : State) (p : Nat) : Nat × Nat :=
  let n := s.nodes
  if breaks s.ring.downMap p n = 0 then (n / 2, n - 1 - n / 2)
  else (reachEast s.ring.downMap p n s.node (n - 1), reachWest s.ring.downMap p n s.node (n - 1))

/-- The time-transfer set behind a frame (R103, R254). -/
def State.sendTime (s : State) (lane : Nat) : State :=
  let e := s.tim.echo.at lane (0, 0)
  { s with tim.setSeq := s.tim.setSeq + 1 }.sendRing lane (.timeSet s.tim.setSeq s.stamp50 e.1 e.2)

/-- A frame toward the partner (R249, R250), with its time-transfer set behind it (R96, R254). -/
def State.framePartner (s : State) (f : Frame) : State :=
  if !s.partnerUp then s
  else
    let e := s.tim.echo.at s.partnerLane (0, 0)
    let s := s.toPartner (.frame f)
    { s with tim.setSeq := s.tim.setSeq + 1 }.toPartner (.timeSet s.tim.setSeq s.stamp50 e.1 e.2)

/-- A frame goes out east and west (R249, R251). -/
def State.sendFrame (s : State) (copy : Bool) (payload : List Byte) : State :=
  let p := s.originPair
  let (te, tw) := s.ttls p
  let one (s : State) (lane ttl : Nat) : State :=
    if ttl = 0 then s
    else (s.sendRing lane (.frame { ttl := BitVec.ofNat 8 ttl, copy, payload })).sendTime lane
  one (one s (eastLane p) te) (westLane p) tw

/-- The lane onward from an arrival lane. -/
def onward (lane : Nat) : Nat := match lane with | 0 => 1 | 1 => 0 | 6 => 7 | 7 => 6 | n => n

/-- A forwarder passes a frame on (R251, R260, R261): stomped if its CRC is bad; before an image the hop limit is 63. -/
def State.forwardFrame (s : State) (lane : Nat) (f : Frame) (bad : Bool) : State :=
  let ttl := f.ttl.toNat - 1
  let ttl := if s.cfg.inForce then ttl else min ttl 63
  if ttl = 0 then s
  else (s.sendRing (onward lane) (.frame { f with ttl := BitVec.ofNat 8 ttl, stomped := f.stomped || bad })).sendTime
    (onward lane)

/-- The CRC at the end of a payload is right, and the payload has its length (R254). -/
def frameOk (p : List Byte) : Bool := p.length == 212 && crc32 (p.take 208) == BitVec.ofNat 32 (leNat (p.drop 208))

/-- A little-endian field of a payload. -/
def payField (p : List Byte) (o n : Nat) : Nat := leNat ((p.drop o).take n)

/-! ### The global cell table (R268, R636) -/

/-- BAR2 offset of the bank of snapshot `k`. -/
def gctBase (k : Int) : Nat := 0x400000 + 0x4000 * (k % 2).toNat

/-- A bit of PRESENT (offset 0x3400) or CONFLICT (0x3408) of snapshot `k`. -/
def State.gctBit (s : State) (k : Int) (o n : Nat) : Bool := bitOf (s.byte (gctBase k + o + n / 8)).toNat (n % 8)

/-- Sets it. -/
def State.setGctBit (s : State) (k : Int) (o n : Nat) : State :=
  let a := gctBase k + o + n / 8
  s.setByte a (BitVec.ofNat 8 (withBit (s.byte a).toNat (n % 8) true))

/-- The entry of node `n` is present and not in conflict. -/
def State.entryHeld (s : State) (k : Int) (n : Nat) : Bool := s.gctBit k 0x3400 n && !s.gctBit k 0x3408 n

/-- A field of the header of node `n` in snapshot `k`. -/
def State.header (s : State) (k : Int) (n o len : Nat) : Nat := leNat (s.bytes (gctBase k + 0x3000 + 16 * n + o) len)

/-- A flag of that header (R256). -/
def State.headerFlag (s : State) (k : Int) (n i : Nat) : Bool := bitOf (s.header k n 4 2) i

/-- The record of global cell `g` in snapshot `k`. -/
def State.record (s : State) (k : Int) (g : Nat) : Nat := leNat (s.bytes (gctBase k + 8 * g) 8)

/-- The valid membership operation in node 0's frame of period `k` (R255): node, and whether it joins. -/
def State.opOf (s : State) (k : Int) : Option (Nat × Bool) :=
  let m := s.header k 0 6 2
  if s.entryHeld k 0 && bitOf m 7 then some (m % 64, bitOf m 6) else none

/-- A membership with an operation applied; node 0 cannot be dropped (R281). -/
def applyOp (m : Nat) : Option (Nat × Bool) → Nat
  | none => m
  | some (n, joins) => if n = 0 then m else withBit m n joins

/-- M_k of R275 for the present period. -/
def State.membOf (s : State) (k : Int) : Nat := applyOp s.memb (s.opOf k)

/-- The nodes of a mask. -/
def nodesOf (m : Nat) : List Nat := (List.range 64).filter (bitOf m)

/-- DECL of the closed snapshot (R637): every needed header of the present period is held with SI clear. -/
def State.declare (s : State) : State :=
  match s.ring.closed with
  | none => s
  | some k =>
    let m := s.tim.period
    if k + 1 = m && (nodesOf (s.membOf m)).all (fun n => s.entryHeld m n && !s.headerFlag m n 0) && s.entryHeld m 0 then
      let a := gctBase k + 0x3410
      let b := s.byte (a + 2)
      (s.setByte (a + 2) (BitVec.ofNat 8 (withBit b.toNat 1 true))).wbit Reg.RNG_SNAP 17 true
    else s

/-- A valid payload becomes node n's entry of the snapshot being filled; an equal later copy is discarded, a differing one
is a conflict (R262). -/
def State.enterEntry (s : State) (k : Int) (n : Nat) (p : List Byte) : State :=
  let hdr := gctBase k + 0x3000 + 16 * n
  let rec0 := gctBase k + 192 * n
  if s.gctBit k 0x3400 n then
    if s.bytes hdr 16 ++ s.bytes rec0 192 = p.take 208 || s.gctBit k 0x3408 n then s
    else ((s.setGctBit k 0x3408 n).count Reg.RNG_CONFL).wbit Reg.RNG_FLAGS 9 true
  else
    (((s.setBytes hdr (p.take 16)).setBytes rec0 ((p.drop 16).take 192)).setGctBit k 0x3400 n).declare

/-- Nanoseconds since the boundary that opened period `k`. -/
def State.sinceBoundary (s : State) (k : Int) : Nat :=
  (((s.time50 : Int) - s.epoch50 - (s.perOfs + k * s.perLen) * 64 * 4294967296) / 4294967296 / 20).toNat

/-- A valid frame is judged (R262): entered, late, or discarded. -/
def State.takeFrame (s : State) (p : List Byte) : State :=
  let n := payField p 1 1 % 64
  let m := s.tim.period
  let q := payField p 2 2
  if !s.cfg.inForce || payField p 0 1 != 0xa1 || s.nodes ≤ n then s
  else if q = unsigned 16 m then
    if s.ring.fill = some m then
      (s.wn Reg.RNG_LATMAX (max (s.rn Reg.RNG_LATMAX) (s.sinceBoundary m))).enterEntry m n p
    else s
  else
    let d := unsigned 16 (m - q)
    if 0x8000 ≤ d then s
    else
      let s := (s.count Reg.RNG_LATE).wbit Reg.RNG_FLAGS 10 true
      let s := s.wn Reg.RNG_LATMAX (max (s.rn Reg.RNG_LATMAX) (s.sinceBoundary (m - d)))
      if s.ring.toldLate then s
      else ({ s with ring.toldLate := true } : State).raise 0x060d 0 [n, s.sinceBoundary (m - d + 1)]

/-- A frame that ends with a bad CRC, or stomped (R261): counted and discarded. -/
def State.badFrame (s : State) (lane : Nat) (f : Frame) : State :=
  if f.stomped then s.count Reg.RNG_STOMP
  else
    let s := (s.count Reg.RNG_CRCERR).wbit Reg.RNG_FLAGS 0 true
    if s.ring.toldCrc then s
    else ({ s with ring.toldCrc := true } : State).raise 0x0601 lane [lane, payField f.payload 1 1 % 64]

/-- PERIOD_FRAME_RECEIVED (R250, R260 to R262): forwarded, checked, mirrored to the partner and entered. -/
def periodFrame (lane : Nat) (f : Frame) (s : State) : State :=
  let bad := !frameOk f.payload
  let s := s.forwardFrame lane f bad
  if f.stomped || bad then s.badFrame lane f
  else
    (s.framePartner f).takeFrame f.payload

/-- PARTNER_FRAME_RECEIVED (R249, R250): entered, and the frame of this node's origin copied onto the own ring. -/
def partnerFrame (lane : Nat) (f : Frame) (s : State) : State :=
  if f.stomped || !frameOk f.payload then s.badFrame lane f
  else
    let id := payField f.payload 1 1
    let s := if id % 64 = s.node && bitOf id 6 != s.role && !f.copy && !s.isOrigin && s.cfg.inForce
      then s.sendFrame true f.payload else s
    s.takeFrame f.payload

/-! ### Assembly (R254 to R259) -/

/-- A released field of a cell record; one never released reads zero (R259). -/
def State.released (s : State) (c : Nat) (f : RecField) : Word := (s.ring.recs.at (8 * c + recIndex f) none).getD 0

/-- A power of two as F32. -/
def pow2 (e : Int) : Word := roundF false 1 1 e

/-- A released F32 as an unsigned field of `n` bits (R258). -/
def fieldOf (n : Nat) (w : Word) : Nat := min (cvtU w) (2 ^ n - 1)

/-- The cell's enabled leg pairs, of which it has some, are driven by the generator: started and not held (R289, R413). -/
def State.pairsRun (s : State) (c : Nat) : Bool :=
  ((List.range 4).any fun i => s.pairEnabled (4 * c + i)) &&
    (List.range 4).all fun i => !s.pairEnabled (4 * c + i) || ((s.pair (4 * c + i)).started && !(s.pair (4 * c + i)).hold)

/-- An enabled leg pair of the cell is held before its first boundary (R289, R413), whatever else holds the cell. -/
def State.pairsWait (s : State) (c : Nat) : Bool := (List.range 4).any fun i =>
  s.pairEnabled (4 * c + i) && !(s.pair (4 * c + i)).begun

/-- CLU of a cell record (R257). -/
def State.cluBit (s : State) (c : Nat) : Bool := s.clusterPattern || s.clk.override || !s.active || s.pairsWait c

/-- The cell record of cell `c` (R257, R258). -/
def State.cellRecord (s : State) (c : Nat) : Nat :=
  let sc := s.rg Reg.RNG_SCALE
  let vhv := fieldOf 16 (fMul (s.released c .vhv) (pow2 (fld sc 0 4)))
  let vlv := fieldOf 16 (fMul (s.released c .vlv) (pow2 (fld sc 4 4)))
  let imf := fieldOf 12 (fMul (s.released c .imf) (pow2 (8 - (fld sc 8 4 : Int))))
  let tj := fieldOf 8 (fAdd (s.released c .tj) (fOfNat 55))
  let tj := if (s.ring.recs.at (8 * c + recIndex .tj) none).isSome then tj else 0
  let pop := s.populated c
  let clu := s.cluBit c
  let flt := s.cellFs c
  let sw := s.active && s.pairsRun c && !flt && !clu
  let byp := s.bypClosed c
  let vv := s.bit (Reg.SDM_RES (3 * c)) 24
  let deg := isTrue (s.released c .deg)
  let avl := pop && sw && vv && !byp && !flt && !clu && (!deg || !bitOf sc.toNat 12)
  vhv + vlv * 2 ^ 16 + imf * 2 ^ 32 + tj * 2 ^ 44 + avl.toNat * 2 ^ 52 + byp.toNat * 2 ^ 53 + flt.toNat * 2 ^ 54 +
    deg.toNat * 2 ^ 55 + pop.toNat * 2 ^ 56 + sw.toNat * 2 ^ 57 + vv.toNat * 2 ^ 58 +
    (s.bit (Reg.SDM_RES (3 * c + 1)) 24).toNat * 2 ^ 59 + (s.bit (Reg.SDM_RES (3 * c + 2)) 24).toNat * 2 ^ 60 +
    clu.toNat * 2 ^ 61 + (isTrue (s.released c .gf)).toNat * 2 ^ 62

/-- ARMV (R256). -/
def State.armValid (s : State) : Bool :=
  s.active && s.cfg.arm.isSome && s.ring.armrefNew && s.ring.armsgnNew

/-- The header FLAGS (R256). -/
def State.headFlags (s : State) (si : Bool) : Nat :=
  si.toNat + s.active.toNat * 2 + (s.timState == 2).toNat * 4 + (s.bit Reg.RNG_STAT 8).toNat * 8 +
    s.armValid.toNat * 16 + (isTrue (s.ring.armsgn.getD 0)).toNat * 32 + (s.cfg.arm.getD 0) % 16 * 64 +
    (s.bit Reg.RNG_STAT 5).toNat * 1024 + (s.bit Reg.RNG_STAT 4).toNat * 2048 + (s.bit Reg.RNG_STAT 6).toNat * 4096

/-- MCTL of node 0's frame (R255). -/
def State.mctl (s : State) : Nat :=
  s.mgen * 256 + match s.ring.lastOp with
    | none => 0
    | some (n, joins) => n + joins.toNat * 64 + 128

/-- The 212 bytes of this node's frame of the present period (R254, R255). -/
def State.frameBytes (s : State) (si : Bool) : List Byte :=
  let zero := s.node == 0
  let head := leBytes 0xa1 1 ++ leBytes (s.node + s.role.toNat * 64) 1 ++ leBytes (unsigned 16 s.tim.period) 2 ++
    leBytes (s.headFlags si) 2 ++ leBytes (if zero then s.mctl else 0) 2 ++
    leBytes (if zero then (s.ring.ordOut.getD 0).toNat else 0) 4 ++
    leBytes (if s.cfg.arm.isSome then (s.ring.armref.getD 0).toNat else 0) 4
  let body := head ++ (List.range 24).flatMap fun c => leBytes (s.cellRecord c) 8
  body ++ leBytes (crc32 body).toNat 4

/-! ### Strata (R269 to R274) -/

/-- The rank group of global cell `g`. -/
def State.groupOfCell (s : State) (g : Nat) : Option Nat :=
  let w := s.rf (Reg.STR_GMAP (g / 4)) (8 * (g % 4)) 5
  if bitOf w 4 then some (w % 16) else none

/-- The arm fields in the header of the owner of group `r` in snapshot `k` (R229, R271): ARMREF, ARMSGN, and whether ARMV is
set and the owner is a member. -/
def State.ownerArm (s : State) (k : Int) (r : Nat) : Word × Bool × Bool :=
  let o := s.rf (Reg.STR_GCFG r) 4 6
  let held := s.entryHeld k o
  (if held then BitVec.ofNat 32 (s.header k o 12 4) else 0, held && s.headerFlag k o 5,
    held && bitOf s.ring.closedMem o && s.headerFlag k o 4)

/-- The arm sign a group ranks by: that of its owner where it is valid, else 1 (R271). -/
def armSign (a : Word × Bool × Bool) : Bool := a.2.1 || !a.2.2

/-- The metric of a cell (R270). -/
def metric (key rec : Nat) (ref : Word) (sgn : Bool) : Nat :=
  let vhv := rec % 65536
  match key with
  | 0 => vhv
  | 1 => 0xffff - vhv
  | 2 => if sgn then vhv else 0xffff - vhv
  | 3 => if sgn = !bitOf ref.toNat 31 then vhv else 0xffff - vhv
  | 4 => rec / 2 ^ 44 % 256 * 256
  | 5 => rec / 2 ^ 32 % 4096 * 16
  | 6 => 0
  | _ => rec / 65536 % 65536

/-- The ranked set of group `r` in snapshot `k` (R269). -/
def State.rankedSet (s : State) (k : Int) (r : Nat) : List Nat :=
  if !s.bit (Reg.STR_GCFG r) 0 then []
  else (List.range 1536).filter fun g =>
    s.groupOfCell g == some r && bitOf s.ring.closedMem (g / 24) && s.entryHeld k (g / 24) && bitOf (s.record k g) 52

/-- The sort keys of a ranked set (R272). -/
def State.sortKeys (s : State) (k : Int) (r : Nat) : List Nat :=
  let a := s.ownerArm k r
  (s.rankedSet k r).map fun g => metric (s.rf (Reg.STR_GCFG r) 1 3) (s.record k g) a.1 (armSign a) * 65536 + g

/-- The rank position of global cell `g` among the keys of its group. -/
def rankIn (keys : List Nat) (g : Nat) : Option Nat :=
  (keys.find? fun x => x % 65536 == g).map fun x => (keys.filter (· < x)).length

/-- The group an own cell belongs to, 0 where it belongs to none. -/
def State.ownGroup (s : State) (c : Nat) : Nat := (s.groupOfCell (24 * s.node + c)).getD 0

/-- The result set of snapshot `k` (R273). -/
def State.resultOf (s : State) (k : Int) : Res :=
  let keys := (List.range 16).map (s.sortKeys k)
  let own c := 24 * s.node + c
  let mine n := s.entryHeld k s.node && bitOf (s.record k (own n)) 52
  let scale := pow2 (-(s.rf Reg.RNG_SCALE 0 4 : Int))
  { num := k
    nav := keys.map List.length
    sumv := (List.range 16).map fun r => fMul (fOfNat ((s.rankedSet k r).map fun g => s.record k g % 65536).sum) scale
    pos := (List.range 24).map fun c => match s.groupOfCell (own c) with
      | some r => rankIn (keys.getD r []) (own c)
      | none => none
    grp := (List.range 24).map s.ownGroup
    avl := (List.range 24).foldl (fun m c => if mine c then m + 2 ^ c else m) 0
    vhv := (List.range 24).map fun c =>
      if s.entryHeld k s.node then fMul (fOfNat (s.record k (own c) % 65536)) scale else 0
    ord := if s.entryHeld k 0 then BitVec.ofNat 32 (s.header k 0 8 4) else 0
    arms := (List.range 16).map (s.ownerArm k) }

/-- The groups with key 2 or 3 whose arm sign is defaulted (R271). -/
def State.defaulted (s : State) (k : Int) : List Nat := (List.range 16).filter fun r =>
  s.bit (Reg.STR_GCFG r) 0 && (s.rf (Reg.STR_GCFG r) 1 3 == 2 || s.rf (Reg.STR_GCFG r) 1 3 == 3) && !(s.ownerArm k r).2.2

/-- Strata sorts the closed snapshot (R269 to R273); a defaulted arm sign is reported once until its flag is cleared
(R271). -/
def State.strata (s : State) (k : Int) : State :=
  let d := s.defaulted k
  let s := { s with ring.res := some (s.resultOf k) }
  match d with
  | [] => s
  | r :: _ =>
    let told := s.bit Reg.STR_FLAGS 0
    let s := s.wbit Reg.STR_FLAGS 0 true
    if told then s else s.raise 0x060f 0 [r, s.rf (Reg.STR_GCFG r) 4 6]

/-- STRATA_SORT_DONE (R274): the result set of the closed snapshot is complete. -/
def sortDone (cycles : Nat) (s : State) : State :=
  match s.ring.closed with
  | none => s
  | some k => (s.wn Reg.STR_SORT_T (max (s.rn Reg.STR_SORT_T) cycles)).strata k

/-! ### The governing decision (R276 to R279) -/

/-- A membership operation takes effect (R281): events 0x0607, 0x0608, 0x0609. -/
def State.takeOp (s : State) : Option (Nat × Bool) → State
  | none => s
  | some (n, joins) =>
    if n = 0 || bitOf s.memb n = joins then s
    else
      let s := ((s.setMemb (withBit s.memb n joins)).wf Reg.RNG_STAT 24 8 (s.mgen + 1)).wbit Reg.RNG_FLAGS 6 true
      let s := s.raise (if joins then 0x0608 else 0x0607) 0 [n, s.mgen]
      if !joins && n = s.node then s.raise 0x0609 0 [s.mgen] else s

/-- The governing registers follow the governing set (R285): ranks, NAV, SUMV. -/
def State.showGov (s : State) : State :=
  let g := s.ring.gov
  let s := s.each 16 fun s r =>
    (s.wn (Reg.STR_NAV r) ((g.map fun g => g.nav.getD r 0).getD 0)).wr (Reg.STR_SUMV r)
      ((g.map fun g => g.sumv.getD r 0).getD 0)
  s.each 24 fun s c =>
    let p := (g.map fun g => g.pos.getD c none).getD none
    s.wn (Reg.STR_RANK c) (p.getD 0 + p.isSome.toNat * 2048 + (g.map fun g => g.grp.getD c 0).getD 0 % 16 * 4096 +
      (bitOf ((g.map fun g => g.avl).getD 0) c).toNat * 65536)

/-- The governing age of the present period; none until a snapshot governs. -/
def State.govAge (s : State) : Option Nat := s.ring.gov.map fun g => (s.tim.period - g.num).toNat

/-- An uncertain decision (R278): UNC and event 0x0604 with its cause: 1 missing headers, 2 local gap, 3 generation. -/
def State.uncertain (s : State) (k : Int) (cause : Nat) : State :=
  (((s.wbit Reg.RNG_STAT 6 true).wbit Reg.RNG_FLAGS 3 true)).raise 0x0604 0 [unsigned 16 k, cause]

/-- A period with a held governing set. -/
def State.holdGov (s : State) : State := s.count Reg.RNG_HOLD_CNT

/-- The members that a generation mismatch adopts (R278): node 0 and every node whose header has MEMBER set. -/
def State.adoptMembers (s : State) (k : Int) : State :=
  let m := (List.range 64).foldl (fun m n => if n = 0 || (s.entryHeld k n && s.headerFlag k n 11) then m + 2 ^ n else m) 0
  (s.setMemb m).wf Reg.RNG_STAT 24 8 (s.header k 0 7 1)

/-- The governing decision for snapshot `k` at B_{k+2} (R277, R278), with M_{k+1}. -/
def State.govern (s : State) (k : Int) (mem : Nat) : State :=
  let need := nodesOf mem
  let d := need.any fun n => s.entryHeld (k + 1) n && s.headerFlag (k + 1) n 0
  let missing := need.any fun n => !s.entryHeld (k + 1) n
  let s := s.wbit Reg.RNG_STAT 6 false
  let s := if missing then s.uncertain k 1 else s
  if d then
    (s.holdGov.wbit Reg.RNG_FLAGS 2 true).raise 0x0603 0 [unsigned 16 k, s.govAge.getD 0]
  else
    let gap := !s.ring.complete || s.ring.gap
    let mis := s.header k 0 7 1 != s.ring.genPrev
    let s := if mis && s.entryHeld k 0 then (s.adoptMembers k).uncertain k 3 else s
    let s := s.takeOp (s.opOf k)
    if gap then (s.uncertain k 2).holdGov
    else
      let s := if (s.ring.res.map Res.num) = some k then s else s.strata k
      { s with ring.gov := s.ring.res }.wbit Reg.RNG_STAT 5 true

/-- The governing age is judged (R279): event 0x0605 when it comes to exceed STALE_MAX. -/
def State.judgeAge (s : State) : State :=
  match s.govAge with
  | none => s.wn Reg.RNG_GOV 0
  | some a =>
    let num := (s.ring.gov.map Res.num).getD 0
    let s := s.wn Reg.RNG_GOV (unsigned 16 num + min a 255 * 65536)
    let was := s.bit Reg.RNG_STAT 7
    let stale := decide (s.rf Reg.RNG_MCFG 24 8 < a)
    let s := s.wbit Reg.RNG_STAT 7 stale
    if stale && !was then
      let s := (s.wbit Reg.RNG_FLAGS 4 true).raise 0x0605 0 [a]
      if s.bit Reg.RNG_TRIPCFG 2 then s.originateTrip 4 else s
    else s

/-! ### Closing and originating -/

/-- Node 0 counts what each node's entries show (R281). -/
def State.countNodes (s : State) (k : Int) : State :=
  s.each 64 fun s n =>
    let here := s.entryHeld k n
    let a := if here then 0 else min (s.ring.absent.at n 0 + 1) 255
    let y := if here && s.headerFlag k n 10 then min (s.ring.syncs.at n 0 + 1) 255 else 0
    { s with ring.absent := s.ring.absent.put n 0 a, ring.syncs := s.ring.syncs.put n 0 y }

/-- Snapshot `k` closes at B_{k+1} (R268, R275): RNG_SNAP, RNG_MISS, event 0x0602. -/
def State.closeSnapshot (s : State) (k : Int) (mem : Nat) : State :=
  let miss := (nodesOf mem).filter fun n => !s.entryHeld k n
  let mask := miss.foldl (fun m n => m + 2 ^ n) 0
  let s := { s with ring.closed := some k, ring.closedMem := mem, ring.complete := miss.isEmpty, ring.gap := false
                    ring.res := none }
  let s := s.setMem32 (gctBase k + 0x3410) (BitVec.ofNat 32 (unsigned 16 k + 65536))
  let s := s.wn Reg.RNG_SNAP (unsigned 16 k + miss.isEmpty.toNat * 65536 + miss.length % 128 * 262144)
  let s := (s.wn Reg.RNG_MISS_LO (mask % 4294967296)).wn Reg.RNG_MISS_HI (mask / 4294967296)
  let s := s.countNodes k
  match miss with
  | [] => s
  | n :: _ => (s.wbit Reg.RNG_FLAGS 1 true).raise 0x0602 0 [unsigned 16 k, n, miss.length]

/-- The bank of snapshot `k` is cleared for filling (R268, R637). -/
def State.clearBank (s : State) (k : Int) : State :=
  (s.setBytes (gctBase k + 0x3400) (List.replicate 16 0)).setMem32 (gctBase k + 0x3410) (BitVec.ofNat 32 (unsigned 16 k))

/-- The lowest node that a test admits. -/
def firstNode (p : Nat → Bool) : Option Nat := (List.range 64).find? p

/-- A drop, else an admission that is due, for a node whose digest equals this device's (R281, R282). -/
def State.freshProposal (s : State) : Option (Nat × Bool) :=
  match firstNode fun n => n != 0 && bitOf s.memb n && decide (s.rf Reg.RNG_MCFG 0 8 ≤ s.ring.absent.at n 0) with
  | some n => some (n, false)
  | none =>
    (firstNode fun n => !bitOf s.memb n && decide (n < s.nodes) && decide (s.rf Reg.RNG_MCFG 8 8 ≤ s.ring.syncs.at n 0) &&
      s.bit (Reg.GLB_DISC n) 6 && decide (s.ring.admAt.at n s.tim.period ≤ s.tim.period)).map fun n => (n, true)

/-- The membership operation of node 0's next frame (R281): one at a time; a drop is repeated until it takes effect, and
nothing is proposed while an admission of the last frame is undecided. -/
def State.proposal (s : State) : Option (Nat × Bool) :=
  if s.node != 0 || !s.active then none
  else match s.ring.lastOp with
    | some (n, joins) =>
      if bitOf s.memb n = joins then s.freshProposal else if joins then none else some (n, false)
    | none => s.freshProposal

/-- Takes the proposal into the next frame; an admission of the node is next due ADM_INT periods later (R281). -/
def State.propose (s : State) : State :=
  let op := s.proposal
  let s := { s with ring.lastOp := op }
  match op with
  | some (n, true) =>
    { s with ring.admAt := Tab.set (fun _ => s.tim.period) s.ring.admAt n (s.tim.period + (s.rf Reg.RNG_MCFG 16 8 : Int)) }
  | _ => s

/-- The frame of the present period is originated (R249): entered in the own snapshot, and sent on the own ring and to
the partner. -/
def State.originate (s : State) (si : Bool) : State :=
  let s := s.propose
  if !s.isOrigin then s
  else
    let p := s.frameBytes si
    let s := if 1 < s.nodes then s.sendFrame false p else s
    let s := s.framePartner { ttl := 0, payload := p }
    if s.node < s.nodes then s.enterEntry s.tim.period s.node p else s

/-! ### The margin (R35) -/

/-- The populated cells of a node, as the image declares them. -/
def State.popOf (s : State) (n : Nat) : Nat := if n = s.node then s.cfg.pop else (s.cfg.stackPop.getD n 0).toNat

/-- The populated cells of group `r` that a node holds. -/
def State.cellsOf (s : State) (r n : Nat) : Nat :=
  ((List.range 24).filter fun c => s.groupOfCell (24 * n + c) == some r && bitOf (s.popOf n) c).length

/-- P − K of group `r` (R34): the populated cells of the string less the largest number held by one cluster. -/
def State.marginLow (s : State) (r : Nat) : Nat :=
  let l := (List.range 64).map (s.cellsOf r)
  l.sum - l.foldl max 0

/-- The available cells of group `r` in snapshot `k`. -/
def State.availableOf (s : State) (k : Int) (r : Nat) : Nat :=
  ((List.range 1536).filter fun g =>
    s.groupOfCell g == some r && s.entryHeld k (g / 24) && bitOf (s.record k g) 52).length

/-- A margin event of group `r` (R35). DESIGN CHOICE: its unit is the group, its data the group and the count of available
cells; its code is a free value. -/
def State.raiseMargin (s : State) (exhausted : Bool) (r n : Nat) : State :=
  s.raise (Config.marginEvent exhausted).toNat r [r, n]

/-- The margin check of an active device from snapshot `k` (R35): an event when a group's count falls below P − K, and one
when it falls below the cells its string needs; with ON_MARGIN the latter originates a stack trip. DESIGN CHOICE: with a
VHV_CELL_MAX of 0 a string needs no cell; a group without STR_GCFG.EN is not judged; and what was low or exhausted when the device
left ACTIVE is no new fall when it returns. -/
def State.checkMargin (s : State) (k : Int) : State :=
  if !s.active then s
  else
    s.each (min 16 s.cfg.margin.length) fun s r =>
      if !s.bit (Reg.STR_GCFG r) 0 then s
      else
        let n := s.availableOf k r
        let (v, cell) := s.cfg.margin.getD r (0, 0)
        let need := if cell = 0 then 0 else (v + cell - 1) / cell
        let out := decide (n < need)
        let low := decide (n < s.marginLow r)
        let wasLow := bitOf s.ring.marginLow r
        let was := bitOf s.ring.marginOut r
        let s := { s with ring.marginLow := withBit s.ring.marginLow r low, ring.marginOut := withBit s.ring.marginOut r out }
        let s := s.doIf (low && !wasLow) fun s => s.raiseMargin false r n
        let s := s.doIf (out && !was) fun s => s.raiseMargin true r n
        if out && !was && s.bit Reg.RNG_TRIPCFG 1 then s.originateTrip 2 else s

/-! ### The boundary -/

/-- A device whose lane is down repeats its ring-state set once per control period (R252). -/
def State.repeatSets (s : State) : State :=
  let lanes := if s.bit Reg.RNG_CFG_L 7 then [0, 1, 6, 7] else [0, 1]
  lanes.foldl (fun s l => if s.laneUp l then s else s.toRing l (.ringState s.node l false)) s

/-- At B_r of a takeover the order and the arm reference in force stand as released, so both continue without a step (R245)
until this device's segments release their own. -/
def State.carryOn (s : State) : State :=
  match s.ring.gov with
  | none => s
  | some g =>
    if !s.warm then s
    else
      let a := g.arms.getD (s.cfg.arm.getD 0) (0, false, false)
      { s with ring.ordOut := some g.ord, ring.armref := some a.1, ring.armsgn := some (wBool a.2.1) }

/-- The ring at the boundary that opens the present period m: decision for snapshot m − 2, close of snapshot m − 1, clear
and fill of snapshot m, frame m, margin and age. -/
def State.ringBoundary (s : State) : State :=
  if !s.cfg.inForce then { s with ring.sets := [] }
  else
    let m := s.tim.period
    let s := { s with ring.toldCrc := false, ring.toldLate := false, ring.sets := [], ring.downMap := s.ring.down }
    let s := s.repeatSets
    if s.ring.fill = some (m - 1) then
      let mem := s.membOf (m - 1)
      let gen := s.mgen
      let s := if s.ring.closed = some (m - 2) then s.govern (m - 2) mem else s
      let s := { s with ring.genPrev := gen }
      let s := s.closeSnapshot (m - 1) mem
      let si := !s.ring.complete
      let s := (s.clearBank m).showGov
      let s := ({ s with ring.fill := some m } : State).carryOn.originate si
      (s.checkMargin (m - 1)).judgeAge
    else
      let s := { s with ring.fill := some m, ring.closed := none, ring.res := none, ring.gov := none
                        ring.genPrev := s.mgen }
      let s := (s.clearBank m).wbit Reg.RNG_STAT 5 false
      (s.showGov.originate false).judgeAge

/-! ### Stack trips -/

/-- STACK_TRIP_RECEIVED (R263 to R265): a set whose third byte does not match is ignored, one held from the past 1 ms is
discarded; otherwise it is forwarded on every other ring lane and to the partner, and takes its effects. -/
def stackTrip (lane d1 d2 d3 : Nat) (s : State) : State :=
  let x := (BitVec.ofNat 8 d1 ^^^ BitVec.ofNat 8 d2 ^^^ 0xa5).toNat
  if d3 != x then s
  else
    let t : TripSet := { node := Fin.ofNat 64 d1, role := bitOf d1 6, cause := Fin.ofNat 16 d2, seq := Fin.ofNat 16 (d2 / 16) }
    let l := s.ring.trips.filter fun p => decide (s.now < p.2 + usTicks 1000)
    let s := { s with ring.trips := l }
    if l.any fun p => p.1.node == t.node && p.1.role == t.role && p.1.seq == t.seq then s
    else
      let s := { s with ring.trips := (t, s.now) :: l }
      ((s.toRing lane (.trip t)).toPartner (.trip t)).latchTrip t false

/-- A cause this device has originated is still present (R266): a cluster fault, an exhausted margin, a stale set. -/
def State.tripCausePresent (s : State) : Option Nat :=
  [1, 2, 4].find? fun c => bitOf s.ring.originated c &&
    (match c with | 1 => s.bit Reg.GPR_PSTAT 0 | 2 => s.ring.marginOut != 0 | _ => s.bit Reg.RNG_STAT 7)

/-- RNG_CTRL.TRIPCLR accepted by its key (R266). -/
def tripClear (s : State) : State :=
  match s.tripCausePresent with
  | some c => (s.wbit Reg.RNG_FLAGS 8 true).raise 0x060e 0 [c]
  | none =>
    if !s.bit Reg.RNG_STAT 8 then s
    else
      let act := s.tripPattern
      let s := ({ s.wbit Reg.RNG_STAT 8 false with ring.originated := 0 } : State).driveTrip 0 false
      if act then s.releasePattern else s

/-! ### Discovery (R570) -/

/-- DISCOVERY_SEND: from READY on both ring lanes, with a hop limit of 63. -/
def discoverySend (s : State) : State :=
  if !s.sys.ready then s
  else
    let d : Disc := { node := Fin.ofNat 64 s.node, role := s.role, state := BitVec.ofNat 4 s.devState, rcd := s.rg Reg.RNG_RCD
                      img := BitVec.ofNat 16 (s.rf Reg.CFG_IMG_ID 0 16), ttl := 63, sender := 0 }
    (s.sendRing 0 (.disc d)).sendRing 1 (.disc d)

/-- A discovery set was received from the node within 5 ms. -/
def State.discSeen (s : State) (n : Nat) : Bool :=
  match s.ring.disc.at n none with
  | some (t, _) => decide (s.now ≤ t + usTicks 5000)
  | none => false

/-- DISCOVERY_RECEIVED (R282, R570): forwarded by its hops and recorded; a second device of the role that reports the same
node is a duplicate, and a device whose digest differs from node 0's says so. -/
def discoveryReceived (lane : Nat) (d : Disc) (s : State) : State :=
  let ttl := min (d.ttl.toNat - 1) 63
  let s := if ttl = 0 then s else s.sendRing (onward lane) (.disc { d with ttl := BitVec.ofNat 8 ttl })
  let n := d.node.val
  let a := Reg.GLB_DISC n
  let dup := d.role == s.role && (n == s.node || (s.discSeen n && (s.ring.disc.at n none).map Prod.snd != some d.sender))
  let was := s.bit a 5
  let s := { s with ring.disc := s.ring.disc.put n none (some (s.now, d.sender)) }
  let s := s.wn a (1 + d.state.toNat * 2 + (was || dup).toNat * 32 + (d.rcd == s.rg Reg.RNG_RCD).toNat * 64 +
    d.img.toNat * 65536)
  let s := if dup && !was then s.raise 0x1007 0 [n, d.role.toNat] else s
  if n = 0 && s.node != 0 && s.cfg.inForce then
    if d.rcd == s.rg Reg.RNG_RCD then { s with ring.toldRcd := false }
    else if s.ring.toldRcd then s
    else ({ s with ring.toldRcd := true } : State).raise 0x060c 0 [s.rn Reg.RNG_RCD, d.rcd.toNat]
  else s

/-! ### Meanings -/

/-- PERIOD_FRAME_RECEIVED. -/
def execPeriodFrameReceived (lane : Lane) (f : Frame) (s : State) : Host.Outcome State Fault Refusal :=
  s.heard lane.val (periodFrame lane.val f)

/-- PARTNER_FRAME_RECEIVED. -/
def execPartnerFrameReceived (lane : Lane) (f : Frame) (s : State) : Host.Outcome State Fault Refusal :=
  s.heard lane.val (partnerFrame lane.val f)

/-- RING_STATE_SET. -/
def execRingStateSet (lane : Lane) (node : Node) (lane' : Lane) (up : Bool) (s : State) : Host.Outcome State Fault Refusal :=
  s.heard lane.val (ringStateSet lane.val node.val lane'.val up)

/-- STACK_TRIP_RECEIVED. -/
def execStackTripReceived (lane : Lane) (d1 d2 d3 : BitVec 8) (s : State) : Host.Outcome State Fault Refusal :=
  s.heard lane.val (stackTrip lane.val d1.toNat d2.toNat d3.toNat)

/-- RNG_TRIP: a keyed write of RNG_CTRL.TRIP. -/
def execRngTrip (src : Src) (s : State) : Host.Outcome State Fault Refusal :=
  s.access fun s => s.keyed src Reg.RNG_CTRL fun s => s.originateTrip 3

/-- RNG_TRIPCLR: a keyed write of RNG_CTRL.TRIPCLR. -/
def execRngTripclr (src : Src) (s : State) : Host.Outcome State Fault Refusal :=
  s.access fun s => s.keyed src Reg.RNG_CTRL tripClear

/-- STRATA_SORT_DONE. -/
def execStrataSortDone (cycles : Nat) (s : State) : Host.Outcome State Fault Refusal := s.main (sortDone cycles)

/-- DISCOVERY_SEND. -/
def execDiscoverySend (s : State) : Host.Outcome State Fault Refusal := s.main discoverySend

/-- DISCOVERY_RECEIVED. -/
def execDiscoveryReceived (lane : Lane) (d : Disc) (s : State) : Host.Outcome State Fault Refusal :=
  s.heard lane.val (discoveryReceived lane.val d)

end Sys2Proof.Machine
end

