-- ==== Sys2Proof/Machine/Dyadic.lean ====
section
/-! DEFINITION. Exact binary rationals, and their rounding to binary64 (R425, R426) and binary32. -/

namespace Sys2Proof

open Sys2Proof.Machine

/-- The sum of two binary rationals. -/
def Dy.add (a b : Dy) : Dy :=
  let e := min a.e b.e
  { m := a.m * 2 ^ (a.e - e).toNat + b.m * 2 ^ (b.e - e).toNat, e }

/-- The product of two binary rationals. -/
def Dy.mul (a b : Dy) : Dy := { m := a.m * b.m, e := a.e + b.e }

/-- The negative of a binary rational. -/
def Dy.neg (a : Dy) : Dy := { a with m := -a.m }

/-- A value lies below zero. -/
def Dy.isNeg (a : Dy) : Bool := decide (a.m < 0)

/-- An integer. -/
def Dy.ofInt (i : Int) : Dy := { m := i, e := 0 }

/-- The value of a binary32; what is no number counts as zero. -/
def Dy.ofF32 (w : Word) : Dy :=
  match Fl.ofWord w with
  | .fin s m e => { m := if s then -(m : Int) else m, e }
  | _ => {}

/-- (i / den) × 2^e rounded to `p` significant bits, to nearest, ties to even. -/
def Machine.dyRound (p : Nat) (i : Int) (den : Nat) (e : Int) : Dy :=
  if i = 0 then {}
  else
    let x := log2Rat i.natAbs den + e - ((p : Int) - 1)
    let d := e - x
    let m := roundEven (i.natAbs * 2 ^ d.toNat) (den * 2 ^ (-d).toNat)
    { m := if i < 0 then -(m : Int) else m, e := x }

/-- A value rounded to binary64. -/
def Dy.f64 (a : Dy) : Dy := dyRound 53 a.m 1 a.e

/-- A value as binary32. -/
def Dy.f32 (a : Dy) : Word := roundInt a.m a.e

/-- The magnitude of a value in units of 2^u, to nearest, ties to even. -/
def Dy.units (a : Dy) (u : Int) : Nat :=
  let d := a.e - u
  roundEven (a.m.natAbs * 2 ^ d.toNat) (2 ^ (-d).toNat)

/-- A quotient as binary32; a zero divisor gives zero. -/
def Machine.dyDiv (a b : Dy) : Word :=
  if b.m = 0 then 0
  else roundF (decide (a.m < 0) != decide (b.m < 0)) a.m.natAbs b.m.natAbs (a.e - b.e)

/-- A quotient rounded to binary64; a zero divisor gives zero. -/
def Machine.dyDiv64 (a b : Dy) : Dy :=
  if b.m = 0 then {} else dyRound 53 (if b.m < 0 then -a.m else a.m) b.m.natAbs (a.e - b.e)

/-- The comparison of two binary rationals. -/
def Dy.le (a b : Dy) : Bool := decide ((a.add b.neg).m ≤ 0)

/-- The integer part of a quotient of positive values. -/
def Machine.dyFloor (a b : Dy) : Nat :=
  let e := a.e - b.e
  a.m.natAbs * 2 ^ e.toNat / (b.m.natAbs * 2 ^ (-e).toNat)

/-- The square root of a nonnegative quotient as binary32; a zero divisor gives zero. -/
def Machine.dySqrtDiv (a b : Dy) : Word :=
  if b.m = 0 ∨ a.m ≤ 0 ∨ b.m < 0 then 0
  else
    let e := a.e - b.e
    let (num, e) := if e % 2 = 0 then (a.m.natAbs, e) else (2 * a.m.natAbs, e - 1)
    let den := b.m.natAbs
    let j := 40 + Nat.log2 den
    let v := num * 2 ^ (2 * j) / den
    let r := isqrt v (Nat.log2 v / 2 + 1) 0
    roundF false (2 * r + (if r * r * den = num * 2 ^ (2 * j) then 0 else 1)) 1 (e / 2 - j - 1)

end Sys2Proof
end

