-- ==== Sys2Proof/Machine/Metering.lean ====
section
/-! DEFINITION. Metering and energy accounting (chapter 15, R423 to R448). -/

namespace Sys2Proof.Machine

/-! ### State of pulses -/

/-- Pulse output `n`. -/
def State.mpo (s : State) (n : Nat) : Mpo := s.mtr.mpo.at n {}

/-- Sets it, and shows its backlog. -/
def State.setMpo (s : State) (n : Nat) (p : Mpo) : State :=
  { s with mtr.mpo := s.mtr.mpo.put n {} p }.wf (Reg.MTR_MPO_BKLG n) 0 16 p.backlog

/-- Pulse input `n`. -/
def State.mpi (s : State) (n : Nat) : Mpi := s.mtr.mpi.at n {}

/-- Sets it. -/
def State.setMpi (s : State) (n : Nat) (p : Mpi) : State := { s with mtr.mpi := s.mtr.mpi.put n {} p }

/-- MTR_STAT[3:0]: points enabled. -/
def State.showMtr (s : State) : State := s.each 4 fun s k => s.wbit Reg.MTR_STAT k (s.bit (Reg.MTR_PCFG k) 0)

/-- The range of EIMP and EEXP with their fraction, in units of 2⁻⁴⁰ J. -/
def energyRange : Nat := 2 ^ 96

/-- TS32 of an instant in 50 ps units. -/
def ts32At (t : Nat) : Nat := t / 20 % 4294967296

/-! ### Sources (R423, R424) -/

/-- The pairs of a point. -/
def State.pairsOf (s : State) (k : Nat) : Nat := min (s.rf (Reg.MTR_PCFG k) 3 2 + 1) 3

/-- The voltage and current codes of pair `p` of point `k`. -/
def State.codes (s : State) (k p : Nat) : Int × Int :=
  let src := s.rf (Reg.MTR_PCFG k) (8 + 8 * p) 8
  let cur := s.rf (Reg.MTR_ISRC k) (8 * p) 8
  if s.bit (Reg.MTR_PCFG k) 2 then
    (signed 24 (s.rf (Reg.SDM_RES (src % 128)) 0 24), signed 24 (s.rf (Reg.SDM_RES (cur % 128)) 0 24))
  else
    (signed 16 (s.rf (Reg.ADC_RES (src / 16 % 8) (src % 16)) 0 16), signed 16 (s.rf (Reg.ADC_RES (cur % 8) (src % 16)) 0 16))

/-- The inputs of pair `p` are valid: VALID of both channels, or neither converter cut out by calibration. -/
def State.codesOk (s : State) (k p : Nat) : Bool :=
  let src := s.rf (Reg.MTR_PCFG k) (8 + 8 * p) 8
  let cur := s.rf (Reg.MTR_ISRC k) (8 * p) 8
  if s.bit (Reg.MTR_PCFG k) 2 then s.bit (Reg.SDM_RES (src % 128)) 24 && s.bit (Reg.SDM_RES (cur % 128)) 24
  else !s.calibrating (src / 16 % 8) && !s.calibrating (cur % 8)

/-- The instant t_n of a sample of point `k` (R424) from the stack time `t` of its trigger tick, in ADC mode: the sample offset
follows it; in SD mode from that of the completion tick: 2 ticks and the group delay of 3 × (OSR3 − 1) / 2 bits precede it.
DEDUCED: ticks of 3.2 ns, bits at the measured rate of the channel; fractions of 50 ps are dropped. -/
def State.meterInstant (s : State) (k t : Nat) : Nat :=
  let src := s.rf (Reg.MTR_PCFG k) 8 8
  let cur := s.rf (Reg.MTR_ISRC k) 0 8 % 128
  if s.bit (Reg.MTR_PCFG k) 2 then
    t - 128 - 3 * (s.rf (Reg.SDM_CFG cur) 8 9 - 1) * 10000000 / s.rf (Reg.SDM_RATE cur) 0 16
  else t + 64 * s.meas.offset.at (32 * (src / 16 % 8) + src % 16) 0

/-- The power of pair `p` in binary64 (R425). -/
def State.pairPower (s : State) (k p : Nat) : Dy :=
  let (v, i) := s.codes k p
  ((Dy.ofF32 (s.rg (Reg.MTR_PSC_L k p))).mul (Dy.ofInt (v * i))).f64

/-- The point power (R425): every operation in binary64. -/
def State.pointPower (s : State) (k : Nat) : Dy :=
  (List.range (s.pairsOf k)).foldl (fun a p => if p = 0 then s.pairPower k 0 else (a.add (s.pairPower k p)).f64) {}

/-- An interval of 50 ps units in seconds, as binary64. -/
def seconds (dt : Nat) : Dy := dyRound 53 dt 20000000000 0

/-! ### Energy (R426, R427) and pulses (R437, R438) -/

/-- The width of the next pulse in 50 ps units (R437). -/
def State.mpoWidth (s : State) (n : Nat) (p : Mpo) : Nat :=
  let wid := s.rf (Reg.MTR_MPO_CFG n) 8 8 * 20000000
  match p.tdue with
  | none => wid
  | some t => min (max (t / 2) 10000000) wid

/-- Drives MPO[n] to its active or inactive level. -/
def State.driveMpo (s : State) (n : Nat) (on : Bool) : State :=
  { s with mtr.mpoOut := s.mtr.mpoOut.put n false on }.emit (.pin (.mpo n) (on != s.bit (Reg.MTR_MPO_CFG n) 4))

/-- Starts the next pulse of an enabled output if the backlog holds one and none is in progress. -/
def State.mpoStart (s : State) (n : Nat) : State :=
  let p := s.mpo n
  if p.pulse.isSome || p.backlog = 0 || !s.bit (Reg.MTR_MPO_CFG n) 0 then s
  else
    (s.setMpo n { p with backlog := p.backlog - 1, count := (p.count + 1) % 4294967296
                         pulse := some (s.mpoWidth n p, true) }).driveMpo n true

/-- `m` pulses fall due at an instant (R437, R438). -/
def State.mpoDue (s : State) (n m t : Nat) : State :=
  if m = 0 then s
  else
    let p := s.mpo n
    let tdue := if 2 ≤ m then some 0 else p.due.map fun d => t - d
    let lost := p.backlog + m - 65535
    let s := s.setMpo n { p with backlog := min (p.backlog + m) 65535, due := some t, tdue }
    let s := if lost = 0 then s
      else
        let told := s.bit (Reg.MTR_MPO_BKLG n) 16
        let s := ((s.satAdd (Reg.MTR_MPO_LOST n) 0 32 lost).wbit (Reg.MTR_MPO_BKLG n) 16 true).wbit Reg.MTR_FLAGS 2 true
        if told then s else s.raise 0x0b02 n [n]
    s.mpoStart n

/-- The pulse outputs that follow a register of point `k` advance by `u` units of 2⁻⁴⁰ J. -/
def State.mpoAdvance (s : State) (k : Nat) (exp : Bool) (u t : Nat) : State :=
  s.each 4 fun s n =>
    let cfg := Reg.MTR_MPO_CFG n
    if s.bit cfg 0 && s.rf cfg 1 2 == k && s.bit cfg 3 == exp then
      let w := s.rn (Reg.MTR_MPO_W n) * 2 ^ 40
      if w = 0 then s
      else
        let p := s.mpo n
        let a := p.acc + u
        (s.setMpo n { p with acc := a % w }).mpoDue n (a / w) t
    else s

/-- MPO_PULSE_END (R437): a pulse ends and its low interval begins, or that interval ends and the next pulse starts. -/
def mpoPulseEnd (n : Nat) (s : State) : State :=
  let p := s.mpo n
  match p.pulse with
  | none => s
  | some (w, true) => (s.setMpo n { p with pulse := some (w, false) }).driveMpo n false
  | some (_, false) => (s.setMpo n { p with pulse := none }).mpoStart n

/-- Adds energy to a point by the sign of the power (R426, R427). -/
def addEnergy (p : MtrPoint) (exp : Bool) (u : Nat) : MtrPoint :=
  if exp then
    { p with eexp := (p.eexp + u) % energyRange, wrapE := (p.wrapE + (p.eexp + u) / energyRange) % 65536
             iexp := (p.iexp + u) % energyRange }
  else
    { p with eimp := (p.eimp + u) % energyRange, wrapI := (p.wrapI + (p.eimp + u) / energyRange) % 65536
             iimp := (p.iimp + u) % energyRange }

/-! ### Reversals (R430) -/

/-- A nonzero sample of sign `sg` at `t`: the sign is tracked, and a confirmed reversal recorded. DEDUCED: the first sign too is
confirmed by REV_N consecutive samples. -/
def State.trackSign (s : State) (k : Nat) (sg : Int) (t : Nat) : State :=
  let p := s.point k
  if sg = p.sign then s.setPoint k { p with run := 0 }
  else
    let run := if sg = p.runSign then p.run + 1 else 1
    let p := { p with run, runSign := sg, runAt := if run = 1 then t else p.runAt }
    if p.run < s.rf (Reg.MTR_REV k) 0 16 then s.setPoint k p
    else if p.sign = 0 then s.setPoint k { p with sign := sg, run := 0 }
    else
      let ts := BitVec.ofNat 32 (ts32At p.runAt)
      let p := { p with sign := sg, run := 0, revs := p.revs + 1, revTs := ts, lastRev := ts
                        firstRev := if p.revs = 0 then ts else p.firstRev }
      ((s.setPoint k p).wbit Reg.MTR_FLAGS 6 true).raise 0x0b10 k [k, unsigned 32 sg, ts.toNat]

/-! ### DC and AC quantities (R431 to R434) -/

/-- A detector takes the next sample (R432): x at `t`, `dt` after the last one; answers a crossing in units of
50 ps × 2⁻³². -/
def Cross.next (c : Cross) (hys : Dy) (x : Dy) (t dt : Nat) : Cross × Option Int :=
  let armed := c.armed || (x.add hys).isNeg
  if armed && !x.isNeg then
    let d := x.add c.x.neg
    let e := min d.e c.x.e
    let num := -(c.x.m * 2 ^ (c.x.e - e).toNat)
    let den := d.m * 2 ^ (d.e - e).toNat
    let at' := ((t : Int) - dt) * 4294967296 + (if den ≤ 0 then 0 else dt * 4294967296 * num / den)
    ({ x, armed := false, at' := some at' }, some at')
  else ({ c with x, armed }, none)

/-- 360° × d / T as F32. -/
def angle (d len : Int) : Word := if len ≤ 0 then 0 else roundF (decide (d < 0)) (360 * d.natAbs) len.toNat 0

/-- A V–I angle brought into (−180°, +180°] (R433). -/
def angleVI (d len : Int) : Word :=
  let d := if len = 0 then d else d % len
  angle (if len < 2 * d then d - len else d) len

/-- A voltage crossing of a pair at `x` (R432, R433): it ends a line cycle, and the angle of the next current crossing counts from
it. `t0` is the last voltage crossing of pair 0, `len0` the length of its last cycle. -/
def voltageCross (q : MtrPair) (first : Bool) (t0 : Option Int) (len0 x : Int) : MtrPair :=
  match q.v.at' with
  | none => { q with v.at' := some x, cvv := {}, cii := {}, cdt := 0, seek := true }
  | some x0 =>
    let len := x - x0
    let vr := Dy.ofF32 (dySqrtDiv q.cvv (Dy.ofInt q.cdt))
    let ir := Dy.ofF32 (dySqrtDiv q.cii (Dy.ofInt q.cdt))
    let q := { q with v.at' := some x, cvv := {}, cii := {}, cdt := 0, cycles := q.cycles + 1, rv := q.rv.add vr
                      ri := q.ri.add ir, len := q.len + len, last := len, seek := true }
    match t0 with
    | some y => if first || decide (len0 ≤ 0) then q
      else { q with pp := q.pp.add (Dy.ofF32 (angle ((x - y) % len0) len0)), npp := q.npp + 1 }
    | none => q

/-- A current crossing of a pair at `x` (R433): the first one behind a voltage crossing gives an angle. -/
def currentCross (q : MtrPair) (x : Int) : MtrPair :=
  match q.v.at' with
  | some y =>
    if q.seek && decide (0 < q.last) then
      { q with vi := q.vi.add (Dy.ofF32 (angleVI (x - y) q.last)), nvi := q.nvi + 1, seek := false }
    else { q with seek := false }
  | none => q

/-- One sample of a pair: window sums, and the crossings of voltage and current in the order of their instants. -/
def pairSample (q : MtrPair) (first : Bool) (v i p hys : Dy) (t dt : Nat) (t0 : Option Int) (len0 : Int) : MtrPair :=
  let d := Dy.ofInt dt
  let q := { q with sv := q.sv.add (v.mul d), si := q.si.add (i.mul d), svv := q.svv.add ((v.mul v).mul d)
                    sii := q.sii.add ((i.mul i).mul d), sp := q.sp.add (p.mul d) }
  let (cv, xv) := q.v.next hys v t dt
  let (ci, xi) := q.i.next hys i t dt
  let q := { q with v := { cv with at' := q.v.at' }, i := ci }
  let q := match xv, xi with
    | none, none => q
    | some x, none => voltageCross q first t0 len0 x
    | none, some y => currentCross q y
    | some x, some y =>
      if x ≤ y then currentCross (voltageCross q first t0 len0 x) y else voltageCross (currentCross q y) first t0 len0 x
  { q with cvv := q.cvv.add ((v.mul v).mul d), cii := q.cii.add ((i.mul i).mul d), cdt := q.cdt + dt }

/-- A sample of point `k` enters the quantities of its pairs. -/
def State.quantities (s : State) (k t dt : Nat) : State :=
  let p := s.point k
  let hys := Dy.ofF32 (s.rg (Reg.MTR_ZCHYS k))
  let one (q0 : MtrPair) (j : Nat) : MtrPair :=
    let (v, i) := s.codes k j
    let vx := (Dy.ofF32 (s.rg (Reg.MTR_VSC_L k j))).mul (Dy.ofInt v)
    let ix := (Dy.ofF32 (s.rg (Reg.MTR_ISC_L k j))).mul (Dy.ofInt i)
    pairSample (p.pairs.getD j {}) (j == 0) vx ix (s.pairPower k j) hys t dt q0.v.at' q0.last
  let q0 := one {} 0
  let crossed := q0.v.at' != ((p.pairs.getD 0 {}).v.at')
  let pairs := [q0, if 1 < s.pairsOf k then one q0 1 else {}, if 2 < s.pairsOf k then one q0 2 else {}]
  let s := s.setPoint k { p with pairs, dt := p.dt + dt, absent := p.absent && !crossed }
  if crossed then s.wbit Reg.MTR_STAT (4 + k) true else s

/-- The mean of `n` values as F32; that of none, quantity `i`, is free. -/
def State.dyMean (s : State) (i : Nat) (a : Dy) (n : Nat) : Word :=
  if n = 0 then Config.meanOfNone s.free i else dyDiv a (Dy.ofInt n)

/-- A time-weighted mean, and the root of one, over `d` units of time; over none, quantity `i`, it is free. -/
def State.timeMean (s : State) (i : Nat) (a : Dy) (d : Nat) : Word :=
  if d = 0 then Config.meanOfNone s.free i else dyDiv a (Dy.ofInt d)
def State.timeRms (s : State) (i : Nat) (a : Dy) (d : Nat) : Word :=
  if d = 0 then Config.meanOfNone s.free i else dySqrtDiv a (Dy.ofInt d)

/-- The results of pair `j` at a window end (R431 to R433): P and, in AC mode, S. -/
def State.pairResults (s : State) (k j : Nat) (p : MtrPoint) : State × Word × Word :=
  let q := p.pairs.getD j {}
  let d := p.dt
  let ac := s.bit (Reg.MTR_PCFG k) 1
  let line := ac && !p.absent
  let i := 8 * j
  let vr := if line then s.dyMean i q.rv q.cycles else s.timeRms i q.svv d
  let ir := if line then s.dyMean (i + 1) q.ri q.cycles else s.timeRms (i + 1) q.sii d
  let pw := s.timeMean (i + 2) q.sp d
  let s := (((s.wr (Reg.MTR_VMEAN k j) (s.timeMean (i + 3) q.sv d)).wr (Reg.MTR_IMEAN k j) (s.timeMean (i + 4) q.si d)).wr
      (Reg.MTR_VRMS k j) vr).wr
    (Reg.MTR_IRMS k j) ir |>.wr (Reg.MTR_P k j) pw
  if !ac then (s, pw, 0)
  else
    let sp := fMul vr ir
    let s := s.wr (Reg.MTR_PF k j) (if fld sp 0 31 = 0 then 0 else fDiv pw sp)
    let s := s.wr (Reg.MTR_VI_ANG k j) (if p.absent then 0 else s.dyMean (i + 5) q.vi q.nvi)
    (s.wr (Reg.MTR_PP_ANG k j) (if p.absent || j == 0 then 0 else s.dyMean (i + 6) q.pp q.npp), pw, sp)

/-- A pair begins the next window: its detectors and its line cycle go on. -/
def nextWindow (q : MtrPair) : MtrPair :=
  { v := q.v, i := q.i, cvv := q.cvv, cii := q.cii, cdt := q.cdt, last := q.last, seek := q.seek }

/-- REPORT_WINDOW_END (R431): all results of the point update together. DESIGN CHOICE: a window in which pair 0 has completed no
cycle shows FREQ_V clear, and one without an angle ANG_V. -/
def windowResults (k : Nat) (s : State) : State :=
  if !s.bit (Reg.MTR_PCFG k) 0 then s
  else
    let p := s.point k
    let ac := s.bit (Reg.MTR_PCFG k) 1
    let (s, ps, ss) := (List.range (s.pairsOf k)).foldl (fun (x : State × Word × Word) j =>
      let r := x.1.pairResults k j p
      (r.1, fAdd x.2.1 r.2.1, fAdd x.2.2 r.2.2)) (s, 0, 0)
    let q0 := p.pairs.getD 0 {}
    let freq := ac && !p.absent && decide (0 < q0.cycles)
    let s := s.wr (Reg.MTR_PTOT k) ps
    let s := if ac then (s.wr (Reg.MTR_STOT k) ss).wr (Reg.MTR_PFTOT k) (if fld ss 0 31 = 0 then 0 else fDiv ps ss) else s
    let s := s.wr (Reg.MTR_FREQ k) (if freq then roundF false (q0.cycles * 20000000000) q0.len.toNat 32
      else if ac && !p.absent then Config.meanOfNone s.free 24 else 0)
    let s := s.wn (Reg.MTR_QSTAT k) (freq.toNat + (freq && decide (0 < q0.nvi)).toNat * 2 + 4)
    s.draw.setPoint k { p with pairs := p.pairs.map nextWindow, dt := 0 }

/-- ZERO_CROSSING_ABSENT (R434). -/
def crossingAbsent (k : Nat) (s : State) : State :=
  let p := s.point k
  if p.absent || !s.bit (Reg.MTR_PCFG k) 0 || !s.bit (Reg.MTR_PCFG k) 1 then s
  else
    let s := s.setPoint k { p with absent := true }
    let s := ((s.wbit Reg.MTR_STAT (4 + k) false).wr (Reg.MTR_FREQ k) 0).wf (Reg.MTR_QSTAT k) 0 2 0
    (s.wbit Reg.MTR_FLAGS 1 true).raise 0x0b01 k [k]

/-! ### Samples -/

/-- The latched copies of a point's registers (R444). -/
def State.latchPoint (s : State) (k : Nat) (ts : Word) : State :=
  let p := s.point k
  let put (s : State) (lo hi v : Nat) : State := (s.wn lo (v / 2 ^ 32)).wn hi (v / 2 ^ 64)
  let s := put s (Reg.MTR_EIMP_LO k) (Reg.MTR_EIMP_HI k) p.eimp
  let s := put s (Reg.MTR_EEXP_LO k) (Reg.MTR_EEXP_HI k) p.eexp
  let s := put s (Reg.MTR_IIMP_LO k) (Reg.MTR_IIMP_HI k) p.iimp
  let s := put s (Reg.MTR_IEXP_LO k) (Reg.MTR_IEXP_HI k) p.iexp
  let s := ((s.wn (Reg.MTR_EWRAP k) (p.wrapI + p.wrapE * 65536)).wn (Reg.MTR_REVCNT k) p.revs).wr (Reg.MTR_REV_TS k) p.revTs
  let s := s.wr (Reg.MTR_SNAP_TS k) ts
  let s := s.each 4 fun s n =>
    let s := if s.rf (Reg.MTR_MPO_CFG n) 1 2 = k then s.wn (Reg.MTR_MPO_CNT n) (s.mpo n).count else s
    if s.rf (Reg.MTR_MPI_CFG n) 2 2 = k then s.wn (Reg.MTR_MPI_CNT n) (s.mpi n).count else s
  s.setPoint k { p with snap := false }

/-- A valid sample of point `k` at instant `t` (R424 to R430). -/
def State.takeSample (s : State) (k t : Nat) : State :=
  let p := s.point k
  let dt := match p.last with
    | some t0 => t - t0
    | none => 0
  let s := s.setPoint k { p with last := some t }
  let pw := s.pointPower k
  let u := ((pw.mul (seconds dt)).f64).units (-40)
  let s := s.quantities k t dt
  if pw.m = 0 then s
  else
    let exp := pw.isNeg
    let s := s.setPoint k (addEnergy (s.point k) exp u)
    (s.mpoAdvance k exp u t).trackSign k (if exp then -1 else 1) t

/-- The interval of point `k` that is open ends, and the one that begins at stack second `next` opens (R429): the record on HQ2,
its flags and reversals start anew. -/
def State.closeInterval (s : State) (k next : Nat) : State :=
  let p := s.point k
  let start := p.ivl.getD (next - s.rf (Reg.MTR_PWIN k) 0 12)
  let two (v : Nat) : List Nat := [v / 2 ^ 32, v / 2 ^ 64]
  let s := s.report 2 0x0b20 k ([k, start, start / 4294967296] ++ two p.iimp ++ two p.iexp ++ two p.eimp ++ two p.eexp ++
    [p.wrapI, p.wrapE, p.revs, p.firstRev.toNat, p.lastRev.toNat, p.gap.toNat + p.restored.toNat * 2 + p.chk.toNat * 4])
  s.setPoint k { p with iimp := 0, iexp := 0, revs := 0, firstRev := 0, lastRev := 0
                        gap := false, restored := false, chk := false, ivl := some next, due := false }

/-- The stack second at which the interval of an instant in seconds begins. -/
def State.intervalAt (s : State) (k sec : Nat) : Nat :=
  let int := s.rf (Reg.MTR_PWIN k) 0 12
  if int = 0 then 0 else sec / int * int

/-- The interval that contains the instant `t` is open (R429, R445): a sample behind the end of the open one closes it. -/
def State.openInterval (s : State) (k t : Nat) : State :=
  let b := s.intervalAt k (t / 20000000000)
  match (s.point k).ivl with
  | none => if (s.point k).due then s.closeInterval k b else s.setPoint k { s.point k with ivl := some b }
  | some i => if i < b then s.closeInterval k b else s

/-- The live scales of point `k` at the given values. -/
def State.setScales (s : State) (k : Nat) (l : List Word) : State :=
  ((s.membersOf 7 k).zip l).foldl (fun s x => s.wr x.1.2 x.2) s

/-- The scales that were live at the instant `t`, where a commit has replaced them since (R425, R445): those of the oldest commit
that `t` does not follow. -/
def State.oldScales (s : State) (k t : Nat) : Option (List Word) :=
  ((s.point k).scales.find? fun x => decide (t ≤ x.1)).map Prod.snd

/-- A valid sample with the scales that were live at its instant. -/
def State.scaledSample (s : State) (k t : Nat) : State :=
  match s.oldScales k t with
  | none => s.takeSample k t
  | some l => ((s.setScales k l).takeSample k t).setScales k ((s.membersOf 7 k).map fun p => s.rg p.2)

/-- METER_SAMPLE (R424 to R426, R429, R444, R445): a sample of point `k`; `at'` is the stack time, in 50 ps units, of the tick its
instant is counted from. It belongs to the interval that contains the instant, and the scales committed for the point apply
from the first sample whose instant follows. -/
def meterSample (k at' : Nat) (s : State) : State :=
  if !s.bit (Reg.MTR_PCFG k) 0 then s
  else
    let t := s.meterInstant k at'
    let ok := (List.range (s.pairsOf k)).all (s.codesOk k)
    let s := s.openInterval k t
    let s := s.setPoint k { s.point k with scales := (s.point k).scales.filter fun x => decide (t ≤ x.1) }
    let s := if ok then s.scaledSample k t
      else (s.setPoint k { s.point k with gap := true }).wbit Reg.MTR_FLAGS 0 true
    let s := if (s.point k).snap then s.latchPoint k (BitVec.ofNat 32 (ts32At t)) else s
    s.commitPoint 7 k

/-- A sample of point `k` whose instant has passed may still come: one of SD channels behind their group delay, one of converters
of which a member has sampled its step and not completed it. -/
def State.sampleDue (s : State) (k : Nat) : Bool :=
  s.bit (Reg.MTR_PCFG k) 2 || (List.range (s.pairsOf k)).any fun p =>
    let src := s.rf (Reg.MTR_PCFG k) (8 + 8 * p) 8
    (s.meas.conv.at (src / 16 % 8) {}).reg.any fun j => j.slot == src % 16 && j.sampled.isSome

/-- METER_INTERVAL_END (R429): an interval ends at a multiple of INT. Its record is written at once, or, where a sample that
belongs to it may still come, with the first sample of the next interval, and at that interval's end at the latest (DESIGN
CHOICE). -/
def intervalEnd (k : Nat) (s : State) : State :=
  let p := s.point k
  let b := s.intervalAt k s.tim.s
  if !s.bit (Reg.MTR_PCFG k) 0 || p.ivl.any (fun i => decide (b ≤ i)) then s
  else
    let s := if p.due then s.closeInterval k (b - s.rf (Reg.MTR_PWIN k) 0 12) else s
    if s.sampleDue k then s.setPoint k { s.point k with due := true } else s.closeInterval k b

/-! ### MF link quantities (R435, R436) -/

/-- The physical scale that ROUTE gives a channel. -/
def State.scaleOf (s : State) (ch : Nat) : Dy :=
  match s.cfg.routes.findSome? fun r => match r.src with | .sd c w => if c.val = ch then some w else none | _ => none with
  | some w => Dy.ofF32 w
  | none => {}

/-- The sums of an MF period: Σ i²Δt, Σ v²Δt, Σ s²Δt, Σ v s i Δt. -/
def mfSums (sv si : Dy) (l : List MfSample) : Dy × Dy × Dy × Dy :=
  l.foldl (fun a x =>
    let d := Dy.ofInt x.dt
    let v := sv.mul (Dy.ofInt x.vhv)
    let i := si.mul (Dy.ofInt x.imf)
    let b := Dy.ofInt ((x.bridge.val : Int) - 1)
    (a.1.add ((i.mul i).mul d), a.2.1.add ((v.mul v).mul d), a.2.2.1.add ((b.mul b).mul d),
     a.2.2.2.add (((v.mul b).mul i).mul d))) ({}, {}, {}, {})

/-- The positive-going IMF crossings of a period (R436) from instant `t` on, and the detector behind them. -/
def mfCrossings (si hys : Dy) : Cross → Nat → List MfSample → Cross × List Int
  | c, _, [] => (c, [])
  | c, t, x :: xs =>
    let (c, z) := c.next hys (si.mul (Dy.ofInt x.imf)) (t + x.dt) x.dt
    let (e, l) := mfCrossings si hys c (t + x.dt) xs
    (e, z.toList ++ l)

/-- The interval between the last two of a list of instants. -/
def lastGap : Option Int → List Int → Option Int
  | _, [] => none
  | a, [b] => a.map fun a => b - a
  | _, a :: b :: l => lastGap (some a) (b :: l)

/-- The sums of one MF period for the capacitor of a side (R543): quotients rounded to binary64, sums exact, every
sample with equal weight, Q counted from the beginning of the period. -/
def fitPeriod (sv si : Dy) (lv : Bool) (l : List MfSample) (f : CapFit) : CapFit :=
  let d := Dy.ofInt (l.map MfSample.dt).sum
  let ib (x : MfSample) : Dy :=
    (si.mul (Dy.ofInt x.imf)).mul (Dy.ofInt (((if lv then x.bridgeLv else x.bridge).val : Int) - 1))
  let v (x : MfSample) : Dy := sv.mul (Dy.ofInt (if lv then x.vlv else x.vhv))
  let mean (g : MfSample → Dy) : Dy := dyDiv64 (l.foldl (fun a x => a.add ((g x).mul (Dy.ofInt x.dt))) {}) d
  let bi := mean ib
  let bv := mean v
  (l.foldl (fun (a : CapFit × Dy) x =>
    let ic := bi.add (ib x).neg
    let q := a.2.add (ic.mul (Dy.ofInt x.dt))
    let dv := (v x).add bv.neg
    ({ qq := a.1.qq.add (q.mul q), qi := a.1.qi.add (q.mul ic), ii := a.1.ii.add (ic.mul ic),
       vq := a.1.vq.add (dv.mul q), vi := a.1.vi.add (dv.mul ic) }, q)) (f, {})).1

/-- Adds an MF period to the window of capacitor `j` (R543): only on an ACTIVE device, while the cell switches and its
IMF RMS is at least IMIN. -/
def State.fitCap (s : State) (j : Nat) (imf : Word) (l : List MfSample) : State :=
  let c := j / 2
  let lv := j % 2 == 1
  match s.cfg.wear with
  | none => s
  | some w =>
    if s.bit (Reg.THW_CAP_STAT j) 1 && s.pairState == 3 && !s.cellFs c && fLe w.imin imf &&
        ((s.pair (4 * c + 2 * (j % 2))).started || (s.pair (4 * c + 2 * (j % 2) + 1)).started) then
      let f := fitPeriod (s.scaleOf (3 * c + j % 2)) (s.scaleOf (3 * c + 2)) lv l (s.thw.fit.at j {})
      { s with thw.fit := s.thw.fit.put j {} f }
    else s

/-- MF_PERIOD_END (R435): the period of cell `c` that began at `start` with the samples taken in it. A cell whose IMF
channel lacks VALID reports its last values. -/
def mfPeriod (c start : Nat) (l : List MfSample) (s : State) : State :=
  if !s.populated c then s
  else if !s.bit (Reg.SDM_RES (3 * c + 2)) 24 then s.wbit (Reg.MTR_CSTAT c) 0 false
  else
    let si := s.scaleOf (3 * c + 2)
    let t := (l.map MfSample.dt).sum
    let (ii, vv, bb, vbi) := mfSums (s.scaleOf (3 * c)) si l
    let imf := s.timeRms 25 ii t
    let pl := s.timeMean 26 vbi t
    let s := (s.fitCap (2 * c) imf l).fitCap (2 * c + 1) imf l
    let old := s.mtr.mf.at c {}
    let (det, zs) := mfCrossings si (Dy.ofF32 (s.rg Reg.MTR_ZCHYS_MF)) old start l
    let s := (s.wr (Reg.MTR_CIMF c) imf).wr (Reg.MTR_CPLINK c) pl
    let den := fMul (fMul (s.timeRms 27 vv t) (s.timeRms 28 bb t)) imf
    let s := s.wr (Reg.MTR_CLPF c) (if fld den 0 31 = 0 then Config.meanOfNone s.free 29 else fDiv pl den)
    let s := match lastGap old.at' zs with
      | some g => s.wr (Reg.MTR_CFMF c) (if g ≤ 0 then 0 else roundF false 20000000000 g.toNat 32)
      | none => s
    let s := match zs.find? fun z => decide ((start : Int) * 4294967296 ≤ z) with
      | some z => s.wr (Reg.MTR_CZVS c) (angle (z - start * 4294967296) (t * 4294967296))
      | none => s
    ({ s with mtr.mf := s.mtr.mf.put c {} det } : State).draw.wbit (Reg.MTR_CSTAT c) 0 true

/-! ### Pulse inputs (R439, R440) -/

/-- MPI_TRANSITION (R439): an accepted transition counts at the active level. -/
def mpiTransition (n : Nat) (level : Bool) (s : State) : State :=
  let cfg := Reg.MTR_MPI_CFG n
  if s.bit cfg 0 && level != s.bit cfg 1 then
    s.setMpi n { s.mpi n with count := ((s.mpi n).count + 1) % 4294967296 }
  else s

/-- The energy register a pulse input is compared with, in units of 2⁻⁸ J. -/
def State.mpiEnergy (s : State) (n : Nat) : Nat :=
  let p := s.point (s.rf (Reg.MTR_MPI_CFG n) 2 2)
  (if s.bit (Reg.MTR_MPI_CFG n) 4 then p.eexp else p.eimp) / 2 ^ 32

/-- CHECK_WINDOW_END (R440). -/
def checkWindow (n : Nat) (s : State) : State :=
  if !s.bit (Reg.MTR_MPI_CFG n) 5 then s
  else
    let p := s.mpi n
    let now := s.mpiEnergy n
    let w := s.rn (Reg.MTR_MPI_W n)
    let ext : Nat := (p.count + 4294967296 - p.base) % 4294967296 * w
    let int : Nat := (now + 2 ^ 64 - p.baseE) % 2 ^ 64
    let s := s.setMpi n { p with base := p.count, baseE := now, full := true, skip := false }
    let dev : Int := 256 * (ext : Int) - (int : Int)
    let s := s.wr (Reg.MTR_MPI_DEV n) (roundInt dev (-8))
    if !p.skip && decide (10000 * 256 * 2 * w + s.rf (Reg.MTR_MPI_CHK n) 16 14 * int < 10000 * dev.natAbs) then
      let k := s.rf (Reg.MTR_MPI_CFG n) 2 2
      ((s.setPoint k { s.point k with chk := true }).wbit Reg.MTR_FLAGS 3 true).raise 0x0b03 n
        [n, (fOfNat ext).toNat, (roundInt int (-8)).toNat]
    else s

/-! ### Saving and restoring (R441 to R443) -/

/-- The 256 bytes of a save record (R442). -/
def State.saveRecord (s : State) (seq : Nat) : List Byte :=
  let point (k : Nat) : List Byte :=
    let p := s.point k
    leBytes (p.eimp / 2 ^ 32) 8 ++ leBytes (p.eexp / 2 ^ 32) 8 ++ leBytes p.wrapI 2 ++ leBytes p.wrapE 2
  let body := leBytes 0x5352544d 4 ++ leBytes 0x0100 2 ++ leBytes (s.node + (s.rf Reg.GLB_STRAP 6 1) * 64) 1 ++ leBytes 0 1 ++
    leBytes seq 4 ++ leBytes s.tim.s 6 ++ leBytes s.tim.ns 4 ++ leBytes 0 10 ++
    (List.range 4).flatMap point ++
    (List.range 4).flatMap (fun n => leBytes (s.mpo n).count 4 ++ leBytes (s.mpo n).backlog 2 ++ leBytes 0 2) ++
    (List.range 4).flatMap (fun n => leBytes (s.mpi n).count 4) ++ List.replicate 92 0
  body ++ leBytes (crc32 body).toNat 4

/-- A record as words. -/
def recordWords (l : List Byte) : List Word := (List.range 64).map fun i => BitVec.ofNat 32 (leNat ((l.drop (4 * i)).take 4))

/-- A record is valid (R442): MAGIC, VER, CRC. -/
def recordOk (l : List Byte) : Bool :=
  l.length == 256 && leNat (l.take 4) == 0x5352544d && leNat ((l.drop 4).take 2) == 0x0100 &&
    crc32 (l.take 252) == BitVec.ofNat 32 (leNat (l.drop 252))

/-- SEQ of a record. -/
def recordSeq (l : List Byte) : Nat := leNat ((l.drop 8).take 4)

/-- The energy available behind the hold-up voltage, and whether a save may start (R441). -/
def State.holdUp (s : State) : Dy :=
  let code := signed 16 (s.rf (Reg.ADC_RES (s.rf Reg.MTR_SAVECFG 12 3) (s.rf Reg.MTR_SAVECFG 16 4)) 0 16)
  let v := (Dy.ofF32 (s.rg Reg.MTR_HU_SCALE)).mul (Dy.ofInt code)
  let vm := Dy.ofF32 (s.rg Reg.MTR_HU_VMIN)
  ((Dy.ofF32 (s.rg Reg.MTR_HU_C)).mul ((v.mul v).add (vm.mul vm).neg)).mul { m := 1, e := -1 }

/-- A save is attempted (R441, R442): only by an active device, against the hold-up energy. -/
def attemptSave (s : State) : State :=
  if s.pairState != 3 || s.mtr.save.isSome then s
  else
    let e := s.holdUp
    if (e.add (Dy.ofF32 (s.rg Reg.MTR_HU_ESAVE)).neg).isNeg then
      (s.wbit Reg.MTR_FLAGS 4 true).raise 0x0b04 0 [e.f32.toNat]
    else
      let slots := max 1 (s.rf Reg.MTR_SAVECFG 24 8 * 4096)
      let slot := s.mtr.slot % slots
      let w := recordWords (s.saveRecord ((s.rn Reg.MTR_SAVE_SEQ + 1) % 4294967296))
      let s := { s with mtr.save := some (slot, w), mtr.slot := (slot + 1) % slots }
      let s := s.wbit Reg.MTR_STAT 8 true
      let s := if slot % 16 = 0 then s.emit (.nvmErase (slot / 16)) else s
      s.emit (.nvmWrite slot w)

/-- SAVE_COMPLETE (R442, R593): 0 written and read back, 1 a write error, 2 a read-back error; with a memory that gave no
valid parameters every save fails. -/
def saveComplete (result : Nat) (s : State) : State :=
  match s.mtr.save with
  | none => s
  | some (slot, w) =>
    let result := if result = 0 ∧ s.sys.flash = .mute then 1 else result
    let s := ({ s with mtr.save := none } : State).wbit Reg.MTR_STAT 8 false
    if result = 0 then (s.wr Reg.MTR_SAVE_SEQ (w.getD 2 0)).wr Reg.MTR_SAVE_TS s.tim.ts32
    else (s.wbit Reg.MTR_FLAGS 5 true).raise 0x0b05 0 [result, slot]

/-- MTR_CTRL.LOAD accepted by its key (R443). -/
def mtrLoad (s : State) : State :=
  { (s.wf Reg.MTR_STAT 10 2 0) with mtr.loading := true }

/-- The newest valid record of the memory's slots (R442). -/
def newestRecord (l : List (List Byte)) : Option (List Byte) :=
  l.foldl (fun best r => if !recordOk r then best else match best with
    | none => some r
    | some b => if (BitVec.ofNat 32 (recordSeq r) - BitVec.ofNat 32 (recordSeq b)).toInt > 0 then some r else best) none

/-- MTR_LOAD_DONE (R443): the slots as read from the external memory, in their order; the next save goes into the slot behind
the newest valid record (R442). -/
def loadDone (l : List (List Byte)) (s : State) : State :=
  if !s.mtr.loading then s
  else
    let s := { s with mtr.loading := false }
    match newestRecord l with
    | none => s.wbit Reg.MTR_STAT 11 true
    | some r =>
      let s := (List.range 64).foldl (fun s i => s.wr (Reg.MTR_RREC i) ((recordWords r).getD i 0)) s
      let s := { s with mtr.slot := l.idxOf r + 1 }
      (s.wn Reg.MTR_SAVE_SEQ (recordSeq r)).wbit Reg.MTR_STAT 10 true

/-- The bytes of the restore record window. -/
def State.restoreBytes (s : State) : List Byte := (List.range 64).flatMap fun i => leBytes (s.rn (Reg.MTR_RREC i)) 4

/-- Adds a saved register and wrap count to a live one (R443). -/
def addSaved (e wrap re rw : Nat) : Nat × Nat :=
  let t := e + re * 2 ^ 32
  (t % energyRange, (wrap + rw + t / energyRange) % 65536)

/-- The values of a record are added to the registers. -/
def State.addRecord (s : State) (r : List Byte) : State :=
  let fd (o n : Nat) : Nat := leNat ((r.drop o).take n)
  let s := s.each 4 fun s k =>
    let p := s.point k
    let o := 0x20 + 20 * k
    let (ei, wi) := addSaved p.eimp p.wrapI (fd o 8) (fd (o + 16) 2)
    let (ee, we) := addSaved p.eexp p.wrapE (fd (o + 8) 8) (fd (o + 18) 2)
    s.setPoint k { p with eimp := ei, wrapI := wi, eexp := ee, wrapE := we, restored := true }
  let s := s.each 4 fun s n =>
    let p := s.mpo n
    (s.setMpo n { p with count := (p.count + fd (0x70 + 8 * n) 4) % 4294967296
                         backlog := min (p.backlog + fd (0x74 + 8 * n) 2) 65535 }).mpoStart n
  s.each 4 fun s n =>
    s.setMpi n { s.mpi n with count := ((s.mpi n).count + fd (0x90 + 4 * n) 4) % 4294967296, skip := true }

/-- MTR_CTRL.RESTORE accepted by its key (R443): reason 1 already restored, 2 record invalid. -/
def mtrRestore (s : State) : State :=
  let r := s.restoreBytes
  if s.bit Reg.MTR_STAT 9 then s.raise 0x0b14 0 [1]
  else if !recordOk r then s.raise 0x0b14 0 [2]
  else
    let t := leNat ((r.drop 12).take 6)
    ((s.addRecord r).wbit Reg.MTR_STAT 9 true).raise 0x0b13 0 [recordSeq r, t % 4294967296, t / 4294967296]

/-- A write of MTR_SNAP (R444). -/
def mtrSnap (v : Word) (s : State) : State :=
  s.each 4 fun s k => if bitOf v.toNat k then s.setPoint k { s.point k with snap := true } else s

/-! ### Checkpoints (R405, R409) -/

/-- The accumulators as a checkpoint carries them. -/
def State.mtrAcc (s : State) : MtrAcc :=
  { points := (List.range 4).map fun k =>
      let p := s.point k
      [p.eimp, p.wrapI, p.eexp, p.wrapE, p.iimp, p.iexp, match p.ivl with | some b => b + 1 | none => 0]
    mpo := (List.range 4).map fun n => ((s.mpo n).count, (s.mpo n).backlog, (s.mpo n).acc)
    mpi := (List.range 4).map fun n => (s.mpi n).count }

/-- A checkpoint value plus what has been integrated since: (ckpt + own − base) modulo a range. -/
def sinceBase (ckpt own base range : Nat) : Nat := (ckpt + own + range - base) % range

/-- The point accumulators `c` of a checkpoint with what the device has integrated itself, from `base` to `own`. An interval that
has ended since then is closed: what the open one holds is the device's own (R429). -/
def pointSince (c own base : List Nat) : List Nat :=
  let g (a : List Nat) (i : Nat) : Nat := a.getD i 0
  let wide := energyRange * 65536
  let ei := sinceBase (g c 0 + g c 1 * energyRange) (g own 0 + g own 1 * energyRange) (g base 0 + g base 1 * energyRange) wide
  let ee := sinceBase (g c 2 + g c 3 * energyRange) (g own 2 + g own 3 * energyRange) (g base 2 + g base 3 * energyRange) wide
  [ei % energyRange, ei / energyRange, ee % energyRange, ee / energyRange] ++
    (if g c 6 = g own 6 then [sinceBase (g c 4) (g own 4) (g base 4) energyRange, sinceBase (g c 5) (g own 5) (g base 5) energyRange]
     else [g own 4, g own 5]) ++ [g own 6]

/-- The same for a pulse output of weight `w` in units of 2⁻⁴⁰ J: the pulses due since then join the backlog, and those the
device has emitted leave it. -/
def mpoSince (w : Nat) (c own base : Nat × Nat × Nat) : Nat × Nat × Nat :=
  let e : Int := (c.2.2 : Int) + own.2.2 - base.2.2
  let sent := (own.1 + 4294967296 - base.1) % 4294967296
  let due : Int := (sent : Int) + own.2.1 - base.2.1 + (if w = 0 then 0 else e / w)
  let left := ((c.2.1 : Int) + due).toNat
  let out := min sent left
  ((c.1 + out) % 4294967296, min (left - out) 65535, if w = 0 then c.2.2 else (e % w).toNat)

/-- The accumulators `c` of a checkpoint plus what the device has integrated itself, from `base` to `own` (R409). -/
def State.sinceAcc (s : State) (c own base : MtrAcc) : MtrAcc :=
  { points := (List.range 4).map fun k => pointSince (c.points.getD k []) (own.points.getD k []) (base.points.getD k [])
    mpo := (List.range 4).map fun n =>
      mpoSince (s.rn (Reg.MTR_MPO_W n) * 2 ^ 40) (c.mpo.getD n (0, 0, 0)) (own.mpo.getD n (0, 0, 0)) (base.mpo.getD n (0, 0, 0))
    mpi := (List.range 4).map fun n => sinceBase (c.mpi.getD n 0) (own.mpi.getD n 0) (base.mpi.getD n 0) 4294967296 }

/-- The standby sets its accumulators (R409); a backlog starts its pulses. What a check window compares (R440) is the device's
own count all the same: its base moves with the register. -/
def State.takeAcc (s : State) (a : MtrAcc) : State :=
  let was := (List.range 4).map s.mpiEnergy
  let s := s.each 4 fun s k =>
    let g (i : Nat) : Nat := (a.points.getD k []).getD i 0
    s.setPoint k { s.point k with eimp := g 0, wrapI := g 1, eexp := g 2, wrapE := g 3, iimp := g 4, iexp := g 5 }
  let s := s.each 4 fun s n =>
    let x := a.mpo.getD n (0, 0, 0)
    (s.setMpo n { s.mpo n with count := x.1, backlog := x.2.1, acc := x.2.2 }).mpoStart n
  s.each 4 fun s n =>
    let p := s.mpi n
    let count := a.mpi.getD n 0
    s.setMpi n { p with count, base := sinceBase p.base count p.count 4294967296
                        baseE := sinceBase p.baseE (s.mpiEnergy n) (was.getD n 0) (2 ^ 64) }

/-- A device takes the cluster over (R440): a check window it has not metered whole is not judged. -/
def State.spareWindows (s : State) : State :=
  s.each 4 fun s n => s.setMpi n { s.mpi n with skip := (s.mpi n).skip || !(s.mpi n).full }

/-! ### Meanings -/

/-- METER_SAMPLE. -/
def execMeterSample (k : Point) (t : Nat) (s : State) : Host.Outcome State Fault Refusal := s.main (meterSample k.val t)

/-- METER_INTERVAL_END. -/
def execMeterIntervalEnd (k : Point) (s : State) : Host.Outcome State Fault Refusal := s.main (intervalEnd k.val)

/-- REPORT_WINDOW_END. -/
def execReportWindowEnd (k : Point) (s : State) : Host.Outcome State Fault Refusal := s.main (windowResults k.val)

/-- ZERO_CROSSING_ABSENT. -/
def execZeroCrossingAbsent (k : Point) (s : State) : Host.Outcome State Fault Refusal := s.main (crossingAbsent k.val)

/-- MF_PERIOD_END. -/
def execMfPeriodEnd (c : Cell) (start : Nat) (l : List MfSample) (s : State) : Host.Outcome State Fault Refusal :=
  s.main (mfPeriod c.val start l)

/-- MPO_PULSE_END. -/
def execMpoPulseEnd (n : Fin 4) (s : State) : Host.Outcome State Fault Refusal := s.main (mpoPulseEnd n.val)

/-- MPI_TRANSITION. -/
def execMpiTransition (n : Fin 4) (level : Bool) (s : State) : Host.Outcome State Fault Refusal :=
  s.main (mpiTransition n.val level)

/-- CHECK_WINDOW_END. -/
def execCheckWindowEnd (n : Fin 4) (s : State) : Host.Outcome State Fault Refusal := s.main (checkWindow n.val)

/-- SAVE_TIMER. -/
def execSaveTimer (s : State) : Host.Outcome State Fault Refusal := s.main attemptSave

/-- SAVE_NOW: a keyed write of MTR_CTRL.SAVE_NOW. -/
def execSaveNow (src : Src) (s : State) : Host.Outcome State Fault Refusal :=
  s.access fun s => s.keyed src Reg.MTR_CTRL attemptSave

/-- SAVE_COMPLETE. -/
def execSaveComplete (result : Fin 3) (s : State) : Host.Outcome State Fault Refusal := s.main (saveComplete result.val)

/-- MTR_LOAD: a keyed write of MTR_CTRL.LOAD. -/
def execMtrLoad (src : Src) (s : State) : Host.Outcome State Fault Refusal :=
  s.access fun s => s.keyed src Reg.MTR_CTRL mtrLoad

/-- MTR_LOAD_DONE: the slots of the external memory. -/
def execMtrLoadDone (l : List (List Byte)) (s : State) : Host.Outcome State Fault Refusal := s.main (loadDone l)

/-- MTR_RESTORE: a keyed write of MTR_CTRL.RESTORE. -/
def execMtrRestore (src : Src) (s : State) : Host.Outcome State Fault Refusal :=
  s.access fun s => s.keyed src Reg.MTR_CTRL mtrRestore

/-- MTR_SNAP: a write of a point mask. -/
def execMtrSnap (src : Src) (v : Word) (s : State) : Host.Outcome State Fault Refusal :=
  s.access fun s => s.unkeyed src Reg.MTR_SNAP (mtrSnap v)

end Sys2Proof.Machine
end

