-- ==== Sys2Proof/Machine/Thermal.lean ====
section
/-! DEFINITION. Thermal management, adaptive supply and wear (chapter 19, R529 to R553). -/

namespace Sys2Proof.Machine

/-! ### Temperature sensors (R529 to R533) -/

/-- The state of sensor `i`. -/
def State.sensor (s : State) (i : Nat) : Sensor := s.thw.sensors.at i {}

/-- Sets it. -/
def State.setSensor (s : State) (i : Nat) (x : Sensor) : State := { s with thw.sensors := s.thw.sensors.put i {} x }

/-- Sensor `i` is broken: THW_TS[i].BROKEN. -/
def State.sensorBroken (s : State) (i : Nat) : Bool := s.bit (Reg.THW_TS i) 16

/-- The present reading of sensor `i`, in 0.125 °C. -/
def State.reading (s : State) (i : Nat) : Int := signed 16 (s.rf (Reg.THW_TS i) 0 16)

/-- Declares sensor `i` broken (R531): BROKEN latched, CAUSE recorded, 150 °C substituted, event 0x0F06. -/
def State.breakSensor (s : State) (i cause : Nat) : State :=
  let s := s.setSensor i { s.sensor i with good := 0 }
  let s := s.wn (Reg.THW_TS i) (0x04b0 + 65536 + cause * 131072)
  let s := (s.wbit Reg.THW_STAT (22 + i) true).wbit Reg.THW_FLAGS 5 true
  s.raise 0x0f06 0 [i, cause]

/-- One conversion of sensor `i` with its raw code (R529, R531). -/
def State.convert (s : State) (i : Nat) (code : Int) : State :=
  let x := s.sensor i
  let out := decide (code < -480) || decide (1280 < code)
  let same := if x.code = some code then x.same + 1 else 1
  let stuck := decide (4096 ≤ same)
  let y : Sensor := { x with code := some code, out, same, good := if out || stuck then 0 else x.good + 1 }
  let s := s.setSensor i y
  if s.sensorBroken i then s
  else
    let s := s.wf (Reg.THW_TS i) 0 16 (unsigned 16 code)
    if out && x.out then s.breakSensor i 1 else if stuck then s.breakSensor i 2 else s

/-- The sensor with the largest present reading, the lowest number among equals. -/
def State.hottest (s : State) : Nat :=
  (List.range 10).foldl (fun m i => if s.reading m < s.reading i then i else m) 0

/-- A threshold of R533: its level, whether it lies above, where it is entered and released in 0.125 °C, its event. -/
structure Threshold where
  level : Nat
  above : Bool
  enter : Int
  release : Int
  code : Nat
  flag : Nat

/-- The thresholds of R533 in the order of their class and code. -/
def thresholds : List Threshold :=
  [{ level := 3, above := true, enter := 896, release := -32768, code := 0x0f03, flag := 2 },
   { level := 5, above := false, enter := -336, release := -280, code := 0x0f05, flag := 4 },
   { level := 1, above := true, enter := 800, release := 776, code := 0x0f01, flag := 0 },
   { level := 2, above := true, enter := 840, release := 816, code := 0x0f02, flag := 1 },
   { level := 4, above := false, enter := -280, release := -256, code := 0x0f04, flag := 3 }]

/-- What entering a level does besides its event and flag (R533). -/
def State.levelAction (s : State) (level : Nat) : State :=
  if level = 3 then s.clusterFault 5 0
  else if level = 5 && !s.halted then s.faultHandover 0x0f05 true
  else s

/-- Judges one threshold by two consecutive maxima (R530). -/
def State.judgeThreshold (s : State) (prev now : Int) (t : Threshold) : State :=
  if bitOf s.thw.levels t.level then
    let past (x : Int) : Bool := if t.above then decide (x < t.release) else decide (t.release ≤ x)
    if past prev && past now && t.level != 3 then s.leaveLevel t.level else s
  else
    let far (x : Int) : Bool := if t.above then decide (t.enter ≤ x) else decide (x < t.enter)
    if far prev && far now then
      let s := State.showThermal { s with thw.levels := withBit s.thw.levels t.level true }
      let s := (s.wbit Reg.THW_FLAGS t.flag true).raise t.code 0
        (if t.above then [unsigned 32 now, s.hottest] else [unsigned 32 now])
      s.levelAction t.level
    else s

/-- The temperature correction of the held control code while coasting (R78): from TS0, or TS1 where TS0 is broken. Its
amount is open. -/
def State.correctCoast (s : State) : State :=
  if s.clkState = 3 && !s.integrity then
    let t := s.reading (if s.sensorBroken 0 then 1 else 0)
    (s.wf Reg.CLK_BAND 8 10 (Config.coastCode s.free (s.rf Reg.CLK_BAND 8 10) t)).draw
  else s

/-- SENSOR_CONVERSION (R529, R530): all ten sensors convert; from the memory fill on the maximum is judged. -/
def sensorConversion (codes : List Int) (s : State) : State :=
  let s := s.each 10 fun s i => s.convert i (codes.getD i 0)
  let m := s.reading s.hottest
  let s := (s.wf Reg.THW_STAT 0 16 (unsigned 16 m)).correctCoast
  if !s.bit Reg.MEM_STAT 0 then s
  else
    let p := s.thw.prev
    let s := { s with thw.prev := some m }
    match p with
    | none => s
    | some p => thresholds.foldl (fun s t => s.judgeThreshold p m t) s

/-- SENSOR_SELFCHECK (R531): the deviations of the two reference points of each sensor, in 0.001 °C. -/
def sensorSelfcheck (dev : List (Int × Int)) (s : State) : State :=
  s.each 10 fun s i =>
    let d := dev.getD i (0, 0)
    let ok := decide (d.1.natAbs ≤ 2000) && decide (d.2.natAbs ≤ 2000)
    let s := s.setSensor i { s.sensor i with check := ok }
    if !ok && !s.sensorBroken i then s.breakSensor i 3 else s

/-- SENS_CLR (R532): cleared after a passed self-check and 4,096 consecutive good conversions, refused otherwise. -/
def sensClr (sensor : Nat) (s : State) : State :=
  if 10 ≤ sensor then s.refuse Reg.THW_CTRL 0x25
  else
    let x := s.sensor sensor
    if s.sensorBroken sensor && x.check && decide (4096 ≤ x.good) then
      let s := s.wn (Reg.THW_TS sensor) (unsigned 16 (x.code.getD 0))
      (s.wbit Reg.THW_STAT (22 + sensor) false).raise 0x0f0a 0 [sensor]
    else s.raise 0x0f0b 0 [sensor]

/-- No thermal level forbids a takeover: TEMP_OK (R402, R533). -/
def State.tempOk (s : State) : Bool := !bitOf s.thw.levels 2 && !bitOf s.thw.levels 4

/-! ### Adaptive core voltage (R537 to R539) -/

/-- A PMBus transfer to the regulator (R538). -/
def State.pmbus (s : State) (command : Nat) (write : Option Nat) : State := s.emit (.pmbus (s.rf Reg.THW_AVS 1 7) command write)

/-- THW_AVS.EN has been written: VOUT_MODE is read, and adaptation runs with the linear format only (R538). -/
def State.avsEnable (s : State) : State :=
  let on := s.bit Reg.THW_AVS 0
  let s := if on && !s.bit Reg.THW_AVS_STAT 10 then s.pmbus 0x20 none else s
  s.wbit Reg.THW_AVS_STAT 10 (on && Config.voutLinear && !s.bit Reg.THW_AVS_STAT 12)

/-- Adaptation sends requests: running, and not suspended by coasting (R78, R537). -/
def State.avsRuns (s : State) : Bool := s.bit Reg.THW_AVS_STAT 10 && !s.bit Reg.THW_AVS_STAT 11

/-- Sends a request for VDD_CORE, clamped to 720–880 mV (R537). -/
def State.askVolt (s : State) (mv : Int) (retry : Bool) : State :=
  let v := (clampInt 720 880 mv).toNat
  let s := s.wf Reg.THW_AVS_STAT 0 10 v
  let s := s.wf Reg.THW_AVS_STAT 16 16 (s.rf Reg.THW_AVS_STAT 16 16 + 1)
  ({ s with thw.ask := some retry, thw.retry := false } : State).pmbus 0x21 (some v)

/-- The voltage requested last, in mV. -/
def State.vreq (s : State) : Int := s.rf Reg.THW_AVS_STAT 0 10

/-- CPM_REPORT (R537): the minimum is kept; a report below SLACK_EMG raises the supply at once. -/
def cpmReport (mon slack : Nat) (s : State) : State :=
  let lower := match s.thw.slack with | none => true | some (m, _) => decide (slack < m)
  let s := if lower then { s with thw.slack := some (slack, mon) } else s
  if slack < s.rf Reg.THW_AVS 24 8 && s.avsRuns then (s.askVolt (s.vreq + 20) false).raise 0x0f09 0 [slack, mon] else s

/-- AVS_INTERVAL_END (R537): the minimum slack is reported, and a request may follow unless requests are suspended (R78).
While a retry waits it is the request of its millisecond. -/
def avsInterval (s : State) : State :=
  match s.thw.slack with
  | none => s
  | some (m, mon) =>
    let s := (s.wn Reg.THW_CPM (min m 255 + mon * 256))
    let s := { s with thw.slack := none }
    let above := s.bit Reg.THW_AVS_STAT 10 && decide (s.rf Reg.THW_AVS 16 8 < m)
    let s := { s with thw.high := if above then min (s.thw.high + 1) 64 else 0 }
    if !s.avsRuns || s.thw.retry then s
    else if m < s.rf Reg.THW_AVS 8 8 then s.askVolt (s.vreq + 10) false
    else if s.thw.high = 64 then { s with thw.high := 0 }.askVolt (s.vreq - 5) false
    else s

/-- The second failure of a request (R539): FAIL, one request for 0.88 V, adaptation stops, event 0x0F07. While the clock
coasts VDD_CORE is held at its last value instead (R78, R550). -/
def State.avsFail (s : State) (cause : Nat) : State :=
  let s := s.raise 0x0f07 0 [s.vreq.toNat, cause]
  let s := s.wbit Reg.THW_FLAGS 6 true
  let s := if s.bit Reg.THW_AVS_STAT 11 then s else s.askVolt 880 false
  let s := (s.wbit Reg.THW_AVS_STAT 12 true).wbit Reg.THW_AVS_STAT 10 false
  { s with thw.ask := none, thw.retry := false, thw.high := 0 }

/-- Why an answer is a failure: 1 NACK, 2 packet error, 3 READ_VOUT outside ±15 mV, 4 STATUS_WORD; none for success. -/
def State.answerBad (s : State) : Pmbus → Option Nat
  | .nack => some 1
  | .pec => some 2
  | .read v fault =>
    if 15000 < ((v : Int) - 1000 * s.vreq).natAbs then some 3 else if fault then some 4 else none

/-- PMBUS_READBACK (R538, R539): READ_VOUT and STATUS_WORD are read, and the answer to the last request is judged. -/
def pmbusReadback (a : Pmbus) (s : State) : State :=
  match s.thw.ask with
  | none => s
  | some retried =>
    let s := (({ s with thw.ask := none } : State).pmbus 0x8b none).pmbus 0x79 none
    match s.answerBad a with
    | none => s
    | some cause => if retried then s.avsFail cause else { s with thw.retry := true }

/-- PMBUS_RETRY (R539): the request is sent once more; a NACK of it is the second failure. While the clock coasts it is
suspended and waits (R78). -/
def pmbusRetry (ack : Bool) (s : State) : State :=
  if !s.thw.retry || s.bit Reg.THW_AVS_STAT 11 then s
  else
    let s := s.askVolt s.vreq true
    if ack then s else s.avsFail 1

/-- AVS_RESUME (R539): adaptation that has stopped by a failure resumes. -/
def avsResume (s : State) : State :=
  if s.bit Reg.THW_AVS_STAT 12 then (s.wbit Reg.THW_AVS_STAT 12 false).avsEnable else s

/-! ### Damage and remaining life (R541 to R547) -/

/-- The MINER instance of switch `g`, by the WEAR section. -/
def State.minerOf (s : State) (g : Nat) : Option (Engine × Nat) :=
  match s.cfg.wear with
  | none => none
  | some w => w.miner.getD g none

/-- The WEAR section in force, or its defaults. -/
def State.wearSec (s : State) : WearSec := s.cfg.wear.getD {}

/-- A damage term as F32; one with a zero divisor is open. -/
def State.damage (s : State) (a b : Dy) : Word := if b.m = 0 then Config.damageTerm s.free else dyDiv a b

/-- The larger of two F32 values and zero. -/
def max0 (a b : Word) : Word := let m := if fLt a b then b else a; if fLt m 0 then 0 else m

/-- D of capacitor `j` (R544). -/
def State.capDamage (s : State) (j : Nat) : Word :=
  let w := s.wearSec
  let c0 := Dy.ofF32 (w.c0.getD j 0)
  let r0 := Dy.ofF32 (w.esr0.getD j 0)
  let pct (x : Word) : Dy := Dy.ofF32 x
  let h := Dy.ofInt 100
  max0 (s.damage (h.mul (c0.add (Dy.ofF32 (s.rg (Reg.THW_CAP_C j))).neg)) (c0.mul (pct w.cdropEol)))
    (s.damage (h.mul ((Dy.ofF32 (s.rg (Reg.THW_CAP_ESR j))).add r0.neg)) (r0.mul (pct w.esrEol)))

/-- CAP_ESTIMATE_WINDOW (R543): C = 1 / a and ESR = b of the fit; an estimate out of range is discarded. -/
def capEstimate (j : Nat) (s : State) : State :=
  if !(s.bit (Reg.THW_CAP_STAT j) 1 && s.pairState == 3) then s
  else
    let f := s.thw.fit.at j {}
    let s := { s with thw.fit := s.thw.fit.put j {} {} }
    let det := (f.qq.mul f.ii).add (f.qi.mul f.qi).neg
    let a := (f.vq.mul f.ii).add (f.vi.mul f.qi).neg
    let b := (f.vi.mul f.qq).add (f.vq.mul f.qi).neg
    let c := dyDiv det (a.mul (Dy.ofInt 20000000000))
    let esr := dyDiv b det
    let w := s.wearSec
    let c0 := Dy.ofF32 (w.c0.getD j 0)
    let r0 := Dy.ofF32 (w.esr0.getD j 0)
    let dc := Dy.ofF32 c
    let dr := Dy.ofF32 esr
    if c0.le ((Dy.ofInt 2).mul dc) && dc.le ((Dy.ofInt 2).mul c0) &&
        r0.le ((Dy.ofInt 10).mul dr) && dr.le ((Dy.ofInt 10).mul r0) then
      let avg (old new : Word) : Word :=
        if s.bit (Reg.THW_CAP_STAT j) 0 then
          ((Dy.ofF32 old).add (((Dy.ofF32 new).add (Dy.ofF32 old).neg).mul { m := 1, e := -6 })).f32
        else new
      let s := (s.wr (Reg.THW_CAP_C j) (avg (s.rg (Reg.THW_CAP_C j)) c)).wr (Reg.THW_CAP_ESR j)
        (avg (s.rg (Reg.THW_CAP_ESR j)) esr)
      s.wbit (Reg.THW_CAP_STAT j) 0 true
    else if s.bit Reg.THW_FLAGS 9 then s
    else (s.wbit Reg.THW_FLAGS 9 true).raise 0x0f12 0 [j, c.toNat, esr.toNat]

/-- AGEING_MEASUREMENT (R545): the counts of each stressed oscillator and of its twin give AGE; the worst hourly eye of
L0–L3 joins those of the last day, and the first full day sets EYE0 where the WEAR section gives none. -/
def ageing (l : List (Nat × Nat)) (s : State) : State :=
  let loss := l.foldl (fun a x => a.add (dyDiv64 (Dy.ofInt (100 * ((x.2 : Int) - x.1))) (Dy.ofInt x.2))) {}
  let s := s.wr Reg.THW_DEV_AGE (dyDiv loss (Dy.ofInt l.length))
  let eye := (List.range 4).foldl (fun m n => min m (2 * s.rf (Reg.LAN_EYE n) 24 8)) 510
  let s := { s with thw.eyes := (eye :: s.thw.eyes).take 24 }
  let worst := s.thw.eyes.foldl min 510
  let s := if s.thw.eye0 = 0 && s.thw.eyes.length = 24 then { s with thw.eye0 := fOfNat worst } else s
  let w := s.wearSec
  let e0 := Dy.ofF32 s.thw.eye0
  let term := if s.thw.eye0 = 0 then 0
    else s.damage (e0.add (Dy.ofInt worst).neg) (e0.add (Dy.ofF32 w.eyeMin).neg)
  let s := s.wr Reg.THW_DEV_EYE term
  (s.wr Reg.THW_DEV_D (max0 (s.damage (Dy.ofF32 (s.rg Reg.THW_DEV_AGE)) (Dy.ofF32 w.ageEol)) term)).draw

/-- D of an entity, where the device has one: a mapped switch, a capacitor with a valid estimate, the device itself. -/
def State.damageOf (s : State) (k : Nat) : Option Dy :=
  if k < 192 then
    if (s.minerOf k).isNone then none
    else some (Dy.f64 { m := (s.rn (Reg.THW_SW_ACC_LO k) + s.rn (Reg.THW_SW_ACC_HI k) * 4294967296 : Nat), e := -56 })
  else if k < 240 then
    if s.bit (Reg.THW_CAP_STAT (k - 192)) 0 then some (Dy.ofF32 (s.capDamage (k - 192))) else none
  else some (Dy.ofF32 (s.rg Reg.THW_DEV_D))

/-- The rate per hour of an entity with damage `d` (R541), as quotient: from the oldest sample within WIN once the history
spans WIN / 4, else the restored rate. -/
def State.rateOf (s : State) (k : Nat) (d : Dy) : Option (Dy × Dy) :=
  let win := s.rf Reg.THW_WCFG 0 9 * 86400
  match (s.thw.hist.at k []).getLast? with
  | some (t, old) =>
    if win ≤ 4 * (s.tim.s - t) then some ((Dy.ofInt 3600).mul (d.add old.neg), Dy.ofInt ((s.tim.s : Int) - t))
    else (s.thw.rate.at k none).map fun r => (Dy.ofF32 r, Dy.ofInt 1)
  | none => (s.thw.rate.at k none).map fun r => (Dy.ofF32 r, Dy.ofInt 1)

/-- Remaining life in hours (R541). -/
def remaining (d : Dy) : Option (Dy × Dy) → Nat
  | none => 0xffffffff
  | some (n, t) =>
    let left := (Dy.ofInt 1).add d.neg
    if left.m ≤ 0 then 0 else if n.m ≤ 0 then 0xfffffffe else min (dyFloor (left.mul t) n) 0xfffffffe

/-- The kind of an entity and its index within the kind: 0 switch, 1 capacitor, 2 device. -/
def entityKind (k : Nat) : Nat × Nat := if k < 192 then (0, k) else if k < 240 then (1, k - 192) else (2, 0)

/-- The events of an entity whose damage first reaches DWARN and 1 (R546). -/
def State.tellDamage (s : State) (k : Nat) (d : Dy) : State :=
  let t := s.thw.told.at k 0
  let (kind, i) := entityKind k
  let warn := !bitOf t 0 && (Dy.ofInt (s.rf Reg.THW_WCFG 16 7)).le ((Dy.ofInt 100).mul d)
  let eol := !bitOf t 1 && (Dy.ofInt 1).le d
  let s := if warn then (s.wbit Reg.THW_FLAGS 7 true).raise 0x0f10 0 [kind, i, d.f32.toNat] else s
  let s := if eol then (s.wbit Reg.THW_FLAGS 8 true).raise 0x0f11 0 [kind, i] else s
  let t := withBit t 0 (bitOf t 0 || warn)
  { s with thw.told := s.thw.told.put k 0 (withBit t 1 (bitOf t 1 || eol)) }

/-- Where the remaining life of an entity is shown. -/
def rulReg (k : Nat) : Nat :=
  if k < 192 then Reg.THW_SW_RUL k else if k < 240 then Reg.THW_CAP_RUL (k - 192) else Reg.THW_DEV_RUL

/-- The HQ3 record of an entity (R547). -/
def State.wearRecord (s : State) (k r rul : Nat) : State :=
  if k < 192 then
    s.report 3 0x0f20 k [s.rn (Reg.THW_SW_ACC_LO k), s.rn (Reg.THW_SW_ACC_HI k), s.rn (Reg.THW_SW_CNT k), r, rul]
  else if k < 240 then
    let j := k - 192
    s.report 3 0x0f21 j [s.rn (Reg.THW_CAP_C j), s.rn (Reg.THW_CAP_ESR j), s.rn (Reg.THW_CAP_D j), r, rul]
  else s.report 3 0x0f22 0xffff [s.rn Reg.THW_DEV_AGE, s.rn Reg.THW_DEV_EYE, s.rn Reg.THW_DEV_D, r, rul]

/-- The history sample of one entity: rate, remaining life, record, then the sample joins the history. -/
def State.wearSample (s : State) (k : Nat) : State :=
  match s.damageOf k with
  | none => (s.wn (rulReg k) 0xffffffff).wearRecord k 0 0xffffffff
  | some d =>
    let s := if 192 ≤ k ∧ k < 240 then s.wr (Reg.THW_CAP_D (k - 192)) d.f32 else s
    let win := s.rf Reg.THW_WCFG 0 9 * 86400
    let kept := (s.thw.hist.at k []).filter fun x => decide (s.tim.s ≤ x.1 + win)
    let s := { s with thw.hist := s.thw.hist.put k [] kept }
    let q := s.rateOf k d
    let rul := remaining d q
    let r := match q with | none => 0 | some (n, t) => (dyDiv n t).toNat
    let s := (s.wn (rulReg k) rul).tellDamage k d
    ({ s with thw.hist := s.thw.hist.put k [] ((s.tim.s, d) :: kept) }).wearRecord k r rul

/-- WEAR_HISTORY_SAMPLE (R541, R546, R547): every switch, every capacitor and the device. -/
def wearHistory (s : State) : State := (s.each 241 State.wearSample).draw

/-! ### Image load and restore (R548, R551) -/

/-- What a loaded image's WEAR section sets up, and what a load starts anew. -/
def State.wearLoad (s : State) (w : Option WearSec) : State :=
  let s := { s with cfg.wear := w, thw.fit := [], thw.hist := [], thw.rate := [], thw.told := []
                    thw.eye0 := (w.getD {}).eye0 }
  let s := s.wbit Reg.THW_STAT 21 false
  let s := s.each 192 fun s g =>
    (((s.wn (Reg.THW_SW_ACC_LO g) 0).wn (Reg.THW_SW_ACC_HI g) 0).wn (Reg.THW_SW_CNT g) 0).wn (Reg.THW_SW_RUL g) 0xffffffff
  let s := s.each 48 fun s j =>
    let s := ((s.wn (Reg.THW_CAP_C j) 0).wn (Reg.THW_CAP_ESR j) 0).wn (Reg.THW_CAP_D j) 0
    (s.wn (Reg.THW_CAP_RUL j) 0xffffffff).wn (Reg.THW_CAP_STAT j)
      (if (w.getD {}).capOn.getD j false then 2 else 0)
  s.avsEnable

/-- Word `i` of THW_RREC. -/
def State.rrec (s : State) (i : Nat) : Word := s.rg (Reg.THW_RREC i)

/-- An F32 value is finite and not negative. -/
def plainValue (w : Word) : Bool := fld w 23 8 != 255 && (fld w 31 1 == 0 || fld w 0 31 == 0)

/-- Every F32 value of the restore window is finite and not negative (R548). -/
def State.rrecOk (s : State) : Bool :=
  ((List.range 192).all fun g => plainValue (s.rrec (4 * g + 3))) &&
  ((List.range 48).all fun j => (List.range 3).all fun i => plainValue (s.rrec (768 + 4 * j + i))) &&
  plainValue (s.rrec 960) && plainValue (s.rrec 961)

/-- Restores switch `g`: ACC and CNT into both banks of its MINER instance and into its registers. -/
def State.restoreSwitch (s : State) (g : Nat) : State :=
  match s.minerOf g with
  | none => s
  | some (k, st) =>
    let ws := [s.rrec (4 * g), s.rrec (4 * g + 1), s.rrec (4 * g + 2)]
    let s := (s.setMem32 (0x810000 + 0x20000 * k.val + 0x4000 + st) (ws.getD 0 0))
    let s := [(0x4000, 1), (0x4000, 2), (0xa000, 0), (0xa000, 1), (0xa000, 2)].foldl (fun s (x : Nat × Nat) =>
      s.setMem32 (0x810000 + 0x20000 * k.val + x.1 + st + 4 * x.2) (ws.getD x.2 0)) s
    ((s.wr (Reg.THW_SW_ACC_LO g) (ws.getD 0 0)).wr (Reg.THW_SW_ACC_HI g) (ws.getD 1 0)).wr (Reg.THW_SW_CNT g) (ws.getD 2 0)

/-- Restores capacitor `j`: its moving averages start from the restored values, where these are nonzero. -/
def State.restoreCap (s : State) (j : Nat) : State :=
  let c := s.rrec (768 + 4 * j)
  let r := s.rrec (769 + 4 * j)
  let s := if fld c 0 31 = 0 then s else s.wr (Reg.THW_CAP_C j) c
  let s := if fld r 0 31 = 0 then s else s.wr (Reg.THW_CAP_ESR j) r
  if fld c 0 31 ≠ 0 ∧ fld r 0 31 ≠ 0 then s.wbit (Reg.THW_CAP_STAT j) 0 true else s

/-- WEAR_RESTORE (R548). -/
def wearRestore (s : State) : State :=
  if !s.halted || s.bit (Reg.VTX_STAT 0) 5 then s.raise 0x0f14 0 [1]
  else if s.bit Reg.THW_STAT 21 then s.raise 0x0f14 0 [2]
  else if !s.rrecOk then s.raise 0x0f14 0 [3]
  else
    let n := ((List.range 192).filter fun g => (s.minerOf g).isSome).length + 48 + 1
    let rate (k : Nat) : Word := s.rrec (if k < 192 then 4 * k + 3 else if k < 240 then 770 + 4 * (k - 192) else 960)
    let s := { s with thw.rate := (List.range 241).foldl (fun t k => t.put k none (some (rate k))) [] }
    let e := s.rrec 961
    let s := if fld e 0 31 = 0 then s else { s with thw.eye0 := e }
    let s := (s.each 192 State.restoreSwitch).each 48 State.restoreCap
    (s.wbit Reg.THW_STAT 21 true).raise 0x0f13 0 [n]

/-! ### The commands -/

/-- SENSOR_CONVERSION (R529). -/
def execSensorConversion (codes : List Int) (s : State) : Host.Outcome State Fault Refusal := s.main (sensorConversion codes)

/-- SENSOR_SELFCHECK (R531). -/
def execSensorSelfcheck (dev : List (Int × Int)) (s : State) : Host.Outcome State Fault Refusal :=
  s.main (sensorSelfcheck dev)

/-- SENS_CLR (R532). -/
def execSensClr (src : Src) (sensor : Fin 16) (s : State) : Host.Outcome State Fault Refusal :=
  State.finish (s.keyed src Reg.THW_CTRL (sensClr sensor.val))

/-- WEAR_RESTORE (R548). -/
def execWearRestore (src : Src) (s : State) : Host.Outcome State Fault Refusal :=
  State.finish (s.keyed src Reg.THW_CTRL wearRestore)

/-- AVS_RESUME (R539). -/
def execAvsResume (src : Src) (s : State) : Host.Outcome State Fault Refusal :=
  State.finish (s.keyed src Reg.THW_CTRL avsResume)

/-- CPM_REPORT (R537). -/
def execCpmReport (mon : Fin 32) (slack : Nat) (s : State) : Host.Outcome State Fault Refusal :=
  s.main (cpmReport mon.val slack)

/-- AVS_INTERVAL_END (R537). -/
def execAvsIntervalEnd (s : State) : Host.Outcome State Fault Refusal := s.main avsInterval

/-- PMBUS_READBACK (R538). -/
def execPmbusReadback (a : Pmbus) (s : State) : Host.Outcome State Fault Refusal := s.main (pmbusReadback a)

/-- PMBUS_RETRY (R539). -/
def execPmbusRetry (ack : Bool) (s : State) : Host.Outcome State Fault Refusal := s.main (pmbusRetry ack)

/-- WEAR_HISTORY_SAMPLE (R541). -/
def execWearHistorySample (s : State) : Host.Outcome State Fault Refusal := s.main wearHistory

/-- CAP_ESTIMATE_WINDOW (R543). -/
def execCapEstimateWindow (j : Fin 48) (s : State) : Host.Outcome State Fault Refusal := s.main (capEstimate j.val)

/-- AGEING_MEASUREMENT (R545). -/
def execAgeingMeasurement (l : List (Nat × Nat)) (s : State) : Host.Outcome State Fault Refusal := s.main (ageing l)

end Sys2Proof.Machine
end

