-- ==== Sys2Proof/Machine/Pair.lean ====
section
/-! DEFINITION. Pair redundancy, Geode checkpoints, takeover and planned handover (chapter 14, R398 to R422). -/

namespace Sys2Proof.Machine

/-! ### Checkpoint intervals and ages -/

/-- K, the capture interval in control periods (R403). -/
def State.ckptK (s : State) : Nat :=
  if s.cfg.inForce && s.perLen != 0 then (s.rf Reg.PAR_CFG 0 10 * 31250 + s.perLen - 1) / s.perLen else 0

/-- 50 ps × 2⁻³² units of one tick of 3.2 ns. -/
def tick50 : Nat := 64 * 4294967296

/-- Stack time since the capture boundary of a checkpoint, in units of 50 ps × 2⁻³². -/
def State.ckptAge (s : State) (c : Ckpt) : Int :=
  (s.time50 : Int) - s.epoch50 - ((s.perOfs : Int) + c.capK * s.perLen) * tick50

/-- Buffer `b` holds a valid checkpoint. -/
def State.bufValid (s : State) (b : Nat) : Bool := s.bit Reg.PAR_CKPT_STAT b

/-- The checkpoint of buffer `b`, where it is valid. -/
def State.bufCkpt (s : State) (b : Nat) : Option Ckpt := if s.bufValid b then s.par.geode.at b none else none

/-- The newest valid checkpoint (R407). -/
def State.newestCkpt (s : State) : Option Ckpt := s.bufCkpt (s.rf Reg.PAR_CKPT_STAT 2 1)

/-- CKPT_OK (R402): a valid checkpoint no older than AGE_MAX capture intervals. -/
def State.ckptOk (s : State) : Bool :=
  match s.newestCkpt with
  | none => false
  | some c => decide (s.ckptAge c ≤ (s.rf Reg.PAR_CFG 16 8 * s.ckptK * s.perLen * tick50 : Nat))

/-- PAR_CKPT_AGE (R420): whole µs, saturating; 0xFFFF_FFFF without a valid checkpoint. -/
def State.ckptAgeUs (s : State) : Nat :=
  match s.newestCkpt with
  | none => 0xffffffff
  | some c => min (s.ckptAge c / (20000 * 4294967296)).toNat 0xffffffff

/-- The first 64 bits of the image digest. -/
def State.ownDigest (s : State) : Word × Word := (s.rg Reg.CFG_IMG_DIGEST_HI, s.rg Reg.CFG_IMG_DIGEST_LO)

/-! ### Health (R402, R360) -/

/-- A DEVICE fault is latched or standing (R353): clock integrity, failed band search, time alignment, an engine fault,
replica bias at its end, T_CRIT, T_LOWC, a failed built-in self-test. -/
def State.deviceFault (s : State) : Bool :=
  s.integrity || s.clk.failed || s.tim.alignFault || ((List.range 8).any fun k => s.vtx.stopped.at k false) ||
    ((List.range 9).any fun b => s.pwm.out.at b false) || bitOf s.thw.levels 3 || bitOf s.thw.levels 5 ||
    s.rf Reg.GLB_BIST 0 6 != 0

/-- The conditions of R402 in their order, the two of the clock apart: IMG_MATCH, CKPT_OK, NOFAULT, ST_OK, SGI_RUN, SYNC, TEMP_OK,
CLK_OK, COAST. -/
def State.health (s : State) : List Bool :=
  [s.cfg.inForce && s.par.peerDigest == some s.ownDigest, s.ckptOk, !s.bit Reg.GPR_PSTAT 0 && !s.deviceFault,
   s.rn Reg.PAR_ST_FAIL == 0, s.func 0 == 1, s.bit Reg.RNG_STAT 5, s.tempOk,
   (s.clkState == 2 || s.clkState == 4) && !s.integrity, s.clkState == 3 && !s.integrity]

/-- The device is eligible for takeover (R402). -/
def State.eligible (s : State) : Bool :=
  let l := s.health
  (l.take 7).all id && (l.getD 7 false || l.getD 8 false)

/-- The health word but for its sequence number (R402, R421). -/
def State.healthBits (s : State) : Nat :=
  (s.pairState == 3).toNat + ((List.range 9).map fun i => (s.health.getD i false).toNat * 2 ^ (i + 1)).sum +
    (s.timState == 2 && !s.tim.alignFault).toNat * 1024 + s.eligible.toNat * 2048 + s.par.loaded.toNat * 4096

/-- Own eligibility brought up to date (R402): PAR_STAT.ELIG, and event 0x0A06 when a standby loses it. -/
def State.showElig (s : State) : State :=
  if s.bit Reg.PAR_STAT 4 = s.eligible then s
  else if s.eligible || s.pairState != 1 then s.wbit Reg.PAR_STAT 4 s.eligible
  else
    ((s.wbit Reg.PAR_STAT 4 false).wbit Reg.PAR_FLAGS 4 true).raise 0x0a06 0 [s.healthBits + s.par.hseq % 65536 * 65536]

/-- HEALTH_REPORT_SEND (R402): the report is published and sent over the partner link, with the image digest (R53) and the lock
of the L3 receive direction, which R497 has it show. -/
def healthSend (s : State) : State :=
  let s := s.showElig
  let w := s.healthBits + s.par.hseq % 65536 * 65536
  let s := { s.wn Reg.PAR_HLTH_OWN w with par.hseq := (s.par.hseq + 1) % 65536 }
  if s.partnerUp then s.toPartner (.health (BitVec.ofNat 32 w) s.ownDigest (s.bit (Reg.LAN_LSTAT 3) 1)) else s

/-! ### Pair states -/

/-- Both Geode buffers become invalid (R407). -/
def State.dropBuffers (s : State) : State :=
  ({ s with par.geode := [] }.wf Reg.PAR_CKPT_STAT 0 4 0).wn Reg.PAR_CKPT_SEQ 0

/-- Enters STANDBY (R28, R398, R407): outputs no longer enabled, HB_OUT low, the fail-safe pattern under R335, both
buffers invalid. -/
def State.enterStandby (s : State) : State :=
  let s := (s.cancelAll.outputsOff.setPairState 1).stopHeartbeat.dropBuffers
  let s := { s with par.hoSince := none, par.finalDue := false, par.hoPeriod := none, par.capture := none
                    par.prepared := false, par.loaded := false, par.announce := false, par.warm := none
                    par.arriving := none, par.dual := false, mtr.base := [] }
  (s.wbit Reg.PAR_STAT 6 false).settle.showElig

/-- Outputs enabled: OUTEN, and DSAT_I is evaluated where R320 says so (R398). -/
def State.outputsOn (s : State) : State := (s.wbit Reg.PWM_STAT 8 true).showEval

/-- Every pair holds the fail-safe pattern until a commit point brings it values of its own (R411, R413). -/
def State.holdPairs (s : State) : State :=
  (({ s with prot.bypWait := s.pairless } : State).each 96 fun s q =>
    s.setPair q { s.pair q with started := false, begun := false, hold := true, freed := none, wait := true, fresh := false, pend := none, up := false
                                low := false, pending := none, shut := none }).showPend

/-- The device may become ACTIVE at ARM (R399): HB_IN dead for at least 20 µs, and no report that shows ACTIVE. -/
def State.mayBeActive (s : State) : Bool :=
  !s.bit Reg.PAR_STAT 2 && decide (s.par.deadSince + usTicks 20 ≤ s.now) && !s.bit Reg.PAR_HLTH_PEER 0

/-- Enters ACTIVE at an ARM (R399, R564): HB_OUT starts, outputs are enabled, each pair starts at its next boundary. -/
def State.enterActive (s : State) : State :=
  let s := (s.setPairState 3).startHeartbeat.outputsOn.enginesOn
  let s := { s with pwm.armedAt := s.now, par.seq := 0, par.resumed := none, par.warm := none, par.l3Seen := false
                    par.dual := false, ring.armrefNew := false, ring.armsgnNew := false }
  s.each 96 fun s q => s.setPair q { s.pair q with started := false, begun := false, hold := false, freed := none, wait := false, fresh := false }

/-! ### Checkpoints (R403 to R409) -/

/-- The state regions of engine `k`: VTX_BSEL, and of each segment the words of its region in the live bank. -/
def State.engineCkpt (s : State) (k : Nat) : Word × List (Nat × List Word) :=
  (s.rg (Reg.VTX_BSEL k),
   (List.range 8).filterMap fun j => (s.segment k j).map fun g => (j, s.dataWords k (bankBase (s.liveBank k j) + g.base) (g.len / 4)))

/-- The PWM content of pair `q`. -/
def State.pairCkpt (s : State) (q : Nat) : CkptPair :=
  let p := s.pair q
  { on := s.rg (Reg.PWM_ON_L q), wid := s.rg (Reg.PWM_WID_L q), dt := s.rg (Reg.PWM_DT_L q)
    adtR := p.adtR, adtF := p.adtF, cleanR := p.cleanR, cleanF := p.cleanF }

/-- The content of a checkpoint of the present tick (R403, R405), without its CRC. -/
def State.content (s : State) (final : Bool) : Ckpt :=
  { final, seq := BitVec.ofNat 32 s.par.seq, length := s.rg Reg.PAR_CKPT_SIZE, capK := s.tim.period, capTs := s.tim.ts32
    digest := s.ownDigest
    engines := (List.range 8).map s.engineCkpt
    pwm := (List.range 96).map s.pairCkpt
    swLatch := (List.range 6).map fun i => s.rg (Reg.GPR_SWLAT i)
    swInfo := (List.range 192).map fun g => s.rg (Reg.GPR_SWINFO g)
    cellFs := s.rg Reg.GPR_CELLFS
    cellInfo := (List.range 24).map fun c => s.rg (Reg.GPR_CELLINFO c)
    mtr := s.mtrAcc
    caps := (List.range 48).map fun j =>
      { c := s.rg (Reg.THW_CAP_C j), esr := s.rg (Reg.THW_CAP_ESR j), valid := s.bit (Reg.THW_CAP_STAT j) 0 }
    hist := (List.range 240).filterMap fun k =>
      match s.thw.hist.at k [] with | [] => none | l => some (k, l)
    rate := (List.range 240).filterMap fun k => (s.thw.rate.at k none).map fun r => (k, r)
    time := [s.rg Reg.TIM_RATE, BitVec.ofInt 32 s.tim.integral, BitVec.ofInt 32 (s.tim.integral / 4294967296), s.rg Reg.TIM_OFS,
      s.rg Reg.TIM_STAT] }

/-- The 64 bytes of a checkpoint's header (R405). -/
def ckptHeader (c : Ckpt) : List Byte :=
  let be (w : Word) : List Byte := (leBytes w.toNat 4).reverse
  leBytes c.magic.toNat 4 ++ leBytes c.ver.toNat 2 ++ leBytes c.final.toNat 2 ++ leBytes c.seq.toNat 4 ++
    leBytes c.length.toNat 4 ++ leBytes (unsigned 64 c.capK) 8 ++ leBytes c.capTs.toNat 4 ++ be c.digest.1 ++ be c.digest.2 ++
    List.replicate 28 0

/-- A list of bytes cut or filled with zeros to a length. -/
def fitBytes (n : Nat) (l : List Byte) : List Byte := l.take n ++ List.replicate (n - l.length) 0

/-- Words as little-endian bytes. -/
def wordBytes (l : List Word) : List Byte := l.flatMap fun w => leBytes w.toNat 4

/-- The PWM content of a pair as bytes. -/
def ckptPairBytes (p : CkptPair) : List Byte :=
  wordBytes [p.on, p.wid, p.dt] ++ leBytes p.adtR 2 ++ leBytes p.adtF 2 ++ leBytes p.cleanR 1 ++ leBytes p.cleanF 1 ++ leBytes 0 2

/-- The metering content as bytes: energies of 96 bits with their fraction. -/
def ckptMtrBytes (a : MtrAcc) : List Byte :=
  (a.points.flatMap fun p =>
    let g (i : Nat) : Nat := p.getD i 0
    leBytes (g 0) 12 ++ leBytes (g 1) 2 ++ leBytes (g 2) 12 ++ leBytes (g 3) 2 ++ leBytes (g 4) 12 ++ leBytes (g 5) 12 ++
      leBytes (g 6) 8) ++
  (a.mpo.flatMap fun x => leBytes x.1 4 ++ leBytes x.2.1 4 ++ leBytes x.2.2 12) ++ a.mpi.flatMap fun x => leBytes x 4

/-- The WEAR content as bytes. -/
def ckptWearBytes (c : Ckpt) : List Byte :=
  (c.caps.flatMap fun x => wordBytes [x.c, x.esr] ++ leBytes x.valid.toNat 4) ++
  (c.hist.flatMap fun h => leBytes h.1 2 ++ leBytes h.2.length 2 ++
    h.2.flatMap fun x => leBytes x.1 8 ++ leBytes (unsigned 64 x.2.m) 8 ++ leBytes (unsigned 32 x.2.e) 4) ++
  c.rate.flatMap fun x => leBytes x.1 4 ++ leBytes x.2.toNat 4

/-- The bytes of a checkpoint before its CRC (R405): the areas in the rule's order, TIME at the end. DESIGN CHOICE: the order
within each area; a segment's words follow its number; the records of GPR_SWINFO, which the 128 bytes of PROT cannot hold, follow
PROT; what the areas do not fill in front of TIME is zero. -/
def ckptBody (c : Ckpt) : List Byte :=
  let n := min c.length.toNat 0x80000
  let front := ckptHeader c ++
    (c.engines.flatMap fun e => leBytes e.1.toNat 4 ++ e.2.flatMap fun g => leBytes g.1 4 ++ wordBytes g.2) ++
    c.pwm.flatMap ckptPairBytes ++
    fitBytes 128 (wordBytes (c.swLatch ++ [c.cellFs] ++ c.cellInfo)) ++ wordBytes c.swInfo ++
    ckptMtrBytes c.mtr ++ ckptWearBytes c
  (fitBytes (n - 36) front ++ fitBytes 32 (wordBytes c.time)).take (n - 4)

/-- The checkpoint as it stands in a buffer: with the CRC it carries at its end. -/
def ckptBytes (c : Ckpt) : List Byte := ckptBody c ++ leBytes c.crc.toNat 4

/-- The checkpoint of the present tick (R403, R405). -/
def State.checkpoint (s : State) (final : Bool) : Ckpt :=
  let c := s.content final
  { c with crc := crc32 (ckptBody c) }

/-- BAR2 offset of Geode buffer `b` (R635). -/
def geodeAt (b : Nat) : Nat := 0x300000 + 0x80000 * b

/-- CHECKPOINT_CAPTURE (R403, R404, R416): at a capture boundary, or with FINAL at the first boundary behind the request. DESIGN
CHOICE: a FINAL checkpoint that is still staged or streamed is not displaced by a capture of R403. -/
def State.captureCkpt (s : State) : State :=
  if !(s.pairState == 3 && s.partnerUp && s.cfg.inForce) then s
  else if s.par.finalDue ||
      (s.ckptK != 0 && s.tim.period % s.ckptK == 0 && !(s.par.capture.any fun c => c.final)) then
    let c := s.checkpoint s.par.finalDue
    { s with par.capture := some c, par.finalDue := false, par.seq := (s.par.seq + 1) % 4294967296 }
  else s

/-- The streamer may send: with AUTO on L3 a new active waits for a report that shows the partner's receive locked (R497). -/
def State.mayStream (s : State) : Bool := s.rf (Reg.LAN_CFG 3) 0 2 != 2 || s.par.l3Seen

/-- CHECKPOINT_STAGING_DONE (R404, R406): the copy stands in the staging buffer and streaming begins, where it may. -/
def stagingDone (s : State) : State :=
  match s.par.capture with
  | none => s
  | some c =>
    let s := s.storeBlock (geodeAt (c.seq.toNat % 2)) (ckptBytes c)
    if s.mayStream then s.wbit Reg.PAR_CKPT_STAT 3 true else { s with par.capture := none }

/-- CHECKPOINT_SENT (R406): the checkpoint has gone out on L3, if the partner link is up. -/
def ckptSent (s : State) : State :=
  match s.par.capture with
  | none => s
  | some c =>
    let s := { s with par.capture := none }.wbit Reg.PAR_CKPT_STAT 3 false
    if s.partnerUp then s.send 3 (.lane 3 (.ckpt c)) else s

/-- `a` is later than `b` by 1 to 2³¹ − 1, modulo 2³². -/
def laterSeq (a b : Word) : Bool := decide (0 < (a - b).toInt)

/-- Why a checkpoint is invalid (R407): 1 MAGIC or VER, 2 LENGTH, 3 CRC, 4 IMG_DIGEST, 5 SEQ; none if it is valid. -/
def State.ckptBad (s : State) (c : Ckpt) : Option Nat :=
  let other := s.bufCkpt (1 - c.seq.toNat % 2)
  if c.magic != 0x444f4547 || c.ver != 0x0100 then some 1
  else if c.length != s.rg Reg.PAR_CKPT_SIZE then some 2
  else if c.crc != crc32 (ckptBody c) then some 3
  else if c.digest != s.ownDigest then some 4
  else match other with
    | some o => if laterSeq c.seq o.seq then none else some 5
    | none => none

/-- Buffer `b` loses its checkpoint (R407, R355): the other one keeps its own, event 0x0A04. DESIGN CHOICE: the numbers of the
reasons, those of `ckptBad`, 6 for an uncorrectable memory error and 7 for a part of a checkpoint. -/
def State.invalidBuffer (s : State) (b : Nat) (seq : Word) (reason : Nat) : State :=
  let s := s.wbit Reg.PAR_CKPT_STAT b false
  let s := match s.bufCkpt (1 - b) with
    | some o => (s.wf Reg.PAR_CKPT_STAT 2 1 (1 - b)).wr Reg.PAR_CKPT_SEQ o.seq
    | none => (s.wf Reg.PAR_CKPT_STAT 2 1 0).wn Reg.PAR_CKPT_SEQ 0
  ((s.wbit Reg.PAR_FLAGS 2 true).raise 0x0a04 0 [b, seq.toNat, reason]).showElig

/-- An uncorrectable error the streamer or a takeover reads in buffer `b` (R355): the checkpoint in it is invalid, one being
streamed from it is given up. -/
def State.spoilBuffer (s : State) (b : Nat) : State :=
  match s.par.capture.filter fun c => c.seq.toNat % 2 == b with
  | some c => ({ s with par.capture := none }.wbit Reg.PAR_CKPT_STAT 3 false).invalidBuffer b c.seq 6
  | none => match s.bufCkpt b with
    | some c => s.invalidBuffer b c.seq 6
    | none => s

/-! ### Loading a checkpoint (R411) -/

/-- The engine content: the regions into the banks that VTX_BSEL makes live. -/
def State.loadEngine (s : State) (k : Nat) (e : Word × List (Nat × List Word)) : State :=
  e.2.foldl (fun s (x : Nat × List Word) =>
    match s.segment k x.1 with
    | some g => s.setData k (bankBase (bitOf e.1.toNat x.1) + g.base) x.2
    | none => s) (s.wr (Reg.VTX_BSEL k) e.1)

/-- The PWM content: live values become shadows marked dirty, dead times, in both copies, and their adaptation stand as
captured (R309). -/
def State.loadPair (s : State) (q : Nat) (c : CkptPair) : State :=
  let s := (((s.wr (Reg.PWM_ON q) c.on).wr (Reg.PWM_WID q) c.wid).wr (Reg.PWM_DT q) c.dt).wr (Reg.PWM_DT_L q) c.dt
  let s := s.setPair q { s.pair q with dirty := true, adtR := c.adtR, adtF := c.adtF, cleanR := c.cleanR, cleanF := c.cleanF }
  s.wn (Reg.PWM_ADT_STAT q) (c.adtR + c.adtF * 65536)

/-- The PROT content, or the newest latch vector where its TS32 is later than CAP_TS. The cluster latch is not carried. Latches
that change are sent to the partner (R408). -/
def State.loadLatches (s : State) (c : Ckpt) : State :=
  let was := s.latchVector
  let s := s.each 192 fun s g => s.wr (Reg.GPR_SWINFO g) (c.swInfo.getD g 0)
  let s := match s.prot.vecRx with
    | some v =>
      if laterSeq v.ts32 c.capTs then
        let s := s.each 6 fun s i => s.wn (Reg.GPR_SWLAT i) (v.switches / 2 ^ (32 * i))
        let s := s.wn Reg.GPR_CELLFS v.cells
        s.each 24 fun s d => s.wn (Reg.GPR_CELLINFO d) (v.causes.getD d 0)
      else s
    | none => s
  let s := if (s.prot.vecRx.map fun v => laterSeq v.ts32 c.capTs) = some true then s
    else
      let s := s.each 6 fun s i => s.wr (Reg.GPR_SWLAT i) (c.swLatch.getD i 0)
      let s := s.wr Reg.GPR_CELLFS c.cellFs
      s.each 24 fun s d => s.wr (Reg.GPR_CELLINFO d) (c.cellInfo.getD d 0)
  if s.latchVector = was then s.countLatches else s.countLatches.sendLatches

/-- The WEAR content (R549): estimates, histories and restored rates, but for the device's own term. -/
def State.loadWear (s : State) (c : Ckpt) : State :=
  let s := s.each 48 fun s j =>
    let x := c.caps.getD j {}
    ((s.wr (Reg.THW_CAP_C j) x.c).wr (Reg.THW_CAP_ESR j) x.esr).wbit (Reg.THW_CAP_STAT j) 0 x.valid
  let own := s.thw.hist.at 240 []
  let ownRate := s.thw.rate.at 240 none
  let hist := c.hist.foldl (fun t x => Tab.put t x.1 [] x.2) ([] : Tab (List (Nat × Dy)))
  let rate := c.rate.foldl (fun t x => Tab.put t x.1 none (some x.2)) ([] : Tab (Option Word))
  { s with thw.hist := hist.put 240 [] own, thw.rate := rate.put 240 none ownRate }

/-- A checkpoint taken over (R190, R411): no block executes its reset branch for want of a first execution. -/
def State.loadCkpt (s : State) (c : Ckpt) : State :=
  let s := s.each 8 fun s k => s.loadEngine k (c.engines.getD k (0, []))
  let s := s.each 96 fun s q => s.loadPair q (c.pwm.getD q {})
  let s := (s.loadLatches c).loadWear c
  { s with vtx.marks := [], par.resumed := some c }

/-- The segments resume behind the checkpoint: SRFPLL advances over the periods missed, RAMP restarts (R190, R412). -/
def State.resumeSegments (s : State) (c : Ckpt) : State :=
  let n := (s.tim.period - c.capK).toNat
  let keys := (List.range 64).filter fun x => (s.segment (x / 8) (x % 8)).isSome
  { s with vtx.resume := keys.foldl (fun t x => Tab.put t x none (some n)) [] }

/-! ### Partner loss and takeover (R410 to R413) -/

/-- HEARTBEAT_DEAD (R22). -/
def heartbeatDead (s : State) : State := { s.wbit Reg.PAR_STAT 2 false with par.deadSince := s.now }

/-- HEARTBEAT_ALIVE (R22, R418): a takeover before B_r is abandoned. -/
def heartbeatAlive (s : State) : State :=
  let s := s.wbit Reg.PAR_STAT 2 true
  if s.pairState = 2 then (s.enterStandby).raise 0x0a09 0 [] else s

/-- PARTNER_LOSS (R410, R418): an eligible standby enters TAKING and drives HB_OUT. The buffer of a checkpoint of
which only a part has arrived becomes invalid, reason 7 of `invalidBuffer`. -/
def partnerLoss (s : State) : State :=
  if s.pairState != 1 then s
  else
    let told := s.bit Reg.PAR_STAT 4
    let s := match s.par.arriving with
      | some q => (({ s with par.arriving := none } : State).wbit Reg.PAR_CKPT_STAT 3 false).invalidBuffer (q.toNat % 2) q 7
      | none => s
    let s := s.showElig
    let elig := s.bit Reg.PAR_STAT 4
    let s := if !elig && !told && !s.ckptOk then
        (s.wbit Reg.PAR_FLAGS 4 true).raise 0x0a06 0 [s.healthBits + s.par.hseq % 65536 * 65536] else s
    let s := (s.wbit Reg.PAR_FLAGS 0 true).wr Reg.PAR_TO_TS s.tim.ts32
    let s := s.raise 0x0a01 0 [elig.toNat, s.rn Reg.PAR_CKPT_SEQ]
    let s := { s with par.lossAt := s.now, par.blockAt := s.now, par.blockAdd := s.rf Reg.PAR_CFG 24 7 - 10
                      par.planned := false, par.prepared := false, par.loaded := false, par.hoPeriod := none }
    if elig then ((s.setPairState 2).startHeartbeat.outputsOn.holdPairs).settle else s

/-- TAKEOVER_PREPARE_DONE (R411). -/
def prepareDone (s : State) : State :=
  if s.pairState != 2 then s
  else match s.newestCkpt with
    | none => s
    | some c => ({ s.loadCkpt c with par.prepared := true }).settle

/-- The device becomes ACTIVE at B_r with a warm-up period (R412). -/
def State.resume (s : State) : State :=
  let s := match s.par.resumed with
    | some c => s.resumeSegments c
    | none => s
  let s := (s.setPairState 3).startHeartbeat.outputsOn.enginesOn
  let s := { s with par.warm := some s.tim.period, par.announce := true, par.prepared := false, par.loaded := false
                    par.hoPeriod := none, par.l3Seen := false, par.dual := false, mtr.base := []
                    par.seq := match s.par.resumed with | some c => (c.seq.toNat + 1) % 4294967296 | none => 0
                    ring.armrefNew := false, ring.armsgnNew := false }
  s.spareWindows.settle

/-- TAKEOVER_RESUME (R412): the first boundary at least T_PREP behind partner loss. -/
def State.takeoverBoundary (s : State) : State :=
  if s.pairState = 2 && s.par.prepared && decide (s.par.lossAt + usTicks 15 ≤ s.now) then s.resume else s

/-- HANDOVER_BOUNDARY (R416): at B_s the active device becomes the standby, and the standby that has loaded the FINAL
checkpoint becomes active. -/
def State.handoverBoundary (s : State) : State :=
  match s.par.hoPeriod with
  | none => s
  | some p =>
    if s.tim.period < p then s
    else if s.pairState = 3 then (s.wr Reg.PAR_TO_TS s.tim.ts32).enterStandby
    else if s.pairState = 1 && s.par.loaded then
      let s := s.wr Reg.PAR_TO_TS s.tim.ts32
      let s := { s with par.blockAt := s.now, par.blockAdd := 0, par.planned := true }
      let s := match s.par.resumed with | some c => s.loadLatches c | none => s
      s.holdPairs.resume
    else s

/-! ### Reception -/

/-- The accumulators of an accepted checkpoint (R409): plus what the device has integrated itself since its boundary. What it had
at later boundaries is brought to the same footing. A device that was no standby at the boundary knows nothing it integrated since. -/
def State.takeMetering (s : State) (c : Ckpt) : State :=
  let own := s.mtrAcc
  match s.mtr.base.find? fun x => x.1 == c.capK with
  | none => s.takeAcc (s.sinceAcc c.mtr own own)
  | some (_, b) =>
    ({ s with mtr.base := s.mtr.base.map fun x => if c.capK ≤ x.1 then (x.1, s.sinceAcc c.mtr x.2 b) else x } : State).takeAcc
      (s.sinceAcc c.mtr own b)

/-- The own accumulators of a standby at a control period boundary (R409), which a checkpoint captured there needs: it arrives
within a capture interval (R406). -/
def State.keepBase (s : State) : State :=
  if s.pairState = 1 && s.cfg.inForce then
    { s with mtr.base := (s.tim.period, s.mtrAcc) :: s.mtr.base.filter fun x => decide (s.tim.period < x.1 + 2 * s.ckptK) }
  else s

/-- HO_TMO has passed since the FINAL checkpoint was loaded: the handover it was sent for is over (R416). -/
def State.loadedStale (s : State) : Bool :=
  s.par.hoPeriod.isNone && decide (s.par.loadedAt + 312500 * s.rf Reg.PAR_HOCFG 0 16 ≤ s.now)

/-- CHECKPOINT_RECEIVED (R407): the standby validates it; a valid FINAL one is loaded at once (R416). DESIGN CHOICE:
the command also tells that a part of a checkpoint has arrived, which R418 needs; and LOADED stands until a checkpoint arrives
HO_TMO or more behind the FINAL one, for which no period has been named. -/
def ckptReceived (c : Ckpt) (s : State) : State :=
  if s.pairState != 1 then s
  else if c.part then ({ s with par.arriving := some c.seq } : State).wbit Reg.PAR_CKPT_STAT 3 true
  else
    let b := c.seq.toNat % 2
    let s := ({ s with par.arriving := none } : State).wbit Reg.PAR_CKPT_STAT 3 false
    let s := s.storeBlock (geodeAt b) (ckptBytes c)
    match s.ckptBad c with
    | some reason => s.invalidBuffer b c.seq reason
    | none =>
      let s := { s with par.geode := s.par.geode.put b none (some c) }
      let s := ((s.wbit Reg.PAR_CKPT_STAT b true).wf Reg.PAR_CKPT_STAT 2 1 b).wr Reg.PAR_CKPT_SEQ c.seq
      let s := s.takeMetering c
      let s := if c.final then { s.loadCkpt c with par.loaded := true, par.loadedAt := s.now }.settle
        else if s.loadedStale then { s with par.loaded := false } else s
      s.showElig

/-- LATCH_VECTOR_RECEIVED (R408): the standby keeps the newest one, the last to arrive. -/
def vectorReceived (v : LatchVec) (s : State) : State :=
  if s.pairState != 1 && s.pairState != 2 then s else { s with prot.vecRx := some v }

/-- The reaction to a dual-active state (R28): how it was detected, 0 heartbeat, 1 report. -/
def State.dualActive (s : State) (by' : Nat) : State :=
  let s := (s.wbit Reg.PAR_FLAGS 6 true).raise 0x0a03 0 [s.role.toNat, by']
  if s.role then s.enterStandby else s

/-- DUAL_ACTIVE_TIMEOUT (R28). -/
def dualTimeout (s : State) : State :=
  if s.pairState = 3 && s.bit Reg.PAR_STAT 2 then s.dualActive 0 else s

/-- HEALTH_REPORT_RECEIVED (R400, R402, R416): the word is kept; LOADED behind a planned request names period s. -/
def healthReceived (w : Word) (digest : Word × Word) (l3 : Bool) (s : State) : State :=
  let s := (s.wr Reg.PAR_HLTH_PEER w).wbit Reg.PAR_STAT 5 (fld w 11 1 == 1)
  let s := { s with par.peerDigest := some digest, par.l3Seen := s.par.l3Seen || (s.pairState == 3 && l3) }
  let s := if fld w 0 1 = 0 then { s with par.dual := false }
    else if s.pairState = 3 && !s.par.dual then { s with par.dual := true }.dualActive 1 else s
  let s :=
    if s.pairState = 3 && s.bit Reg.PAR_STAT 6 && !s.par.finalDue && s.par.hoPeriod.isNone && fld w 12 1 = 1 then
      let p : Int := s.tim.period + Int.ofNat (s.rf Reg.PAR_HOCFG 16 8)
      ({ s with par.hoPeriod := some p } : State).toPartner (.handover p)
    else s
  s.showElig

/-- HANDOVER_MESSAGE_RECEIVED (R416). -/
def handoverMessage (period : Int) (s : State) : State :=
  if s.pairState = 1 && s.par.loaded then { s with par.hoPeriod := some period } else s

/-- HANDOVER_TIMEOUT (R416): LOADED has not arrived; the handover is abandoned with reason 3. -/
def handoverTimeout (s : State) : State :=
  if s.pairState = 3 && s.bit Reg.PAR_STAT 6 && s.par.hoPeriod.isNone then
    let s := { s with par.hoSince := none, par.finalDue := false }
    ((s.wbit Reg.PAR_STAT 6 false).wbit Reg.PAR_FLAGS 5 true).raise 0x0a08 0 [3]
  else s

/-- The lane bit of the self-test follows QLOCK as well (R401, R483). -/
def State.showLaneFail (s : State) : State := s.wbit Reg.PAR_ST_FAIL 2 (s.par.stLane || s.par.laneLost != 0)

/-- The verdict of self-test item `item`: its bit of PAR_ST_FAIL. -/
def State.setFail (s : State) (item : Nat) (b : Bool) : State :=
  if item = 2 then ({ s with par.stLane := b } : State).showLaneFail else s.wbit Reg.PAR_ST_FAIL item b

/-- SELFTEST_STEP (R401): a step of item `item` on a standby; a failure sets its bit, a full rerun that passes clears it.
The gate pad test runs only while HB_IN is alive. A step ends with what it used as before: pads at their commanded levels, lane
directions out of the loop of R490 and in their previous state. -/
def selftest (item : Nat) (pass last : Bool) (s : State) : State :=
  if s.pairState != 1 || (item == 3 && !(s.bit Reg.PAR_STAT 2 && !s.sys.hbOut)) then s
  else
    let s := if pass then s else { s.setFail item true with par.stBad := withBit s.par.stBad item true }
    let s := if !last then s
      else
        let s := if bitOf s.par.stBad item then s else s.setFail item false
        { s with par.stBad := withBit s.par.stBad item false }
    s.showElig

/-! ### The commands -/

/-- HEARTBEAT_ALIVE (R22). -/
def execHeartbeatAlive (s : State) : Host.Outcome State Fault Refusal := s.main heartbeatAlive

/-- HEARTBEAT_DEAD (R22). -/
def execHeartbeatDead (s : State) : Host.Outcome State Fault Refusal := s.main heartbeatDead

/-- DUAL_ACTIVE_TIMEOUT (R28). -/
def execDualActiveTimeout (s : State) : Host.Outcome State Fault Refusal := s.main dualTimeout

/-- PARTNER_LOSS (R410). -/
def execPartnerLoss (s : State) : Host.Outcome State Fault Refusal := s.main partnerLoss

/-- TAKEOVER_PREPARE_DONE (R411). -/
def execTakeoverPrepareDone (s : State) : Host.Outcome State Fault Refusal := s.main prepareDone

/-- CHECKPOINT_STAGING_DONE (R404). -/
def execCheckpointStagingDone (s : State) : Host.Outcome State Fault Refusal := s.main stagingDone

/-- CHECKPOINT_SENT (R406). -/
def execCheckpointSent (s : State) : Host.Outcome State Fault Refusal := s.main ckptSent

/-- CHECKPOINT_RECEIVED (R407). -/
def execCheckpointReceived (c : Ckpt) (s : State) : Host.Outcome State Fault Refusal :=
  s.heard 3 (ckptReceived c)

/-- LATCH_VECTOR_RECEIVED (R408). -/
def execLatchVectorReceived (v : LatchVec) (s : State) : Host.Outcome State Fault Refusal :=
  s.heard s.partnerLane (vectorReceived v)

/-- HEALTH_REPORT_SEND (R402). -/
def execHealthReportSend (s : State) : Host.Outcome State Fault Refusal := s.main healthSend

/-- HEALTH_REPORT_RECEIVED (R400), with the image digest and the lock of the sender's L3 receive direction. -/
def execHealthReportReceived (w : Word) (digest : (Word × Word) × Bool) (s : State) : Host.Outcome State Fault Refusal :=
  s.heard s.partnerLane (healthReceived w digest.1 digest.2)

/-- SELFTEST_STEP (R401). -/
def execSelftestStep (item : Fin 5) (pass last : Bool) (s : State) : Host.Outcome State Fault Refusal :=
  s.main (selftest item.val pass last)

/-- PAR_HANDOVER (R416). -/
def execParHandover (src : Src) (s : State) : Host.Outcome State Fault Refusal :=
  State.finish (s.keyed src Reg.PAR_CTRL fun s => s.requestHandover 0)

/-- HANDOVER_MESSAGE_RECEIVED (R416). -/
def execHandoverMessageReceived (period : Int) (s : State) : Host.Outcome State Fault Refusal :=
  s.heard s.partnerLane (handoverMessage period)

/-- HANDOVER_TIMEOUT (R416). -/
def execHandoverTimeout (s : State) : Host.Outcome State Fault Refusal := s.main handoverTimeout

end Sys2Proof.Machine
end

