-- ==== Sys2Proof/Machine/Lanes.lean ====
section
/-! DEFINITION. Serial lanes and station Ethernet (chapter 17, R480 to R505). -/

namespace Sys2Proof.Machine

/-! ### Lock (R482 to R487) -/

/-- A lane of the ring. -/
def ringLaneNo (n : Nat) : Bool := n < 2 || n == 6 || n == 7

/-- A partner lane. -/
def partnerLaneNo (n : Nat) : Bool := n == 2 || n == 3

/-- Sends a lane-state set: on L2 in normal service, on L3 in single-lane mode (R485, R486). -/
def State.sendLaneState (s : State) : State :=
  let n := if s.bit Reg.LAN_STAT 26 then 3 else 2
  s.send n (.lane n (.laneState s.node s.role (s.bit (Reg.LAN_LSTAT 2) 1)))

/-- SINGLE_LANE_MODE (R486): both directions of L3 wake, and a lane-state set goes out. -/
def State.singleLane (s : State) : State :=
  if s.bit Reg.LAN_STAT 26 then s
  else
    let s := { s.wbit Reg.LAN_STAT 26 true with lan.peerL2 := false }
    (((s.setAwake 3 true true).setAwake 3 false true).laneUses).sendLaneState

/-- The link of station port `p` is up (R498): 10GBASE-R by block lock without high BER or a fault, 1000BASE-X by completed
auto-negotiation, or with AN_EN clear by synchronisation. DEDUCED: LAN_LSTAT.BLOCK shows the synchronisation of 1000BASE-X. -/
def State.ethUp (s : State) (p : Nat) : Bool :=
  let stat := Reg.LAN_ETH_STAT p
  let block := s.bit (Reg.LAN_LSTAT (4 + p)) 0
  if s.bit (Reg.LAN_ETH_CFG p) 0 then (if s.bit (Reg.LAN_ETH_CFG p) 1 then s.bit stat 3 else block)
  else block && !s.bit stat 4 && !s.bit stat 1 && !s.bit stat 2

/-- LAN_ETH_STAT and LAN_STAT show the link of a port; an event when it goes down or comes up (R501). -/
def State.showEth (s : State) (p : Nat) : State :=
  let was := s.bit (Reg.LAN_ETH_STAT p) 0
  let up := s.ethUp p
  let s := (s.wbit (Reg.LAN_ETH_STAT p) 0 up).wbit Reg.LAN_STAT (24 + p) up
  if was && !up then
    let s := { s with lan.ptp := s.lan.ptp.put p [] [] }
    ((s.wbit Reg.LAN_FLAGS (8 + p) true).raise 0x0d03 (4 + p) [4 + p, s.rf (Reg.LAN_ETH_STAT p) 1 2]).silencePort p
  else if !was && up then s.raise 0x0d04 (4 + p) [4 + p, s.rf (Reg.LAN_ETH_CFG p) 0 1]
  else s

/-- The link of the station port on lane `n`, where it has one. -/
def State.showPort (s : State) (n : Nat) : State := if n = 4 ∨ n = 5 then s.showEth (n - 4) else s

/-- BLOCK_LOCK_GAINED (R482): a receiver that is awake, or fed by its own serialiser (R490), declares block lock. -/
def lockGained (n : Nat) (s : State) : State :=
  if s.awake n false || s.looped n then ((s.wbit (Reg.LAN_LSTAT n) 0 true).wbit (Reg.LAN_LSTAT n) 2 true).showPort n else s

/-- The lane bit of the self-test follows the QLOCK of an awake lane of ring or partner (R483); eligibility follows (R402). -/
def State.laneBit (s : State) (n : Nat) (lost : Bool) : State :=
  ({ s with par.laneLost := withBit s.par.laneLost n (lost && s.awake n false) } : State).showLaneFail.showElig

/-- What follows the loss of qualified lock of lane `n` (R252, R483, R486, R487). -/
def State.qlockLost (s : State) (n : Nat) (signal : Bool) : State :=
  let s := (s.wbit (Reg.LAN_LSTAT n) 1 false).wbit Reg.LAN_STAT n false
  let s := (s.wbit Reg.LAN_FLAGS n true).raise 0x0d01 n [n, signal.toNat]
  if ringLaneNo n then (s.ringLane n false).laneBit n true
  else if partnerLaneNo n then
    let s := ((s.laneBit n true).showPartner.wbit Reg.PAR_FLAGS 3 true).raise 0x0a05 n [n]
    if n ≠ 2 then s else if s.bit Reg.LAN_STAT 26 then s.sendLaneState else s.singleLane
  else s

/-- The end of block lock (R482, R483), with the invalid headers it adds to LAN_SHERR. -/
def State.dropLock (s : State) (n : Nat) (signal : Bool) (invalid : Nat) : State :=
  if !s.bit (Reg.LAN_LSTAT n) 0 then s
  else
    let q := s.bit (Reg.LAN_LSTAT n) 1
    let s := (s.wbit (Reg.LAN_LSTAT n) 0 false).count (Reg.LAN_LOCKLOSS n)
    let s := s.satAdd (Reg.LAN_SHERR n) 0 32 invalid
    (if q then s.qlockLost n signal else s).showPort n

/-- BLOCK_LOCK_LOST (R482, R483): by invalid headers, or by loss of signal; `invalid` counts the headers met while locked that
LAN_SHERR does not hold yet. In loop the signal at the receive input is ignored (R490). -/
def lockLost (n : Nat) (signal : Bool) (invalid : Nat) (s : State) : State :=
  if signal && s.looped n then s
  else (if signal then s.wbit (Reg.LAN_LSTAT n) 2 false else s).dropLock n signal invalid

/-- QLOCK_SET (R483): block lock has held for LINK_HOLD. -/
def qlockSet (n : Nat) (s : State) : State :=
  if !s.bit (Reg.LAN_LSTAT n) 0 || s.bit (Reg.LAN_LSTAT n) 1 then s
  else
    let s := ((s.wbit (Reg.LAN_LSTAT n) 1 true).wbit Reg.LAN_STAT n true).raise 0x0d02 n [n]
    if ringLaneNo n then (s.ringLane n true).laneBit n false
    else if partnerLaneNo n then
      let s := (s.laneBit n false).showPartner
      if n = 2 then s.sendLaneState else s
    else s

/-- LANE_STATE_SET_RECEIVED (R486), on either partner lane: a set that shows L2 unlocked brings single-lane mode; the
partner's L2 lock is kept. -/
def laneState (l2 : Bool) (s : State) : State :=
  let s := if l2 then s else s.singleLane
  { s with lan.peerL2 := l2 }

/-- SINGLE_LANE_EXIT (R486): both devices have reported L2 lock for 1 s. -/
def singleExit (s : State) : State :=
  if s.bit Reg.LAN_STAT 26 && s.bit (Reg.LAN_LSTAT 2) 1 && s.lan.peerL2 then
    (s.wbit Reg.LAN_STAT 26 false).laneUses
  else s

/-! ### Test patterns (R488 to R491) -/

/-- The PRBS checker of lane `n`. -/
def State.prbs (s : State) (n : Nat) : Prbs := s.lan.prbs.at n {}

/-- Sets it. -/
def State.setPrbs (s : State) (n : Nat) (p : Prbs) : State := { s with lan.prbs := s.lan.prbs.put n {} p }

/-- Bits of lane `n` per tick of 3.2 ns: 33 at 10.3125 GBd, 4 at 1.25 GBd. -/
def State.bitsPerTick (s : State) (n : Nat) : Nat :=
  if (n == 4 || n == 5) && s.bit (Reg.LAN_ETH_CFG (n - 4)) 0 then 4 else 33

/-- Brings the counters of lane `n` up to the present tick, with the errors met since: 48 bits, saturating. -/
def State.countPrbs (s : State) (n errors : Nat) : State :=
  let p := s.prbs n
  match p.since with
  | none => s
  | some t =>
    let lim := 2 ^ 48 - 1
    let p := { since := some s.now, bits := min (p.bits + (s.now - t) * s.bitsPerTick n) lim, errs := min (p.errs + errors) lim }
    ((s.setPrbs n p).wn (Reg.LAN_PRBS_BIT_LO n) p.bits).wn (Reg.LAN_PRBS_ERR_LO n) p.errs

/-- PRBS_LOCK_CHANGE (R488): pattern lock gained, or lost with the errors of the lock that ends; event 0x0D05. -/
def prbsLock (n : Nat) (gained : Bool) (errors : Nat) (s : State) : State :=
  if gained then
    if s.bit (Reg.LAN_CTL n) 1 && (s.prbs n).since.isNone then
      (s.setPrbs n { s.prbs n with since := some s.now }).wbit (Reg.LAN_LSTAT n) 3 true
    else s
  else if (s.prbs n).since.isNone then s
  else
    let s := s.countPrbs n errors
    let s := (s.setPrbs n { s.prbs n with since := none }).wbit (Reg.LAN_LSTAT n) 3 false
    (s.wbit Reg.LAN_FLAGS 10 true).raise 0x0d05 n [n]

/-- Lane `n` carries no traffic (R491): both directions off, or the device halted. -/
def State.laneFree (s : State) (n : Nat) : Bool := s.halted || s.rf (Reg.LAN_CFG n) 0 4 == 5

/-- The polynomial x^a + x^b + 1 of LAN_CTL.PAT (R488). -/
def prbsPoly (pat : Nat) : Nat × Nat :=
  match pat with
  | 0 => (7, 6) | 1 => (15, 14) | 2 => (23, 18) | _ => (31, 28)

/-- What the generator of lane `n` sends (R488), where LAN_CTL has changed it from `old`; in loop it does not leave the
device (R490). -/
def State.sendPattern (s : State) (n : Nat) (old : Word) : State :=
  let sent (w : Word) : Option (Nat × Nat) := if fld w 0 1 = 1 ∧ fld w 4 1 = 0 then some (prbsPoly (fld w 2 2)) else none
  let new := sent (s.rg (Reg.LAN_CTL n))
  if sent old = new then s else s.emit (.prbs n new)

/-- A write of LAN_CTL[n] (R490 to R492): refused with 0x25 where it tests or freezes a lane that carries traffic. A checker
that is switched off keeps its counts; the errors met since they were last counted, which the command does not bring, are
free. -/
def lanCtl (n : Nat) (v : Word) (s : State) : State :=
  if (fld v 0 2 != 0 || fld v 4 2 != 0) && !s.laneFree n then s.refuse (Reg.LAN_CTL n) 0x25
  else
    let old := s.rg (Reg.LAN_CTL n)
    let s := ((s.wn (Reg.LAN_CTL n) (fld v 0 6)).sendPattern n old).showPartner
    let s := if fld v 1 1 = 1 then s
      else ((s.countPrbs n (Config.prbsErrors s.free)).draw).wbit (Reg.LAN_LSTAT n) 3 false
    let s := if fld v 1 1 = 1 then s else s.setPrbs n { s.prbs n with since := none }
    if fld v 6 1 = 0 then s
    else
      let s := s.setPrbs n { since := (s.prbs n).since.map fun _ => s.now }
      let s := (s.wn (Reg.LAN_PRBS_BIT_LO n) 0).wn (Reg.LAN_PRBS_BIT_HI n) 0
      (s.wn (Reg.LAN_PRBS_ERR_LO n) 0).wn (Reg.LAN_PRBS_ERR_HI n) 0

/-- A read of a _LO word of the PRBS counters latches its _HI word (R489). `errors` are those met since last counted. -/
def State.prbsLo (s : State) (n : Nat) (bitCount : Bool) (errors : Nat) : State × Word :=
  let s := s.countPrbs n errors
  let p := s.prbs n
  if bitCount then (s.wn (Reg.LAN_PRBS_BIT_HI n) (p.bits / 4294967296), s.rg (Reg.LAN_PRBS_BIT_LO n))
  else (s.wn (Reg.LAN_PRBS_ERR_HI n) (p.errs / 4294967296), s.rg (Reg.LAN_PRBS_ERR_LO n))

/-- LAN_PRBS_LO_READ. -/
def prbsRead (n : Nat) (bitCount : Bool) (errors : Nat) (s : State) : State :=
  let (s, v) := s.prbsLo n bitCount errors
  s.emit (.readValue v)

/-! ### Equaliser and eye (R492, R494) -/

/-- A receive equaliser code stands at an end of its range: CTLE and taps 1 to 3 as LAN_RXEQ holds them, and taps 4 and 5. -/
def eqLimit (w : Word) (taps : BitVec 16) : Bool :=
  let end8 (x : Nat) : Bool := x == 127 || x == 128
  fld w 0 6 == 0 || fld w 0 6 == 63 || end8 (fld w 8 8) || end8 (fld w 16 8) || end8 (fld w 24 8) ||
    end8 (taps.toNat % 256) || end8 (taps.toNat / 256)

/-- A receive equaliser that has been measured stands at an end of its range: LAN_FLAGS.EQLIM stands. -/
def State.eqLimits (s : State) : Bool := (List.range 8).any fun n =>
  (s.lan.hour.at n none).isSome && eqLimit (s.rg (Reg.LAN_RXEQ n)) (s.lan.taps.at n 0)

/-- EYE_MEASUREMENT (R492, R494): an awake receiver reports its eye, the worse of the present hour, and its equaliser
codes; frozen codes stay. -/
def eye (n : Nat) (h v : Nat) (rxeq : Word) (taps : BitVec 16) (s : State) : State :=
  if !s.awake n false then s
  else
    let hour := s.tim.s / 3600
    let same := s.lan.hour.at n none == some hour
    let old := s.rg (Reg.LAN_EYE n)
    let wh := if same then min h (fld old 16 8) else h
    let wv := if same then min v (fld old 24 8) else v
    let s := { s with lan.hour := s.lan.hour.put n none (some hour) }
    let s := s.wn (Reg.LAN_EYE n) (h + v * 256 + wh * 65536 + wv * 16777216)
    if s.bit (Reg.LAN_CTL n) 5 then s
    else
      let s := { s.wr (Reg.LAN_RXEQ n) (rxeq &&& 0xffffff3f) with lan.taps := s.lan.taps.put n 0 taps }
      if eqLimit rxeq taps && !s.bit Reg.LAN_FLAGS 11 then (s.wbit Reg.LAN_FLAGS 11 true).raise 0x0d06 n [n, fld rxeq 0 6] else s

/-! ### Sleep and wake (R495, R496) -/

/-- The use of a direction of lane `n`: 0 ON, 1 OFF, 2 AUTO. -/
def State.laneUse (s : State) (n : Nat) (tx : Bool) : Nat := s.rf (Reg.LAN_CFG n) (if tx then 0 else 2) 2

/-- LANE_WAKE (R495, R496): a direction wakes as its use permits, a receive direction by signal detect, which a sleeping one
keeps. In loop the receive input is ignored (R490). -/
def laneWake (n : Nat) (tx : Bool) (s : State) : State :=
  if tx then
    match s.laneUse n true with
    | 0 => (s.setAwake n true true).showPartner
    | 2 => s.laneUses
    | _ => s
  else if s.looped n then s
  else
    let s := s.wbit (Reg.LAN_LSTAT n) 2 true
    if s.laneUse n false = 1 then s else (s.setAwake n false true).showPartner

/-- A receive direction falls asleep: its CDR stops, so its lock ends; signal detect stays (R495). DESIGN CHOICE: the loss counts
and tells as one by signal. -/
def State.sleepRx (s : State) (n : Nat) : State := ((s.setAwake n false false).dropLock n true 0).showPartner

/-- LANE_SLEEP_TIMEOUT (R495): an AUTO receive direction without signal for 1 ms, where its use does not keep it awake. -/
def laneSleep (n : Nat) (s : State) : State :=
  if s.laneUse n false = 2 && decide (2 ≤ s.pairState) && !s.bit Reg.LAN_STAT 26 then
    (s.wbit (Reg.LAN_LSTAT n) 2 false).sleepRx n
  else s

/-- The uses of every lane behind an image load (R480, R495). -/
def State.applyUses (s : State) : State :=
  let s := s.each 8 fun s n =>
    let s := match s.laneUse n true with
      | 0 => s.setAwake n true true | 1 => s.setAwake n true false | _ => s
    match s.laneUse n false with
    | 0 => s.setAwake n false true | 1 => if s.awake n false then s.sleepRx n else s | _ => s
  (s.laneUses.showEth 0).showEth 1

/-- The partner and ring lanes are on from reset (R480). -/
def State.lanesOn (s : State) : State :=
  s.each 4 fun s n => (s.setAwake n true true).setAwake n false true

/-! ### Station Ethernet (R498 to R501) -/

/-- ETH_LINK_CHANGE (R498, R501): local fault, remote fault, auto-negotiation complete and high BER of a port, as its PHY has
them: 10GBASE-R has no auto-negotiation, 1000BASE-X no high BER and no local fault, and none completes with AN_EN clear. The link
follows from them and the lock of the lane. -/
def ethLink (p : Nat) (status : Nat) (s : State) : State :=
  let gigabit := s.bit (Reg.LAN_ETH_CFG p) 0
  let negotiates := gigabit && s.bit (Reg.LAN_ETH_CFG p) 1
  let s := s.wf (Reg.LAN_ETH_STAT p) 1 2 (if gigabit then status / 2 % 2 * 2 else status % 4)
  let s := (s.wbit (Reg.LAN_ETH_STAT p) 3 (negotiates && bitOf status 2)).wbit (Reg.LAN_ETH_STAT p) 4 (!gigabit && bitOf status 3)
  s.showEth p

/-- A big-endian number of `n` bytes of a frame at an offset. -/
def beAt (f : List Byte) (o n : Nat) : Nat := leNat ((f.drop o).take n).reverse

/-- The frame is tagged (IEEE 802.1Q). -/
def tagged (f : List Byte) : Bool := beAt f 12 2 == 0x8100

/-- The offset of the payload of a frame; its EtherType stands just before. -/
def payloadAt (f : List Byte) : Nat := if tagged f then 18 else 14

/-- The EtherType of a frame. -/
def frameType (f : List Byte) : Nat := beAt f (payloadAt f - 2) 2

/-- The EtherType is that of the SAFE section, or its default (R380). -/
def State.safeType (s : State) (t : Nat) : Bool := s.safe.etherType.toNat == t

/-- The destination is the port's station address, broadcast, or an enabled multicast address (R499); for a safety frame also
the multicast address that SAFE names (R380). -/
def State.macFor (s : State) (p : Nat) (f : List Byte) : Bool :=
  let d := leNat (f.take 6)
  d == s.station p || d == 0xffffffffffff || (s.safeType (frameType f) && s.safeAddressed p d) ||
    (List.range 8).any fun i => s.bit (Reg.LAN_ETH_MC_HI p i) 31 &&
      d == s.rn (Reg.LAN_ETH_MC_LO p i) + s.rf (Reg.LAN_ETH_MC_HI p i) 0 16 * 4294967296

/-- The tag requirement of the port (R499). -/
def State.vlanOk (s : State) (p : Nat) (f : List Byte) : Bool :=
  !s.bit (Reg.LAN_ETH_VLAN p) 12 || (tagged f && beAt f 14 2 % 4096 == s.rf (Reg.LAN_ETH_VLAN p) 0 12)

/-- What the MAC does with the content of an accepted frame (R500): 0 discards, 1 passes to the time block, 2 passes to the
Flint mailbox, 3 answers an ARP request, 4 answers an echo request. -/
def State.ethContent (s : State) (p : Nat) (f : List Byte) : Nat :=
  let o := payloadAt f
  let t := frameType f
  let ip := s.rn (Reg.LAN_ETH_IPV4 p)
  if t == 0x88f7 then 1
  else if s.safeType t then 2
  else if t == 0x0806 then (if beAt f (o + 6) 2 == 1 && beAt f (o + 24) 4 == ip then 3 else 0)
  else if t == 0x0800 && beAt f (o + 16) 4 == ip then
    let l4 := o + 4 * (beAt f o 1 % 16)
    let proto := beAt f (o + 9) 1
    if proto == 17 && (beAt f (l4 + 2) 2 == 319 || beAt f (l4 + 2) 2 == 320) then 1
    else if proto == 1 && beAt f l4 1 == 8 then 4
    else 0
  else 0

/-- Sends an answer: 2 ARP reply, 3 echo reply. -/
def State.ethAnswer (s : State) (p kind : Nat) : State := s.sendEth p kind

/-- ETH_FRAME_RECEIVED (R499, R500): size, FCS, destination, tag and content decide. A safety frame reaches the mailbox of its
network; an IEEE 1588 frame goes to the time block with the time of its arrival. DESIGN CHOICE: what it says is the operand of the
PTP_MESSAGE in which the time block takes it, since the spec leaves the layout of those messages to IEEE 1588. -/
def ethFrame (p : Nat) (f : List Byte) (s : State) : State :=
  if f.length < 64 ∨ 1522 < f.length then s.count (Reg.LAN_RXDROP p)
  else if leNat (f.drop (f.length - 4)) ≠ (crc32 (f.take (f.length - 4))).toNat then s.count (Reg.LAN_RXFCS p)
  else if !s.macFor p f || !s.vlanOk p f then s.count (Reg.LAN_RXDROP p)
  else
    let c := s.ethContent p f
    if c = 0 then s.count (Reg.LAN_RXDROP p)
    else
      let s := s.count (Reg.LAN_RXOK p)
      if c = 2 then safetyFrame p (leNat (f.take 6)) (BitVec.ofNat 16 (frameType f)) ((f.take (f.length - 4)).drop (payloadAt f)) s
      else if c = 1 then { s with lan.ptp := s.lan.ptp.put p [] (s.lan.ptp.at p [] ++ [s.stamp50]) }
      else if c = 3 then s.ethAnswer p 2
      else if c = 4 then
        let (sec, n) := s.lan.echo.at p (0, 0)
        let n := if sec = s.tim.s then n else 0
        if n < 10 then ({ s with lan.echo := s.lan.echo.put p (0, 0) (s.tim.s, n + 1) } : State).ethAnswer p 3 else s
      else s

/-! ### The commands -/

/-- BLOCK_LOCK_GAINED (R482). -/
def execBlockLockGained (lane : Lane) (s : State) : Host.Outcome State Fault Refusal := s.main (lockGained lane.val)

/-- BLOCK_LOCK_LOST (R482). -/
def execBlockLockLost (lane : Lane) (signal : Bool) (invalid : Nat) (s : State) : Host.Outcome State Fault Refusal :=
  s.main (lockLost lane.val signal invalid)

/-- QLOCK_SET (R483). -/
def execQlockSet (lane : Lane) (s : State) : Host.Outcome State Fault Refusal := s.main (qlockSet lane.val)

/-- SINGLE_LANE_EXIT (R486). -/
def execSingleLaneExit (s : State) : Host.Outcome State Fault Refusal := s.main singleExit

/-- LANE_STATE_SET_RECEIVED (R486). -/
def execLaneStateSetReceived (l2 : Bool) (s : State) : Host.Outcome State Fault Refusal := 
  s.main fun s => if s.receives 2 || s.receives 3 then laneState l2 s else s

/-- PRBS_LOCK_CHANGE (R488). -/
def execPrbsLockChange (lane : Lane) (gained : Bool) (errors : Nat) (s : State) : Host.Outcome State Fault Refusal :=
  s.main (prbsLock lane.val gained errors)

/-- LAN_CTL_WRITE (R491). -/
def execLanCtlWrite (src : Src) (lane : Lane) (v : Word) (s : State) : Host.Outcome State Fault Refusal :=
  State.finish (s.unkeyed src (Reg.LAN_CTL lane.val) (lanCtl lane.val v))

/-- LAN_PRBS_LO_READ (R489): until READY the read returns zero (R561). -/
def execLanPrbsLoRead (lane : Lane) (bitCount : Bool) (errors : Nat) (s : State) :
    Host.Outcome State Fault Refusal :=
  s.access fun s => if s.sys.ready then prbsRead lane.val bitCount errors s
    else s.emit (.readValue 0)

/-- EYE_MEASUREMENT (R494). -/
def execEyeMeasurement (lane : Lane) (h v : Byte) (rxeq : Word × BitVec 16) (s : State) : Host.Outcome State Fault Refusal :=
  s.main (eye lane.val h.toNat v.toNat rxeq.1 rxeq.2)

/-- LANE_WAKE (R496). -/
def execLaneWake (lane : Lane) (tx : Bool) (s : State) : Host.Outcome State Fault Refusal := s.main (laneWake lane.val tx)

/-- LANE_SLEEP_TIMEOUT (R495). -/
def execLaneSleepTimeout (lane : Lane) (s : State) : Host.Outcome State Fault Refusal := s.main (laneSleep lane.val)

/-- ETH_LINK_CHANGE (R501). -/
def execEthLinkChange (port : Fin 2) (status : BitVec 4) (s : State) : Host.Outcome State Fault Refusal :=
  s.main (ethLink port.val status.toNat)

/-- ETH_FRAME_RECEIVED (R500). -/
def execEthFrameReceived (port : Fin 2) (frame : List Byte) (s : State) : Host.Outcome State Fault Refusal :=
  s.heard (4 + port.val) (ethFrame port.val frame)

end Sys2Proof.Machine
end

