-- ==== Sys2Proof/Machine/Memory.lean ====
section
/-! DEFINITION. Host access to the memories, uncorrectable errors, the end of transfers and the commands of memory and arbiter
(chapter 16, R449 to R479). -/

namespace Sys2Proof.Machine

/-! ### Corrections and uncorrectable errors (R450, R453, R355) -/

/-- Puts a correction, reader and word, into its place by address. -/
def insertWord (x : Nat × Nat) : List (Nat × Nat) → List (Nat × Nat)
  | [] => [x]
  | y :: l => if x.2 ≤ y.2 then x :: y :: l else y :: insertWord x l

/-- CORRECTION_LOG_UPDATE (R454): the corrections of one FCLK cycle join those that wait, in ascending address, and the log takes one.
What the queue of eight does not hold is counted in MEM_LOGOVF. -/
def correctionUpdate (l : List (Nat × Nat)) (s : State) : State :=
  ((l.foldr insertWord []).foldl (fun s x => s.correction x.1 x.2) s).logOne

/-- A write of MEM_LOGCLR: all entries are cleared; a correction that has entered the log in the same tick takes a new one (R475). -/
def logClear (v : Word) (s : State) : State :=
  if fld v 0 1 = 0 then s
  else
    let s := { s with memi := { s.memi with log := List.replicate 16 none } }
    match s.memi.newest with
    | some (t, r, w) => if t = s.now then s.putLog 0 { addr := w, count := 1, src := r } else s
    | none => s

/-- The engine whose port or whose requester number read word `w`. -/
def readerEngine (reader w : Nat) : Option Nat :=
  if reader < 8 then some reader
  else if reader = 12 && decide (0x100000 ≤ w) then some ((w - 0x100000) / 0x4000 % 8)
  else none

/-- The reaction of a reader to an uncorrectable word it has met (R355). -/
def State.react (s : State) (reader w : Nat) : State :=
  if reader = 8 then s.emit .abort
  else if reader = 10 then s.spoilBuffer (w / 0x10000 % 2)
  else if reader = 14 then { s with ring.gap := true }
  else match readerEngine reader w with
    | some k =>
      let (seg, blk) := match s.runOf k with | some r => (r.seg, r.blk) | none => (0, 0)
      s.engineFault k 2 seg blk
    | none => s

/-- UNCORRECTABLE_ERROR (R355, R450): recorded, event 0x0C03, and the reaction of the reader. -/
def uncorrectable (reader w : Nat) (s : State) : State :=
  if reader = 9 && s.scrubbing then s.scrubUe w else (s.recordUe reader w).react reader w

/-! ### Fill and host access through BAR2 (R449 to R452, R460) -/

/-- A test-mode write of a whole word: data and MEM_TEST_CWR are stored as they are (R460). -/
def State.testWrite (s : State) (w data : Nat) : State :=
  let chk := s.rf Reg.MEM_TEST_CWR 0 8
  let s := s.setBytes (8 * w) (leBytes (eccWord data chk) 8)
  if chk = checkBits data then s
  else { s with memi.raw := s.memi.raw.put w none (some (data % 2 ^ 64, chk)) }

/-- A host write through BAR2 once memory is filled. A write of less than a word reads it first: a word that the code does not correct
drops the write (R451). -/
def State.bar2Write (s : State) (off : Nat) (bytes : List Byte) (err : Nat) : State :=
  let whole := off % 8 == 0 && bytes.length == 8
  match region off with
  | 0 => s.emit .unsupported
  | 3 => s.refuse off 0x25
  | r =>
    if r != 1 && !s.halted then s.refuse off 0x25
    else if s.bit Reg.MEM_STAT 2 then
      if whole then s.testWrite (off / 8) (leNat bytes) else s.refuse off 0x25
    else if whole then s.setBytes off bytes
    else if err == 2 then s.recordUe 8 (off / 8)
    else
      let s := if err == 1 then (s.correction 8 (off / 8)).logOne else s
      let (s, bad) := s.meet 8 off bytes.length
      if bad.isSome then s else s.setBytes off bytes

/-- A word as BAR2 reads it in test mode: as stored, with its check bits (R460). -/
def State.rawWord (s : State) (w : Nat) : Nat × Nat :=
  match s.memi.raw.at w none with
  | some x => x
  | none => (s.mem64 w, checkBits (s.mem64 w))

/-- MEM_TEST_CRD behind a test read of word `w` (R460). -/
def State.latchTest (s : State) (w : Nat) : State :=
  let (d, c) := s.rawWord w
  s.wn Reg.MEM_TEST_CRD (c % 256 + eccSyndrome d c * 256 + eccClass d c * 65536)

/-- The bytes of a range as stored, without correction. -/
def State.rawBytes (s : State) (off n : Nat) : List Byte :=
  let w := off / 8
  (((List.range (off % 8 + n + 7)).filter fun i => i % 8 == 0).flatMap fun i => leBytes (s.rawWord (w + i / 8)).1 8).drop (off % 8)
    |>.take n

/-- A host read through BAR2 once memory is filled (R449, R450, R460): an unmapped offset completes as an unsupported request, a
word that the code does not correct with completer abort. -/
def State.bar2Read (s : State) (off n err : Nat) : State :=
  let w := (off + n - 1) / 8
  if region off = 0 then s.emit .unsupported
  else if s.bit Reg.MEM_STAT 2 then (s.latchTest w).emit (.readBytes (s.rawBytes off n))
  else if err = 2 then (s.recordUe 8 (off / 8)).emit .abort
  else
    let s := if err = 1 then (s.correction 8 (off / 8)).logOne else s
    let (s, bad) := s.meet 8 off n
    if bad.isSome then s.emit .abort else s.emit (.readBytes (s.bytes off n))

/-- A host access through BAR2 once memory is filled. -/
def State.bar2 (s : State) (off : Nat) (x : Bar2) (err : Nat) : State :=
  match x with
  | .write bytes => s.bar2Write off bytes err
  | .read n => s.bar2Read off n err

/-- BAR2_HOST_WRITE (R449, R451): one that arrives during the fill is held until the fill completes (R452). `err` is what a read or
the read of a read-modify-write finds in a word that no test write has spoilt: 0 none, 1 a single error, 2 an uncorrectable one.
DESIGN CHOICE: the table has no row of its own for a host read through BAR2, which this one's operand may be. -/
def bar2HostWrite (off : Nat) (x : Bar2) (err : Fin 3) (s : State) : State :=
  if s.bit Reg.MEM_STAT 0 then s.bar2 off x err.val
  else { s with memi := { s.memi with held := s.memi.held ++ [(off, x, err)] } }

/-- MEMORY_FILL_DONE (R452): every word is zero with valid check bits; accesses held are served; self-test follows. -/
def fillDone (s : State) : State :=
  if s.bit Reg.MEM_STAT 0 then s
  else
    let l := s.memi.held
    let s := { s with mem := [], memi := {} }
    let s := s.wbit Reg.MEM_STAT 0 true
    let s := if s.devState = 3 then s.wf Reg.GLB_STAT 0 4 4 else s
    l.foldl (fun s x => s.bar2 x.1 x.2.1 x.2.2.val) s

/-- Test mode ends or begins: event 0x0C07 with the new state (R460). -/
def State.setTest (s : State) (en : Bool) : State :=
  if s.bit Reg.MEM_STAT 2 = en then s
  else ((s.wbit Reg.MEM_STAT 2 en).wbit Reg.MEM_TEST 0 en).raise 0x0c07 0 [en.toNat]

/-- MEM_TEST accepted by its key: refused unless halted. -/
def memTest (en : Bool) (s : State) : State :=
  if en && !s.halted then s.refuse Reg.MEM_TEST 0x25 else s.setTest en

/-! ### The end of transfers (R463, R465, R470) -/

/-- Stores the words of a completed write transfer. -/
def State.storeWords (s : State) (addr : Nat) (data : List Nat) : State :=
  if data.isEmpty then s else s.setBytes addr (data.flatMap fun v => leBytes v 8)

/-- The effect of a transfer at its last beat (R463): its words are returned, take effect, or join those of the sequence that has
reserved the bank; a scrub's words are read and the next ones asked for; a write-back is done. -/
def State.complete (s : State) (b cycle : Nat) (h : ArbReq) : State :=
  match h.kind with
  | .scrub n => s.scrubRead (h.addr / 8) n
  | .writeBack => s.writeBack (h.addr / 8)
  | .plain =>
    if h.data.isEmpty then
      let (s, bad) := s.meet h.r h.addr (8 * h.beats)
      let s := s.returned h cycle
      match bad with
      | some w => s.react h.r w
      | none => s
    else match s.reservedBy b, s.lockSeq h.r with
      | some r, some z =>
        if r = h.r then s.setLockSeq r (some { z with writes := (h.addr, h.data) :: z.writes })
        else s.storeWords h.addr h.data
      | _, _ => s.storeWords h.addr h.data

/-- ARB_GRANT_DECISION (R463, R465): in the last beat of the holder's transfer it takes effect, and the next grant is decided. -/
def grantDecision (b cycle : Nat) (s : State) : State :=
  let x := s.arbBank b
  match x.holder with
  | none => s.grantNext b cycle
  | some h =>
    let s := (s.setArbBank b { x with holder := none }).complete b cycle h
    let s := s.grantNext b cycle
    match h.kind with
    | .scrub _ => s.scrubAsk
    | _ => s

/-- LOCK_RELEASE (R470): the writes of the sequence take effect together and its banks are free. -/
def lockRelease (r cycle : Nat) (s : State) : State :=
  match s.lockSeq r with
  | none => s
  | some z =>
    let s := z.writes.foldr (fun w s => s.storeWords w.1 w.2) s
    let s := s.dropSeq r cycle z.banks
    z.banks.foldl (fun s b => s.grantNext b cycle) s

/-! ### The commands -/

/-- MEMORY_FILL_DONE (R452). -/
def execMemoryFillDone (s : State) : Host.Outcome State Fault Refusal := s.main fillDone

/-- UNCORRECTABLE_ERROR (R450). -/
def execUncorrectableError (reader : Fin 15) (word : Fin 2097152) (s : State) : Host.Outcome State Fault Refusal :=
  s.main (uncorrectable reader.val word.val)

/-- CORRECTION_LOG_UPDATE (R454). -/
def execCorrectionLogUpdate (l : List (Fin 15 × Fin 2097152)) (s : State) : Host.Outcome State Fault Refusal :=
  s.main (correctionUpdate (l.map fun x => (x.1.val, x.2.val)))

/-- MEM_LOGCLR (R454). -/
def execMemLogclr (src : Src) (v : Word) (s : State) : Host.Outcome State Fault Refusal :=
  State.finish (s.unkeyed src Reg.MEM_LOGCLR (logClear v))

/-- MEM_TEST_EN (R460). -/
def execMemTestEn (src : Src) (en : Bool) (s : State) : Host.Outcome State Fault Refusal :=
  State.finish (s.keyed src Reg.MEM_TEST (memTest en))

/-- BAR2_HOST_WRITE (R451). -/
def execBar2HostWrite (off : Nat) (access : Bar2) (err : Fin 3) (s : State) : Host.Outcome State Fault Refusal :=
  s.access (bar2HostWrite off access err)

/-- ARB_REQUEST (R465). -/
def execArbRequest (r : Fin 12) (bank : Fin 16) (beats : Nat) (lock late : Bool) (addr : Nat) (data : List Nat) (s : State) :
    Host.Outcome State Fault Refusal :=
  s.main fun s => arbRequest { r := r.val, since := s.fclk late, beats, lock, addr, data } bank.val (s.fclk late) s

/-- ARB_GRANT_DECISION (R465). -/
def execArbGrantDecision (bank : Fin 16) (late : Bool) (s : State) : Host.Outcome State Fault Refusal :=
  s.main fun s => grantDecision bank.val (s.fclk late) s

/-- ARB_URGENT (R464). -/
def execArbUrgent (r : Fin 12) (bank : Fin 16) (s : State) : Host.Outcome State Fault Refusal :=
  s.main fun s => arbUrgent r.val bank.val (s.fclk true) s

/-- ARB_CLASS_WRITE (R467). -/
def execArbClassWrite (src : Src) (r : Fin 12) (v : Word) (s : State) : Host.Outcome State Fault Refusal :=
  State.finish (s.unkeyed src (Reg.ARB_CLASS r.val) fun s => classWrite r.val v (s.fclk true) s)

/-- ARB_HOLD_CUTOFF (R473). -/
def execArbHoldCutoff (r : Fin 12) (bank : Fin 16) (s : State) : Host.Outcome State Fault Refusal :=
  s.main fun s => holdCutoff r.val bank.val (s.fclk true) s

/-- ARB_WITHDRAW (R473). -/
def execArbWithdraw (r : Fin 12) (bank : Fin 16) (s : State) : Host.Outcome State Fault Refusal :=
  s.main fun s => withdraw r.val bank.val (s.fclk true) s

/-- LOCK_RELEASE (R470). -/
def execLockRelease (r : Fin 12) (s : State) : Host.Outcome State Fault Refusal :=
  s.main fun s => lockRelease r.val (s.fclk true) s

end Sys2Proof.Machine
end

