-- ==== Sys2Proof/Machine/HostQ.lean ====
section
/-! DEFINITION. The host queues of PCI Express (chapter 18, R512 to R519, R523 to R525). -/

namespace Sys2Proof.Machine

/-! ### The endpoint (R506, R507) -/

/-- What the endpoint identifies itself by: vendor, device, class code, revision. -/
def State.identity (s : State) : Nat × Nat × Nat × Nat := (0x1f8a, 0x2460, 0x118000, s.rf Reg.GLB_ID 8 8)

/-- The payload and read request sizes that the endpoint supports, in bytes. -/
def maxPayloads : List Nat := [128, 256, 512]
def maxReadRequests : List Nat := [128, 256, 512]

/-- MSI-X vectors: one for each queue, one for link and tunnel errors, one for the severe records of HQ0. -/
def msixVectors : Nat := 34

/-- The BARs, each of 64 bits: number, bytes, prefetchable. -/
def bars : List (Nat × Nat × Bool) := [(0, 0x400000, false), (2, 0x1000000, true), (4, 0x10000000, false)]

/-! ### Queues (R512 to R514) -/

/-- The queue is enabled. -/
def State.qOn (s : State) (q : Nat) : Bool := s.hrf (Reg.HQ_QCFG q) 0 1 == 1

/-- Host address of entry `i` of a queue. -/
def State.entryAddr (s : State) (q i : Nat) : Nat :=
  (s.hrg (Reg.HQ_BASE_HI q)).toNat * 4294967296 + (s.hrg (Reg.HQ_BASE_LO q)).toNat / 4096 * 4096 + 32 * (i % s.qSize q)

/-- Host address of the pointer shadow of a queue. -/
def State.shadowAddr (s : State) (q : Nat) : Nat :=
  (s.hrg (Reg.HQ_WB_HI q)).toNat * 4294967296 + (s.hrg (Reg.HQ_WB_LO q)).toNat / 8 * 8

/-- The PCI Express link is up (R527). -/
def State.linkUp (s : State) : Bool := s.hrf Reg.HQ_STAT 0 1 == 1

/-- Signals an MSI-X vector (R523): a masked one becomes pending. -/
def State.signal (s : State) (v : Nat) : State :=
  if (s.hrf (Reg.HQ_MSIX (4 * v + 3)) 0 1 == 1) then s.hwf (Reg.HQ_MSIX_PBA (v / 32)) (v % 32) 1 1
  else s.emit (.msix v)

/-- A write of HQ_QCFG (R514, R526): SIZE changes only while EN is clear; setting EN zeroes both pointers; clearing it gives
up the descriptors fetched. -/
def queueEnable (q : Nat) (v : Word) (s : State) : State :=
  let size := fld v 4 5
  if size < 4 ∨ 16 < size then s.refuse (Reg.HQ_QCFG q) 0x25
  else if s.qOn q && size != s.hrf (Reg.HQ_QCFG q) 4 5 then s.refuse (Reg.HQ_QCFG q) 0x25
  else
    let on := fld v 0 1 == 1
    let was := s.qOn q
    let s := s.hwr (Reg.HQ_QCFG q) (BitVec.ofNat 32 (on.toNat + size * 16))
    if on && !was then (s.hwr (Reg.HQ_HEAD q) 0).hwr (Reg.HQ_TAIL q) 0
    else if !on then
      { s with hq := { s.hq with
          desc := s.hq.desc.put q [] [], away := s.hq.away.put q false false, late := s.hq.late.filter (·.1 != q)
          result := if q = 18 then none else s.hq.result } }
    else s

/-- A write of HQ_HEAD (R514): firmware consumes entries of a queue toward the host; past HQ_TAIL it is refused. -/
def headWrite (q : Nat) (v : Word) (s : State) : State :=
  if 16 ≤ q then s
  else
    let n := s.qSize q
    let h := fld v 0 16
    if h < n ∧ (h + n - s.qHead q) % n ≤ s.qUsed q then s.hwf (Reg.HQ_HEAD q) 0 16 h
    else s.refuse (Reg.HQ_HEAD q) 0x25

/-! ### Records toward the host (R515 to R517, R523) -/

/-- The record of queue `q` that is written next: an epoch mark kept apart comes first. It shows LOST where one has been dropped
since the last one written (R517). -/
def State.nextRecord (s : State) (q : Nat) : Option Record :=
  (s.hq.mark.at q [] ++ s.hq.buf.at q []).head?.map fun r => { r with lost := r.lost || s.hq.lost.at q false }

/-- Takes that record out of the buffer. -/
def State.dropNext (s : State) (q : Nat) : State :=
  let s := { s with hq.lost := s.hq.lost.put q false false }
  match s.hq.mark.at q [] with
  | _ :: l => { s with hq.mark := s.hq.mark.put q [] l }
  | [] =>
    let l := (s.hq.buf.at q []).tail
    ({ s with hq.buf := s.hq.buf.put q [] l }).hwf (Reg.HQ_BUF q) 0 9 (bufEntries l)

/-- Writes the entries of a record at HQ_TAIL and advances it (R513). -/
def State.writeEntries (s : State) (q : Nat) (r : Record) : State :=
  let t := s.qTail q
  let s := s.each r.entries fun s i => s.emit (.hostWrite (s.entryAddr q (t + i)) (r.entry i))
  let t := (t + r.entries) % s.qSize q
  (s.hwr (Reg.HQ_TAIL q) (BitVec.ofNat 32 t)).emit (.hostWrite (s.shadowAddr q) [BitVec.ofNat 32 t])

/-- Counts a record written to queue `q`; with HQ_IMOD.CNT of them unsignalled its vector signals (R523). -/
def State.moderate (s : State) (q : Nat) : State :=
  let n := s.hq.unsig.at q 0 + 1
  if s.hrf (Reg.HQ_IMOD q) 0 8 ≤ n then ({ s with hq.unsig := s.hq.unsig.put q 0 0 } : State).signal q
  else { s with hq.unsig := s.hq.unsig.put q 0 n }

/-- The code of a memory read result (R634). -/
def resultCode : Nat := 0x0e10

/-- INTERRUPT_MODERATION (R523): TIME has passed since the first unsignalled record; the vector of the queue signals. -/
def moderation (q : Nat) (s : State) : State :=
  if s.hq.unsig.at q 0 = 0 then s else ({ s with hq.unsig := s.hq.unsig.put q 0 0 } : State).signal q

/-! ### The tunnel (R509) -/

/-- The lane toward node `n` (R509): fewer hops, L1 when they are equal, and the side that still reaches it in a line. -/
def State.tunnelLane (s : State) (n : Nat) : Option Nat :=
  let k := s.nodes
  if k ≤ n ∨ n = s.node then none
  else
    let east := (n + k - s.node) % k
    let west := (s.node + k - n) % k
    let canE := decide (east ≤ reachEast s.ring.down 0 k s.node (k - 1))
    let canW := decide (west ≤ reachWest s.ring.down 0 k s.node (k - 1))
    if canW && (!canE || decide (west ≤ east)) then some 1 else if canE then some 0 else none

/-- Sends a tunnel message to node `n`, if it can be reached. -/
def State.tunnel (s : State) (n : Nat) (m : Tun) : State :=
  match s.tunnelLane n with
  | some l => s.sendRing l (.tunnel s.node n m)
  | none => s

/-- A relayed record arrives at node 0 (R518, R525): into the buffer of the queue of the same number with SRC.RELAY; while
the queue is disabled, or its buffer full, it is dropped and counted. -/
def State.relayed (s : State) (q : Nat) (x : RelayRec) : State :=
  let r : Record :=
    { ev := { code := x.code, unit := x.unit, data := x.data, ts32 := x.ts32 }, src := x.src % 128 + 128, seq := x.seq
      lost := x.lost }
  if s.qOn q then
    let x := s.enqueue q r
    x.1.overflowed q x.2
  else
    let s := { s with hq.lost := s.hq.lost.put q false true }
    s.hwr (Reg.HQ_DROP q) (BitVec.ofNat 32 (min ((s.hrg (Reg.HQ_DROP q)).toNat + 1) 0xffffffff))

/-! ### Descriptors (R513, R519) -/

/-- STATUS of a completion: DONE, ERR with a code, and an index. -/
def statusWord (code index : Nat) (err : Bool) : Word := BitVec.ofNat 32 (1 + err.toNat * 2 + code * 256 + index * 65536)

/-- The form checks of R519: OP of the queue, reserved fields zero, LEN in range. -/
def descBad (q : Nat) (d : Desc) : Bool :=
  !((q == 16 && d.op == 1) || (q == 17 && d.op == 2) || (q == 18 && (d.op == 3 || d.op == 4))) ||
    decide (64 ≤ d.node) || decide (8 ≤ d.dflags) || d.rsv != 0 || decide (d.len = 0) || decide (65536 < d.len) ||
    (bitOf d.dflags 2 && !(d.op == 3 || d.op == 4)) || (d.op == 2 && (d.dofs != 0 || d.len % 8 != 0 || decide (4096 < d.len))) ||
    ((d.op == 3 || d.op == 4) && (d.addr % 8 != 0 || d.dofs % 8 != 0 || d.len % 8 != 0))

/-- Writes the STATUS of the oldest descriptor, advances HQ_HEAD and its shadow, and signals the vector where the
descriptor asks for it (R513, R523); an error raises event 0x0E04. -/
def State.completeDesc (s : State) (q : Nat) (st : Word) : State :=
  match s.hq.desc.at q [] with
  | [] => s
  | d :: l =>
    let h := s.qHead q
    let s := { s with hq := { s.hq with desc := s.hq.desc.put q [] l, away := s.hq.away.put q false false } }
    let s := s.emit (.hostWrite (s.entryAddr q h + 0x18) [st])
    let h := (h + 1) % s.qSize q
    let s := (s.hwr (Reg.HQ_HEAD q) (BitVec.ofNat 32 h)).emit (.hostWrite (s.shadowAddr q) [BitVec.ofNat 32 h])
    let s := if fld st 1 1 = 0 then s
      else (s.hwf Reg.HQ_FLAGS 18 1 1).raise 0x0e04 q [q, d.tag.toNat, fld st 8 8]
    if bitOf d.dflags 0 then s.signal q else s

/-- DESCRIPTOR_ERROR (R519): badly formed descriptors at the front complete with ERR and code 0x01. -/
def State.refuseDescs (s : State) (q : Nat) : Nat → State
  | 0 => s
  | n + 1 =>
    match s.hq.desc.at q [] with
    | d :: _ => if descBad q d then (s.completeDesc q (statusWord 1 0 true)).refuseDescs q n else s
    | [] => s

/-- A descriptor has completed at its target: its STATUS is written, after the link returns where it is down (R524). -/
def State.descDone (s : State) (q : Nat) (st : Word) : State :=
  if s.linkUp then
    let s := s.completeDesc q st
    s.refuseDescs q (s.hq.desc.at q []).length
  else { s with hq.late := s.hq.late ++ [(q, st, [])] }

/-- The memory read results that wait on HQ5. -/
def State.results (s : State) : Nat := ((s.hq.buf.at 5 []).filter fun r => r.ev.code == resultCode).length

/-- A memory read has completed at its target (R522): its data go to host memory, then the result record to HQ5, then STATUS.
DESIGN CHOICE: with HQ5 disabled, or its record dropped, STATUS follows at once. While the link is down all of it waits (R524). -/
def State.readDone (s : State) (d : Desc) (data : List Byte) (st : Word) : State :=
  if data.isEmpty then s.descDone 18 st
  else if !s.linkUp then { s with hq.late := s.hq.late ++ [(18, st, data)] }
  else
    let l := (List.range (data.length / 4)).map fun i => BitVec.ofNat 32 (leNat ((data.drop (4 * i)).take 4))
    let n := s.results
    let s := (s.emit (.hostWrite d.addr l)).report 5 resultCode 0 [d.tag.toNat]
    if s.qOn 5 && decide (n < s.results) then
      { s with hq := { s.hq with result := some (n + 1, st), away := s.hq.away.put 18 false true } }
    else s.descDone 18 st

/-- Behind a record written or relayed from queue `q`: with the result record of a memory read, its STATUS. -/
def State.resultWritten (s : State) (q : Nat) (r : Record) : State :=
  if q = 5 ∧ r.ev.code = resultCode then
    match s.hq.result with
    | some (n, st) =>
      if n ≤ 1 then ({ s with hq.result := none } : State).descDone 18 st else { s with hq.result := some (n - 1, st) }
    | none => s
  else s

/-- RECORD_WRITE (R513, R517, R523): a buffered record is written once there is room and a link; a relaying device writes
none. A record of class CLUSTER or above on HQ0 signals vector 33. -/
def recordWrite (q : Nat) (s : State) : State :=
  if 6 ≤ q ∨ !s.qOn q ∨ !s.linkUp ∨ s.hrf Reg.HQ_CFG 0 1 = 1 then s
  else match s.nextRecord q with
    | none => s
    | some r =>
      if s.qUsed q + r.entries < s.qSize q then
        let s := (((s.dropNext q).writeEntries q r).moderate q).resultWritten q r
        if q = 0 ∧ 4 ≤ eventClass r.ev.code then s.signal 33 else s
      else s

/-- RECORD_RELAY (R518): a device with RELAY set sends the next record of a queue to node 0, once it can be reached. -/
def recordRelay (q : Nat) (s : State) : State :=
  if 6 ≤ q ∨ s.hrf Reg.HQ_CFG 0 1 = 0 ∨ (s.tunnelLane 0).isNone then s
  else match s.nextRecord q with
    | none => s
    | some r =>
      ((s.dropNext q).tunnel 0 (.record q
        { code := r.ev.code, unit := r.ev.unit, data := r.ev.data, ts32 := r.ev.ts32, src := r.src, seq := r.seq
          lost := r.lost })).resultWritten q r

/-- The oldest descriptor of a queue, ready to run: queue enabled, link up, and not with its target already. -/
def State.frontDesc (s : State) (q : Nat) : Option Desc :=
  if s.qOn q && s.linkUp && !s.hq.away.at q false then (s.hq.desc.at q []).head? else none

/-- A write of HQ_TAIL (R513): the doorbell of a queue toward the device. `l` is what stands in the new entries. A disabled
queue fetches nothing (R526). -/
def doorbell (q : Nat) (v : Word) (l : List Desc) (s : State) : State :=
  if q < 16 then s
  else if !s.qOn q then s.hwr (Reg.HQ_TAIL q) (BitVec.ofNat 32 (v.toNat % 65536))
  else
    let n := (v.toNat % s.qSize q + s.qSize q - s.qTail q % s.qSize q) % s.qSize q
    let s := s.hwr (Reg.HQ_TAIL q) (BitVec.ofNat 32 (v.toNat % s.qSize q))
    if 18 < q then s
    else
      let s := { s with hq.desc := s.hq.desc.put q [] (s.hq.desc.at q [] ++ l.take n) }
      if s.linkUp && !s.hq.away.at q false then s.refuseDescs q (s.hq.desc.at q []).length else s

/-- Sends the oldest descriptor to another node with its data; it waits for the acknowledgement. -/
def State.sendDesc (s : State) (q : Nat) (d : Desc) (data : List Byte) : State :=
  if (s.tunnelLane d.node).isSome then
    let no := s.hq.descNo
    ({ s with hq := { s.hq with away := s.hq.away.put q false true, awayNo := s.hq.awayNo.put q 0 no
                                descNo := no + 1 } } : State).tunnel d.node (.desc q no d data)
  else s

/-! ### Link changes and resets (R524, R525, R590) -/

/-- The link goes down (R524): event 0x0E02 with the last width and rate. -/
def State.linkDown (s : State) (w r : Nat) : State :=
  (((s.hwf Reg.HQ_STAT 0 7 0).hwf Reg.HQ_FLAGS 16 1 1).raise 0x0e02 0 [w, r]).signal 32

/-- A completion that has waited for the link (R524). -/
def State.lateDone (s : State) (q : Nat) (st : Word) (data : List Byte) : State :=
  match s.hq.desc.at q [] with
  | d :: _ => if q = 18 then s.readDone d data st else s.descDone q st
  | [] => s

/-- PCIE_LINK_CHANGE (R524): down, traffic stops; up, STATUS writes that wait are made for queues still enabled, and
every enabled queue resumes. -/
def linkChange (up : Bool) (width rate : Nat) (s : State) : State :=
  if up then
    if s.sys.perst then s
    else
      let s := ((s.hwf Reg.HQ_STAT 0 1 1).hwf Reg.HQ_STAT 1 3 width).hwf Reg.HQ_STAT 4 3 rate
      let s := s.raise 0x0e03 0 [width, rate]
      let l := s.hq.late
      let s := { s with hq.late := [] }
      let s := l.foldl (fun s x => if s.qOn x.1 then s.lateDone x.1 x.2.1 x.2.2 else s) s
      [16, 17, 18].foldl (fun s q =>
        if s.qOn q && !s.hq.away.at q false then s.refuseDescs q (s.hq.desc.at q []).length else s) s
  else if !s.linkUp then s
  else s.linkDown (s.hrf Reg.HQ_STAT 1 3) (s.hrf Reg.HQ_STAT 4 3)

/-- The HQ block as a function-level reset leaves it (R525): queues disabled with their pointers at zero, buffers emptied
and counted as dropped, reads and descriptors aborted, MSI-X table at reset. A lock sequence of HQ18 is abandoned (R526). -/
def State.hqReset (s : State) : State :=
  let s := s.each 32 fun s q =>
    let n := (s.hq.buf.at q []).length + (s.hq.mark.at q []).length
    let s := ((s.hwf (Reg.HQ_QCFG q) 0 1 0).hwr (Reg.HQ_HEAD q) 0).hwr (Reg.HQ_TAIL q) 0
    let s := s.hwr (Reg.HQ_DROP q) (BitVec.ofNat 32 (min ((s.hrg (Reg.HQ_DROP q)).toNat + n) 0xffffffff))
    let s := if n = 0 then s else { s with hq.lost := s.hq.lost.put q false true }
    s.hwr (Reg.HQ_BUF q) 0
  let s := s.each (4 * msixVectors) fun s i => s.hwr (Reg.HQ_MSIX i) (regReset (Reg.HQ_MSIX i))
  let s := (s.hwr (Reg.HQ_MSIX_PBA 0) 0).hwr (Reg.HQ_MSIX_PBA 1) 0
  let s := { s with hq := { s.hq with buf := [], mark := [], unsig := [], desc := [], away := [], late := [], reads := []
                                      result := none
                                      keyHold := [] } }
  match s.lockSeq 8 with
  | some z => z.banks.foldl (fun s b => s.grantNext b (s.fclk true)) (s.dropSeq 8 (s.fclk true) z.banks)
  | none => s

/-- FUNCTION_LEVEL_RESET (R525, R566, R630). -/
def flr (s : State) : State :=
  let s := (s.hqReset.disarm .pcie).wbit Reg.GLB_RSTCAUSE 3 true
  s.raise 0x0e06 0 []

/-- PCIE_PERST (R590): while low the core and the HQ block are held in reset; a link that was up goes down (R524). -/
def perst (low : Bool) (s : State) : State :=
  let s := { s with sys.perst := low }
  if !low || !s.onMain then s
  else
    let t := s.hqReset
    if s.linkUp then t.linkDown (s.hrf Reg.HQ_STAT 1 3) (s.hrf Reg.HQ_STAT 4 3) else t

/-! ### The commands -/

/-- HQ_QUEUE_ENABLE (R514). -/
def execHqQueueEnable (src : Src) (q : Queue) (v : Word) (s : State) : Host.Outcome State Fault Refusal :=
  State.finish (s.unkeyed src (Reg.HQ_QCFG q.val) (queueEnable q.val v))

/-- HQ_HEAD_WRITE (R514). -/
def execHqHeadWrite (src : Src) (q : Queue) (v : Word) (s : State) : Host.Outcome State Fault Refusal :=
  State.finish (s.unkeyed src (Reg.HQ_HEAD q.val) (headWrite q.val v))

/-- HQ_DOORBELL (R513). -/
def execHqDoorbell (src : Src) (q : Queue) (v : Word) (l : List Desc) (s : State) : Host.Outcome State Fault Refusal :=
  State.finish (s.unkeyed src (Reg.HQ_TAIL q.val) (doorbell q.val v l))

/-- RECORD_WRITE (R515). -/
def execRecordWrite (q : Queue) (s : State) : Host.Outcome State Fault Refusal := s.main (recordWrite q.val)

/-- RECORD_RELAY (R518). -/
def execRecordRelay (q : Queue) (s : State) : Host.Outcome State Fault Refusal := s.main (recordRelay q.val)

/-- INTERRUPT_MODERATION (R523). -/
def execInterruptModeration (q : Queue) (s : State) : Host.Outcome State Fault Refusal := s.main (moderation q.val)

/-- PCIE_LINK_CHANGE (R524). -/
def execPcieLinkChange (up : Bool) (width rate : Fin 8) (s : State) : Host.Outcome State Fault Refusal :=
  s.main (linkChange up width.val rate.val)

/-- FUNCTION_LEVEL_RESET (R525). -/
def execFunctionLevelReset (s : State) : Host.Outcome State Fault Refusal := s.main flr

/-- PCIE_PERST (R590). -/
def execPciePerst (low : Bool) (s : State) : Host.Outcome State Fault Refusal := State.finish (perst low s)

end Sys2Proof.Machine
end

