-- ==== Sys2Proof/Machine/Image.lean ====
section
/-! DEFINITION. The Citre image (chapter 2, R37 to R53, R562): loading, the checks of R48, going live. -/

namespace Sys2Proof.Machine

/-! ### Outcomes of a load -/

/-- Every shadow takes its live copy again (R49): those of the groups, the parameter banks, and the delays of triggers no PWM
group sources. -/
def State.restoreShadows (s : State) : State :=
  let s := { s with cfg.parNext := [] }
  let s := allGroups.foldl (fun s g => (s.membersOf g.1 g.2).foldl (fun s p => s.wr p.1 (s.rg p.2)) s) s
  s.each 16 fun s t => if s.trigSourced t then s else s.wr (Reg.ADC_TRIG_DLY t) (s.rg (Reg.ADC_TRIG_DLY_L t))

/-- A refused or aborted load (R49, R64): shadows restored, LAST_REFUSED, CODE, SECT_ID, event 0x0300 | CODE. -/
def State.loadRefused (s : State) (code sect : Nat) (data : List Nat) : State :=
  let s := { s with cfg.load := none }.restoreShadows.showPending
  let s := s.showLoad.wbit Reg.CFG_STAT 3 true
  ((s.wf Reg.CFG_STAT 8 8 code).wf Reg.CFG_STAT 16 16 sect).raise (0x0300 + code) 0 data

/-! ### CFG_LOAD (R46, R48, R65) -/

/-- BOOTSRC admits the source: false PCI Express, true ring (R46). -/
def State.sourceOk (s : State) (ring : Bool) : Bool :=
  match s.rf Reg.GLB_STRAP 8 2 with
  | 0 => !ring | 1 => ring | 2 => true | _ => false

/-- A load in progress ends with code 0x13 (R49, R62). -/
def State.abortLoad (s : State) : State :=
  match s.cfg.load with
  | some l => s.loadRefused 0x13 0 [l.data.length]
  | none => s

/-- CFG_LOAD accepted by its key: CMD 0b01 full image, 0b10 patch, 0b11 abort, 0b00 no action. A full image is refused
at the command while the device is not halted; a source not permitted is refused with code 0x14. -/
def cfgLoad (cmd src : Nat) (s : State) : State :=
  if cmd = 0 then s
  else
    let s := s.abortLoad
    if cmd = 3 then s
    else if cmd = 1 && !s.halted then s.loadRefused 0x0f 0 []
    else if 1 < src || !s.sourceOk (src == 1) then s.loadRefused 0x14 0 [s.rf Reg.GLB_STRAP 8 2]
    else ({ s with cfg.load := some { ring := src == 1 } } : State).showLoad

/-- RECEPTION_TIMEOUT (R47). -/
def loadTimeout (s : State) : State :=
  match s.cfg.load with
  | some l => if l.checking then s else s.loadRefused 0x12 0 [l.data.length]
  | none => s

/-! ### Reception (R47, R520) -/

/-- A little-endian field of the received bytes. -/
def imgField (d : List Byte) (o n : Nat) : Nat := leNat ((d.drop o).take n)

/-- The length at which reception ends (R47): IMAGE_LEN, once its own bytes are there. -/
def imageNeed (d : List Byte) : Option Nat := if d.length < 32 then none else some (imgField d 28 4)

/-- Bytes arrive at the target (R47, R520): accepted at the next offset from the source of the load only. Answers the
completion code. -/
def State.receive (s : State) (ring : Bool) (ofs : Nat) (data : List Byte) : State × Nat :=
  match s.cfg.load with
  | none => (s, 2)
  | some l =>
    if l.checking || l.ring != ring || ofs != l.data.length then (s, 2)
    else
      let d := l.data ++ data
      match imageNeed d with
      | none => ({ s with cfg.load := some { l with data := d } }, 0)
      | some n =>
        if n ≤ d.length then (({ s with cfg.load := some { l with data := d.take n, checking := true } } : State).showLoad, 0)
        else ({ s with cfg.load := some { l with data := d } }, 0)

/-- IMAGE_CHUNK (R520): the descriptor at the front of HQ16, with the bytes of its buffer. -/
def imageChunk (data : List Byte) (s : State) : State :=
  match s.frontDesc 16 with
  | none => s
  | some d =>
    if d.node != s.node then s.sendDesc 16 d (data.take d.len)
    else
      let (s, c) := s.receive false d.dofs (data.take d.len)
      s.descDone 16 (statusWord c 0 (c != 0))

/-! ### The checks of R48 -/

/-- A failed check: code, section concerned, event data. -/
abbrev ImgErr := Nat × Nat × List Nat

/-- A section as its directory entry and header describe it. -/
structure Sect where
  id : Nat
  off : Nat
  ver : Nat
  len : Nat
  crc : Nat
deriving DecidableEq, Repr

/-- The body of a section. -/
def Sect.body (d : List Byte) (x : Sect) : List Byte := (d.drop (x.off + 16)).take x.len

/-- The sections of R40 by ID. -/
def sectionIds : List Nat :=
  [0x01, 0x02, 0x03, 0x10, 0x11, 0x12, 0x13, 0x14, 0x15, 0x16, 0x17, 0x20, 0x21, 0x22, 0x30, 0x40, 0x41, 0x42, 0x43, 0x44, 0xff]

/-- The sections a full image must hold besides one GRAPH section (R40). -/
def requiredIds : List Nat := [0x01, 0x02, 0x03, 0x20, 0x21, 0x22, 0x30, 0x41, 0x42, 0x43]

/-- The sections that are halt-only as a whole (R40). -/
def haltIds : List Nat := [0x02, 0x03, 0x22, 0x30, 0x41, 0x42, 0x43, 0x44]

/-- The section header that a directory entry at index `i` points to. -/
def sectAt (d : List Byte) (i : Nat) : Sect :=
  let off := imgField d (76 + 8 * i + 4) 4
  { id := imgField d (76 + 8 * i) 2, off, ver := imgField d (off + 2) 2, len := imgField d (off + 4) 4, crc := imgField d (off + 8) 4 }

/-- Every section of the directory. -/
def sectsOf (d : List Byte) : List Sect := (List.range (imgField d 72 2)).map (sectAt d)

/-- A condition with what it reports when it fails. -/
def need (b : Bool) (e : ImgErr) : Option ImgErr := if b then none else some e

/-- The first failure of a list of checks. -/
def firstErr (l : List (Option ImgErr)) : Option ImgErr := l.findSome? id

/-- IMAGE_LEN agrees with the directory: every entry and every section lies inside, and the last section ends the image. -/
def lengthOk (d : List Byte) : Bool :=
  let n := imgField d 28 4
  decide (n ≤ 2097152) && n == d.length && decide (76 + 8 * imgField d 72 2 ≤ n) &&
    (sectsOf d).all (fun x => decide (x.off + 16 + x.len ≤ n)) &&
    (match (sectsOf d).getLast? with | some x => x.off + 16 + x.len == n | none => false)

/-- HEAD content and target (R39, codes 0x01 to 0x05, 0x15). -/
def State.checkHead (s : State) (d : List Byte) : Option ImgErr :=
  let fmt := imgField d 20 2
  let flags := imgField d 22 2
  let role := flags / 4 % 4
  let node := imgField d 26 1
  firstErr
    [need (imgField d 16 4 == 0x45525443) (0x01, 1, []),
     need (fmt / 256 == 2 && decide (fmt % 256 ≤ 3)) (0x02, 1, [fmt]),
     need (imgField d 24 2 == 0x2460) (0x03, 1, [imgField d 24 2]),
     need ((node == 255 || node == s.node) && (role == 0 || (role == 1 && !s.role) || (role == 2 && s.role))) (0x04, 1, [node, role]),
     need (lengthOk d) (0x05, 1, [imgField d 28 4]),
     need (flags / 16 == 0) (0x15, 1, [0x06]),
     need (decide (imgField d 27 1 ≤ 63)) (0x15, 1, [0x0b]),
     need (imgField d 74 2 == 0) (0x15, 1, [0x3a])]

/-- One section behind the one before (R37, R38): ascending ID that R40 lists, 16-byte boundary, at most 15 bytes of zero
padding, header ID as in the directory, reserved fields zero. -/
def sectOk (d : List Byte) (i : Nat) : Bool :=
  let x := sectAt d i
  let p := sectAt d (i - 1)
  let fin := if i = 0 then 0 else p.off + 16 + p.len
  sectionIds.contains x.id && (if i = 0 then x.id == 1 && x.off == 0 else decide (p.id < x.id)) &&
    imgField d (76 + 8 * i + 2) 2 == 0 && x.off % 16 == 0 && decide (fin ≤ x.off) && decide (x.off - fin ≤ 15) &&
    ((d.drop fin).take (x.off - fin)).all (· == 0) && imgField d x.off 2 == x.id && imgField d (x.off + 12) 4 == 0

/-- Layout and directory (codes 0x06, 0x07). -/
def checkLayout (d : List Byte) (patch : Bool) : Option ImgErr :=
  let ids := (sectsOf d).map Sect.id
  firstErr
    [((List.range (imgField d 72 2)).find? fun i => !sectOk d i).map fun i => (0x06, (sectAt d i).id, [(sectAt d i).id]),
     need (ids.contains 1) (0x07, 1, [1]),
     if patch then none else (requiredIds.find? fun i => !ids.contains i).map fun i => (0x07, i, [i]),
     need (patch || ids.any fun i => decide (0x10 ≤ i ∧ i ≤ 0x17)) (0x07, 0x10, [0x10])]

/-- Section CRCs and versions (codes 0x08, 0x09). DESIGN CHOICE: section by section, the CRC of one before its version and
both before the next section's. -/
def checkSections (d : List Byte) (c : ImageContent) : Option ImgErr :=
  firstErr ((sectsOf d).map fun x => firstErr
    [need (crc32 (x.body d) == BitVec.ofNat 32 x.crc) (0x08, x.id, [x.id]),
     need (c.badVer.map BitVec.toNat != some x.id) (0x09, x.id, [x.id, x.ver])])

/-- Signature and key (R43, R44, codes 0x0A to 0x0C). DESIGN CHOICE: whether an image is signed is judged by its section
0x00FF alone; HEAD.FLAGS.SIGNED is not compared with it. -/
def State.checkSign (s : State) (d : List Byte) : Option ImgErr :=
  match (sectsOf d).find? fun x => x.id == 0xff with
  | none => need (!s.sys.fuses.ownerEn) (0x0a, 0, [])
  | some x =>
    let b := x.body d
    let k := imgField b 0 1
    let part o := beNat ((b.drop o).take 32)
    firstErr
      [need (x.len == 132 && ecdsaOk (part 4, part 36) (beNat (sha256 (d.take x.off))) (part 68) (part 100)) (0x0b, 0xff, []),
       need (!s.sys.fuses.ownerEn ||
         (s.sys.fuses.digests.getD k [] == sha256 ((b.drop 4).take 64) && !s.sys.fuses.revoked.getD k true)) (0x0c, 0xff, [k])]

/-- The section that carries a register (R40). -/
def sectionOf (a : Nat) : Nat :=
  match a / 0x10000 with
  | 1 | 2 => 0x41
  | 4 => 0x03
  | 6 | 7 => 0x10 + (a - 0x60000) / 0x2000 % 8
  | 8 => if 0x80400 ≤ a then 0x41 else 0x20
  | 9 => 0x21
  | 0xb => 0x22
  | 0xc | 0xd => 0x42
  | 0xf | 0x12 => 0x02
  | 0x10 => 0x40
  | 0x13 => 0x43
  | 0x15 => 0x44
  | 5 => if (arrayIndex (Reg.ADC_TRIG_DLY 0) 8 16 a).isSome then 0x21 else Config.fieldSection a
  | _ => Config.fieldSection a

/-- A field of a register that an image sets lies outside its stated range. -/
def badField (p : Nat × Word) : Bool :=
  match rowOf p.1 with
  | some r => !(r.inRange p.2 && rangeStated p.1 p.2)
  | none => false

/-- The body content of every section (code 0x16): HEAD and SIGN from the bytes, the others as interpreted, and the stated range
of every register field they set. -/
def checkBodies (d : List Byte) (c : ImageContent) : Option ImgErr :=
  firstErr
    [need (imgField d 4 4 == 60 + 8 * imgField d 72 2) (0x16, 1, [1, 0x38]),
     c.badBody.map fun p => (0x16, p.1.toNat, [p.1.toNat, p.2.toNat]),
     (c.regs.find? badField).map fun p => (0x16, sectionOf p.1, [sectionOf p.1, Config.fieldOffset p.1]),
     match (sectsOf d).find? fun x => x.id == 0xff with
     | some x => need (decide (imgField (x.body d) 0 4 ≤ 1)) (0x16, 0xff, [0xff, 0])
     | none => none]

/-- A register that a patch may set while the device runs (R40, R51): slot table, dead times, metering scales, the period
of an untied group and the delays of ADC triggers sourced from one. -/
def State.liveField (s : State) (a : Nat) : Bool :=
  match s.groupOf a with
  | some (2, _) | some (4, _) | some (7, _) => true
  | some (3, g) => !s.bit (Reg.PWM_GCFG_L g) 1 && ((Reg.PWM_GPER g == a) || a / 0x10000 == 5)
  | _ => false

/-- A patch carries halt-only content (R50, R51): a halt-only section, a graph's structure, a register that is not
live-loadable, or other content its bodies hold. -/
def State.patchHalts (s : State) (ids : List Nat) (c : ImageContent) : Bool :=
  c.haltOnly || ids.any haltIds.contains || !c.graphs.isEmpty || c.regs.any fun p => !s.liveField p.1

/-- Every check of R48 up to the coherence groups, and the digest of a patch (R51), in order. DESIGN CHOICE: a patch while
no image is in force is refused with 0x10, since no STRUCT_DIGEST equals its own. -/
def State.imageError (s : State) (d : List Byte) (c : ImageContent) : Option ImgErr :=
  match s.checkHead d with
  | some e => some e
  | none =>
    let patch := bitOf (imgField d 22 2) 0
    let ids := (sectsOf d).map Sect.id
    firstErr
      [checkLayout d patch,
       need (s.halted || (patch && !s.patchHalts ids c)) (0x0f, 0, []),
       checkSections d c, s.checkSign d,
       need (!s.sys.fuses.ownerEn || decide (s.sys.fuses.svnMin ≤ imgField d 27 1)) (0x0d, 0, [imgField d 27 1, s.sys.fuses.svnMin]),
       checkBodies d c,
       need (!ids.contains 2 || c.compatExp == s.compat) (0x0e, 2, [c.compatExp.toNat, s.compat.toNat]),
       need (!patch || (s.cfg.inForce && (d.drop 40).take 32 == s.cfg.digest)) (0x10, 0, [])]

/-! ### What an image sets -/

/-- Run-time registers inside the configuration blocks, which no image sets. -/
def runTime (a : Nat) : Bool :=
  let o := a % 0x10000
  [Reg.CFG_COMMIT_AT, Reg.TIM_RATE, Reg.GPR_CTL, Reg.MEM_SCRUB_START, Reg.MEM_SCRUB_END, Reg.MEM_SCRUB_CTL,
   Reg.MEM_TEST_CWR].contains a || (a / 0x10000 == 2 && ((0x40 ≤ o && o < 0x54) || 0x200 ≤ o)) ||
  (a / 0x10000 == 0xb && 0x100 ≤ o && o < 0x200) || (a / 0x10000 == 0x10 && 0x4000 ≤ o) ||
  (a / 0x10000 == 0x13 && o < 0x1000 && o % 0x40 == 0x14) || (a / 0x10000 == 0x15 && 0x4000 ≤ o) ||
  [0x0, 0xe, 0x14, 0x16].contains (a / 0x10000)

/-- A register that the sections of an image set: configuration, and the execution times of VTX_WCET. -/
def imageField (a : Nat) : Bool :=
  match rowOf a with
  | some r => (r.acc == .rw || r.acc == .rws) && !runTime a || (List.range 64).any fun i => a == Reg.VTX_WCET (i / 8) (i % 8)
  | none => false

/-- The writable bits of such a register. -/
def imageMask (a : Nat) : Word :=
  match rowOf a with
  | some r => if r.acc == .ro then 0xffffffff else BitVec.ofNat 32 r.mask
  | none => 0

/-- The registers the image sets, on their shadow addresses. -/
def State.setRegs (s : State) (l : List (Nat × Word)) : State :=
  l.foldl (fun s p => if imageField p.1 then s.wr p.1 (p.2 &&& imageMask p.1) else s) s

/-- The SAFE section with version and CRC-32C as its bytes give them (R42). -/
def safeOf (d : List Byte) (c : ImageContent) : Option Safe :=
  ((sectsOf d).find? fun x => x.id == 0x30).map fun x =>
    let b := x.body d
    let n := b.length - 4
    let crc := BitVec.ofNat 32 (leNat (b.drop n))
    { c.safe with major := x.ver / 256, minor := x.ver % 256, crc, crcOk := crc32c (b.take n) == crc }

/-- The first failing check over every group of the resulting shadow set (R48). DESIGN CHOICE: an image without the optional
section METER (R40) brings no scales, and its METER groups are not judged. -/
def State.checkAllGroups (s : State) (meter : Bool) : Option ((Nat × Nat) × Nat × Nat) :=
  allGroups.findSome? fun g => if g.1 = 7 ∧ !meter then none else (s.checkGroup allGroups g.1 g.2).map fun f => (g, f)

/-! ### Going live -/

/-- The reset state of block `b` of segment `j` at index `i` of engine `k` (R189): state words into both banks, or zeros and
a first-execution mark. -/
def State.blockInit (s : State) (k j i : Nat) (b : Block) : State :=
  let par (o : Opnd) : Word := match o with
    | .par n => s.dataWord k ((s.graph k).parBase + 4 * n)
    | .const v => v
    | _ => 0
  let n := blockWords b
  if resetReadsInput b.code.toNat then
    let z := List.replicate n (0 : Word)
    let s := (s.setData k (bankBase false + b.st) z).setData k (bankBase true + b.st) z
    { s with vtx.marks := (k, j, i) :: s.vtx.marks }
  else if n = 0 then s
  else
    let w := (blockReset b.code.toNat { ins := [], pars := b.pars.map par, st := List.replicate n 0, size := b.size
                                        extra := b.extra, trans := b.trans, code := b.code.toNat }).st
    (s.setData k (bankBase false + b.st) w).setData k (bankBase true + b.st) w

/-- The directory names section GRAPHk. -/
def hasGraph (ids : List Nat) (k : Nat) : Bool := ids.contains (0x10 + k)

/-- The graphs an image brings: those whose section the directory names (R40), over those of `t`. -/
def graphsOver (c : ImageContent) (ids : List Nat) (t : Tab Graph) : Tab Graph :=
  c.graphs.foldl (fun t (g : Engine × Graph) => if hasGraph ids g.1.val then Tab.put t g.1.val {} g.2 else t) t

/-- The parameter banks an image brings. -/
def banksOf (c : ImageContent) (ids : List Nat) : List (Engine × List Word) :=
  c.params.filter fun p => hasGraph ids p.1.val

/-- Every block of the graph of engine `k` at its reset state (R189). -/
def State.graphReset (s : State) (k : Nat) : State :=
  s.each 8 fun s j =>
    match s.segment k j with
    | some g => (List.range g.blocks.length).foldl (fun s i =>
        match g.blocks[i]? with | some b => s.blockInit k j i b | none => s) s
    | none => s

/-- The graphs behind an image load: parameters, reset states and marks (R186, R189); a segment that a dry-run executes
ends. Fields released before keep their values (R259). -/
def State.graphInit (s : State) (ids : List Nat) (c : ImageContent) : State :=
  let s := { s with
    vtx.run := [], cfg.graphs := graphsOver c ids [], cfg.parNext := [], vtx.marks := [], vtx.resume := []
    inp.accepted := [], prot.fsreq := 0 }
  let s := (banksOf c ids).foldl (fun s p => s.setData p.1.val (s.graph p.1.val).parBase p.2) s
  (s.each 8 State.graphReset).enginesOn

/-- Metering starts anew (R443): counters at zero, RESTORED and LOADED clear, outputs at their inactive level (R588); a save or a
LOAD under way goes on. -/
def State.meterInit (s : State) : State :=
  let keep (a : Nat) : Bool := !(decide (0x101000 ≤ a ∧ a < 0x104000) && !isLiveCopy a &&
    (match rowOf a with | some r => r.acc == .ro || r.acc == .rc | none => false))
  let s := { s with regs := s.regs.filter fun p => keep p.1, mtr := { slot := s.mtr.slot, save := s.mtr.save, loading := s.mtr.loading } }
  let s := (((s.wf Reg.MTR_STAT 4 4 0).wbit Reg.MTR_STAT 9 false).wbit Reg.MTR_STAT 10 false).showMtr
  s.each 4 fun s n =>
    if s.bit (Reg.MTR_MPO_CFG n) 0 && s.bit (Reg.MTR_MPO_CFG n) 4 then s.emit (.pin (.mpo n) true) else s

/-- The edge generator behind an image load: no pending values, dead times seeded; dirty marks stay (R292, R307). -/
def State.pwmInit (s : State) : State :=
  (({ s with pwm.closed := [] } : State).each 96 fun s q => (s.setPair q { dirty := (s.pair q).dirty }).seedAdt q).showPend

/-- The first image of this power cycle or since the last reset of the main domain (R562): every converter calibrates. -/
def State.firstImage (s : State) : State :=
  if s.sys.imageLive then s
  else { s with sys.imageLive := true }.each 8 State.requestCal

/-- CFG_STAT behind a successful load (R64). -/
def State.loadDone (s : State) (code : Nat) : State :=
  let s := ({ s with cfg.load := none } : State).showLoad
  ((s.wbit Reg.CFG_STAT 3 false).wf Reg.CFG_STAT 8 8 code).wf Reg.CFG_STAT 16 16 0

/-- Two big-endian words from the first eight bytes of a digest. -/
def digestWords (l : List Byte) : Word × Word := (BitVec.ofNat 32 (beNat (l.take 4)), BitVec.ofNat 32 (beNat ((l.drop 4).take 4)))

/-- The identification of the image in force (R53, R63). -/
def State.publish (s : State) (d : List Byte) : State :=
  let (hi, lo) := digestWords (sha256 d)
  let (sh, sl) := digestWords ((d.drop 40).take 32)
  let s := (s.wn Reg.CFG_IMG_ID (imgField d 32 4)).wn Reg.CFG_IMG_VER (imgField d 36 4)
  (((s.wr Reg.CFG_IMG_DIGEST_HI hi).wr Reg.CFG_IMG_DIGEST_LO lo).wr Reg.CFG_STRUCT_HI sh).wr Reg.CFG_STRUCT_LO sl

/-- The IDs the directory names. -/
def idsOf (d : List Byte) : List Nat := (sectsOf d).map Sect.id

/-- What the sections TOPO, ROUTE and WEAR set outside the registers (R40): what an image does not bring stays. -/
def State.takeSections (s : State) (ids : List Nat) (c : ImageContent) : State :=
  let s := s.doIf (ids.contains 0x02) fun s =>
    ({ s with cfg := { s.cfg with pop := c.pop.toNat, stackPop := c.stackPop, margin := c.margin, marginLv := c.marginLv
                                  arm := c.arm.map Fin.val } }.wbit Reg.GPR_PSTAT 1 c.bypass).wr Reg.PAR_CKPT_SIZE c.ckptSize
  let s := s.doIf (ids.contains 0x03) fun s => { s with cfg.routes := c.routes }.showRouted
  s.doIf (ids.contains 0x44) fun s => s.wearLoad c.wear

/-- What other registers show of halt-only fields that an image has set. -/
def State.showImage (s : State) : State :=
  (((s.regrid.showCoarse.showPending.showPend.avsEnable.applyUses.showSdm).setRcd.showRing).chooseDirection false).showMtr

/-- SIGNED and TRUSTED of the image in force (R44, R64). -/
def State.signedAs (s : State) (d : List Byte) : Bool × Bool :=
  ((idsOf d).contains 0xff, (idsOf d).contains 0xff && s.sys.fuses.ownerEn)

/-- A full image goes live (R49, R60, R562): `s` holds its shadow set already. Commits still pending are dropped. -/
def State.imageLive (s : State) (d : List Byte) (c : ImageContent) : State :=
  let ids := idsOf d
  let s := { s with cfg := { s.cfg with pend := [], checking := [], patches := [], inForce := true, atBy := none
                                        metered := ids.contains 0x40
                                        digest := (d.drop 40).take 32 }
                    sys.armed := false }
  let s := allGroups.foldl (fun s g => s.copyGroup g.1 g.2) s
  let s := (((s.copyUnsourced.wearLoad none).takeSections ids c).graphInit ids c)
  let s := ((s.publish d).pwmInit.meterInit).measInit
  let s := ((s.showImage.ringRestart).setMemb s.memb).showRing.stopPairs.dropBuffers
  let s := match safeOf d c with | some x => s.acceptSafe x | none => s
  let s := (s.wbit Reg.CFG_STAT 4 (s.signedAs d).1).wbit Reg.CFG_STAT 5 (s.signedAs d).2
  let s := (s.loadDone 0x40).wf Reg.GLB_STAT 0 4 6
  (s.firstImage.settle).raise 0x0340 0 [imgField d 32 4]

/-- The groups a patch touches (R52): those with a member among its registers, and the parameter banks it brings. -/
def State.touched (s : State) (c : ImageContent) : List (Nat × Nat) :=
  allGroups.filter fun g => (g.1 == 6 && c.params.any fun p => p.1.val == g.2) ||
    ((s.membersOf g.1 g.2).any fun m => c.regs.any fun p => p.1 == m.1)

/-- The halt-only content of a patch (R50), which only a halted device takes: its sections' data, the graphs whose structure
it brings at their reset states, the delays of triggers no PWM group sources, and what follows from its registers. A channel
that it enables starts as one an image load enables (R123). -/
def State.patchHalted (s : State) (t : State) (d : List Byte) (c : ImageContent) : State :=
  let s := (s.takeSections (idsOf d) c).copyUnsourced
  let s := ({ s with cfg.metered := s.cfg.metered || (idsOf d).contains 0x40 } : State).each 72 fun s i =>
    if s.sdOn i && !t.sdOn i then s.channelInit i else s
  let s := c.graphs.foldl (fun s g =>
    if hasGraph (idsOf d) g.1.val then ((s.setRun g.1.val none).graphReset g.1.val).engineRest g.1.val else s) s
  let s := match safeOf d c with | some x => s.acceptSafe x | none => s
  s.showImage.settle

/-- A patch becomes pending (R51, R52): its groups wait for the next control period boundary; while halted they are live at
once, with its halt-only content. A patch that touches no group is done. `t` is the machine before the patch. -/
def State.patchApply (s : State) (t : State) (d : List Byte) (c : ImageContent) : State :=
  let l := s.touched c
  let n := s.cfg.patchNo
  let (hi, lo) := digestWords (sha256 d)
  let p : Patch := { no := n, id := BitVec.ofNat 32 (imgField d 32 4), ver := BitVec.ofNat 32 (imgField d 36 4), hi, lo
                     signed := (s.signedAs d).1, trusted := (s.signedAs d).2 }
  let s := { s with cfg := { s.cfg with load := none, patches := s.cfg.patches ++ [p], patchNo := n + 1 } }
  let s := l.foldl (fun s g => s.makePending g.1 g.2 { patch := some n, hold := !s.halted }) s
  let s := (s.showLoad.wbit Reg.CFG_STAT 3 false).showPending
  let s := if l.isEmpty then s.patchDone n else s.commitNow
  s.doIf s.halted fun s => s.patchHalted t d c

/-- The shadow set a checked image brings: its registers, its parameter banks and graphs (R49, R52). -/
def State.stage (s : State) (d : List Byte) (c : ImageContent) (patch : Bool) : State :=
  let s := s.setRegs c.regs
  let pars (t : Tab (Option (List Word))) :=
    (banksOf c (idsOf d)).foldl (fun t (p : Engine × List Word) => Tab.put t p.1.val none (some p.2)) t
  { s with cfg.graphs := graphsOver c (idsOf d) (if patch then s.cfg.graphs else [])
           cfg.parNext := pars (if patch then s.cfg.parNext else []) }

/-- IMAGE_CHECK_DONE (R48, R49, R51): the first failure refuses the load; otherwise it is applied whole. -/
def imageChecked (c : ImageContent) (s : State) : State :=
  match s.cfg.load with
  | none => s
  | some l =>
    if !l.checking then s
    else
      let d := l.data
      match s.imageError d c with
      | some (code, sect, data) => s.loadRefused code sect data
      | none =>
        let patch := bitOf (imgField d 22 2) 0
        match (if patch then (s.touched c).find? fun g => s.isPending g.1 g.2 else none) with
        | some g => s.loadRefused 0x21 0 [g.1, g.2]
        | none =>
          let t := s.stage d c patch
          match t.checkAllGroups ((patch && s.cfg.metered) || (idsOf d).contains 0x40) with
          | some (g, f) => s.loadRefused 0x22 0 [g.1, g.2, f.1, f.2]
          | none =>
            let why := match safeOf d c with | some x => s.safeReason x | none => 0
            if why ≠ 0 then s.loadRefused 0x11 0x30 [why]
            else if patch then t.patchApply s d c else t.imageLive d c

/-! ### The commands -/

/-- LOAD_FULL_IMAGE (R48): a keyed write of CFG_LOAD with CMD 0b01 and the given SRC. -/
def execLoadFullImage (src : Src) (from' : Fin 4) (s : State) : Host.Outcome State Fault Refusal :=
  State.finish (s.keyed src Reg.CFG_LOAD (cfgLoad 1 from'.val))

/-- LOAD_PATCH (R51). -/
def execLoadPatch (src : Src) (from' : Fin 4) (s : State) : Host.Outcome State Fault Refusal :=
  State.finish (s.keyed src Reg.CFG_LOAD (cfgLoad 2 from'.val))

/-- LOAD_ABORT (R49). -/
def execLoadAbort (src : Src) (s : State) : Host.Outcome State Fault Refusal :=
  State.finish (s.keyed src Reg.CFG_LOAD (cfgLoad 3 0))

/-- RECEPTION_TIMEOUT (R47). -/
def execReceptionTimeout (s : State) : Host.Outcome State Fault Refusal := s.main loadTimeout

/-- IMAGE_CHUNK (R520). -/
def execImageChunk (data : List Byte) (s : State) : Host.Outcome State Fault Refusal := s.main (imageChunk data)

/-- IMAGE_CHECK_DONE (R48). -/
def execImageCheckDone (c : ImageContent) (s : State) : Host.Outcome State Fault Refusal := s.main (imageChecked c)

end Sys2Proof.Machine
end

