-- ==== Sys2Proof/Machine/Startup.lean ====
section
/-! DEFINITION. Resets, start-up, arming and halting (chapter 20), the supplies and straps of chapters 21 and 22. -/

namespace Sys2Proof.Machine

/-! ### Resets of the main domain (R554, R566 to R569) -/

/-- The fail-safe command that stands at a reset of an ACTIVE or TAKING device and is held for 10 µs (R567): the switches
that levels 1 to 4 of R358 hold on, and the BYP_O mask. -/
def State.holdOf (s : State) : Option (List Nat × Nat) :=
  match s.sys.hold with
  | some l => some (l, s.sys.holdByp)
  | none =>
    if s.onMain && decide (2 ≤ s.pairState) then
      let t := s.outputsOff
      some ((List.range 192).filter fun g => t.padCmd g == .on, t.bypMask)
    else none

/-- The outputs of chapter 21 that a reset of the main domain brings to their level before control. -/
def State.pinsLow (s : State) : State :=
  let s := if s.sys.ready then s.emit (.pin .ready false) else s
  let s := if bitOf s.sys.tripO 0 then s.driveTrip 0 false else s
  let s := if bitOf s.sys.tripO 1 then s.driveTrip 1 false else s
  let s := if s.tim.ppsOut then s.emit (.pin .ppsOut false) else s
  let s := s.each 8 fun s n =>
    if s.tim.tpoHigh.at n false != s.tim.tpoIdle.at n false then s.emit (.pin (.tpo n) false) else s
  s.each 4 fun s n => if s.mtr.mpoOut.at n false || s.bit (Reg.MTR_MPO_CFG n) 4 then s.emit (.pin (.mpo n) false) else s

/-- The main domain in reset (R566): registers but for Flint's mirror and GLB_RSTCAUSE, memories, image and latches are
lost, key slots disarmed (R630). Flint, the supplies, the pins and an override of Flint (R85) stay. -/
def State.wipe (s : State) : State :=
  { regs := s.regs.filter fun p => p.1 / 65536 == 0xe || p.1 == Reg.GLB_RSTCAUSE
    sys := { por := s.sys.por, prst := s.sys.prst, straps := s.sys.straps, fuses := s.sys.fuses, bank := s.sys.bank, hold := s.sys.hold
             holdByp := s.sys.holdByp, released := s.now, perst := s.sys.perst }
    prot := { dsat := s.prot.dsat, gate := s.prot.gate, byp := s.prot.byp }
    clk := { override := s.clk.override, releasing := s.clk.override }
    par := { deadSince := s.now }
    pwm := { since := s.now }
    flint := s.flint, tap := s.tap, out := s.out, now := s.now, free := s.free, pending := s.pending }

/-- Flags a cause in GLB_RSTCAUSE, and a clock integrity fault that stood (R569, R575). -/
def State.resetCause (s : State) (bit : Nat) : State :=
  let s := if s.integrity then s.wbit Reg.GLB_RSTCAUSE 5 true else s
  s.wbit Reg.GLB_RSTCAUSE bit true

/-- A reset of the main domain that keeps the fail-safe command where R567 says so. -/
def State.mainReset (s : State) (bit : Nat) : State :=
  let h := s.holdOf
  let s := (s.resetCause bit).pinsLow
  { s.wipe with sys.hold := h.map Prod.fst, sys.holdByp := (h.map Prod.snd).getD 0 }

/-- The end of step 2 of R557: the device goes on with its clock root; ring and partner lanes are on (R480). Its own ring lanes
have no lock yet, and so are down in its link map (R252). -/
def State.startUp (s : State) : State :=
  let down := [0, 1, 6, 7].map fun l => (s.node, l)
  ({ s.lanesOn with clk.searchDue := true, sys.released := s.now, ring.down := down, ring.downMap := down } : State).wf
    Reg.GLB_STAT 0 4 2

/-- Straps as GLB_STRAP and CFG_STAT show them, and the fuses (R557, R584). -/
def State.latchStraps (s : State) (straps : Nat) : State :=
  let s := { s with sys.straps := BitVec.ofNat 10 straps }
  let s := (s.wn Reg.GLB_STRAP straps).wbit Reg.CFG_STAT 6 (bitOf straps 7)
  (s.wn Reg.GLB_ID (0x24600000 + s.sys.fuses.variant.toNat)).wr Reg.CFG_SEC s.sys.fuses.sec

/-- MAIN_POWER_ON_RESET (R554, R557): asserted, every output is low and GLB_RSTCAUSE keeps a clock integrity fault only
(R84, R569); released, the straps are latched and start-up begins, unless PRST_N is low. -/
def mainPower (asserted : Bool) (straps : Nat) (fuses : Fuses) (s : State) : State :=
  if asserted then
    let fault := s.integrity || s.bit Reg.GLB_RSTCAUSE 5
    let s := s.pinsLow.wipe
    ({ s with regs := s.regs.filter fun p => p.1 / 65536 == 0xe
              sys := { s.sys with por := true, hold := none, holdByp := 0 } }.wbit Reg.GLB_RSTCAUSE 5 fault : State).settle
  else if !s.sys.por then s
  else
    let s := { s with sys.por := false, sys.fuses := fuses }.wbit Reg.GLB_RSTCAUSE 0 true
    if s.sys.prst then s else (s.latchStraps straps).startUp.settle

/-- PRST_N_RESET (R566, R567). -/
def prstReset (s : State) : State :=
  if s.sys.prst then s
  else if s.sys.por then { s.wbit Reg.GLB_RSTCAUSE 1 true with sys.prst := true }
  else ({ s.mainReset 1 with sys.prst := true } : State).settle

/-- PRST_N_RELEASE (R554, R584). -/
def prstRelease (straps : Nat) (s : State) : State :=
  if !s.sys.prst then s
  else
    let s := { s with sys.prst := false }
    if s.sys.por then s else (s.latchStraps straps).startUp.settle

/-- RESET_PAD_HOLD_END (R567). -/
def holdEnd (s : State) : State := ({ s with sys.hold := none, sys.holdByp := 0 } : State).settle

/-- A failed self-test stays (R353: cleared by PRST_N or power-on reset): STATE FAILED and GLB_BIST. -/
def State.keepFailed (t s : State) : State :=
  if s.devState = 15 ∧ s.rn Reg.GLB_BIST ≠ 0 then (t.wf Reg.GLB_STAT 0 4 15).wr Reg.GLB_BIST (s.rg Reg.GLB_BIST) else t

/-- SOFT_RESET (R566, R568): the straps, the fuses and the PCI Express link stay; the time block keeps its settings, its
live group, its rate and its counter, which stops until lock; it reads HOLDOVER. -/
def softReset (s : State) : State :=
  let keep := [Reg.TIM_CFG, Reg.TIM_PTP_CFG, Reg.TIM_RATE] ++ (List.range 4).map Reg.TIM_ASYM
  let live := s.membersOf 9 0
  let link := s.hrf Reg.HQ_STAT 0 7
  let t := s.mainReset 2
  let t := keep.foldl (fun t a => t.wr a (s.rg a)) t
  let t := live.foldl (fun t p => (t.wr p.1 (s.rg p.2)).wr p.2 (s.rg p.2)) t
  let t := (t.hwf Reg.HQ_STAT 0 7 link).wf Reg.TIM_STAT 0 2 3
  let t := { t with tim := { s := s.tim.s, ns := s.tim.ns, sub := s.tim.sub, ts32 := s.tim.ts32, stopped := true, holdSince := s.now } }
  ((t.latchStraps (s.rf Reg.GLB_STRAP 0 10)).startUp.keepFailed s).regrid.settle

/-! ### Built-in self-test and READY (R557 to R560, R569) -/

/-- The mode of the metering memory behind READY (R593). -/
def flashMode : Flash := if Config.flashAnswer = 0 then .mute else if Config.flashAnswer = 1 then .single else .octal

/-- BIST_COMPLETE: failed items and trim keep READY low with event 0x1001; a bank without supply fails the gate-pad item. -/
def bistComplete (items banks : Nat) (trim : Bool) (s : State) : State :=
  if s.devState != 4 then s
  else
    let s := s.each 8 fun s b => { s with sys.bank := s.sys.bank.put b false (!bitOf banks b) }
    let items := if banks = 0 then items else withBit items 3 true
    let s := s.wn Reg.GLB_BIST (items + trim.toNat * 32 + banks * 256)
    if items ≠ 0 ∨ trim then (s.wf Reg.GLB_STAT 0 4 15).raise 0x1001 0 [s.rn Reg.GLB_BIST]
    else
      let s := ({ s.wf Reg.GLB_STAT 0 5 21 with sys.ready := true, sys.flash := flashMode } : State).emit (.pin .ready true)
      (s.raise 0x1003 0 [(s.now - s.sys.released) * 2 / 625]).raise 0x1006 0 [s.rn Reg.GLB_RSTCAUSE]

/-! ### Gate I/O supplies (R555, R581, R600) -/

/-- The bank serves a populated cell. -/
def State.bankUsed (s : State) (b : Nat) : Bool := (List.range 3).any fun i => s.populated (3 * b + i)

/-- GIO_SUPPLY_FAULT: the bank is without supply; while the gate outputs are enabled it is a cluster fault with cause 6. -/
def gioFault (b : Nat) (s : State) : State :=
  let s := ({ s with sys.bank := s.sys.bank.put b false false } : State).settle
  if s.onMain && s.outEn && s.bankUsed b then (s.raise 0x0814 b [b]).clusterFault 6 0 else s

/-- GIO_SUPPLY_RETURN: the bank drives its outputs again, low or under R358. -/
def gioReturn (b : Nat) (s : State) : State := ({ s with sys.bank := s.sys.bank.put b false true } : State).settle

/-! ### Arming (R563, R564, R399) -/

/-- The conditions of R563 that fail, bit by bit. -/
def State.armFailures (s : State) : Nat :=
  let stack := decide (1 < s.nodes)
  let ring := s.rf Reg.RNG_STAT 0 2
  let ok : List Bool :=
    [s.rf Reg.CFG_STAT 0 3 == 4 && s.cfg.load.isNone,
     (List.range 8).all fun k => s.bit (Reg.ADC_KSTAT k) 0,
     s.clkState == 2 && !s.integrity,
     s.timState == 2 || (s.takesStation && s.rf Reg.TIM_CFG 0 2 == 2),
     !stack || ring == 1 || ring == 2,
     !stack || s.bit Reg.RNG_STAT 4,
     !s.flint.sgiOn || s.func 0 == 1,
     !bitOf s.thw.levels 3 && !bitOf s.thw.levels 5,
     !s.bit Reg.GPR_PSTAT 0 && s.rf Reg.GPR_TRIPI 8 4 == 0 && !s.bit Reg.RNG_STAT 8 && !s.deviceFault,
     s.halted]
  (List.range 10).foldl (fun m i => if ok.getD i true then m else m + 2 ^ i) 0

/-- A refused ARM or HALT: GLB_ARMREF and event 0x1002. -/
def State.armRefused (s : State) (bits : Nat) : State := (s.wn Reg.GLB_ARMREF bits).raise 0x1002 0 [bits]

/-- Populated cells whose bypass reads closed at ARM are parked (R342). -/
def State.park (s : State) : State :=
  s.each 24 fun s c =>
    if s.populated c && s.bypClosed c && !s.cellFs c then ((s.enterCellFs c 5).raise 0x0813 c [c]).sendLatches else s

/-- Dry-run and memory test mode end (R160, R460). -/
def State.endDry (s : State) : State :=
  (s.setTest false).stopDry

/-- The remaining effects of an ARM (R307, R399, R564): adapted dead times seeded, pair state, parked cells, STATE RUN, event
0x1004. -/
def State.armDone (s : State) (active : Bool) : State :=
  let again := s.sys.armed
  let s := { s with sys.armed := true, sys.armWait := false }.each 96 State.seedAdt
  let s := ((s.wf Reg.GLB_STAT 0 4 7).wbit Reg.GLB_STAT 5 false).wbit Reg.GLB_ARM_AT 0 false
  let s := if active then
      let s := s.enterActive
      if again then ({ s with prot.bypWait := s.pairless } : State).each 96 fun s q => s.setPair q { s.pair q with hold := true }
      else s
    else s.enterStandby
  (s.park.settle).raise 0x1004 0 [s.pairState]

/-- An ARM takes effect (R564): a ROLE=B device that may become active waits for its decision. -/
def State.armNow (s : State) : State :=
  let s := s.endDry
  if !s.mayBeActive then s.armDone false
  else if s.role then { (s.wbit Reg.GLB_STAT 5 true).wbit Reg.GLB_ARM_AT 0 false with sys.armWait := true }
  else s.armDone true

/-- GLB_CTRL.ARM (R563, R564). -/
def arm (s : State) : State :=
  let f := s.armFailures
  if f ≠ 0 then s.armRefused f
  else if s.sys.armWait then s
  else if s.bit Reg.GLB_ARM_AT 0 then s.wbit Reg.GLB_STAT 5 true
  else s.armNow

/-- The boundary at or after GLB_ARM_AT (R564): the conditions are checked again. -/
def State.armBoundary (s : State) : State :=
  let at' := s.rg Reg.GLB_ARM_AT &&& 0xfffffffe
  if s.bit Reg.GLB_STAT 5 && !s.sys.armWait && decide (0 ≤ (s.tim.ts32 - at').toInt) then
    let f := s.armFailures
    if f ≠ 0 then ((s.wbit Reg.GLB_STAT 5 false).wbit Reg.GLB_ARM_AT 0 false).armRefused f else s.armNow
  else s

/-- ARM_DECISION (R399): behind 100 µs both conditions are checked again. -/
def armDecision (s : State) : State := if s.sys.armWait then s.armDone s.mayBeActive else s

/-! ### Halting (R565) -/

/-- GLB_CTRL.HALT: an ACTIVE or TAKING device halts with FORCE only. -/
def halt (force : Bool) (s : State) : State :=
  let drives := decide (2 ≤ s.pairState)
  if drives && !force then s.armRefused 0x200
  else (s.cancelAll.enterHalted).raise 0x1005 0 [drives.toNat]

/-- A write of GLB_CTRL accepted by its key: [0] ARM, [1] HALT, [2] FORCE, [3] SOFTRST. With HALT in one write ARM is
refused with bit 9 (R573). -/
def glbCtrl (v : Word) (s : State) : State :=
  let s := if fld v 1 1 = 1 then
      let s := halt (fld v 2 1 == 1) s
      if fld v 0 1 = 1 then s.armRefused 0x200 else s
    else if fld v 0 1 = 1 then arm s else s
  if fld v 3 1 = 1 then softReset s else s

/-! ### The commands -/

/-- MAIN_POWER_ON_RESET (R554). -/
def execMainPowerOnReset (asserted : Bool) (straps : BitVec 10) (fuses : Fuses) (s : State) :
    Host.Outcome State Fault Refusal := State.finish (mainPower asserted straps.toNat fuses s)

/-- SUPPLY_UNDERVOLTAGE (R604). -/
def execSupplyUndervoltage (_rail : Rail) (s : State) : Host.Outcome State Fault Refusal :=
  State.finish (mainPower true 0 {} s)

/-- PRST_N_RESET (R566). -/
def execPrstNReset (s : State) : Host.Outcome State Fault Refusal := State.finish (prstReset s)

/-- PRST_N_RELEASE (R554). -/
def execPrstNRelease (straps : BitVec 10) (s : State) : Host.Outcome State Fault Refusal :=
  State.finish (prstRelease straps.toNat s)

/-- RESET_PAD_HOLD_END (R567). -/
def execResetPadHoldEnd (s : State) : Host.Outcome State Fault Refusal := State.finish (holdEnd s)

/-- BIST_COMPLETE (R557). -/
def execBistComplete (items : BitVec 5) (banks : BitVec 8) (trim : Bool) (s : State) : Host.Outcome State Fault Refusal :=
  s.main (bistComplete items.toNat banks.toNat trim)

/-- GIO_SUPPLY_FAULT (R581). -/
def execGioSupplyFault (b : Bank) (s : State) : Host.Outcome State Fault Refusal := State.finish (gioFault b.val s)

/-- GIO_SUPPLY_RETURN (R555). -/
def execGioSupplyReturn (b : Bank) (s : State) : Host.Outcome State Fault Refusal := State.finish (gioReturn b.val s)

/-- GLB_ARM (R563). -/
def execGlbArm (src : Src) (s : State) : Host.Outcome State Fault Refusal :=
  State.finish (s.keyed src Reg.GLB_CTRL (glbCtrl 1))

/-- GLB_HALT (R565). -/
def execGlbHalt (src : Src) (force : Bool) (s : State) : Host.Outcome State Fault Refusal :=
  State.finish (s.keyed src Reg.GLB_CTRL (glbCtrl (if force then 6 else 2)))

/-- SOFT_RESET (R566). -/
def execSoftReset (src : Src) (s : State) : Host.Outcome State Fault Refusal :=
  State.finish (s.keyed src Reg.GLB_CTRL (glbCtrl 8))

/-- ARM_DECISION (R399). -/
def execArmDecision (s : State) : Host.Outcome State Fault Refusal := s.main armDecision

end Sys2Proof.Machine
end

