-- ==== Sys2Proof/Machine/RegMap.lean ====
section
/-! DEFINITION. BAR0 (chapters 1, 2 and 23): what a write does to any register, what a read returns and does, the key
registers and the EVT block (R8 to R12, R54, R561, R621 to R632). -/

namespace Sys2Proof.Machine

/-! ### Refusals of a write (R54, R55) -/

/-- The live TIED flag of PWM group `g`. -/
def State.tied (s : State) (g : Nat) : Bool := s.bit (Reg.PWM_GCFG_L g) 1

/-- A write needs the device halted: a halt-only register; a group period or a trigger delay sourced from a group only
while the live TIED flag of the group is set; any other trigger delay always (R55, R133). -/
def State.haltOnly (s : State) (r : Row) (a : Nat) : Bool :=
  match arrayIndex (Reg.PWM_GPER 0) 16 8 a with
  | some g => s.tied g
  | none =>
    match arrayIndex (Reg.ADC_TRIG_DLY 0) 8 16 a with
    | some _ => (match s.groupOf a with
      | some (_, g) => s.tied g
      | none => true)
    | none => r.halt

/-- The member belongs to a pending group (R58). -/
def State.inPending (s : State) (a : Nat) : Bool :=
  match s.groupOf a with
  | some (c, i) => s.isPending c i
  | none => false

/-- The stated ranges of R54 that are no plain field range of the row; a queue's BASE and WB only change while it is disabled
(R514). -/
def State.rangeOk (s : State) (a : Nat) (v : Word) : Bool :=
  rangeStated a v && (match arrayIndex (Reg.HQ_BASE_LO 0) 4 512 a with
    | some i => (4 ≤ i % 16) || !s.qOn (i / 16)
    | none => true)

/-- The code a write of a RW or RWS register is refused with (R54): none where it is accepted. -/
def State.writeRefusal (s : State) (r : Row) (a : Nat) (v : Word) : Option Nat :=
  if s.haltOnly r a && !s.halted then some 0x25
  else if s.inPending a then some 0x23
  else if !(r.inRange v && s.rangeOk a v) then some 0x25
  else none

/-! ### Effects behind a write -/

/-- A vector that is pending and no longer masked is signalled (R523). -/
def State.unmask (s : State) (v : Nat) : State :=
  if s.hrf (Reg.HQ_MSIX (4 * v + 3)) 0 1 = 0 ∧ s.hrf (Reg.HQ_MSIX_PBA (v / 32)) (v % 32) 1 = 1 then
    (s.hwf (Reg.HQ_MSIX_PBA (v / 32)) (v % 32) 1 0).emit (.msix v)
  else s

/-- What follows from a new value of a RW register that other registers show or use at once. DESIGN CHOICE: a channel that a
write enables while halted, without an image load (R123), goes on with the VALID it has, and its comparators act at once. -/
def State.afterWrite (s : State) (a : Nat) : State :=
  if a = Reg.RNG_SCALE ∨ a / 0x10000 = 0xd then s.setRcd
  else if a = Reg.CFG_COMMIT_AT then { s with cfg.atBy := none }
  else if 0x80000 ≤ a ∧ a < 0x80200 then s.showPending
  else if (arrayIndex (Reg.SDM_CFG 0) 4 72 a).isSome then s.showSdm
  else if (arrayIndex (Reg.PWM_PCFG 0) 4 96 a).isSome then s.showPend.settle
  else if a = Reg.THW_AVS then s.avsEnable
  else if a = Reg.TIM_PTP_CFG then s.choosePort
  else if a = Reg.HQ_CFG then s.hwf Reg.HQ_STAT 7 1 (s.hrf Reg.HQ_CFG 0 1)
  else if (arrayIndex (Reg.MTR_PCFG 0) 1024 4 a).isSome then s.showMtr
  else if (arrayIndex (Reg.LAN_CFG 0) 64 8 a).isSome then s.applyUses
  else match arrayIndex (Reg.HQ_MSIX 0) 4 136 a with
    | some i => if i % 4 = 3 then s.unmask (i / 4) else s
    | none => s

/-- A write of a RW or RWS register (R10, R54): refused as a whole, or its writable bits take the value. -/
def fieldWrite (r : Row) (a : Nat) (v : Word) (s : State) : State :=
  match s.writeRefusal r a v with
  | some code => s.refuse a code
  | none =>
    let m := BitVec.ofNat 32 r.mask
    (s.poke a ((v &&& m) ||| (s.peek a &&& ~~~m))).afterWrite a

/-! ### Flags (R10) -/

/-- A word of 32 flags. -/
def flagWord (p : Nat → Bool) : Word :=
  BitVec.ofNat 32 ((List.range 32).foldl (fun m i => if p i then m + 2 ^ i else m) 0)

/-- The flags of a W1C register whose condition still stands: they set again in the cycle of the write. -/
def State.standing (s : State) (a : Nat) : Word :=
  match arrayIndex (Reg.SDM_FAULT 0) 4 3 a, arrayIndex (Reg.SDM_CMPF 0) 4 3 a with
  | some i, _ => flagWord fun b => decide (32 * i + b < 72) && s.sdFaulted (32 * i + b)
  | _, some i => flagWord fun b => decide (32 * i + b < 72) && (s.cmpOn (32 * i + b) true || s.cmpOn (32 * i + b) false)
  | none, none =>
    if a = Reg.CLK_FLAGS then flagWord fun b => (b == 0 && !s.refPresent false) || (b == 1 && !s.refPresent true)
    else if a = Reg.TIM_FLAGS then flagWord fun b => (b == 0 && s.timState == 3) || (b == 3 && s.tim.alignFault)
    else if a = Reg.RNG_FLAGS then flagWord fun b => (b == 4 && s.bit Reg.RNG_STAT 7) || (b == 7 && s.bit Reg.RNG_STAT 8)
    else if a = Reg.PWM_FLAGS then flagWord fun b => (b == 3 && s.adtMaxed) || (b == 4 && s.linesStale) ||
      (b == 5 && (List.range 9).any fun k => s.pwm.out.at k false)
    else if a = Reg.THW_FLAGS then flagWord fun b =>
      (b == 0 && bitOf s.thw.levels 1) || (b == 1 && bitOf s.thw.levels 2) || (b == 2 && bitOf s.thw.levels 3) ||
      (b == 3 && bitOf s.thw.levels 4) || (b == 4 && bitOf s.thw.levels 5) ||
      (b == 5 && (List.range 10).any s.sensorBroken) || (b == 6 && s.bit Reg.THW_AVS_STAT 12)
    else if a = Reg.PAR_FLAGS then flagWord fun b =>
      (b == 3 && !s.partnerUp) || (b == 4 && !s.bit Reg.PAR_STAT 4) || (b == 6 && s.par.dual)
    else if a = Reg.GPR_FLAGS then flagWord fun b => b == 4 && (List.range 4).any fun n =>
      s.bit Reg.GPR_TRIPI n && s.bit Reg.GPR_TRIPI (16 + n)
    else if a = Reg.MTR_FLAGS then flagWord fun b => b == 1 && (List.range 4).any fun k => (s.point k).absent
    else if a = Reg.LAN_FLAGS then
      flagWord fun b => (decide (b < 8) && !s.bit (Reg.LAN_LSTAT b) 1) || (b == 8 && !s.bit (Reg.LAN_ETH_STAT 0) 0) ||
        (b == 9 && !s.bit (Reg.LAN_ETH_STAT 1) 0) || (b == 11 && s.eqLimits)
    else if a = Reg.HQ_FLAGS then flagWord fun b => b == 16 && !s.linkUp
    else if a / 0x10000 = 0x6 then flagWord fun b => b == 3 && s.vtx.stopped.at ((a - 0x60000) / 0x2000) false
    else 0

/-- What clearing flags re-arms: events told once until their flag is cleared (R302, R303, R307, R314, R438), and requesters
cut off (R473). -/
def State.flagsCleared (s : State) (a : Nat) (gone : Word) : State :=
  if a = Reg.PWM_FLAGS then
    let s := if fld gone 0 2 = 0 then s
      else s.each 96 fun s q => s.setPair q { s.pair q with
        toldDrop := (s.pair q).toldDrop && fld gone 0 1 == 0
        toldStretch := (s.pair q).toldStretch && fld gone 1 1 == 0 }
    let s := if fld gone 3 1 = 1 then { s with pwm.toldAdt := [] } else s
    if fld gone 4 1 = 1 then { s with pwm.toldStale := [] } else s
  else if a = Reg.ARB_CUT ∧ fld gone 0 12 ≠ 0 then s.promote (s.fclk true)
  else if a = Reg.MTR_FLAGS ∧ fld gone 2 1 = 1 then s.each 4 fun s n => s.wbit (Reg.MTR_MPO_BKLG n) 16 false
  else s

/-- A write of a W1C register: a one clears its flag, unless the condition still stands. -/
def flagWrite (r : Row) (a : Nat) (v : Word) (s : State) : State :=
  let gone := v &&& BitVec.ofNat 32 r.mask &&& s.peek a &&& ~~~s.standing a
  (s.poke a (s.peek a &&& ~~~gone)).flagsCleared a gone

/-! ### Writes with a row of their own -/

/-- A write of GLB_KEY arms the slot of its source (R627). -/
def keyWrite (src : Src) (v : Word) (s : State) : State := s.setSlot src { key := some (fld v 0 16), age := 0 }

/-- A write of EVT_QCODE (R631, R632). -/
def qcodeWrite (v : Word) (s : State) : State :=
  let c := fld v 0 16
  (s.ewr Reg.EVT_QCODE (BitVec.ofNat 32 c)).ewr Reg.EVT_QCLASS
    (BitVec.ofNat 32 (if codeDefined c then eventClass c + 8 else 0))

/-- A write to a live copy (R12, R54). -/
def liveWrite (a : Nat) (s : State) : State := s.refuse a 0x24

/-- The action of a keyed register (R626), given the value written. -/
def keyedAction (a : Nat) (v : Word) (s : State) : State :=
  if a = Reg.GLB_CTRL then glbCtrl v s
  else if a = Reg.GLB_FLTREQ then flintRequest v s
  else if a = Reg.CLK_CTRL then (s.doIf (fld v 0 1 == 1) relock).doIf (fld v 1 1 == 1) switchRef
  else if a = Reg.TIM_CTRL then s.doIf (fld v 0 1 == 1) timStep
  else if a = Reg.CFG_LOAD then cfgLoad (fld v 0 2) (fld v 2 2) s
  else if a = Reg.VTX_CTRL then setDry v s
  else if a = Reg.GPR_CLR then gprClear v s
  else if a = Reg.RNG_CTRL then (s.doIf (fld v 0 1 == 1) fun s => s.originateTrip 3).doIf (fld v 1 1 == 1) tripClear
  else if a = Reg.PAR_CTRL then s.doIf (fld v 0 1 == 1) fun s => s.requestHandover 0
  else if a = Reg.MTR_CTRL then
    ((s.doIf (fld v 0 1 == 1) mtrLoad).doIf (fld v 1 1 == 1) mtrRestore).doIf (fld v 2 1 == 1) attemptSave
  else if a = Reg.MEM_TEST then memTest (fld v 0 1 == 1) s
  else if a = Reg.THW_CTRL then
    ((s.doIf (fld v 0 1 == 1) (sensClr (fld v 1 4))).doIf (fld v 5 1 == 1) wearRestore).doIf (fld v 6 1 == 1) avsResume
  else s

/-- A write of CFG_COMMIT (R56, R63). -/
def commitRequest (v : Word) : CommitReq := { all := fld v 16 1 == 1, cls := fld v 8 8, inst := fld v 0 8 }

/-- A write of MEM_SCRUB_CTL (R457, R459). -/
def scrubCtl (v : Word) (s : State) : State :=
  let s := s.doIf (fld v 2 1 == 1) (scrubAbort 0)
  if fld v 0 1 = 1 then scrubGo (fld v 1 1 == 1) s else s.wbit Reg.MEM_SCRUB_CTL 1 (fld v 1 1 == 1)

/-- The action of an unkeyed write to a single register with an effect of its own. -/
def oneAction (a : Nat) (v : Word) : Option (State → State) :=
  if a = Reg.TIM_SNAP then some (timSnap v)
  else if a = Reg.TIM_RATE then some (timRateWrite v)
  else if a = Reg.TIM_SLEW then some (timSlewWrite v)
  else if a = Reg.ADC_CAL_CMD then some (calCmd v)
  else if a = Reg.ADC_SW_TRIG then some (swTrigger v)
  else if a = Reg.CFG_COMMIT then some (startCommit (commitRequest v))
  else if a = Reg.GPR_CTL then some (gprHold v)
  else if a = Reg.PWM_LOAD then some (pwmLoad v)
  else if a = Reg.MTR_SNAP then some (mtrSnap v)
  else if a = Reg.MEM_LOGCLR then some (logClear v)
  else if a = Reg.MEM_SCRUB_CTL then some (scrubCtl v)
  else if a = Reg.EVT_QCODE then some (qcodeWrite v)
  else none

/-- The action of an unkeyed write to a register of an array with an effect of its own. -/
def arrayAction (a : Nat) (v : Word) : Option (State → State) :=
  if 0x91000 ≤ a ∧ a < 0x91600 ∧ a % 16 < 8 then some (shadowWrite ((a - 0x91000) / 16) (a % 16 == 4) v)
  else
    ((arrayIndex (Reg.TIM_TPO_CFG 0) 32 8 a).map fun n => tpoArm n v) <|>
    ((arrayIndex (Reg.ARB_CLASS 0) 4 12 a).map fun r s => classWrite r v (s.fclk true) s) <|>
    ((arrayIndex (Reg.LAN_CTL 0) 64 8 a).map fun n => lanCtl n v) <|>
    ((arrayIndex (Reg.HQ_QCFG 0) 64 32 a).map fun q => queueEnable q v) <|>
    ((arrayIndex (Reg.HQ_HEAD 0) 64 32 a).map fun q => headWrite q v) <|>
    ((arrayIndex (Reg.HQ_TAIL 0) 64 32 a).map fun q => doorbell q v [])

/-- A write by the access code of its row (R10, R622): none of RO, RC and reserved addresses. -/
def codeWrite (a : Nat) (v : Word) (s : State) : State :=
  match rowOf a with
  | none => s
  | some r =>
    match r.acc with
    | .rw | .rws => fieldWrite r a v s
    | .w1c => flagWrite r a v s
    | _ => s

/-- The effect of an unkeyed write. -/
def plainWrite (src : Src) (a : Nat) (v : Word) (s : State) : State :=
  if a = Reg.GLB_KEY then keyWrite src v s
  else if isLiveCopy a then liveWrite a s
  else match oneAction a v <|> arrayAction a v with
    | some f => f s
    | none => codeWrite a v s

/-- An access R8 refuses: not a single aligned word of BAR0. -/
def badAccess (a : Nat) : Bool := a % 4 != 0 || decide (0x400000 ≤ a)

/-- A write to BAR0 from any of its sources. -/
def hostWrite (src : Src) (a : Nat) (v : Word) (s : State) : State :=
  if badAccess a then s.emit .unsupported
  else if (keyOf a).isSome then s.keyed src a (keyedAction a v)
  else s.unkeyed src a (plainWrite src a v)

/-! ### Reads -/

/-- MEM_LOG_INFO of an entry (R454). -/
def logInfo : Option LogEntry → Nat
  | none => 0
  | some e => e.count % 16 + 16 + e.rewritten.toNat * 32 + e.pers.toNat * 64 + e.src % 16 * 256

/-- The registers whose value is formed when they are read. DESIGN CHOICE: until an image is in force TIM_STAT.SRC shows the
source of the last measurement, behind it the source selected. -/
def State.view (s : State) (a : Nat) : Word :=
  if a = Reg.TIM_TS32 then s.tim.ts32
  else if a = Reg.CLK_STAT then if s.clk.searching then setFld (s.rg a) 0 3 (Config.locking s.now).toNat else s.rg a
  else if a = Reg.CLK_BAND then
    if s.clk.searching then BitVec.ofNat 32 (Config.searchBand s.now) &&& 0x3ff1f else s.rg a
  else if a = Reg.CLK_PHERR then if s.injecting s.clkSel then setFld (s.rg a) 0 16 (Config.phaseError s.now) else s.rg a
  else if a = Reg.TIM_STAT then
    let w := setFld (setFld (s.rg a) 7 1 (s.node == 0 && s.pairState == 3).toNat) 8 6 s.tim.hops
    let w := if s.cfg.inForce then setFld w 2 2 s.timeSrc else w
    if s.runsFree then setFld w 6 1 0 else w
  else if a = Reg.RNG_LINK then if s.cfg.inForce && !s.bit Reg.RNG_CFG_L 7 then setFld (s.rg a) 4 4 0xa else s.rg a
  else if a = Reg.PAR_STAT then setFld (s.rg a) 4 1 (bitOf s.healthBits 11).toNat
  else if a = Reg.PAR_CKPT_AGE then BitVec.ofNat 32 s.ckptAgeUs
  else if a = Reg.PAR_CKPT_STAT then setFld (s.rg a) 16 16 s.ckptK
  else if a = Reg.STR_STAT then
    BitVec.ofNat 32 ((List.range 16).foldl (fun m r => if s.bit (Reg.STR_GCFG r) 0 then m + 2 ^ r else m) 0)
  else if a = Reg.PWM_CALSTAT then
    setFld (s.rg a) 16 16 ((List.range 200).foldl (fun m i => max m (s.lineAge i)) 0)
  else if a = Reg.ARB_STAT then setFld (s.rg a) 16 12 s.urgentNow
  else if a = Reg.MEM_STAT then
    setFld (setFld (s.rg a) 8 5 (s.memi.log.countP Option.isSome)) 16 5
      (s.memi.log.countP fun e => e.any LogEntry.pers)
  else match arrayIndex (Reg.GLB_DISC 0) 4 64 a, arrayIndex (Reg.PWM_CALAGE 0) 4 200 a, arrayIndex (Reg.MEM_LOG_ADDR 0) 4 32 a with
    | some n, _, _ => setFld (s.rg a) 0 1 (s.discSeen n).toNat
    | _, some i, _ => BitVec.ofNat 32 (s.lineAge i)
    | _, _, some i =>
      let e := s.memi.log.getD (i / 2) none
      if i % 2 = 1 then BitVec.ofNat 32 (logInfo e) else BitVec.ofNat 32 (match e with | some x => x.addr * 8 | none => 0)
    | _, _, _ => s.peek a

/-- What the clearing read of an RC register re-arms: events told once until it is read (R112, R137, R629). -/
def State.readRearms (s : State) (a : Nat) : State :=
  if a = Reg.GLB_KEYREF then { s with keys.told := false }
  else match arrayIndex (Reg.ADC_LOST 0) 512 8 a with
    | some k => { s with meas.conv := s.meas.conv.put k {} { s.adc k with told := false } }
    | none => s

/-- The value an RC register returns: CLK_PHPEAK of a running loop holds the largest error of an open measurement (R87),
LAN_SHERR of a locked lane the invalid headers met so far (R503). -/
def State.rcValue (s : State) (a : Nat) : Word :=
  if a = Reg.CLK_PHPEAK ∧ s.injecting s.clkSel then
    setFld (s.rg a) 0 16 (max (s.rf a 0 16) (Config.phasePeak s.now % 65536))
  else match arrayIndex (Reg.LAN_SHERR 0) 64 8 a with
    | some n =>
      if s.bit (Reg.LAN_LSTAT n) 0 then BitVec.ofNat 32 (min (s.rn a + Config.headerErrors s.now) (2 ^ 32 - 1)) else s.peek a
    | none => s.peek a

/-- A read of an RC register: its value, and zero in its place (R10). -/
def rcRead (a : Nat) (s : State) : State × Word := ((s.poke a 0).readRearms a, s.rcValue a)

/-- A read of EVT_LAST[i] (R632, R638): word 0 latches words 1 to 7 until word 7 is read; a record that came in between
then takes their place. -/
def lastRead (i : Nat) (s : State) : State × Word :=
  let v := s.erg (Reg.EVT_LAST i)
  if i = 0 then
    (if s.evt.latched.isSome then s
     else { s with evt.latched := some ((List.range 8).map fun j => s.erg (Reg.EVT_LAST j)) }, v)
  else if i = 7 then
    match s.evt.latched with
    | none => (s, v)
    | some l =>
      let s := { s with evt.latched := none }.writeLast 0 l
      (if eventClass (fld (l.getD 0 0) 0 16) < 4 then s
       else s.ewr Reg.EVT_STAT (setFld (s.erg Reg.EVT_STAT) 8 1 1), v)
  else (s, v)

/-- A read of any BAR0 register that is accessible, with its side effects. -/
def State.readReg (s : State) (a : Nat) : State × Word :=
  match arrayIndex (Reg.EVT_LAST 0) 4 8 a, arrayIndex (Reg.TIM_TCAP_S 0) 32 5 a with
  | some i, _ => lastRead i s
  | _, some n => s.popFifo n
  | none, none =>
    match arrayIndex (Reg.LAN_PRBS_ERR_LO 0) 64 8 a, arrayIndex (Reg.LAN_PRBS_BIT_LO 0) 64 8 a with
    | some n, _ => s.draw.prbsLo n false (Config.prbsErrors s.free)
    | _, some n => s.draw.prbsLo n true (Config.prbsErrors s.free)
    | none, none =>
      match rowOf a with
      | none => (s, 0)
      | some r =>
        match r.acc with
        | .rc => rcRead a s
        | .wo => (s, 0)
        | _ => (s, s.view a)

/-- Until READY only the GLB, CLK and THW blocks are read (R561). -/
def State.readable (s : State) (a : Nat) : Bool :=
  s.onMain && (s.sys.ready || a / 0x10000 == 0 || a / 0x10000 == 1 || a / 0x10000 == 0x15)

/-- The value of a BAR0 read, with its side effects. -/
def State.readValue (s : State) (a : Nat) : State × Word := if s.readable a then s.readReg a else (s, 0)

/-- A host read of BAR0. -/
def hostRead (a : Nat) (s : State) : State :=
  if badAccess a then s.emit .unsupported
  else
    let (t, v) := s.readValue a
    t.emit (.readValue v)

/-! ### The commands -/

/-- REGISTER_WRITE (R10, R54, R561, R622, R628). -/
def execRegisterWrite (src : Src) (a : Nat) (v : Word) (s : State) : Host.Outcome State Fault Refusal :=
  s.access (hostWrite src a v)

/-- SHADOW_WRITE (R54, R58): a RWS register takes the value in its shadow. -/
def execShadowWrite (src : Src) (a : Nat) (v : Word) (s : State) : Host.Outcome State Fault Refusal :=
  s.access fun s => if badAccess a then s.emit .unsupported
    else s.unkeyed src a fun s => match rowOf a with
      | some r => if r.acc = .rws then fieldWrite r a v s else s
      | none => s

/-- LIVE_COPY_WRITE (R12). -/
def execLiveCopyWrite (src : Src) (a : Nat) (_v : Word) (s : State) : Host.Outcome State Fault Refusal :=
  s.access fun s => if badAccess a then s.emit .unsupported
    else s.unkeyed src a fun s => if isLiveCopy a then liveWrite a s else s

/-- GLB_KEY (R627). -/
def execGlbKey (src : Src) (v : Word) (s : State) : Host.Outcome State Fault Refusal :=
  State.finish (s.unkeyed src Reg.GLB_KEY (keyWrite src v))

/-- KEY_SLOT_EXPIRY (R628): the slot of a source disarms 64 FCLK cycles after arming. -/
def execKeySlotExpiry (src : Src) (s : State) : Host.Outcome State Fault Refusal := State.finish (s.disarm src)

/-- EVT_QCODE (R631). -/
def execEvtQcode (src : Src) (v : Word) (s : State) : Host.Outcome State Fault Refusal :=
  State.finish (s.unkeyed src Reg.EVT_QCODE (qcodeWrite v))

/-- EVT_LAST_READ (R632): a read of EVT_LAST[i]. -/
def execEvtLastRead (i : Fin 8) (s : State) : Host.Outcome State Fault Refusal :=
  s.access (hostRead (Reg.EVT_LAST i.val))

/-- RC_REGISTER_READ (R10, R11): a read of a register that clears what it returns. -/
def execRcRegisterRead (a : Nat) (s : State) : Host.Outcome State Fault Refusal := s.access (hostRead a)

end Sys2Proof.Machine
end

