-- ==== Sys2Proof/Machine/Access.lean ====
section
/-! DEFINITION. The descriptors of HQ17 and HQ18, the node windows of BAR4 and the ring tunnel (chapter 18, R508 to R511,
R518 to R522). -/

namespace Sys2Proof.Machine

/-! ### Command lists (R521) -/

/-- Events that report a refused write with an outcome of its own (R628). -/
def refusalCodes : List Nat :=
  [0x030f, 0x0314, 0x0320, 0x0321, 0x0322, 0x0323, 0x0324, 0x0325, 0x0326, 0x060e, 0x0821, 0x0a08, 0x0b14, 0x0f0b, 0x0f14,
   0x1002]

/-- A write of the list is refused: R8 refuses its offset, its key does not stand, a scrub is refused (R457), or it has raised an
event of a refusal. -/
def State.listRefused (s t : State) (a : Nat) (v : Word) : Bool :=
  badAccess a ||
    (a == Reg.MEM_SCRUB_CTL && fld v 0 1 == 1 && !s.scrubbing && t.rf Reg.MEM_SCRUB_STAT 0 3 == 4) ||
    ((keyOf a).isSome && s.writable a && !s.keyOk .list a) ||
    ((t.evt.batch.drop s.evt.batch.length).any fun r => refusalCodes.contains r.ev.code)

/-- The writes of a list in order: refused writes so far, index of the first, index of the next. A soft reset ends the
list. -/
def applyList (s : State) (n first i : Nat) : List (Nat × Word) → State × Nat × Nat
  | [] => (s.disarm .list, n, first)
  | (a, v) :: l =>
    if a = Reg.GLB_CTRL ∧ fld v 3 1 = 1 ∧ s.keyOk .list a then (hostWrite .list a v s, n, first)
    else
      let t := hostWrite .list a v s
      if s.listRefused t a v then applyList t (n + 1) (if n = 0 then i else first) (i + 1) l else applyList t n first (i + 1) l

/-- A list of BAR0 writes and the STATUS it completes with. -/
def State.runList (s : State) (l : List (Nat × Word)) : State × Word :=
  let (t, n, first) := applyList s 0 0 0 l
  (t, statusWord (min n 255) first false)

/-- The entries of a list as bytes of its buffer, and back. -/
def listBytes (l : List (Nat × Word)) : List Byte := l.flatMap fun e => leBytes e.1 4 ++ leBytes e.2.toNat 4

def listOf (b : List Byte) : List (Nat × Word) :=
  (List.range (b.length / 8)).map fun i =>
    (leNat ((b.drop (8 * i)).take 4), BitVec.ofNat 32 (leNat ((b.drop (8 * i + 4)).take 4)))

/-- COMMAND_LIST (R521): the descriptor at the front of HQ17 with the entries of its buffer. -/
def commandList (l : List (Nat × Word)) (s : State) : State :=
  match s.frontDesc 17 with
  | none => s
  | some d =>
    let l := l.take (d.len / 8)
    if d.node != s.node then s.sendDesc 17 d (listBytes l)
    else
      let (s, st) := s.runList l
      s.descDone 17 st

/-! ### Memory transfers (R522) -/

/-- A transfer with LOCK is longer than ARB_HOLD beats. -/
def State.overLock (s : State) (d : Desc) : Bool := bitOf d.dflags 2 && decide (8 * s.rf Reg.ARB_HOLD 0 10 < d.len)

/-- A word of the transfer lies where BAR2 gives no access: unmapped, or for a write one that R449 refuses. -/
def State.transferBad (s : State) (off n : Nat) (write : Bool) : Bool :=
  (List.range (n / 8)).any fun i =>
    match region (off + 8 * i) with
    | 0 => true
    | 1 => false
    | 3 => write
    | _ => write && !s.halted

/-- The STATUS of a transfer that BAR2 does not allow: nothing is moved. -/
def State.transferRefused (s : State) (off : Nat) (write : Bool) : State × Word :=
  let st := (Config.transferStatus s.free &&& 0x0000ff02) ||| 1
  let s := s.draw
  (if write && region off != 0 then s.refuse off 0x25 else s, st)

/-- Writes consecutive words by the BAR2 rules, each a whole 64-bit word. -/
def storeTransfer (s : State) (off : Nat) : List (List Byte) → State
  | [] => s
  | w :: ws => storeTransfer (s.bar2Write off w 0) (off + 8) ws

/-- The bytes of a buffer in words of eight. -/
def eights (b : List Byte) : List (List Byte) := (List.range (b.length / 8)).map fun i => (b.drop (8 * i)).take 8

/-- A memory write at its target: the STATUS. -/
def State.memWrite (s : State) (d : Desc) (data : List Byte) : State × Word :=
  if s.overLock d then (s, statusWord 3 0 true)
  else if s.transferBad d.dofs d.len true then s.transferRefused d.dofs true
  else (storeTransfer s d.dofs (eights (data.take d.len)), statusWord 0 0 false)

/-- A memory read at its target: the bytes and the STATUS. `bad` is the first uncorrectable word met (R355, R450). -/
def State.memRead (s : State) (d : Desc) (bad : Option Nat) : State × List Byte × Word :=
  if s.overLock d then (s, [], statusWord 3 0 true)
  else if s.transferBad d.dofs d.len false then
    let (s, st) := s.transferRefused d.dofs false
    (s, [], st)
  else if s.bit Reg.MEM_STAT 2 then
    (s.latchTest ((d.dofs + d.len) / 8 - 1), s.rawBytes d.dofs d.len, statusWord 0 0 false)
  else
    let data := s.bytes d.dofs d.len
    let (s, met) := s.meet 8 d.dofs d.len
    let s := match bad with | some w => s.recordUe 8 w | none => s
    if (met.or bad).isSome then (s, data, statusWord 4 0 true) else (s, data, statusWord 0 0 false)

/-- MEMORY_WRITE_TRANSFER (R522): the descriptor at the front of HQ18 with the data of its buffer. -/
def memoryWrite (data : List Byte) (s : State) : State :=
  match s.frontDesc 18 with
  | none => s
  | some d =>
    if d.op != 3 then s
    else if d.node != s.node then s.sendDesc 18 d (data.take d.len)
    else
      let (s, st) := s.memWrite d data
      s.descDone 18 st

/-- MEMORY_READ_TRANSFER (R522). -/
def memoryRead (bad : Option Nat) (s : State) : State :=
  match s.frontDesc 18 with
  | none => s
  | some d =>
    if d.op != 4 then s
    else if d.node != s.node then s.sendDesc 18 d []
    else
      let (s, data, st) := s.memRead d bad
      s.readDone d data st

/-! ### Node windows (R508 to R511) -/

/-- The access completes as an unsupported request without ring traffic (R508): beyond NODES, own ring not in RING or
LINE, a node missed in the last closed snapshot, a duplicate node (R570), or an access R8 refuses. -/
def State.windowBad (s : State) (n off : Nat) : Bool :=
  decide (s.nodes ≤ n) || !(s.rf Reg.RNG_STAT 0 2 == 1 || s.rf Reg.RNG_STAT 0 2 == 2) ||
    s.bit (if n < 32 then Reg.RNG_MISS_LO else Reg.RNG_MISS_HI) (n % 32) || s.bit (Reg.GLB_DISC n) 5 || badAccess off

/-- An unsupported request of a window, counted (R508). -/
def State.windowRefused (s : State) : State :=
  (s.hwf Reg.HQ_TUN_ERR 0 16 (min (s.hrf Reg.HQ_TUN_ERR 0 16 + 1) 65535)).emit .unsupported

/-- Sends the key write that waits for window `n`, alone (R511). -/
def State.sendKey (s : State) (n : Nat) : State :=
  match s.hq.keyHold.at n none with
  | some k => ({ s with hq.keyHold := s.hq.keyHold.put n none none } : State).tunnel n (.write Reg.GLB_KEY k)
  | none => s

/-- WINDOW_READ (R508 to R510): no read passes an earlier write to its node. -/
def windowRead (n off : Nat) (s : State) : State :=
  if n = s.node then (if badAccess off then s.windowRefused else hostRead off s)
  else if s.windowBad n off then s.windowRefused
  else
    let tag := s.hq.tag
    let s := (s.sendKey n).tunnel n (.read off tag)
    { s with hq := { s.hq with reads := s.hq.reads ++ [(n, off, s.now, tag)], tag := tag + 1 } }

/-- WINDOW_WRITE (R508, R509, R511): a key write waits for the next write to its window, and both travel as one message. -/
def windowWrite (n off : Nat) (v : Word) (s : State) : State :=
  if n = s.node then (if badAccess off then s.windowRefused else hostWrite .pcie off v s)
  else if s.windowBad n off then s.windowRefused
  else if off = Reg.GLB_KEY then
    let s := s.sendKey n
    { s with hq.keyHold := s.hq.keyHold.put n none (some v) }
  else match s.hq.keyHold.at n none with
    | some k => ({ s with hq.keyHold := s.hq.keyHold.put n none none } : State).tunnel n (.pair k off v)
    | none => s.tunnel n (.write off v)

/-- KEY_PAIR_TIMEOUT (R511): 1 µs behind a key write without a further write to its window. -/
def keyPairTimeout (n : Nat) (s : State) : State := s.sendKey n

/-- The oldest open read of a register of a node, with the tag if one is given: when it was sent, and the other reads. -/
def takeRead (n off : Nat) (tag : Option Nat) :
    List (Nat × Nat × Nat × Nat) → Option (Nat × List (Nat × Nat × Nat × Nat))
  | [] => none
  | x :: l =>
    if x.1 = n ∧ x.2.1 = off ∧ tag.all (· == x.2.2.2) then some (x.2.2.1, l)
    else (takeRead n off tag l).map fun r => (r.1, x :: r.2)

/-- TUNNEL_RESPONSE (R510): completes the host read of its tag; one for no open read is discarded. -/
def tunnelResponse (n off tag : Nat) (v : Option Word) (s : State) : State :=
  match takeRead n off (some tag) s.hq.reads with
  | none => s
  | some (t, l) =>
    let s := { s with hq := { s.hq with reads := l } }
    let s := s.hwf Reg.HQ_TUN_MAX 0 32 (max (s.hrf Reg.HQ_TUN_MAX 0 32) ((s.now - t) * 4 / 125))
    s.emit (match v with | some w => .readValue w | none => .unsupported)

/-- TUNNEL_READ_TIMEOUT (R510, R523): completer abort, counted, event 0x0E05, vector 32. -/
def tunnelTimeout (n off : Nat) (s : State) : State :=
  match takeRead n off none s.hq.reads with
  | none => s
  | some (_, l) =>
    let s := ({ s with hq := { s.hq with reads := l } } : State).emit .abort
    let s := (s.hwf Reg.HQ_TUN_ERR 16 16 (min (s.hrf Reg.HQ_TUN_ERR 16 16 + 1) 65535)).hwf Reg.HQ_FLAGS 17 1 1
    (s.raise 0x0e05 0 [n, off]).signal 32

/-! ### Messages (R509, R511, R518 to R522) -/

/-- A descriptor of another node at its target: the STATUS and the data that go back. -/
def State.runDesc (s : State) (q : Nat) (d : Desc) (data : List Byte) : State × Word × List Byte :=
  if q = 16 then
    let (s, c) := s.receive true d.dofs data
    (s, statusWord c 0 (c != 0), [])
  else if q = 17 then
    let (s, st) := s.runList (listOf data)
    (s, st, [])
  else if d.op = 3 then
    let (s, st) := s.memWrite d data
    (s, st, [])
  else
    let (s, b, st) := s.memRead d none
    (s, st, b)

/-- The effect of a tunnel message at the device it is for. -/
def State.takeTunnel (s : State) (src : Nat) : Tun → State
  | .read off tag =>
    if badAccess off then s.tunnel src (.response off tag none)
    else
      let (s, v) := s.readValue off
      s.tunnel src (.response off tag (some v))
  | .response off tag v => tunnelResponse src off tag v s
  | .write off v => hostWrite .tunnel off v s
  | .pair k off v => hostWrite .tunnel off v (hostWrite .tunnel Reg.GLB_KEY k s)
  | .record q r => s.relayed (q % 6) r
  | .desc q no d data =>
    let (s, st, b) := s.runDesc q d data
    s.tunnel src (.ack q no st b)
  | .ack q no st data =>
    match s.hq.desc.at q [] with
    | d :: _ =>
      if !s.hq.away.at q false || d.node != src || s.hq.awayNo.at q 0 != no || (q == 18 && s.hq.result.isSome) then s
      else if q = 18 then s.readDone d data st
      else s.descDone q st
    | [] => s

/-- TUNNEL_MESSAGE_RECEIVED (R260, R509): a message for another node goes on; its own takes effect. -/
def tunnelReceived (lane src dst : Nat) (m : Tun) (s : State) : State :=
  if dst = s.node then s.takeTunnel src m
  else if s.laneUp (onward lane) then s.send (onward lane) (.lane (onward lane) (.tunnel src dst m)) else s

/-! ### The commands -/

/-- COMMAND_LIST (R521). -/
def execCommandList (l : List (Nat × Word)) (s : State) : Host.Outcome State Fault Refusal := s.main (commandList l)

/-- MEMORY_WRITE_TRANSFER (R522). -/
def execMemoryWriteTransfer (data : List Byte) (s : State) : Host.Outcome State Fault Refusal := s.main (memoryWrite data)

/-- MEMORY_READ_TRANSFER (R522). -/
def execMemoryReadTransfer (bad : Option (Fin 2097152)) (s : State) : Host.Outcome State Fault Refusal :=
  s.main (memoryRead (bad.map Fin.val))

/-- WINDOW_READ (R510). -/
def execWindowRead (n : Node) (off : Nat) (s : State) : Host.Outcome State Fault Refusal := s.access (windowRead n.val off)

/-- WINDOW_WRITE (R509). -/
def execWindowWrite (n : Node) (off : Nat) (v : Word) (s : State) : Host.Outcome State Fault Refusal :=
  s.access (windowWrite n.val off v)

/-- TUNNEL_RESPONSE (R510). -/
def execTunnelResponse (n : Node) (off : Nat) (v : Nat × Option Word) (s : State) : Host.Outcome State Fault Refusal :=
  s.main (tunnelResponse n.val off v.1 v.2)

/-- TUNNEL_READ_TIMEOUT (R510). -/
def execTunnelReadTimeout (n : Node) (off : Nat) (s : State) : Host.Outcome State Fault Refusal :=
  s.main (tunnelTimeout n.val off)

/-- TUNNEL_MESSAGE_RECEIVED (R511). -/
def execTunnelMessageReceived (lane : Lane) (src dst : Node) (m : Tun) (s : State) : Host.Outcome State Fault Refusal :=
  s.heard lane.val (tunnelReceived lane.val src.val dst.val m)

/-- KEY_PAIR_TIMEOUT (R511). -/
def execKeyPairTimeout (n : Node) (s : State) : Host.Outcome State Fault Refusal := s.main (keyPairTimeout n.val)

end Sys2Proof.Machine
end

