-- ==== Sys2Proof/Machine/Period.lean ====
section
/-! DEFINITION. The boundary of a control period (R171), and the tick that passes while no command waits. -/

namespace Sys2Proof.Machine

/-- CONTROL_PERIOD_BOUNDARY (R171) into period k + 1: open windows end; pending groups with this commit point become live;
a takeover resumes, a handover changes sides and a pending ARM takes effect; the ring closes, decides and sends; the
measurement set is latched and the input areas are filled from it; time alignment is judged; a checkpoint is captured. -/
def periodBoundary (s : State) : State :=
  let s := s.enginesBoundary
  let s := ({ s with tim.period := s.tim.period + 1 } : State).commitBoundary
  let s := s.bypFree.takeoverBoundary.handoverBoundary.armBoundary
  let s := s.ringBoundary
  let s := ((s.adcSource 0x11).latchSet false).fillBoundary
  s.checkAlignment.keepBase.captureCkpt

/-- CONTROL_PERIOD_BOUNDARY. -/
def execControlPeriodBoundary (s : State) : Host.Outcome State Fault Refusal := s.main periodBoundary

/-- A tick of TCLK (R90), in which a commit whose earliest instant has come becomes live (R57), the correction log takes an
update in each of the two FCLK cycles (R454), a scrub outside the SSM goes on (R457), and the device judges whether it is
eligible for takeover (R402). -/
def idle (s : State) : State :=
  let s := s.tick
  if s.running then s.commitNow.logOne.logOne.scrubTick.showElig else s

end Sys2Proof.Machine
end

