-- ==== Sys2Proof/Machine/Dispatch.lean ====
section
/-! DEFINITION. What each command does: one arm per constructor of `Instr`. -/

namespace Sys2Proof.Machine

open Sys2Proof

def exec (i : Instr) (s : State) : Host.Outcome State Fault Refusal :=
  match i with
  | .mainPowerOnReset asserted straps fuses => Sys2Proof.Machine.execMainPowerOnReset asserted straps fuses s
  | .supplyUndervoltage rail => Sys2Proof.Machine.execSupplyUndervoltage rail s
  | .prstNReset => Sys2Proof.Machine.execPrstNReset s
  | .resetPadHoldEnd => Sys2Proof.Machine.execResetPadHoldEnd s
  | .bistComplete items banks trim => Sys2Proof.Machine.execBistComplete items banks trim s
  | .gioSupplyFault b => Sys2Proof.Machine.execGioSupplyFault b s
  | .pciePerst low => Sys2Proof.Machine.execPciePerst low s
  | .referenceLost refB => Sys2Proof.Machine.execReferenceLost refB s
  | .referenceQualified refB => Sys2Proof.Machine.execReferenceQualified refB s
  | .refFreqInterval refB offset => Sys2Proof.Machine.execRefFreqInterval refB offset s
  | .revertTimer => Sys2Proof.Machine.execRevertTimer s
  | .bandSearchStart => Sys2Proof.Machine.execBandSearchStart s
  | .lockDeclared codes code => Sys2Proof.Machine.execLockDeclared codes code s
  | .bandSearchFailed band => Sys2Proof.Machine.execBandSearchFailed band s
  | .lossOfLock err => Sys2Proof.Machine.execLossOfLock err s
  | .flintFsDtTurnOn g => Sys2Proof.Machine.execFlintFsDtTurnOn g s
  | .phaseWalkStart theta => Sys2Proof.Machine.execPhaseWalkStart theta s
  | .walkStep => Sys2Proof.Machine.execWalkStep s
  | .clkRelock src => Sys2Proof.Machine.execClkRelock src s
  | .clkSwitch src => Sys2Proof.Machine.execClkSwitch src s
  | .sclkWindowEnd count => Sys2Proof.Machine.execSclkWindowEnd count s
  | .sclkStopped => Sys2Proof.Machine.execSclkStopped s
  | .epochMark => Sys2Proof.Machine.execEpochMark s
  | .timStep src => Sys2Proof.Machine.execTimStep src s
  | .timSnap src v => Sys2Proof.Machine.execTimSnap src v s
  | .timRateWrite src v => Sys2Proof.Machine.execTimRateWrite src v s
  | .timSlewWrite src v => Sys2Proof.Machine.execTimSlewWrite src v s
  | .ptpMessage port domain m => Sys2Proof.Machine.execPtpMessage port domain m s
  | .timeSourceTimeout => Sys2Proof.Machine.execTimeSourceTimeout s
  | .holdoverLimit => Sys2Proof.Machine.execHoldoverLimit s
  | .timeTransferSet lane t => Sys2Proof.Machine.execTimeTransferSet lane t s
  | .tpoArm src n v => Sys2Proof.Machine.execTpoArm src n v s
  | .tpoPulseEdge n leading => Sys2Proof.Machine.execTpoPulseEdge n leading s
  | .tcapEdge n rising fine => Sys2Proof.Machine.execTcapEdge n rising fine s
  | .tcapPop n => Sys2Proof.Machine.execTcapPop n s
  | .ppsOutPulse rising => Sys2Proof.Machine.execPpsOutPulse rising s
  | .sinc3Result ch bits rate => Sys2Proof.Machine.execSinc3Result ch bits rate s
  | .sdLossOfTransition ch => Sys2Proof.Machine.execSdLossOfTransition ch s
  | .sdCodeViolationFault ch => Sys2Proof.Machine.execSdCodeViolationFault ch s
  | .sdRateFault ch => Sys2Proof.Machine.execSdRateFault ch s
  | .sdChannelRecovered ch => Sys2Proof.Machine.execSdChannelRecovered ch s
  | .sdChannelSettled ch => Sys2Proof.Machine.execSdChannelSettled ch s
  | .fastComparatorAssert ch hi bits => Sys2Proof.Machine.execFastComparatorAssert ch hi bits s
  | .adcTriggerFire t => Sys2Proof.Machine.execAdcTriggerFire t s
  | .adcTimerTrigger t => Sys2Proof.Machine.execAdcTimerTrigger t s
  | .adcSwTrigger src v => Sys2Proof.Machine.execAdcSwTrigger src v s
  | .adcSampleInstant k => Sys2Proof.Machine.execAdcSampleInstant k s
  | .adcConversionComplete k nanovolt => Sys2Proof.Machine.execAdcConversionComplete k nanovolt s
  | .adcCalCmd src v => Sys2Proof.Machine.execAdcCalCmd src v s
  | .adcCalStart k => Sys2Proof.Machine.execAdcCalStart k s
  | .adcCalComplete k offset gain weights => Sys2Proof.Machine.execAdcCalComplete k offset gain weights s
  | .controlPeriodBoundary => Sys2Proof.Machine.execControlPeriodBoundary s
  | .checkpointStagingDone => Sys2Proof.Machine.execCheckpointStagingDone s
  | .checkpointSent => Sys2Proof.Machine.execCheckpointSent s
  | .midPeriodLatch => Sys2Proof.Machine.execMidPeriodLatch s
  | .slotWindowStart e => Sys2Proof.Machine.execSlotWindowStart e s
  | .blockComplete k mismatch => Sys2Proof.Machine.execBlockComplete k mismatch s
  | .windowEnd e => Sys2Proof.Machine.execWindowEnd e s
  | .vtxDry src => Sys2Proof.Machine.execVtxDry src s
  | .gprHold src v => Sys2Proof.Machine.execGprHold src v s
  | .periodFrameReceived lane f => Sys2Proof.Machine.execPeriodFrameReceived lane f s
  | .partnerFrameReceived lane f => Sys2Proof.Machine.execPartnerFrameReceived lane f s
  | .ringStateSet lane node far up => Sys2Proof.Machine.execRingStateSet lane node far up s
  | .stackTripReceived lane d1 d2 d3 => Sys2Proof.Machine.execStackTripReceived lane d1 d2 d3 s
  | .rngTrip src => Sys2Proof.Machine.execRngTrip src s
  | .rngTripclr src => Sys2Proof.Machine.execRngTripclr src s
  | .strataSortDone cycles => Sys2Proof.Machine.execStrataSortDone cycles s
  | .discoverySend => Sys2Proof.Machine.execDiscoverySend s
  | .discoveryReceived lane d => Sys2Proof.Machine.execDiscoveryReceived lane d s
  | .pwmLoad src v => Sys2Proof.Machine.execPwmLoad src v s
  | .pwmShadowWrite src q wid v => Sys2Proof.Machine.execPwmShadowWrite src q wid v s
  | .pendingSetClose g => Sys2Proof.Machine.execPendingSetClose g s
  | .pwmGroupBoundary g mid => Sys2Proof.Machine.execPwmGroupBoundary g mid s
  | .commandTransition q pos => Sys2Proof.Machine.execCommandTransition q pos s
  | .deadTimeExpiry q => Sys2Proof.Machine.execDeadTimeExpiry q s
  | .adtSample g level => Sys2Proof.Machine.execAdtSample g level s
  | .replicaBiasUpdate loop code atEnd => Sys2Proof.Machine.execReplicaBiasUpdate loop code atEnd s
  | .calMeasurementDone line tap => Sys2Proof.Machine.execCalMeasurementDone line tap s
  | .lineAgeExceeded line => Sys2Proof.Machine.execLineAgeExceeded line s
  | .switchFaultQualified g hard => Sys2Proof.Machine.execSwitchFaultQualified g hard s
  | .fsDtTurnOn g => Sys2Proof.Machine.execFsDtTurnOn g s
  | .tripInputAsserted n => Sys2Proof.Machine.execTripInputAsserted n s
  | .tripO1PulseEnd => Sys2Proof.Machine.execTripO1PulseEnd s
  | .bypFbAccepted c closed => Sys2Proof.Machine.execBypFbAccepted c closed s
  | .bypassTcloseTimeout c => Sys2Proof.Machine.execBypassTcloseTimeout c s
  | .clearSwitch src g dsat => Sys2Proof.Machine.execClearSwitch src g dsat s
  | .clearCell src c dsat => Sys2Proof.Machine.execClearCell src c dsat s
  | .clearCluster src => Sys2Proof.Machine.execClearCluster src s
  | .clearTrip src n level => Sys2Proof.Machine.execClearTrip src n level s
  | .flintPowerOnReset asserted node => Sys2Proof.Machine.execFlintPowerOnReset asserted node s
  | .flintCycle => Sys2Proof.Machine.execFlintCycle s
  | .sinLevelAccepted n b level => Sys2Proof.Machine.execSinLevelAccepted n b level s
  | .safetyFrame net dst etherType p => Sys2Proof.Machine.execSafetyFrame net dst etherType p s
  | .networkSilence net => Sys2Proof.Machine.execNetworkSilence net s
  | .unpairedFrameTimeout net => Sys2Proof.Machine.execUnpairedFrameTimeout net s
  | .readbackCompare n low level settled => Sys2Proof.Machine.execReadbackCompare n low level settled s
  | .testPulseStart n => Sys2Proof.Machine.execTestPulseStart n s
  | .flintWatchdogExpiry => Sys2Proof.Machine.execFlintWatchdogExpiry s
  | .vddFlintOutOfWindow => Sys2Proof.Machine.execVddFlintOutOfWindow s
  | .flintMemoryError => Sys2Proof.Machine.execFlintMemoryError s
  | .flintDiagnosticStep kind pass => Sys2Proof.Machine.execFlintDiagnosticStep kind pass s
  | .flintInputTest bad => Sys2Proof.Machine.execFlintInputTest bad s
  | .sgiSet src => Sys2Proof.Machine.execSgiSet src s
  | .sgiClr src => Sys2Proof.Machine.execSgiClr src s
  | .flintRstRequest src => Sys2Proof.Machine.execFlintRstRequest src s
  | .freset src => Sys2Proof.Machine.execFreset src s
  | .heartbeatAlive => Sys2Proof.Machine.execHeartbeatAlive s
  | .dualActiveTimeout => Sys2Proof.Machine.execDualActiveTimeout s
  | .partnerLoss => Sys2Proof.Machine.execPartnerLoss s
  | .takeoverPrepareDone => Sys2Proof.Machine.execTakeoverPrepareDone s
  | .checkpointReceived c => Sys2Proof.Machine.execCheckpointReceived c s
  | .latchVectorReceived v => Sys2Proof.Machine.execLatchVectorReceived v s
  | .healthReportSend => Sys2Proof.Machine.execHealthReportSend s
  | .healthReportReceived w digest => Sys2Proof.Machine.execHealthReportReceived w digest s
  | .selftestStep item pass last => Sys2Proof.Machine.execSelftestStep item pass last s
  | .parHandover src => Sys2Proof.Machine.execParHandover src s
  | .handoverTimeout => Sys2Proof.Machine.execHandoverTimeout s
  | .armDecision => Sys2Proof.Machine.execArmDecision s
  | .meterSample k t => Sys2Proof.Machine.execMeterSample k t s
  | .meterIntervalEnd k => Sys2Proof.Machine.execMeterIntervalEnd k s
  | .reportWindowEnd k => Sys2Proof.Machine.execReportWindowEnd k s
  | .zeroCrossingAbsent k => Sys2Proof.Machine.execZeroCrossingAbsent k s
  | .mfPeriodEnd c start l => Sys2Proof.Machine.execMfPeriodEnd c start l s
  | .mpoPulseEnd n => Sys2Proof.Machine.execMpoPulseEnd n s
  | .mpiTransition n level => Sys2Proof.Machine.execMpiTransition n level s
  | .checkWindowEnd n => Sys2Proof.Machine.execCheckWindowEnd n s
  | .saveTimer => Sys2Proof.Machine.execSaveTimer s
  | .saveNow src => Sys2Proof.Machine.execSaveNow src s
  | .saveComplete result => Sys2Proof.Machine.execSaveComplete result s
  | .mtrLoad src => Sys2Proof.Machine.execMtrLoad src s
  | .mtrLoadDone l => Sys2Proof.Machine.execMtrLoadDone l s
  | .mtrRestore src => Sys2Proof.Machine.execMtrRestore src s
  | .mtrSnap src v => Sys2Proof.Machine.execMtrSnap src v s
  | .memoryFillDone => Sys2Proof.Machine.execMemoryFillDone s
  | .uncorrectableError reader word => Sys2Proof.Machine.execUncorrectableError reader word s
  | .correctionLogUpdate l => Sys2Proof.Machine.execCorrectionLogUpdate l s
  | .memLogclr src v => Sys2Proof.Machine.execMemLogclr src v s
  | .scrubGo src wb => Sys2Proof.Machine.execScrubGo src wb s
  | .scrubAbort src last => Sys2Proof.Machine.execScrubAbort src last s
  | .scrubDone => Sys2Proof.Machine.execScrubDone s
  | .memTestEn src en => Sys2Proof.Machine.execMemTestEn src en s
  | .arbRequest r bank beats lock late addr data => Sys2Proof.Machine.execArbRequest r bank beats lock late addr data s
  | .arbGrantDecision bank late => Sys2Proof.Machine.execArbGrantDecision bank late s
  | .arbUrgent r bank => Sys2Proof.Machine.execArbUrgent r bank s
  | .arbClassWrite src r v => Sys2Proof.Machine.execArbClassWrite src r v s
  | .arbHoldCutoff r bank => Sys2Proof.Machine.execArbHoldCutoff r bank s
  | .arbWithdraw r bank => Sys2Proof.Machine.execArbWithdraw r bank s
  | .lockRelease r => Sys2Proof.Machine.execLockRelease r s
  | .blockLockGained lane => Sys2Proof.Machine.execBlockLockGained lane s
  | .blockLockLost lane signal invalid => Sys2Proof.Machine.execBlockLockLost lane signal invalid s
  | .qlockSet lane => Sys2Proof.Machine.execQlockSet lane s
  | .singleLaneExit => Sys2Proof.Machine.execSingleLaneExit s
  | .prbsLockChange lane gained errors => Sys2Proof.Machine.execPrbsLockChange lane gained errors s
  | .lanCtlWrite src lane v => Sys2Proof.Machine.execLanCtlWrite src lane v s
  | .eyeMeasurement lane h v rxeq => Sys2Proof.Machine.execEyeMeasurement lane h v rxeq s
  | .laneWake lane tx => Sys2Proof.Machine.execLaneWake lane tx s
  | .laneSleepTimeout lane => Sys2Proof.Machine.execLaneSleepTimeout lane s
  | .ethLinkChange port status => Sys2Proof.Machine.execEthLinkChange port status s
  | .ethFrameReceived port frame => Sys2Proof.Machine.execEthFrameReceived port frame s
  | .hqDoorbell src q v l => Sys2Proof.Machine.execHqDoorbell src q v l s
  | .hqQueueEnable src q v => Sys2Proof.Machine.execHqQueueEnable src q v s
  | .hqHeadWrite src q v => Sys2Proof.Machine.execHqHeadWrite src q v s
  | .imageChunk data => Sys2Proof.Machine.execImageChunk data s
  | .commandList l => Sys2Proof.Machine.execCommandList l s
  | .memoryWriteTransfer data => Sys2Proof.Machine.execMemoryWriteTransfer data s
  | .memoryReadTransfer bad => Sys2Proof.Machine.execMemoryReadTransfer bad s
  | .recordWrite q => Sys2Proof.Machine.execRecordWrite q s
  | .recordRelay q => Sys2Proof.Machine.execRecordRelay q s
  | .interruptModeration q => Sys2Proof.Machine.execInterruptModeration q s
  | .windowRead n off => Sys2Proof.Machine.execWindowRead n off s
  | .windowWrite n off v => Sys2Proof.Machine.execWindowWrite n off v s
  | .tunnelResponse n off v => Sys2Proof.Machine.execTunnelResponse n off v s
  | .tunnelReadTimeout n off => Sys2Proof.Machine.execTunnelReadTimeout n off s
  | .tunnelMessageReceived lane src dst m => Sys2Proof.Machine.execTunnelMessageReceived lane src dst m s
  | .keyPairTimeout n => Sys2Proof.Machine.execKeyPairTimeout n s
  | .pcieLinkChange up width rate => Sys2Proof.Machine.execPcieLinkChange up width rate s
  | .functionLevelReset => Sys2Proof.Machine.execFunctionLevelReset s
  | .sensorConversion codes => Sys2Proof.Machine.execSensorConversion codes s
  | .sensorSelfcheck dev => Sys2Proof.Machine.execSensorSelfcheck dev s
  | .sensClr src sensor => Sys2Proof.Machine.execSensClr src sensor s
  | .wearRestore src => Sys2Proof.Machine.execWearRestore src s
  | .avsResume src => Sys2Proof.Machine.execAvsResume src s
  | .cpmReport mon slack => Sys2Proof.Machine.execCpmReport mon slack s
  | .avsIntervalEnd => Sys2Proof.Machine.execAvsIntervalEnd s
  | .pmbusReadback a => Sys2Proof.Machine.execPmbusReadback a s
  | .pmbusRetry ack => Sys2Proof.Machine.execPmbusRetry ack s
  | .wearHistorySample => Sys2Proof.Machine.execWearHistorySample s
  | .capEstimateWindow j => Sys2Proof.Machine.execCapEstimateWindow j s
  | .ageingMeasurement l => Sys2Proof.Machine.execAgeingMeasurement l s
  | .loadFullImage src source => Sys2Proof.Machine.execLoadFullImage src source s
  | .loadPatch src source => Sys2Proof.Machine.execLoadPatch src source s
  | .loadAbort src => Sys2Proof.Machine.execLoadAbort src s
  | .receptionTimeout => Sys2Proof.Machine.execReceptionTimeout s
  | .imageCheckDone c => Sys2Proof.Machine.execImageCheckDone c s
  | .commitGroup src cls inst => Sys2Proof.Machine.execCommitGroup src cls inst s
  | .commitAll src => Sys2Proof.Machine.execCommitAll src s
  | .commitCheckDone => Sys2Proof.Machine.execCommitCheckDone s
  | .shadowWrite src a v => Sys2Proof.Machine.execShadowWrite src a v s
  | .liveCopyWrite src a v => Sys2Proof.Machine.execLiveCopyWrite src a v s
  | .glbArm src => Sys2Proof.Machine.execGlbArm src s
  | .glbHalt src force => Sys2Proof.Machine.execGlbHalt src force s
  | .softReset src => Sys2Proof.Machine.execSoftReset src s
  | .glbKey src v => Sys2Proof.Machine.execGlbKey src v s
  | .keySlotExpiry src => Sys2Proof.Machine.execKeySlotExpiry src s
  | .evtQcode src v => Sys2Proof.Machine.execEvtQcode src v s
  | .evtLastRead n => Sys2Proof.Machine.execEvtLastRead n s
  | .rcRegisterRead a => Sys2Proof.Machine.execRcRegisterRead a s
  | .registerWrite src a v => Sys2Proof.Machine.execRegisterWrite src a v s
  | .prstNRelease straps => Sys2Proof.Machine.execPrstNRelease straps s
  | .gioSupplyReturn b => Sys2Proof.Machine.execGioSupplyReturn b s
  | .referencePresent refB => Sys2Proof.Machine.execReferencePresent refB s
  | .heartbeatDead => Sys2Proof.Machine.execHeartbeatDead s
  | .fastComparatorDeassert ch hi bits => Sys2Proof.Machine.execFastComparatorDeassert ch hi bits s
  | .laneStateSetReceived l2 => Sys2Proof.Machine.execLaneStateSetReceived l2 s
  | .handoverMessageReceived period => Sys2Proof.Machine.execHandoverMessageReceived period s
  | .flintSelftestComplete pass => Sys2Proof.Machine.execFlintSelftestComplete pass s
  | .lineMeasurementStart line fine => Sys2Proof.Machine.execLineMeasurementStart line fine s
  | .bar2HostWrite off bytes err => Sys2Proof.Machine.execBar2HostWrite off bytes err s
  | .lanPrbsLoRead lane bitCount errors => Sys2Proof.Machine.execLanPrbsLoRead lane bitCount errors s

end Sys2Proof.Machine
end

