-- ==== Sys2Proof/Machine/Step.lean ====
section
/-! DEFINITION. One step of the block: the command at the front of the queue, or one tick of TCLK on an empty queue. -/

namespace Sys2Proof.Machine

/-- One step: the command that has waited longest takes its effect on the state with the queue's rest; with none waiting
one tick of TCLK passes (R90). -/
def step (s : State) : Host.Outcome State Fault Refusal :=
  match s.pending with
  | [] => (idle s).finish
  | c :: cs => exec c { s with pending := cs }

/-- The command a word spells put at the front of the queue; the table spells none, so the state is unchanged. -/
def State.withFetchWord (s : State) (nbits w : Nat) : State :=
  match decodeTableWord nbits w with
  | none => s
  | some c => { s with pending := c :: s.pending }

end Sys2Proof.Machine
end

