-- ==== Sys2Proof/Safety.lean ====
section
/-! DEFINITION. The terms claims are stated in: what a command does, what it leaves, and the invariants of a run. -/

namespace Sys2Proof.Safety

open Sys2Proof.Machine

/-- Command `c` completes from `s`: it answers the state `u` with the events of its tick queued (R361), and `u` meets `P`.
Queueing touches the EVT block and the host queues alone (`Obligations.EveryCommandCompletes`). -/
def Does (c : Instr) (s : State) (P : State → Prop) : Prop := ∃ u, Machine.exec c s = .next u.flush ∧ P u

/-- Command `c` completes from `s` and changes nothing: it answers `s` itself, with what its tick held queued. -/
def Leaves (c : Instr) (s : State) : Prop := Machine.exec c s = .next s.flush

/-- The events `u` holds beyond those of `s`: code, unit and data words (R640), stamped with the present TS32 (R93). -/
def Raises (s u : State) (l : List (Nat × Nat × List Nat)) : Prop :=
  u.evt.batch = s.evt.batch ++ l.map fun e => { ev := { code := e.1, unit := e.2.1, data := words e.2.2, ts32 := s.tim.ts32 } }

/-- Every register outside EVT and HQ but those listed reads as before. -/
def KeepsRegs (s u : State) (l : List Nat) : Prop := ∀ a, a ∉ l → u.rg a = s.rg a

/-- Every byte of the BAR2 memories reads as before. -/
def KeepsMem (s u : State) : Prop := ∀ a, u.byte a = s.byte a

/-- Nothing but registers outside EVT and HQ, and the events of the present tick, differs. -/
def OnlyRegs (s u : State) : Prop := { u with regs := s.regs, evt.batch := s.evt.batch } = s

/-- Nothing but registers, the events of the present tick and the part `f` sets differs. -/
def OnlyRegsAnd (s u : State) (f : State → State) : Prop := { f u with regs := s.regs, evt.batch := s.evt.batch } = s

/-- A keyed write of a source passes: the register is reached and its key is armed, not older than 64 FCLK cycles
(R561, R628). -/
abbrev KeyPasses (s : State) (src : Src) (a : Nat) : Prop :=
  s.onMain = true ∧ s.writable a = true ∧ s.keyOk src a = true

/-- A write without key reaches its register: the domain runs, and until READY only GLB registers are written (R561). -/
abbrev Reaches (s : State) (a : Nat) : Prop := s.onMain = true ∧ s.writable a = true

/-- The fault of a unit of the active device that asks for a planned handover is carried on to one (R357, R416): the
partner link is up, the partner's last health report shows it eligible, and no handover is under way. -/
abbrev HandoverAsked (s : State) : Prop :=
  s.pairState = 3 ∧ s.partnerUp = true ∧ s.bit Reg.PAR_HLTH_PEER 11 = true ∧ s.bit Reg.PAR_STAT 6 = false

/-- The registers halting may change (R334, R565): the states of device, pair, engines and arbiter, the generator's
OUTEN, protection's EVAL, the lane directions in AUTO use with the partner link, and the bypass outputs. -/
def haltRegs : List Nat :=
  [Reg.GLB_STAT, Reg.PAR_STAT, Reg.ARB_STAT, Reg.PWM_STAT, Reg.GPR_PSTAT, Reg.GPR_BYPO, Reg.LAN_STAT,
    Reg.RNG_LINK] ++
    (List.range 8).map Reg.VTX_STAT ++ (List.range 8).map Reg.LAN_LSTAT

/-- The data words of an epoch mark (R94, R516): TIME_S[47:0], TIME_NS, TIM_STAT.STATE. -/
def markWords (s : State) : List Word :=
  words [s.tim.s, s.tim.s / 4294967296 % 65536 + s.tim.ns % 65536 * 65536, s.tim.ns / 65536 + s.rf Reg.TIM_STAT 0 2 * 65536]

/-- The PWM group period counts, which a step of stack time sets anew (R107). -/
def groupCounts : List Nat := (List.range 8).map Reg.PWM_GSTAT

/-- The start of control period `k` in units of 50 ps × 2⁻³² (R106). -/
def gridStart (s : State) (k : Int) : Int :=
  s.epoch50 + s.perOfs * 274877906944 + k * (s.perLen * 274877906944)

/-- No simultaneous set is in use and no injected entry is enabled. -/
abbrev PlainAdc (s : State) : Prop :=
  (∀ j < 4, s.rf (Reg.ADC_SIM j) 0 8 = 0) ∧ ∀ k < 8, ∀ i < 4, s.bit (Reg.ADC_INJ k i) 0 = false

/-- Converter `k` is free for the trigger of its regular sequence, which is `t`. -/
abbrev FreeConverter (s : State) (k t : Nat) : Prop :=
  s.rf (Reg.ADC_SEQ k) 8 4 = t ∧ s.calibrating k = false ∧ s.ilv k = false ∧ (s.adc k).reg = none

/-- A regular sequence of converter `k` has started at its next step, all steps of a burst or one (R134). -/
def Started (s u : State) (k : Nat) : Prop :=
  (u.adc k).reg = some { slot := if s.bit (Reg.ADC_SEQ k) 4 then 0 else s.rf (Reg.ADC_KSTAT k) 2 4, trig := s.now } ∧
    (u.adc k).left = (if s.bit (Reg.ADC_SEQ k) 4 then s.rf (Reg.ADC_SEQ k) 0 4 + 1 else 1) ∧ u.bit Reg.ADC_STAT k = true

/-- What the next block `b` of the segment run `r` of engine `k` computes: its reset branch or its formula. -/
def blockResult (s : State) (k : Nat) (r : SegRun) (b : Block) : BRes :=
  if s.blockResets k r b then blockReset b.code.toNat (s.blockIn k r b) else blockEval b.code.toNat (s.blockIn k r b)

/-- Block `b` keeps to a bank: its outputs with FLG and its state words lie apart within 24 KiB. -/
abbrev FitsBank (b : Block) (res : BRes) : Prop :=
  b.outs + 4 * (res.outs.length + 1) ≤ 0x6000 ∧ b.st + 4 * res.st.length ≤ 0x6000 ∧
    (b.outs + 4 * (res.outs.length + 1) ≤ b.st ∨ b.st + 4 * res.st.length ≤ b.outs)

/-- The byte addresses of the bank of engine `k` that segment `j` has live. -/
def InLiveBank (s : State) (k j a : Nat) : Prop :=
  dataAt k (bankBase (s.liveBank k j)) ≤ a ∧ a < dataAt k (bankBase (s.liveBank k j)) + 0x6000

/-- Engine `k` runs block `b` next, at run state `r` of a segment that is in the image. -/
abbrev NextBlock (s : State) (k : Nat) (r : SegRun) (b : Block) : Prop :=
  s.runOf k = some r ∧ ∃ g ∈ s.segment k r.seg, g.blocks[r.blk]? = some b

/-- Nothing but the ring and the measurement set falls due at the next boundary: no open window, no pending group, no
takeover, handover or ARM, and no ADC trigger on it. -/
abbrev QuietBoundary (s : State) : Prop :=
  s.vtx.run = [] ∧ s.cfg.pend = [] ∧ s.pairState ≠ 2 ∧ s.par.hoPeriod = none ∧ s.bit Reg.GLB_STAT 5 = false ∧
    ∀ t < 16, s.rf (Reg.ADC_TRIG_SRC t) 0 6 ≠ 0x11

/-- Message `m` has gone out on lane `n`, if anything leaves it (R490, R495). -/
def Sent (u : State) (n : Nat) (m : Msg) : Prop := u.sends n = true → Out.lane n m ∈ u.out

/-- A frame as the forwarder passes it on with one hop less (R251, R261). -/
def passedOn (f : Frame) (stomp : Bool) : Frame := { f with ttl := f.ttl - 1, stomped := f.stomped || stomp }

/-- The payload of a valid frame of period `k` from node `n` of the stack (R254, R262). -/
abbrev FrameOf (s : State) (p : List Byte) (n : Nat) (k : Int) : Prop :=
  frameOk p = true ∧ s.cfg.inForce = true ∧ payField p 0 1 = 0xa1 ∧ n < s.nodes ∧ payField p 1 1 % 64 = n ∧
    payField p 2 2 = unsigned 16 k

/-- The bytes of the global cell table that hold the entry of node `n` in snapshot `k` (R268). -/
def EntryByte (k : Int) (n a : Nat) : Prop :=
  gctBase k + 0x3000 + 16 * n ≤ a ∧ a < gctBase k + 0x3000 + 16 * n + 16 ∨
    gctBase k + 192 * n ≤ a ∧ a < gctBase k + 192 * n + 192

/-- The metric by which Strata ranks cell `g` of group `r` in snapshot `k` (R270, R271). -/
def metricOf (s : State) (k : Int) (r g : Nat) : Nat :=
  metric (s.rf (Reg.STR_GCFG r) 1 3) (s.record k g) (s.ownerArm k r).1 (s.ownerArm k r).2.1

/-- The next commit point of group `g` finds nothing but channel values: an image, no pending group, no ADC trigger on the
event, and outputs that are not enabled. -/
def QuietGroup (s : State) (g : Nat) : Prop :=
  s.cfg.inForce = true ∧ s.cfg.pend = [] ∧ s.outEn = false ∧ (∀ q, (s.pair q).started = false) ∧
    ∀ t < 16, s.rf (Reg.ADC_TRIG_SRC t) 0 6 ≠ 1 + g ∧ s.rf (Reg.ADC_TRIG_SRC t) 0 6 ≠ 9 + g

/-- Leg pair `q` meets at position `x` a transition of u that no earlier interval touches (R302, R303). -/
abbrev PlainTransition (s : State) (q x : Nat) (v : Bool) : Prop :=
  s.outEn = true ∧ s.pairEnabled q = true ∧ (s.pair q).started = true ∧ (s.pair q).due = none ∧ (s.pair q).drop = false ∧
    (s.pair q).carry = 0 ∧ (s.pair q).cut = [] ∧ (s.pair q).raw = !v ∧
    uLevel (s.liveSet q) (s.fineLen (s.groupOfPair q)) [] x = v

/-- The two switches of a leg pair are never commanded on together, and a pending turn-on finds the other switch off
(R299, R300). -/
def SwitchesApart (s : State) : Prop :=
  ∀ q, ((s.pair q).up = false ∨ (s.pair q).low = false) ∧ ((s.pair q).pend = some true → (s.pair q).low = false) ∧
    ((s.pair q).pend = some false → (s.pair q).up = false)

/-- The adapted dead time of switch `g` of leg pair `q` is `dt` with clean count `n`; PWM_ADT_STAT follows, and no other
pair, switch or byte of memory changes (R307). -/
def Adapted (s u : State) (q g dt n : Nat) : Prop :=
  (if g % 2 = 0 then (u.pair q).adtR = dt ∧ (u.pair q).cleanR = n ∧ (u.pair q).adtF = (s.pair q).adtF
    else (u.pair q).adtF = dt ∧ (u.pair q).cleanF = n ∧ (u.pair q).adtR = (s.pair q).adtR) ∧
    u.rg (Reg.PWM_ADT_STAT q) = BitVec.ofNat 32 ((u.pair q).adtR + (u.pair q).adtF * 65536) ∧
    (∀ p, p ≠ q → u.pair p = s.pair p) ∧ KeepsMem s u ∧ u.prot.gate = s.prot.gate

/-- Clearing answers with an outcome (R343, R344): reason 0 done, any other refused. -/
def ClearAnswer (s u : State) (scope index reason : Nat) : Prop :=
  u.rn Reg.GPR_CLR_STAT = scope + index * 4 + (if reason = 0 then 1024 else 2048) + reason * 4096 ∧
    Raises s u (if reason = 0 then [(0x0820, 0, [scope, index])] else [(0x0821, 0, [scope, index, reason])]) ∧
    (reason ≠ 0 → u.bit Reg.GPR_FLAGS 7 = true)

/-- Access is never permitted while gate driver power or the breaker path is energised: SAP is not in RUN together with SGI
or SST (R369). -/
def AccessInterlock (s : State) : Prop := s.func 2 = 1 → s.func 0 ≠ 1 ∧ s.func 1 ≠ 1

/-- Nothing demands function `f` in the cycle that sees `s` (R372, R383). -/
def NoDemand (s : State) (f : Nat) : Prop :=
  s.inputDemand f = false ∧ (bitOf s.frameMask f = true →
    bitOf s.flint.dem f = false ∧ bitOf s.flint.mis f = false ∧ s.netAlive 0 = true ∧ s.netAlive 1 = true ∧ s.flint.quiet = false)

/-- The registers of the FLT block that Flint writes but for its log. -/
def flintRegs : List Nat :=
  [Reg.FLT_STAT, Reg.FLT_FUNC, Reg.FLT_SIN, Reg.FLT_DISC, Reg.FLT_SOUT, Reg.FLT_NET, Reg.FLT_SEQ_A, Reg.FLT_SEQ_B,
   Reg.FLT_FRMERR, Reg.FLT_UNPAIRED, Reg.FLT_TEST, Reg.FLT_SAFE_CRC, Reg.FLT_SAFE_VER, Reg.FLT_CYCLES]

/-- Every SOUT is off (R376). -/
def OutputsSafe (s : State) : Prop := ∀ n < 4, s.sout n false = false ∧ s.sout n true = false

/-- Stack time keeps to the widths of its fields (a STEP takes TIM_SET_NS as it stands), and TS32 is the low word of its
whole nanoseconds (R90, R93). -/
abbrev TimeOk (s : State) : Prop :=
  s.tim.ns < 2 ^ 30 ∧ s.tim.sub < 4294967296 ∧ s.tim.s < 2 ^ 48 ∧
    s.tim.ts32 = BitVec.ofNat 32 (s.tim.s * 1000000000 + s.tim.ns)

/-- The stores are in canonical form: registers and memory bytes by rising address, none listed at its reset or fill
value. -/
abbrev StoresOk (s : State) : Prop :=
  Tab.ok regReset s.regs = true ∧ Tab.ok regReset s.evt.regs = true ∧ Tab.ok regReset s.hq.regs = true ∧
    Memory.wf s.mem = true

/-- The energy of a sample of point `k` at `t`, the last one at `t0`, in units of 2⁻⁴⁰ J (R425, R426). -/
def sampleEnergy (s : State) (k t t0 : Nat) : Nat := (((s.pointPower k).mul (seconds (t - t0))).f64).units (-40)

/-- The instant `t` falls in the interval of point `k` that is open (R429). -/
abbrev InOpenInterval (s : State) (k t : Nat) : Prop :=
  ∃ i ∈ (s.point k).ivl, s.intervalAt k (t / 20000000000) ≤ i

/-- Point `k` behind the end of an interval, with the one that begins at stack second `b` open (R429). -/
def closedPoint (s : State) (k b : Nat) : MtrPoint :=
  { s.point k with iimp := 0, iexp := 0, revs := 0, firstRev := 0, lastRev := 0, gap := false, restored := false, chk := false
                   ivl := some b, due := false }

/-- The record of the interval of point `k` that ends at stack second `b` at the latest stands on HQ2 (R429). -/
def Closed (s u : State) (k b : Nat) : Prop :=
  ∃ r p start, p = s.point k ∧ start = p.ivl.getD (b - s.rf (Reg.MTR_PWIN k) 0 12) ∧
    u.hq.buf.at 2 [] = s.hq.buf.at 2 [] ++ [r] ∧ r.ev.code = 0x0b20 ∧ r.ev.unit = k ∧ r.ev.data =
      words [k, start, start / 4294967296, p.iimp / 2 ^ 32, p.iimp / 2 ^ 64, p.iexp / 2 ^ 32, p.iexp / 2 ^ 64,
        p.eimp / 2 ^ 32, p.eimp / 2 ^ 64, p.eexp / 2 ^ 32, p.eexp / 2 ^ 64, p.wrapI, p.wrapE, p.revs, p.firstRev.toNat,
        p.lastRev.toNat, p.gap.toNat + p.restored.toNat * 2 + p.chk.toNat * 4]

/-- Point `k` takes the sample: it is enabled, its inputs are valid, its last sample was at `t0`, and no commit waits. -/
abbrev Samples (s : State) (k t0 : Nat) : Prop :=
  s.bit (Reg.MTR_PCFG k) 0 = true ∧ (∀ p < s.pairsOf k, s.codesOk k p = true) ∧ (s.point k).last = some t0 ∧ s.cfg.pend = []

/-- The only pulse output that is enabled, if any, is `n`. -/
abbrev PulsesOnly (s : State) (n : Nat) : Prop := ∀ m < 4, m ≠ n → s.bit (Reg.MTR_MPO_CFG m) 0 = false

/-- What an attempt to save does (R441, R442): a record of the next SEQ to the next slot where the hold-up energy
reaches ESAVE, else event 0x0B04. -/
def SaveAttempt (s u : State) : Prop :=
  ((s.holdUp.add (Dy.ofF32 (s.rg Reg.MTR_HU_ESAVE)).neg).isNeg = true → u.mtr = s.mtr ∧
    Raises s u [(0x0b04, 0, [s.holdUp.f32.toNat])] ∧ u.bit Reg.MTR_FLAGS 4 = true ∧ KeepsRegs s u [Reg.MTR_FLAGS]) ∧
  ((s.holdUp.add (Dy.ofF32 (s.rg Reg.MTR_HU_ESAVE)).neg).isNeg = false → ∃ slot w,
    slot = s.mtr.slot % max 1 (s.rf Reg.MTR_SAVECFG 24 8 * 4096) ∧
    w = recordWords (s.saveRecord ((s.rn Reg.MTR_SAVE_SEQ + 1) % 4294967296)) ∧ u.mtr.save = some (slot, w) ∧
    Out.nvmWrite slot w ∈ u.out ∧ (slot % 16 = 0 → Out.nvmErase (slot / 16) ∈ u.out) ∧ u.mtr.points = s.mtr.points ∧
    u.bit Reg.MTR_STAT 8 = true ∧ Raises s u [] ∧ KeepsRegs s u [Reg.MTR_STAT])

/-- No sensor breaks in a conversion with these codes, and none is broken (R531); the clock does not coast. -/
abbrev SteadySensors (s : State) (codes : List Int) : Prop :=
  s.clkState ≠ 3 ∧ ∀ i < 10, s.sensorBroken i = false ∧ -480 ≤ codes.getD i 0 ∧ codes.getD i 0 ≤ 1280 ∧ (s.sensor i).same < 4095

/-- The largest of ten codes. -/
abbrev Largest (codes : List Int) (m : Int) : Prop := (∀ i < 10, codes.getD i 0 ≤ m) ∧ ∃ i < 10, codes.getD i 0 = m

/-- Both of two consecutive maxima. -/
abbrev Both (p m : Int) (P : Int → Prop) : Prop := P p ∧ P m

/-- The counters and maxima of the bank arbiters that a grant writes (R464 to R471). -/
def arbRegs : List Nat := [Reg.ARB_URGENT, Reg.ARB_PREEMPT, Reg.ARB_WOUND] ++ (List.range 12).map Reg.ARB_WAITMAX

/-- The registers a conversion writes. -/
def sensorRegs : List Nat := [Reg.THW_STAT, Reg.THW_FLAGS] ++ (List.range 10).map Reg.THW_TS

/-- A request for `mv` millivolts, clamped to 720–880 mV, has gone out and is counted (R537). -/
def Requested (s u : State) (mv : Int) : Prop :=
  u.vreq = clampInt 720 880 mv ∧ u.rf Reg.THW_AVS_STAT 16 16 = (s.rf Reg.THW_AVS_STAT 16 16 + 1) % 65536 ∧
    Out.pmbus (s.rf Reg.THW_AVS 1 7) 0x21 (some (clampInt 720 880 mv).toNat) ∈ u.out

/-- C and ESR of a fit (R543): C = 1 / a, ESR = b of the least-squares solution. -/
def fitEstimate (f : CapFit) : Word × Word :=
  let det := (f.qq.mul f.ii).add (f.qi.mul f.qi).neg
  (dyDiv det (((f.vq.mul f.ii).add (f.vi.mul f.qi).neg).mul (Dy.ofInt 20000000000)),
    dyDiv ((f.vi.mul f.qq).add (f.vq.mul f.qi).neg) det)

/-- The estimate lies within 0.5–2 × C0 and 0.1–10 × ESR0 (R543). -/
abbrev Plausible (c0 r0 c r : Word) : Prop :=
  (Dy.ofF32 c0).le ((Dy.ofInt 2).mul (Dy.ofF32 c)) = true ∧ (Dy.ofF32 c).le ((Dy.ofInt 2).mul (Dy.ofF32 c0)) = true ∧
    (Dy.ofF32 r0).le ((Dy.ofInt 10).mul (Dy.ofF32 r)) = true ∧ (Dy.ofF32 r).le ((Dy.ofInt 10).mul (Dy.ofF32 r0)) = true

/-- The wear history of entity `k` within WIN. -/
def histWithin (s : State) (k : Nat) : List (Nat × Dy) :=
  (s.thw.hist.at k []).filter fun x => decide (s.tim.s ≤ x.1 + s.rf Reg.THW_WCFG 0 9 * 86400)

/-- A load refused or ended with `code` at section `sect` (R49, R64): nothing of the image stands, every shadow is back at its
live copy, and one event 0x0300 | code reports it. -/
def LoadRefused (s u : State) (code sect : Nat) (data : List Nat) : Prop :=
  u.cfg = { s.cfg with load := none, parNext := [] } ∧ u.rf Reg.CFG_STAT 0 3 = (if s.cfg.patches ≠ [] then 3 else if s.cfg.inForce then 4 else 0) ∧
    u.bit Reg.CFG_STAT 3 = true ∧ u.rf Reg.CFG_STAT 8 8 = code % 256 ∧ u.rf Reg.CFG_STAT 16 16 = sect % 65536 ∧
    (∀ c i, i < classSize c → ∀ p ∈ s.membersOf c i,
      u.rg p.2 = s.rg p.2 ∧ u.rg p.1 = s.rg p.2) ∧
    (∀ t < 16, u.rg (Reg.ADC_TRIG_DLY t) = s.rg (Reg.ADC_TRIG_DLY_L t)) ∧
    (∀ a, s.groupOf a = none → a ∉ [Reg.CFG_STAT, Reg.CFG_PEND, Reg.SLT_STAT] ++ (List.range 16).map Reg.ADC_TRIG_DLY →
      u.rg a = s.rg a) ∧
    Raises s u [(0x0300 + code, 0, data)] ∧ KeepsMem s u ∧
    OnlyRegsAnd s u fun u => { u with cfg := s.cfg, keys := s.keys }

/-- A commit refused with `code` (R59, R65): CFG_COMMIT_STAT says so, one event reports it, and CFG_COMMIT_AT.EN is cleared
where it governs this commit. -/
def CommitRefused (s u : State) (governed : Bool) (code c i chk : Nat) (data : List Nat) : Prop :=
  u.rn Reg.CFG_COMMIT_STAT = code % 256 + c % 256 * 256 + i % 256 * 65536 + chk % 16 * 16777216 + 4 * 268435456 ∧
    u.bit Reg.CFG_COMMIT_AT 0 = (s.bit Reg.CFG_COMMIT_AT 0 && !governed) ∧
    Raises s u [(0x0300 + code, 0, data)] ∧
    KeepsRegs s u [Reg.CFG_COMMIT_STAT, Reg.CFG_COMMIT_AT] ∧ KeepsMem s u

/-- The earliest instant a commit takes from CFG_COMMIT_AT where that is free to govern it (R57, R65). -/
def commitTime (s : State) : Option Word :=
  if s.atFree then some (s.rg Reg.CFG_COMMIT_AT &&& 0xfffffffe) else none

/-- An address whose unkeyed write has no action of its own: its access code alone says what it does. -/
def PlainRegister (a : Nat) : Prop :=
  badAccess a = false ∧ keyOf a = none ∧ a ≠ Reg.GLB_KEY ∧ isLiveCopy a = false ∧
    ∀ v, oneAction a v = none ∧ arrayAction a v = none

/-- An address whose read has no effect but that of its access code. -/
abbrev PlainRead (a : Nat) : Prop :=
  badAccess a = false ∧ arrayIndex (Reg.EVT_LAST 0) 4 8 a = none ∧ arrayIndex (Reg.TIM_TCAP_S 0) 32 5 a = none ∧
    arrayIndex (Reg.LAN_PRBS_ERR_LO 0) 64 8 a = none ∧ arrayIndex (Reg.LAN_PRBS_BIT_LO 0) 64 8 a = none

/-- The main domain is wiped by a power-on reset (R554, R566, R567): in reset, every output low, no image, the memories at
their fill value and every register but Flint's and GLB_RSTCAUSE at its reset value, while Flint goes on. GLB_RSTCAUSE keeps a
clock integrity fault alone (R84, R569). -/
def PoweredOff (s u : State) : Prop :=
  u.onMain = false ∧ u.sys.por = true ∧ u.sys.hold = none ∧ (∀ g < 192, u.gate g = false) ∧ u.prot.byp = 0 ∧
    u.cfg = {} ∧ u.keys = {} ∧ u.evt = {} ∧ u.hq = {} ∧ (∀ a, a / 65536 ≠ 0xe → a ≠ Reg.GLB_RSTCAUSE → u.rg a = regReset a) ∧
    (∀ i < 32, u.bit Reg.GLB_RSTCAUSE i = (i == 5 && (s.integrity || s.bit Reg.GLB_RSTCAUSE 5))) ∧
    (∀ a, a / 65536 = 0xe → u.rg a = s.rg a) ∧ (∀ a, u.byte a = 0) ∧ u.flint = s.flint ∧ u.pending = s.pending

/-- Start-up has reached the clock root (R557): the straps stand in GLB_STRAP and GLB_STAT.STATE is CLOCK. -/
def StartsUp (s u : State) (straps : BitVec 10) : Prop :=
  u.onMain = true ∧ u.rn Reg.GLB_STRAP = straps.toNat ∧ u.devState = 2 ∧ u.clk.searchDue = true ∧
    u.flint = s.flint ∧ u.cfg = s.cfg ∧ Raises s u [] ∧ KeepsMem s u

/-- The event with this code and data is among those of the tick. -/
def Told (s u : State) (code unit : Nat) (data : List Nat) : Prop :=
  ∃ r ∈ u.evt.batch, r.ev = { code, unit, data := words data, ts32 := s.tim.ts32 }

/-- The device is armed (R399, R564): RUN, its pair state, and outputs enabled exactly in ACTIVE. -/
def ArmedAs (s u : State) (pair : Nat) : Prop :=
  u.devState = 7 ∧ u.pairState = pair ∧ u.outEn = decide (pair = 3) ∧ u.sys.armed = true ∧ u.sys.armWait = false ∧
    u.bit Reg.GLB_STAT 5 = false ∧ u.bit Reg.GLB_ARM_AT 0 = false ∧ (pair = 3 → u.sys.hbOut = true) ∧
    Told s u 0x1004 0 [pair]

/-- Commands that do not belong to the main domain: resets, supplies, the key timer, PCIE_PERST_N, Flint, and the turn-on
timer of a pattern at a ball. -/
def outsideMain (c : Instr) : Bool :=
  match c with
  | .mainPowerOnReset .. | .supplyUndervoltage .. | .prstNReset | .prstNRelease .. | .resetPadHoldEnd | .gioSupplyFault ..
  | .gioSupplyReturn .. | .keySlotExpiry .. | .pciePerst .. | .fsDtTurnOn .. | .flintPowerOnReset .. | .flintCycle
  | .sinLevelAccepted .. | .networkSilence .. | .unpairedFrameTimeout .. | .readbackCompare .. | .testPulseStart ..
  | .flintWatchdogExpiry | .vddFlintOutOfWindow | .flintMemoryError | .flintDiagnosticStep .. | .flintInputTest ..
  | .flintSelftestComplete .. => true
  | _ => false

end Sys2Proof.Safety
end

