-- ==== Sys2Proof/Certificates/Slice0/Obligations.lean ====
section
/-! DEFINITION. The statements for the provers. -/

open Sys2Proof Sys2Proof.Machine Sys2Proof.Safety

/-! ### The block as a machine -/

/-- A step takes the command at the front of the queue and is its effect on the state with the queue's rest; on an empty queue
it is one tick. -/
def Obligations.StepRunsTheFrontCommand : Prop :=
  ∀ (c : Instr) (s : State),
    (∀ rest, s.pending = c :: rest → Machine.step s = Machine.exec c { s with pending := rest }) ∧
    Machine.step { s with pending := c :: s.pending } = Machine.exec c s ∧
    (s.pending = [] → Machine.step s = .next (idle s).flush)

/-- Every command completes: the spec gives each an effect, so none ends in a fault or a refusal. R361: queueing the events of a
tick touches nothing but the EVT block and the host queues, and leaves none unqueued. -/
def Obligations.EveryCommandCompletes : Prop :=
  (∀ (c : Instr) (s : State), ∃ u : State, Machine.exec c s = .next u.flush) ∧
  (∀ u : State, ({ u.flush with evt := u.evt, hq := u.hq } : State) = u ∧ u.flush.evt.batch = [] ∧
    (u.evt.batch = [] → u.flush = u))

/-- The reset state meets the invariants, has no command and no event waiting, and its main domain is in reset: a command of
that domain leaves it as it is. -/
def Obligations.ResetMeetsTheInvariants : Prop :=
  TimeOk State.reset ∧ StoresOk State.reset ∧ State.reset.pending = [] ∧ State.reset.evt.batch = [] ∧
    State.reset.onMain = false ∧ (∀ a, State.reset.rg a = regReset a) ∧ (∀ a, State.reset.byte a = 0) ∧
    (∀ f : State → State, State.reset.main f = .next State.reset)

/-- Every step keeps stack time valid and TS32 its low word (R90, R93). -/
def Obligations.TimeStaysValid : Prop :=
  ∀ s t : State, TimeOk s → Machine.step s = .next t → TimeOk t

/-! ### Stack time (chapter 4) -/

/-- R90, R93: a tick adds the effective addend with the carries of R90; TS32 advances with TIME_NS. R94: the epoch mark is the
tick in which TIME_NS carries into TIME_S, stamped with that tick's TS32. -/
def Obligations.StackTimeAdvances : Prop :=
  (∀ s : State, s.pending = [] → s.cfg.pend = [] → s.onMain = true → s.clk.stopped = false → s.tim.stopped = false →
    s.tim.slew = 0 → TimeOk s → s.memi.queue = [] → s.scrubbing = false →
    ∀ sub ns, sub = s.tim.sub + s.rateAddend % 4294967296 →
      ns = s.tim.ns + s.rateAddend / 4294967296 + (if 4294967296 ≤ sub then 1 else 0) →
      ∃ t, Machine.step s = .next t ∧ t.tim.sub = sub % 4294967296 ∧
        t.tim.ns = (if 1000000000 ≤ ns then ns - 1000000000 else ns) ∧
        t.tim.s = (if 1000000000 ≤ ns then (s.tim.s + 1) % 2 ^ 48 else s.tim.s) ∧
        t.tim.ts32 = s.tim.ts32 + BitVec.ofNat 32 (ns - s.tim.ns) ∧ t.now = s.now + 1 ∧ t.mem = s.mem ∧
        KeepsRegs s t [Reg.CLK_COAST_T, Reg.PAR_STAT, Reg.PAR_FLAGS]) ∧
  (∀ s : State, s.running = true → s.tim.stopped = false → s.tim.slew = 0 → TimeOk s →
    s.tim.ns < 1000000000 → 0 < s.rateAddend → (∀ q < 6, s.hq.mark.at q [] = []) → Does .epochMark s fun u =>
      u.tim.s = (s.tim.s + 1) % 2 ^ 48 ∧ u.tim.ns * 4294967296 + u.tim.sub < s.rateAddend ∧
      u.tim.ts32 = s.tim.ts32 + BitVec.ofNat 32 (1000000000 + u.tim.ns - s.tim.ns) ∧
      u.evt.batch = s.evt.batch ++ [{ ev := { code := 0x0201, data := markWords u, ts32 := u.tim.ts32 } }] ∧
      KeepsMem s u ∧ KeepsRegs s u [Reg.CLK_COAST_T])

/-- R92, R100, R107, R115: a keyed STEP of a halted device takes the time of TIM_SET with event 0x0205 and sets the period
numbers anew, and is refused with 0x25 on any other; TIM_SNAP latches the time; TIM_RATE and TIM_SLEW are written with EXT set,
TIM_RATE within its range, and refused with 0x25 otherwise. -/
def Obligations.TimeCommands : Prop :=
  ∀ (s : State) (src : Src) (v : Word), s.onMain = true →
    (KeyPasses s src Reg.TIM_CTRL →
      (s.halted = true → Does (.timStep src) s fun u =>
        u.tim.s = s.rf Reg.TIM_SET_S_HI 0 16 * 4294967296 + s.rn Reg.TIM_SET_S_LO ∧
        u.tim.ns = s.rf Reg.TIM_SET_NS 0 30 ∧ u.tim.sub = 0 ∧ u.tim.slew = 0 ∧
        u.tim.ts32 = BitVec.ofNat 32 (u.tim.s * 1000000000 + u.tim.ns) ∧
        (0 < u.perLen → gridStart u u.tim.period < u.time50 ∧ (u.time50 : Int) ≤ gridStart u (u.tim.period + 1)) ∧
        u.slot src = {} ∧
        u.evt.batch = s.evt.batch ++
          [{ ev := { code := 0x0205, data := words (s.timeWords ++ u.timeWords), ts32 := u.tim.ts32 } }] ∧
        KeepsMem s u ∧ KeepsRegs s u (groupCounts ++ (List.range 8).map Reg.TIM_TPO_STAT)) ∧
      (s.halted = false → Does (.timStep src) s fun u => u.tim = s.tim ∧ u.rn Reg.CFG_REFUSE_ADDR = Reg.TIM_CTRL ∧
        Raises s u [(0x0325, 0, [Reg.TIM_CTRL])] ∧ KeepsRegs s u [Reg.CFG_REFUSE_CNT, Reg.CFG_REFUSE_ADDR] ∧
        OnlyRegsAnd s u fun u => { u with keys := s.keys })) ∧
    (Reaches s Reg.TIM_SNAP →
      (fld v 0 1 = 1 → Does (.timSnap src v) s fun u =>
        u.rg Reg.TIM_SNAP_S_LO = BitVec.ofNat 32 s.tim.s ∧
        u.rg Reg.TIM_SNAP_S_HI = BitVec.ofNat 32 (s.tim.s / 4294967296) ∧ u.rg Reg.TIM_SNAP_NS = BitVec.ofNat 32 s.tim.ns ∧
        u.rg Reg.TIM_SNAP_SUB = BitVec.ofNat 32 s.tim.sub ∧ u.slot src = {} ∧ Raises s u [] ∧
        KeepsRegs s u [Reg.TIM_SNAP_S_LO, Reg.TIM_SNAP_S_HI, Reg.TIM_SNAP_NS, Reg.TIM_SNAP_SUB] ∧
        OnlyRegsAnd s u fun u => { u with keys := s.keys }) ∧
      (s.bit Reg.TIM_SERVO 0 = true →
        (-rateMax ≤ v.toInt → v.toInt ≤ rateMax → Does (.timRateWrite src v) s fun u =>
          u.rg Reg.TIM_RATE = BitVec.ofNat 32 (unsigned 32 (s.limitRate v.toInt)) ∧
          (-rateMax ≤ (u.rg Reg.TIM_RATE).toInt ∧ (u.rg Reg.TIM_RATE).toInt ≤ rateMax) ∧ u.slot src = {} ∧ Raises s u [] ∧ KeepsRegs s u [Reg.TIM_RATE] ∧
          OnlyRegsAnd s u fun u => { u with keys := s.keys }) ∧
        ((v.toInt < -rateMax ∨ rateMax < v.toInt) → Does (.timRateWrite src v) s fun u => u.rg Reg.TIM_RATE = s.rg Reg.TIM_RATE ∧
          Raises s u [(0x0325, 0, [Reg.TIM_RATE])]) ∧
        (Does (.timSlewWrite src v) s fun u => u.tim.slew = v.toInt * 4294967296 ∧ u.slot src = {} ∧ Raises s u [] ∧
          ({ u with tim.slew := s.tim.slew, keys := s.keys } : State) = s)) ∧
      (s.bit Reg.TIM_SERVO 0 = false →
        (Does (.timRateWrite src v) s fun u => u.rg Reg.TIM_RATE = s.rg Reg.TIM_RATE ∧
          Raises s u [(0x0325, 0, [Reg.TIM_RATE])] ∧ KeepsRegs s u [Reg.CFG_REFUSE_CNT, Reg.CFG_REFUSE_ADDR]) ∧
        (Does (.timSlewWrite src v) s fun u => u.tim = s.tim ∧
          Raises s u [(0x0325, 0, [Reg.TIM_SLEW])] ∧ KeepsRegs s u [Reg.CFG_REFUSE_CNT, Reg.CFG_REFUSE_ADDR])))

/-- R101, R102: without a measurement for four intervals a source that was acquired or locked goes to HOLDOVER with event
0x0203; HOLDOVER beyond its limit is a time alignment fault of any device but the time master, with cause 1 (see the assumption
log), and asks an eligible partner that is LOCKED and free of it for a handover. R103, R104: a time-transfer set gives the link
delay with TIM_ASYM of its lane, averaged over the last 16; the direction followed gives the offset, own time at arrival less
departure and delay. R101: the 16th in a row within the threshold locks, and one beyond it starts the count anew. R97, R98, R99:
the IEEE 1588 messages of the frames that a port of node 0 has accepted, each with the stamp of its arrival, on an enabled port
in the configured domain: an announcement is kept and chooses the better port, ties going to L4, with event 0x0204 on a change;
a device that does not take station time only shows the offset of a Sync of the port chosen and asks for the path delay by the
mechanism of P2P; any other domain or transport is ignored. -/
def Obligations.TimeFollowsRingAndStation : Prop :=
  (∀ s : State, s.running = true →
    ((s.timState = 1 ∨ s.timState = 2) → Does .timeSourceTimeout s fun u =>
      u.timState = 3 ∧ u.bit Reg.TIM_STAT 6 = false ∧ u.bit Reg.TIM_FLAGS 0 = true ∧ u.rg Reg.TIM_RATE = s.rg Reg.TIM_RATE ∧
      u.tim.holdSince = s.now ∧ (s.takesStation = false → u.tim.port = s.tim.port) ∧
      Raises s u ((0x0203, 0, [s.timeSrc]) :: if u.tim.port = s.tim.port then [] else [(0x0204, 0, [u.tim.port])]) ∧ KeepsRegs s u [Reg.TIM_STAT, Reg.TIM_FLAGS] ∧
      OnlyRegsAnd s u fun u => { u with tim := s.tim }) ∧
    ((s.timState = 0 ∨ s.timState = 3) → Leaves .timeSourceTimeout s) ∧
    (s.timState = 3 → s.takesStation = false → s.tim.alignFault = false →
      (s.pairState ≠ 3 → Does .holdoverLimit s fun u => u.tim.alignFault = true ∧ u.bit Reg.TIM_FLAGS 3 = true ∧
        Raises s u [(0x0210, 0, [unsigned 32 s.tim.ofs, 1])] ∧ KeepsRegs s u [Reg.TIM_FLAGS] ∧
        OnlyRegsAnd s u fun u => { u with tim := s.tim }) ∧
      (HandoverAsked s → s.bit Reg.PAR_HLTH_PEER 10 = true → Does .holdoverLimit s fun u => u.tim.alignFault = true ∧
        u.bit Reg.PAR_STAT 6 = true ∧
        Raises s u [(0x0210, 0, [unsigned 32 s.tim.ofs, 1]), (0x0a07, 0, [0x0210])])) ∧
    (s.takesStation = true → Leaves .holdoverLimit s)) ∧
  (∀ (s : State) (lane : Lane) (t : TimeSet) (d : Int) (l : List Int), s.running = true →
    s.receives lane.val = true → d = 25 * ((t.t4 - t.t1) - (t.t3 - t.t2)) + s.asym lane.val → l = (d :: s.tim.delays.at lane.val []).take 16 →
    (s.follows lane.val = false → Does (.timeTransferSet lane t) s fun u => u.tim.delays.at lane.val [] = l ∧
      Raises s u [] ∧ KeepsRegs s u [] ∧ OnlyRegsAnd s u fun u => { u with tim := s.tim }) ∧
    (s.follows lane.val = true → s.bit Reg.TIM_SERVO 0 = true → ∀ ofs, ofs = (50 * (t.t2 - t.t1) - average l) / 50 →
      (s.timState = 1 → s.tim.good = 15 → ofs.natAbs ≤ s.lockThr → Does (.timeTransferSet lane t) s fun u =>
        u.timState = 2 ∧ u.tim.delays.at lane.val [] = l ∧ u.rn Reg.TIM_OFS = unsigned 32 ofs ∧
        u.rn Reg.TIM_DELAY = unsigned 32 (average l / 50) ∧ u.tim.alignFault = false ∧
        Raises s u [(0x0202, 0, [s.timeSrc, unsigned 32 ofs])] ∧
        KeepsRegs s u [Reg.TIM_STAT, Reg.TIM_OFS, Reg.TIM_DELAY] ∧ KeepsMem s u) ∧
      (s.timState = 1 → s.lockThr < ofs.natAbs → Does (.timeTransferSet lane t) s fun u =>
        u.timState = 1 ∧ u.tim.good = 0 ∧ Raises s u []) ∧
      (s.timState = 3 → s.halted = false → Does (.timeTransferSet lane t) s fun u =>
        u.timState = 1 ∧ u.tim.s = s.tim.s ∧ u.tim.ns = s.tim.ns ∧ Raises s u []))) ∧
  (∀ (s : State) (port : Fin 2) (udp : Bool) (domain : BitVec 8) (m : PtpMsg) (data : List Nat) (at50 : Nat) (l : List Nat),
    s.running = true → (s.lan.ptp.at port.val [] = [] → Leaves (.ptpMessage port domain ⟨udp, m⟩) s) ∧
    (s.lan.ptp.at port.val [] = at50 :: l →
    (domain.toNat ≠ s.rf Reg.TIM_PTP_CFG 8 8 ∨ udp ≠ s.bit Reg.TIM_PTP_CFG 2 → Does (.ptpMessage port domain ⟨udp, m⟩) s fun u =>
      u.lan.ptp.at port.val [] = l ∧ ({ u with lan.ptp := s.lan.ptp } : State) = s) ∧
    (s.node = 0 → s.ptpOn port.val = true → domain.toNat = s.rf Reg.TIM_PTP_CFG 8 8 → udp = s.bit Reg.TIM_PTP_CFG 2 →
      (Does (.ptpMessage port domain ⟨udp, .other⟩) s fun u => u.lan.ptp.at port.val [] = l ∧
        ({ u with lan.ptp := s.lan.ptp } : State) = s) ∧
      (Does (.ptpMessage port domain ⟨udp, .announce data⟩) s fun u => u.lan.ptp.at port.val [] = l ∧ u.tim.announce.at port.val none = some data ∧
        u.tim.port = u.bestPort ∧ Raises s u (if u.bestPort = s.tim.port then [] else [(0x0204, 0, [u.bestPort])]) ∧
        KeepsRegs s u [] ∧ OnlyRegsAnd s u fun u => { u with tim := s.tim, lan := s.lan }) ∧
      (∀ seq origin corr, s.takesStation = false → s.sends (4 + port.val) = true →
        Does (.ptpMessage port domain ⟨udp, .sync seq origin corr⟩) s fun u => u.lan.ptp.at port.val [] = l ∧
          (port.val = s.tim.port →
            u.rn Reg.TIM_OFS = unsigned 32 ((at50 : Int) - origin - corr - s.tim.pathDelay.at port.val 0)) ∧
          (port.val ≠ s.tim.port → u.rg Reg.TIM_OFS = s.rg Reg.TIM_OFS) ∧
          u.out = .eth port.val (if s.bit Reg.TIM_PTP_CFG 3 then 4 else 1) :: s.out ∧
          Raises s u [] ∧ KeepsRegs s u [Reg.TIM_OFS, Reg.LAN_TXOK port.val] ∧
          OnlyRegsAnd s u fun u => { u with tim := s.tim, lan := s.lan, out := s.out }))) ∧
    (s.ptpOn 0 = true → s.ptpOn 1 = true → s.tim.announce.at 0 none = some data → s.tim.announce.at 1 none = some data → s.bestPort = 0))

/-! ### Timed pulse outputs and captures (chapter 4) -/

/-- R108, R109, R110: arming output n takes its settings; a start at least 64 ticks ahead stands, a failed check leaves the
output idle with ERR, a late one-shot gives LATE and event 0x0222, a late periodic output starts on its next period, and ARM = 0
stops an output that is not high. R588: the output takes its inactive level. START_F above 19 is refused with 0x25 (R54, R116).
R109, R110: the trailing edge of a high output ends a one-shot pulse, lets a waiting setting take effect, or moves a periodic
output on by its period; an edge of an idle output does nothing. R113: PPS_OUT rises at the stack second nearest, shifted by
OFS, only while LOCKED or in HOLDOVER, and falls WID milliseconds behind its rise. -/
def Obligations.TimedOutputs : Prop :=
  (∀ (s : State) (src : Src) (n : Fin 8) (v : Word) (t : Tpo), Reaches s (Reg.TIM_TPO_CFG n.val) →
    t = s.tpoSettings n.val v → s.tim.tpoHigh.at n.val false = false → fld v 8 5 ≤ 19 →
    (fld v 0 1 = 1 → tpoOk t = true → s.startClock + 4096 ≤ t.start → Does (.tpoArm src n v) s fun u =>
      u.tim.tpo.at n.val none = some t ∧ u.rn (Reg.TIM_TPO_STAT n.val) = 1 ∧ u.slot src = {} ∧ Raises s u [] ∧
      u.tim.tpoIdle.at n.val false = t.activeLow ∧ KeepsRegs s u [Reg.TIM_TPO_CFG n.val, Reg.TIM_TPO_STAT n.val] ∧
      OnlyRegsAnd s u fun u =>
        { u with tim.tpo := s.tim.tpo, tim.tpoIdle := s.tim.tpoIdle, keys := s.keys, out := s.out }) ∧
    (fld v 0 1 = 1 → tpoOk t = true → t.periodic = true → t.start < s.startClock + 4096 → Does (.tpoArm src n v) s fun u =>
      ∃ k, u.tim.tpo.at n.val none = some { t with start := t.start + k * (t.per * 20) } ∧
        s.startClock + 4096 ≤ t.start + k * (t.per * 20) ∧
        t.start + k * (t.per * 20) < s.startClock + 4096 + t.per * 20 ∧ u.rn (Reg.TIM_TPO_STAT n.val) = 1 ∧ Raises s u []) ∧
    (fld v 0 1 = 1 → tpoOk t = false → Does (.tpoArm src n v) s fun u =>
      u.tim.tpo.at n.val none = none ∧ u.rn (Reg.TIM_TPO_STAT n.val) = 2 ∧ Raises s u []) ∧
    (fld v 0 1 = 1 → tpoOk t = true → t.periodic = false → t.start < s.startClock + 4096 →
      Does (.tpoArm src n v) s fun u => u.tim.tpo.at n.val none = none ∧ u.rn (Reg.TIM_TPO_STAT n.val) = 4 ∧
        Raises s u [(0x0222, n.val, [n.val])]) ∧
    (fld v 0 1 = 0 → Does (.tpoArm src n v) s fun u =>
      u.tim.tpo.at n.val none = none ∧ u.rn (Reg.TIM_TPO_STAT n.val) = 0 ∧ Raises s u []) ∧
    (∀ w, 19 < fld w 8 5 → Does (.tpoArm src n w) s fun u => u.tim = s.tim ∧
      Raises s u [(0x0325, 0, [Reg.TIM_TPO_CFG n.val])] ∧ KeepsRegs s u [Reg.CFG_REFUSE_CNT, Reg.CFG_REFUSE_ADDR]) ∧
    (tpoOk t = true ↔ 7 ≤ t.wid ∧ (t.periodic = true → 20 ≤ t.per ∧ t.wid + 7 ≤ t.per))) ∧
  (∀ (s : State) (n : Fin 8) (t : Tpo), s.running = true →
    (s.tim.tpo.at n.val none = none → ∀ leading, Leaves (.tpoPulseEdge n leading) s) ∧
    (s.tim.tpo.at n.val none = some t → s.tim.tpoHigh.at n.val false = false →
      (Leaves (.tpoPulseEdge n false) s) ∧
      (Does (.tpoPulseEdge n true) s fun u => u.tim.tpoHigh.at n.val false = true ∧ u.tim.tpo = s.tim.tpo ∧ KeepsMem s u)) ∧
    (s.tim.tpo.at n.val none = some t → s.tim.tpoHigh.at n.val false = true →
      (Leaves (.tpoPulseEdge n true) s) ∧
      (Does (.tpoPulseEdge n false) s fun u => u.tim.tpoHigh.at n.val false = false ∧
        (∀ w, s.tim.tpoNext.at n.val none = some w →
          u.tim.tpo.at n.val none = laterStart (max s.startClock (t.start + t.wid * 20)) w ∧ u.tim.tpoNext.at n.val none = none ∧
          u.bit (Reg.TIM_TPO_STAT n.val) 0 = (u.tim.tpo.at n.val none).isSome) ∧
        (s.tim.tpoNext.at n.val none = none →
          u.tim.tpo.at n.val none = (if t.periodic then
            (tpoStart t (max s.startClock (t.start + 1))).map fun x => { t with start := x } else none)) ∧
        Raises s u (match s.tim.tpoNext.at n.val none with
          | some (some w) => if (laterStart (max s.startClock (t.start + t.wid * 20)) (some w)).isNone then
              [(0x0222, n.val, [n.val])] else []
          | _ => []) ∧ KeepsRegs s u [Reg.TIM_TPO_STAT n.val] ∧ KeepsMem s u))) ∧
  (∀ s : State, s.running = true →
    (s.tim.ppsOut = false → 2 ≤ s.timState → Does (.ppsOutPulse true) s fun u =>
      u.tim.ppsOut = true ∧ (∃ k : Int, u.out = .pps true (k * 20000000000 + s.ppsOfs) :: s.out ∧
        u.tim.ppsEnd = k * 20000000000 + s.ppsOfs + s.rf Reg.TIM_PPS 0 9 * 20000000 ∧
        (k * 20000000000 + s.ppsOfs - s.stamp50).natAbs ≤ 10000000000) ∧
      ({ u with tim.ppsOut := s.tim.ppsOut, tim.ppsEnd := s.tim.ppsEnd, out := s.out } : State) = s) ∧
    (s.tim.ppsOut = false → s.timState < 2 → Leaves (.ppsOutPulse true) s) ∧
    (s.tim.ppsOut = true → Does (.ppsOutPulse false) s fun u => u.tim.ppsOut = false ∧
      u.out = .pps false s.tim.ppsEnd :: s.out ∧ ({ u with tim.ppsOut := s.tim.ppsOut, out := s.out } : State) = s))

/-- R111, R112: a selected edge enters the FIFO as its stamp, with event 0x0220 where EVT is set; with 16 entries waiting it is
lost, counted, and reported once by 0x0221; edges less than 25.6 ns behind the last stamp are part of it, and an edge not
selected does nothing. R114: an edge of PPS_IN more than 100 µs from a stack second is discarded with a flag. A pop moves the
oldest entry to the holding set and returns its seconds, or 0xFFFFFFFF with EMPTY. PPS_IN (n = 4) is stated under source 0b00;
the other inputs may fire ADC triggers as well. -/
def Obligations.CaptureInputs : Prop :=
  ∀ (s : State) (n : Fin 5) (fine : Fin 64) (a b c : Nat), s.running = true → s.bit (Reg.TIM_TCAP_CFG n.val) 0 = true →
    s.rf (Reg.TIM_TCAP_CFG n.val) 1 2 = 0 → s.rf Reg.TIM_CFG 0 2 = 0 → (a, b, c) = stampParts (s.edgeStamp fine.val) →
    (Leaves (.tcapEdge n false fine) s) ∧
    ((s.tim.lastEdge.at n.val 0 = 0 ∨ s.tim.lastEdge.at n.val 0 + 512 ≤ s.edgeTime fine.val) →
     (n.val = 4 → 2000000 < (phaseOf (s.edgeStamp fine.val)).natAbs → Does (.tcapEdge n true fine) s fun u =>
        u.bit Reg.TIM_FLAGS 2 = true ∧ u.tim.fifo = s.tim.fifo ∧ Raises s u [] ∧ KeepsRegs s u [Reg.TIM_FLAGS] ∧
        OnlyRegsAnd s u fun u => { u with tim.lastEdge := s.tim.lastEdge }) ∧
     ((n.val = 4 → (phaseOf (s.edgeStamp fine.val)).natAbs ≤ 2000000) →
      ((s.tim.fifo.at n.val []).length < 16 → Does (.tcapEdge n true fine) s fun u =>
        u.tim.fifo.at n.val [] = s.tim.fifo.at n.val [] ++ [(a, b, c)] ∧ KeepsMem s u ∧
        (n.val = 4 → s.bit (Reg.TIM_TCAP_CFG 4) 3 = false →
          u.rf (Reg.TIM_TCAP_F 4) 8 5 = (s.tim.fifo.at 4 []).length + 1 ∧ Raises s u [] ∧
          KeepsRegs s u [Reg.TIM_TCAP_F 4] ∧ OnlyRegsAnd s u fun u => { u with tim := s.tim })) ∧
      (16 ≤ (s.tim.fifo.at n.val []).length → s.tim.capTold.at n.val false = false →
        Does (.tcapEdge n true fine) s fun u => u.tim.fifo = s.tim.fifo ∧
          u.rn (Reg.TIM_TCAP_LOST n.val) = min (s.rn (Reg.TIM_TCAP_LOST n.val) + 1) 4294967295 ∧
          Raises s u [(0x0221, n.val, [n.val])] ∧ KeepsRegs s u [Reg.TIM_TCAP_LOST n.val]))) ∧
    (s.tim.lastEdge.at n.val 0 ≠ 0 → s.edgeTime fine.val < s.tim.lastEdge.at n.val 0 + 512 → Leaves (.tcapEdge n true fine) s) ∧
    (s.sys.ready = true →
      (∀ x y z l, s.tim.fifo.at n.val [] = (x, y, z) :: l → Does (.tcapPop n) s fun u =>
        u.tim.fifo.at n.val [] = l ∧ u.rg (Reg.TIM_TCAP_S n.val) = BitVec.ofNat 32 x ∧
        u.rg (Reg.TIM_TCAP_NS n.val) = BitVec.ofNat 32 y ∧ u.rf (Reg.TIM_TCAP_F n.val) 0 5 = z % 32 ∧
        u.out = .readValue (BitVec.ofNat 32 x) :: s.out ∧ Raises s u [] ∧
        KeepsRegs s u [Reg.TIM_TCAP_S n.val, Reg.TIM_TCAP_NS n.val, Reg.TIM_TCAP_F n.val] ∧ KeepsMem s u) ∧
      (s.tim.fifo.at n.val [] = [] → Does (.tcapPop n) s fun u => u.bit (Reg.TIM_TCAP_F n.val) 16 = true ∧
        u.out = .readValue 0xffffffff :: s.out ∧ Raises s u [] ∧ KeepsRegs s u [Reg.TIM_TCAP_F n.val]))

/-! ### Measurement (chapter 5) -/

/-- R124, R126: over a window of +1 alone the sinc3 sum is OSR3³ and the sinc2 sum OSR2², and over −1 alone their negatives:
full scale at any ratio, saturated on the positive side. R119, R120, R124, R125: at its completion tick a frame of an enabled
channel without fault, or behind the 64 valid bits that end one (R123), shows its result; rate and the violations of its own
bits not yet counted show for a faulted channel as well, and a disabled one shows nothing. R123: a first settling makes the
channel VALID without event. -/
def Obligations.Decimators : Prop :=
  (∀ r : Nat, 0 < r → ∀ l : List Int, ∀ x : Int, (∀ y ∈ l, y = x) →
    (3 * r - 2 ≤ l.length → sinc3Sum r l = x * r ^ 3) ∧ (2 * r - 1 ≤ l.length → sinc2Sum r l = x * r ^ 2) ∧
    (3 * r - 2 ≤ l.length → x = 1 → sinc3Code r l = 8388607) ∧
    (3 * r - 2 ≤ l.length → x = -1 → sinc3Code r l = -8388608) ∧
    (2 * r - 1 ≤ l.length → x = 1 → sinc2Code r l = 32767) ∧ (2 * r - 1 ≤ l.length → x = -1 → sinc2Code r l = -32768)) ∧
  (∀ (s : State) (c : Chan) (bits : List (Option Bool)) (rate : BitVec 16) (qual : Bool) (r cv : Nat), s.running = true →
    r = s.rf (Reg.SDM_CFG c.val) 8 9 →
    cv = min (s.rn (Reg.SDM_CV c.val) + (((bits.drop (bits.length - r)).filter Option.isNone).length
      - s.meas.cvSeen.at c.val 0)) 4294967295 →
    (s.sdOn c.val = true →
      ((s.sdFaulted c.val = false ∨ qual = true) → Does (.sinc3Result c bits (rate, qual)) s fun u =>
        u.rf (Reg.SDM_RES c.val) 0 24 = unsigned 24 (sinc3Code r (s.sdValues c.val bits)) ∧
        u.rf (Reg.SDM_RES c.val) 24 8 = s.rf (Reg.SDM_RES c.val) 24 8 ∧ u.rf (Reg.SDM_RATE c.val) 0 16 = rate.toNat ∧
        u.rn (Reg.SDM_CV c.val) = cv ∧ u.meas.done.at c.val 0 = s.now ∧ u.sdFaulted c.val = false ∧ Raises s u [] ∧
        KeepsRegs s u [Reg.SDM_RES c.val, Reg.SDM_RATE c.val, Reg.SDM_CV c.val, Reg.SDM_STAT] ∧
        OnlyRegsAnd s u fun u =>
          { u with meas.done := s.meas.done, meas.cvSeen := s.meas.cvSeen, meas.recov := s.meas.recov }) ∧
      (s.sdFaulted c.val = true → Does (.sinc3Result c bits (rate, false)) s fun u =>
        u.rf (Reg.SDM_RATE c.val) 0 16 = rate.toNat ∧ u.rn (Reg.SDM_CV c.val) = cv ∧ Raises s u [] ∧
        KeepsRegs s u [Reg.SDM_RATE c.val, Reg.SDM_CV c.val] ∧
        OnlyRegsAnd s u fun u => { u with meas.cvSeen := s.meas.cvSeen }) ∧
      (s.meas.fault.at c.val none = none → Does (.sdChannelSettled c) s fun u => u.bit (Reg.SDM_RES c.val) 24 = true ∧
        Raises s u [] ∧ KeepsRegs s u [Reg.SDM_RES c.val] ∧ OnlyRegs s u)) ∧
    (s.sdOn c.val = false → Leaves (.sinc3Result c bits (rate, qual)) s ∧ Leaves (.sdChannelSettled c) s) ∧
    (s.meas.fault.at c.val none ≠ none → Leaves (.sdChannelSettled c) s))

/-- R119, R120, R121, R122, R123: loss of transition, code violations and rate are channel faults with causes 1, 2 and 3: flag,
event 0x0401, VALID cleared with the value frozen, and the reaction of protection, here its record 0x0806; an enabled channel
that is faulted faults no further but shows its measured rate, unless 64 valid bits have recovered it since; a disabled one
raises none. Recovery returns VALID with event 0x0402 and keeps the flag. R126, R128: a comparator asserts beyond its threshold,
with flag, event 0x0403 or 0x0404 and the reaction of protection, and deasserts once the output has passed the threshold by the
hysteresis; an output between the two changes nothing. R123: 2 × OSR2 bits behind a recovery or a load (`settled`) the
comparators act. -/
def Obligations.ChannelFaultsAndComparators : Prop :=
  (∀ (s : State) (c : Chan) (n : Nat) (rate : BitVec 16), s.running = true →
    (∀ p ∈ [(Instr.sdLossOfTransition (c, false), 1), (Instr.sdCodeViolationFault (c, n, false), 2),
        (Instr.sdRateFault (c, rate, false), 3)],
      (s.sdOn c.val = true → s.sdFaulted c.val = false → s.rf (Reg.GPR_SDACT c.val) 4 2 = 0 → Does p.1 s fun u =>
        u.bit (Reg.SDM_FAULT (c.val / 32)) (c.val % 32) = true ∧ u.bit (Reg.SDM_RES c.val) 24 = false ∧
        u.rf (Reg.SDM_RES c.val) 28 2 = p.2 ∧ u.rf (Reg.SDM_RES c.val) 0 24 = s.rf (Reg.SDM_RES c.val) 0 24 ∧
        (∀ hi, u.cmpOn c.val hi = s.cmpOn c.val hi) ∧ u.sdFaulted c.val = true ∧ u.bit Reg.SDM_STAT 0 = true ∧
        u.rn (Reg.SDM_CV c.val) =
          (if p.2 = 2 then min (s.rn (Reg.SDM_CV c.val) + n) 4294967295 else s.rn (Reg.SDM_CV c.val)) ∧
        u.rf (Reg.SDM_RATE c.val) 0 16 = (if p.2 = 3 then rate.toNat else s.rf (Reg.SDM_RATE c.val) 0 16) ∧
        Raises s u [(0x0401, c.val, [c.val, p.2]), (0x0806, c.val, [c.val, 2])] ∧
        KeepsRegs s u [Reg.SDM_FAULT (c.val / 32), Reg.SDM_RES c.val, Reg.SDM_STAT, Reg.GPR_FLAGS, Reg.SDM_CV c.val,
          Reg.SDM_RATE c.val] ∧ OnlyRegsAnd s u fun u => { u with meas := s.meas }) ∧
      (s.sdOn c.val = false → Leaves p.1 s) ∧ (s.sdFaulted c.val = true → p.2 ≠ 3 → Leaves p.1 s)) ∧
    (s.sdOn c.val = true → s.sdFaulted c.val = true → s.rf (Reg.GPR_SDACT c.val) 4 2 = 0 →
      Does (.sdLossOfTransition (c, true)) s fun u => u.sdFaulted c.val = true ∧ u.rf (Reg.SDM_RES c.val) 28 2 = 1 ∧
        Raises s u [(0x0401, c.val, [c.val, 1]), (0x0806, c.val, [c.val, 2])]) ∧
    (s.sdOn c.val = true → s.sdFaulted c.val = true → Does (.sdRateFault (c, rate, false)) s fun u =>
      u.rf (Reg.SDM_RATE c.val) 0 16 = rate.toNat ∧ Raises s u [] ∧ KeepsRegs s u [Reg.SDM_RATE c.val] ∧ OnlyRegs s u) ∧
    (∀ t, s.meas.fault.at c.val none = some t → Does (.sdChannelRecovered c) s fun u =>
      u.sdFaulted c.val = false ∧ u.bit (Reg.SDM_RES c.val) 24 = true ∧
      u.bit (Reg.SDM_FAULT (c.val / 32)) (c.val % 32) = s.bit (Reg.SDM_FAULT (c.val / 32)) (c.val % 32) ∧
      Raises s u [(0x0402, c.val, [c.val, (s.now - t) * 2 / 625])] ∧
      KeepsRegs s u [Reg.SDM_RES c.val, Reg.SDM_STAT] ∧
      OnlyRegsAnd s u fun u => { u with meas.fault := s.meas.fault, meas.recov := s.meas.recov }) ∧
    (s.meas.fault.at c.val none = none → Leaves (.sdChannelRecovered c) s)) ∧
  (∀ (s : State) (c : Chan) (hi settled : Bool) (bits : List (Option Bool)) (v : Int), s.running = true →
    v = sinc2Code (s.osr2 c.val) (s.sdValues c.val bits) → (s.cmpSettle c.val settled).cmpLive c.val hi = true →
    s.rf (Reg.GPR_SDACT c.val) (if hi then 0 else 2) 2 = 0 →
    (s.cmpOn c.val hi = false → (if hi then s.cmpHi c.val < v else v < s.cmpLo c.val) →
      Does (.fastComparatorAssert c hi (bits, settled)) s fun u => u.cmpOn c.val hi = true ∧ u.cmpOn c.val (!hi) = s.cmpOn c.val (!hi) ∧
        u.bit (Reg.SDM_CMPF (c.val / 32)) (c.val % 32) = true ∧ u.bit Reg.SDM_STAT 1 = true ∧
        Raises s u [(if hi then 0x0403 else 0x0404, c.val, [c.val, unsigned 32 v]),
                    (0x0806, c.val, [c.val, if hi then 0 else 1])] ∧
        KeepsRegs s u [Reg.SDM_RES c.val, Reg.SDM_CMPF (c.val / 32), Reg.SDM_STAT, Reg.GPR_FLAGS] ∧
        OnlyRegsAnd s u fun u => { u with meas.recov := s.meas.recov, meas.cmpWait := s.meas.cmpWait }) ∧
    (s.cmpOn c.val hi = true → (if hi then v < s.cmpHi c.val - s.cmpHys c.val else s.cmpLo c.val + s.cmpHys c.val < v) →
      Does (.fastComparatorDeassert c hi (bits, settled)) s fun u => u.cmpOn c.val hi = false ∧ Raises s u [] ∧
        KeepsRegs s u [Reg.SDM_RES c.val, Reg.SDM_STAT] ∧
        OnlyRegsAnd s u fun u => { u with meas.recov := s.meas.recov, meas.cmpWait := s.meas.cmpWait }) ∧
    (s.cmpOn c.val hi = true → settled = false → Leaves (.fastComparatorAssert c hi (bits, settled)) s) ∧
    (s.cmpOn c.val hi = true → (if hi then s.cmpHi c.val - s.cmpHys c.val ≤ v else v ≤ s.cmpLo c.val + s.cmpHys c.val) →
      settled = false → Leaves (.fastComparatorDeassert c hi (bits, settled)) s))

/-- R132, R133, R134: the end of a delay, the timer and a software write fire a trigger, which starts the regular sequence of a
free converter; with a delay set the source event starts one, up to four at once. Stated for a device without simultaneous sets
and injected entries. -/
def Obligations.Triggers : Prop :=
  ∀ (s : State) (src : Src) (t : Fin 16) (k : Conv) (v : Word), s.running = true → PlainAdc s → FreeConverter s k.val t.val →
    (0 < s.meas.delays.at t.val 0 → Does (.adcTriggerFire t) s fun u => Started s u k.val ∧
      u.meas.delays.at t.val 0 = s.meas.delays.at t.val 0 - 1 ∧ KeepsMem s u) ∧
    (s.meas.delays.at t.val 0 = 0 → Leaves (.adcTriggerFire t) s) ∧
    (s.rf (Reg.ADC_TRIG_SRC t.val) 0 6 = 0x20 →
      (s.rf (Reg.ADC_TRIG_DLY_L t.val) 0 16 = 0 → Does (.adcTimerTrigger t) s fun u => Started s u k.val ∧ KeepsMem s u) ∧
      (s.rf (Reg.ADC_TRIG_DLY_L t.val) 0 16 ≠ 0 → s.meas.delays.at t.val 0 < 4 → Does (.adcTimerTrigger t) s fun u =>
        u.meas.delays.at t.val 0 = s.meas.delays.at t.val 0 + 1 ∧
        ({ u with meas.delays := s.meas.delays } : State) = s)) ∧
    (s.rf (Reg.ADC_TRIG_SRC t.val) 0 6 ≠ 0x20 → Leaves (.adcTimerTrigger t) s) ∧
    (Reaches s Reg.ADC_SW_TRIG → s.rf (Reg.ADC_TRIG_SRC t.val) 0 6 = 0x1f →
      (∀ j < 16, fld v j 1 = if j = t.val then 1 else 0) → s.rf (Reg.ADC_TRIG_DLY_L t.val) 0 16 = 0 →
      Does (.adcSwTrigger src v) s fun u => Started s u k.val ∧ u.slot src = {} ∧ KeepsMem s u)

/-- R129, R130, R131, R136: an injected conversion samples before the regular step; a completed conversion stores its code, NEW
and its sample offset in its result slot, and a single step ends. R139: the two converters of an interleaved pair sample in turn
into one ring of slots. R140, R142: a calibration named for a converter alone becomes pending and discards its regular work; it
starts with event 0x0410 once the injected queue has drained, and ends with the corrections stored, CAL set, the sequence at
step 0 and event 0x0411. -/
def Obligations.ConversionsAndCalibration : Prop :=
  (∀ (s : State) (k : Conv) (nanovolt : Int) (j : Job) (rest : List Job) (w e : Nat) (x : Stream), s.running = true →
    e = k.val / 2 * 2 →
    (s.ilv k.val = true → (s.adc e).stream = some x → x.odd = (k.val % 2 == 1) → x.left ≠ some 0 →
      (if x.odd then x.oddJob else x.evenJob) = none → Does (.adcSampleInstant k) s fun u =>
        (∃ y, (u.adc e).stream = some y ∧ y.odd = !x.odd ∧ y.slot = (x.slot + 1) % 16 ∧ y.left = x.left.map (· - 1) ∧
          (if x.odd then y.oddJob else y.evenJob) = some { slot := x.slot, trig := x.trig, sampled := some s.now } ∧
          (if x.odd then y.evenJob = x.evenJob else y.oddJob = x.oddJob)) ∧ Raises s u [] ∧
        KeepsRegs s u [Reg.ADC_STAT, Reg.ADC_KSTAT e, Reg.ADC_KSTAT (e + 1)] ∧
        OnlyRegsAnd s u fun u => { u with meas.conv := s.meas.conv }) ∧
    (s.ilv k.val = false → (s.adc k.val).inj = j :: rest → j.sampled = none → Does (.adcSampleInstant k) s fun u =>
      (u.adc k.val).inj = { j with sampled := some s.now } :: rest ∧ (u.adc k.val).reg = (s.adc k.val).reg ∧ Raises s u [] ∧
      KeepsRegs s u [Reg.ADC_STAT] ∧ OnlyRegsAnd s u fun u => { u with meas.conv := s.meas.conv }) ∧
    (s.ilv k.val = false → (s.adc k.val).inj = [] → s.setOf k.val = none → (s.adc k.val).reg = some j → Does (.adcSampleInstant k) s fun u =>
      (u.adc k.val).reg = some { j with sampled := some s.now } ∧ Raises s u [] ∧ KeepsRegs s u [Reg.ADC_STAT] ∧
      OnlyRegsAnd s u fun u => { u with meas.conv := s.meas.conv }) ∧
    (s.bit (Reg.ADC_KSTAT k.val) 0 = true → j.sampled = some w → j.trig ≤ w → w - j.trig ≤ 8191 → j.slot < 16 →
      (s.adc k.val).inj = [] → s.ilv k.val = false → (s.adc k.val).reg = some j → (s.adc k.val).left = 1 →
      Does (.adcConversionComplete k nanovolt) s fun u =>
        u.rf (Reg.ADC_RES k.val j.slot) 0 16 = unsigned 16 (adcCode nanovolt) ∧ u.bit (Reg.ADC_RES k.val j.slot) 16 = true ∧
        u.bit (Reg.ADC_RES k.val j.slot) 17 = j.resampled ∧ u.bit (Reg.ADC_RES k.val j.slot) 18 = j.deferred ∧
        u.rf (Reg.ADC_RES k.val j.slot) 19 13 = w - j.trig ∧ (u.adc k.val).reg = none ∧ Raises s u [] ∧
        KeepsRegs s u [Reg.ADC_RES k.val j.slot, Reg.ADC_KSTAT k.val, Reg.ADC_STAT] ∧
        OnlyRegsAnd s u fun u => { u with meas := s.meas, free := s.free })) ∧
  (∀ (s : State) (src : Src) (k : Conv) (v offset gain : Word) (w : List Word), s.running = true →
    (Reaches s Reg.ADC_CAL_CMD → (∀ j < 8, fld v j 1 = if j = k.val then 1 else 0) → (∀ j < 8, s.ilv j = false) →
      s.setOf k.val = none → s.calibrating k.val = false → (s.adc (k.val / 2 * 2)).stream = none →
      Does (.adcCalCmd src v) s fun u =>
        u.bit Reg.ADC_STAT (16 + k.val) = true ∧ (u.adc k.val).reg = none ∧ (u.adc k.val).inj = (s.adc k.val).inj ∧
        Raises s u (match (s.adc k.val).reg with | some j => [(0x0414, k.val, [k.val, j.slot])] | none => []) ∧
        KeepsRegs s u [Reg.ADC_STAT, Reg.ADC_KSTAT k.val] ∧ KeepsMem s u) ∧
    (s.bit Reg.ADC_STAT (16 + k.val) = true → (s.adc k.val).inj = [] → Does (.adcCalStart k) s fun u =>
      u.bit Reg.ADC_STAT (16 + k.val) = false ∧ u.bit Reg.ADC_STAT (8 + k.val) = true ∧
      Raises s u [(0x0410, k.val, [k.val])] ∧ KeepsRegs s u [Reg.ADC_STAT] ∧ OnlyRegs s u) ∧
    ((s.adc k.val).inj ≠ [] → Leaves (.adcCalStart k) s) ∧
    (s.bit Reg.ADC_STAT (8 + k.val) = true → Does (.adcCalComplete k offset gain w) s fun u =>
      u.rg (Reg.ADC_CAL_OFS k.val) = offset ∧ u.rg (Reg.ADC_CAL_GAIN k.val) = gain ∧
      (∀ n < 16, u.rg (Reg.ADC_CAL_W k.val n) = w.getD n 0) ∧ u.bit (Reg.ADC_KSTAT k.val) 0 = true ∧
      u.rf (Reg.ADC_KSTAT k.val) 2 4 = 0 ∧ u.bit Reg.ADC_STAT (8 + k.val) = false ∧ u.bit Reg.ADC_FLAGS (8 + k.val) = true ∧
      Raises s u [(0x0411, k.val, [k.val, offset.toNat, gain.toNat])] ∧ OnlyRegs s u))

/-! ### The clock root (chapter 3) -/

/-- R73, R74: with a search due and a reference qualified the band search starts; lock, on the band whose code settled nearest
mid-range, ends it in LOCKED on the preferred reference if that is qualified, with event 0x0101; a failed search raises 0x0113
and is not repeated. Behind an integrity fault nothing searches or locks (R85). R80: a coasting loop with a reference to re-
enter on starts its walk at θ; each step moves the delay by 0.5 ps toward the nearer end, 6.4 ns counting as 0, and at zero the
loop is locked. -/
def Obligations.LoopFindsAndWalks : Prop :=
  (∀ (s : State) (band : Fin 32) (codes : List (BitVec 10)) (code : BitVec 10) (best : Nat), s.running = true →
    best = bestBand (codes.map BitVec.toNat) → codes.length = 32 →
    (s.integrity = true → ∀ c ∈ [Instr.bandSearchStart, .lockDeclared codes code, .bandSearchFailed band], Leaves c s) ∧
    (s.integrity = false → s.clk.searchDue = true → s.clk.failed = false → (s.refQualified false = true ∨ s.refQualified true = true) →
      Does .bandSearchStart s fun u => u.clkState = 0 ∧ u.clk.searching = true ∧ u.clk.searchDue = false ∧
        Raises s u [] ∧ KeepsRegs s u [Reg.CLK_STAT] ∧ OnlyRegsAnd s u fun u => { u with clk := s.clk }) ∧
    (s.clk.searching = true → s.integrity = false →
      (Does (.lockDeclared codes code) s fun u =>
        u.clkState = 2 ∧ u.clkSel = (if s.refQualified (s.bit Reg.CLK_CFG 0) then s.bit Reg.CLK_CFG 0 else !s.bit Reg.CLK_CFG 0) ∧
        u.rf Reg.CLK_BAND 0 5 = best ∧ best < 32 ∧
        (∀ i < 32, offMid (codes.getD best 0).toNat ≤ offMid (codes.getD i 0).toNat) ∧ u.rf Reg.CLK_BAND 8 10 = code.toNat ∧
        u.devState = (if s.devState = 2 then 3 else s.devState) ∧ u.clk.searching = false ∧ u.clk.locked = true ∧
        u.tim.stopped = false ∧ Raises s u [(0x0101, 0, [best, code.toNat])] ∧
        KeepsRegs s u [Reg.CLK_STAT, Reg.CLK_BAND, Reg.GLB_STAT] ∧
        OnlyRegsAnd s u fun u => { u with clk := s.clk, tim.stopped := s.tim.stopped }) ∧
      (Does (.bandSearchFailed band) s fun u =>
        u.clk.searching = false ∧ u.clk.failed = true ∧ u.devState = (if s.devState = 2 then 15 else s.devState) ∧
        u.rf Reg.CLK_BAND 0 5 = band.val ∧ Raises s u [(0x0113, 0, [band.val])] ∧ KeepsRegs s u [Reg.GLB_STAT, Reg.CLK_BAND] ∧
        OnlyRegsAnd s u fun u => { u with clk := s.clk, free := s.free })) ∧
    (s.clk.failed = true → Leaves .bandSearchStart s)) ∧
  (∀ (s : State) (theta : Fin 12800) (r : Bool) (cause : Nat), s.running = true → s.integrity = false →
    (s.clkState = 3 → s.clk.target = some (r, cause) → theta.val ≠ 0 →
      Does (.phaseWalkStart theta) s fun u =>
        u.clkState = 4 ∧ u.clkSel = r ∧ u.rf Reg.CLK_WALK 0 14 = theta.val ∧ u.bit Reg.CLK_WALK 14 = true ∧
        u.bit Reg.CLK_WALK 15 = decide (6400 < theta.val) ∧ u.clk.target = none ∧
        Raises s u ((0x0105, 0, [theta.val, (decide (6400 < theta.val)).toNat]) ::
          if r = s.clkSel then [] else [(0x0107, 0, [r.toNat, cause])]) ∧
        KeepsRegs s u [Reg.CLK_STAT, Reg.CLK_WALK, Reg.CLK_COAST_T, Reg.CLK_FLAGS, Reg.THW_AVS_STAT] ∧
        OnlyRegsAnd s u fun u => { u with clk := s.clk }) ∧
    (s.clkState = 4 → s.rf Reg.CLK_WALK 0 14 < 12800 →
      ∀ d, d = (if s.bit Reg.CLK_WALK 15 then (s.rf Reg.CLK_WALK 0 14 + 1) % 12800 else s.rf Reg.CLK_WALK 0 14 - 1) →
      Does .walkStep s fun u =>
        u.rf Reg.CLK_WALK 0 14 = d ∧ u.clkState = (if d = 0 then 2 else 4) ∧
        Raises s u (if d = 0 then [(0x0106, 0, [(s.now - s.clk.walkSince) * 2 / 625])] else []) ∧
        KeepsRegs s u [Reg.CLK_STAT, Reg.CLK_WALK, Reg.CLK_FLAGS] ∧ OnlyRegs s u))

/-- R69, R70: a reference shows its presence, qualification and offset; one that leaves ±200 ppm (±5 % before the first lock,
R557) loses its qualification at once, and so does the selected reference at a step of more than 2 ppm; such a step of the other
reference is only shown. None of this touches a loop that does not inject the reference. The event of a reference that leaves
its range is the model's choice (DESIGN CHOICE at refInterval). R71, R72, R73: the revert timer and a keyed SWITCH move the loop
to the other qualified reference through coasting, without event 0x0104, and with COAST_HO a planned handover is asked for
(R79); a loop that coasts already re-enters on the reference commanded. A keyed RELOCK starts a new search on a halted device,
ends coasting and a walk, and is refused with 0x25 on any other device; behind a failed search or an integrity fault it does
nothing (R74, R85). -/
def Obligations.ReferenceMonitorAndSwitch : Prop :=
  (∀ (s : State) (b : Bool) (offset : Int), s.running = true → s.injecting b = false → s.clk.target = none →
    (Does (.referencePresent b) s fun u => u.refPresent b = true ∧ Raises s u [] ∧
      (∀ b', b' ≠ b → u.rg (refReg b') = s.rg (refReg b')) ∧ KeepsRegs s u [refReg b] ∧
      OnlyRegsAnd s u fun u => { u with clk.freq := s.clk.freq }) ∧
    (Does (.referenceLost b) s fun u => u.refPresent b = false ∧ u.refQualified b = false ∧
      u.bit Reg.CLK_FLAGS b.toNat = true ∧ u.bit Reg.CLK_STAT (4 + b.toNat) = false ∧ u.clkState = s.clkState ∧
      Raises s u [(if b then 0x0103 else 0x0102, 0, [])] ∧
      KeepsRegs s u [refReg b, Reg.CLK_FLAGS, Reg.CLK_STAT] ∧ OnlyRegs s u) ∧
    (s.refPresent b = true → s.clkState ≠ 3 → Does (.referenceQualified b) s fun u => u.refQualified b = true ∧
      u.bit Reg.CLK_STAT (4 + b.toNat) = true ∧ u.clkState = s.clkState ∧ Raises s u [] ∧
      KeepsRegs s u [refReg b, Reg.CLK_STAT] ∧ OnlyRegs s u) ∧
    (s.refPresent b = true → s.clkState = 3 → s.integrity = false →
      Does (.referenceQualified b) s fun u => u.refQualified b = true ∧ u.clk.target = some (b, 0)) ∧
    (∀ last, s.clk.freq.at b.toNat none = some last → s.clkSel = b → 2 ≤ s.clkState → 20 < (offset - last).natAbs →
      Does (.refFreqInterval b offset) s fun u => u.refQualified b = false ∧ u.bit Reg.CLK_FLAGS 3 = true ∧
        Raises s u [(0x0108, 0, [b.toNat, unsigned 32 (offset - last)])] ∧
        KeepsRegs s u [refReg b, Reg.CLK_FLAGS, Reg.CLK_STAT] ∧
        OnlyRegsAnd s u fun u => { u with clk.freq := s.clk.freq }) ∧
    (-32768 ≤ offset → offset ≤ 32767 → offset.natAbs ≤ s.freqLimit →
      s.stepped b (s.clk.freq.at b.toNat none) offset = false → Does (.refFreqInterval b offset) s fun u =>
      u.rf (refReg b) 0 16 = unsigned 16 offset ∧ u.refQualified b = s.refQualified b ∧
      u.clk.freq.at b.toNat none = some offset ∧ Raises s u [] ∧ KeepsRegs s u [refReg b] ∧
      OnlyRegsAnd s u fun u => { u with clk.freq := s.clk.freq }) ∧
    (s.freqLimit < offset.natAbs → s.refQualified b = true →
      s.stepped b (s.clk.freq.at b.toNat none) offset = false → Does (.refFreqInterval b offset) s fun u =>
      u.refQualified b = false ∧ Raises s u [(if b then 0x0103 else 0x0102, 0, [])] ∧
      KeepsRegs s u [refReg b, Reg.CLK_FLAGS, Reg.CLK_STAT] ∧ OnlyRegsAnd s u fun u => { u with clk.freq := s.clk.freq })) ∧
  (∀ (s : State) (src : Src), s.running = true →
    (s.bit Reg.CLK_CFG 1 = true → s.refQualified (s.bit Reg.CLK_CFG 0) = true → (s.clkState = 2 ∨ s.clkState = 4) →
      s.integrity = false → s.clkSel = !s.bit Reg.CLK_CFG 0 → Does .revertTimer s fun u => u.clkState = 3 ∧
        u.clk.target = some (s.bit Reg.CLK_CFG 0, 1) ∧ (s.bit Reg.CLK_CFG 2 = false → Raises s u [] ∧
        KeepsRegs s u [Reg.CLK_STAT, Reg.CLK_WALK, Reg.CLK_FLAGS, Reg.CLK_COAST_T, Reg.THW_AVS_STAT, Reg.CLK_PHERR, Reg.CLK_PHPEAK] ∧
        OnlyRegsAnd s u fun u => { u with clk := s.clk }) ∧
        (s.bit Reg.CLK_CFG 2 = true → HandoverAsked s → s.bit Reg.PAR_HLTH_PEER 8 = true →
          s.bit Reg.PAR_HLTH_PEER 9 = false → u.bit Reg.PAR_STAT 6 = true ∧ Raises s u [(0x0a07, 0, [0x0104])])) ∧
    (s.bit Reg.CLK_CFG 1 = false → Leaves .revertTimer s) ∧
    (KeyPasses s src Reg.CLK_CTRL →
      (s.refQualified (!s.clkSel) = true → (s.clkState = 2 ∨ s.clkState = 4) → s.integrity = false →
        Does (.clkSwitch src) s fun u => u.clkState = 3 ∧ u.clk.target = some (!s.clkSel, 2) ∧ u.slot src = {} ∧
          (s.bit Reg.CLK_CFG 2 = false → Raises s u [] ∧
            KeepsRegs s u [Reg.CLK_STAT, Reg.CLK_WALK, Reg.CLK_FLAGS, Reg.CLK_COAST_T, Reg.THW_AVS_STAT, Reg.CLK_PHERR, Reg.CLK_PHPEAK] ∧
            OnlyRegsAnd s u fun u => { u with clk := s.clk, keys := s.keys })) ∧
      (s.refQualified (!s.clkSel) = true → s.clkState = 3 → s.integrity = false →
        s.clk.target.map Prod.fst ≠ some (!s.clkSel) → Does (.clkSwitch src) s fun u =>
          u.clk.target = some (!s.clkSel, 2) ∧ u.slot src = {} ∧ Raises s u [] ∧ KeepsRegs s u [] ∧
          OnlyRegsAnd s u fun u => { u with clk := s.clk, keys := s.keys }) ∧
      (s.refQualified (!s.clkSel) = false → Does (.clkSwitch src) s fun u =>
        u.slot src = {} ∧ ({ u with keys := s.keys } : State) = s) ∧
      (s.halted = true → s.integrity = false → s.clk.failed = false → Does (.clkRelock src) s fun u =>
        u.clkState = 0 ∧ u.clk.searchDue = true ∧ u.clk.searching = false ∧ u.clk.target = none ∧
        u.rf Reg.CLK_WALK 0 16 = 0 ∧ u.bit Reg.THW_AVS_STAT 11 = false ∧ u.slot src = {} ∧ Raises s u [] ∧
        KeepsRegs s u [Reg.CLK_STAT, Reg.CLK_WALK, Reg.CLK_COAST_T, Reg.THW_AVS_STAT, Reg.CLK_PHERR, Reg.CLK_PHPEAK] ∧
        OnlyRegsAnd s u fun u => { u with clk := s.clk, keys := s.keys }) ∧
      (s.halted = true → (s.integrity = true ∨ s.clk.failed = true) → Does (.clkRelock src) s fun u =>
        u.slot src = {} ∧ ({ u with keys := s.keys } : State) = s) ∧
      (s.halted = false → Does (.clkRelock src) s fun u => u.clkState = s.clkState ∧ u.slot src = {} ∧
        u.rn Reg.CFG_REFUSE_ADDR = Reg.CLK_CTRL ∧ Raises s u [(0x0325, 0, [Reg.CLK_CTRL])] ∧
        KeepsRegs s u [Reg.CFG_REFUSE_CNT, Reg.CFG_REFUSE_ADDR] ∧ OnlyRegsAnd s u fun u => { u with keys := s.keys })))

/-- R70, R71, R77, R79: a loop that injects a reference coasts when it is lost (0) or disturbed (1), with event 0x0104 behind
the reference's own, CLK_COAST_T from zero and core-voltage requests suspended (R78); it re-enters on the other reference if
that is qualified. With COAST_HO set it asks for a planned handover if the partner's clock is locked and not coasting; otherwise
nothing but the clock registers and THW_AVS_STAT changes. R83, R84, R85: loss of lock while injecting, an SCLK count outside 180
to 211 and a stopped SCLK are clock integrity faults: INTEGRITY and CAUSE latched with STATE as it was, Flint's override in
force and its log written, HB_OUT low, the device halted. The record of a stopped root waits with the TS32 of detection until
edges of SCLK are counted in a later window; behind another fault count and stop are logged while CAUSE keeps the first. Windows
of a stopped root and a count told already are the model's choices (DESIGN CHOICE and DEDUCED at sclkWindow). -/
def Obligations.CoastingAndIntegrity : Prop :=
  (∀ (s : State) (b : Bool) (offset last : Int), s.running = true → s.injecting b = true →
    s.clk.target = none →
    (s.bit Reg.CLK_CFG 2 = false →
      (Does (.referenceLost b) s fun u => u.clkState = 3 ∧ u.clkSel = b ∧ u.rn Reg.CLK_COAST_T = 0 ∧
        u.bit Reg.CLK_FLAGS 2 = true ∧
        u.bit Reg.THW_AVS_STAT 11 = true ∧ u.refQualified b = false ∧
        u.clk.target = (if s.refQualified (!b) then some (!b, 0) else none) ∧
        Raises s u [(if b then 0x0103 else 0x0102, 0, []), (0x0104, 0, [0])] ∧
        KeepsRegs s u [refReg b, Reg.CLK_FLAGS, Reg.CLK_STAT, Reg.CLK_WALK, Reg.CLK_COAST_T, Reg.THW_AVS_STAT, Reg.CLK_PHERR, Reg.CLK_PHPEAK] ∧
        OnlyRegsAnd s u fun u => { u with clk := s.clk }) ∧
      (s.clk.freq.at b.toNat none = some last → 20 < (offset - last).natAbs →
        Does (.refFreqInterval b offset) s fun u => u.clkState = 3 ∧ u.refQualified b = false ∧
          u.clk.target = (if s.refQualified (!b) then some (!b, 0) else none) ∧ u.bit Reg.CLK_FLAGS 3 = true ∧
          Raises s u [(0x0108, 0, [b.toNat, unsigned 32 (offset - last)]), (0x0104, 0, [1])] ∧
          KeepsRegs s u [refReg b, Reg.CLK_FLAGS, Reg.CLK_STAT, Reg.CLK_WALK, Reg.CLK_COAST_T, Reg.THW_AVS_STAT, Reg.CLK_PHERR, Reg.CLK_PHPEAK] ∧
          OnlyRegsAnd s u fun u => { u with clk := s.clk })) ∧
    (s.bit Reg.CLK_CFG 2 = true → HandoverAsked s → s.bit Reg.PAR_HLTH_PEER 8 = true → s.bit Reg.PAR_HLTH_PEER 9 = false →
      Does (.referenceLost b) s fun u => u.clkState = 3 ∧ u.bit Reg.PAR_STAT 6 = true ∧
        Raises s u [(if b then 0x0103 else 0x0102, 0, []), (0x0104, 0, [0]), (0x0a07, 0, [0x0104])])) ∧
  (∀ (s : State) (err : Int) (count t run : Nat) (held : List Raised), s.onMain = true → t = s.rf Reg.FLT_STAT 4 4 →
    run = (if s.devState = 7 then 8 else s.devState) →
    held = (if s.clk.stopFresh = false ∧ 0 < count then s.clk.held.toList.map (fun e => { ev := e }) else []) →
    (s.clk.stopped = false → s.injecting s.clkSel = true → s.refQualified s.clkSel = true → Does (.lossOfLock err) s fun u =>
      u.integrity = true ∧ u.rf Reg.CLK_STAT 8 2 = 1 ∧ u.clkState = s.clkState ∧ u.clk.override = true ∧
      u.sys.hbOut = false ∧ u.pairState = 0 ∧ u.devState = run ∧ u.outEn = false ∧
      u.rn (Reg.FLT_LOG t) = 0x0110 + s.rf Reg.FLT_CYCLES 0 16 * 65536 ∧
      Raises s u [(0x0110, 0, [unsigned 32 err])] ∧
      KeepsRegs s u ([Reg.CLK_STAT, Reg.CLK_PHERR, Reg.CLK_PHPEAK, Reg.FLT_STAT, Reg.FLT_LOG t] ++ haltRegs) ∧
      KeepsMem s u) ∧
    (s.integrity = false → s.clk.stopped = false →
      (s.clk.freqTold = false → (count < 180 ∨ 211 < count) → Does (.sclkWindowEnd count) s fun u =>
        u.integrity = true ∧ u.rf Reg.CLK_STAT 8 2 = 2 ∧ u.clkState = s.clkState ∧ u.clk.override = true ∧
        u.sys.hbOut = false ∧ u.devState = run ∧
        u.evt.batch = s.evt.batch ++ held ++ [{ ev := { code := 0x0111, data := words [count], ts32 := s.tim.ts32 } }] ∧
        KeepsRegs s u ([Reg.CLK_STAT, Reg.CLK_PHERR, Reg.CLK_PHPEAK, Reg.FLT_STAT, Reg.FLT_LOG t] ++ haltRegs) ∧ KeepsMem s u) ∧
      (Does .sclkStopped s fun u =>
        u.integrity = true ∧ u.rf Reg.CLK_STAT 8 2 = 3 ∧ u.clk.override = true ∧ u.sys.hbOut = false ∧ u.devState = run ∧
        u.clk.stopped = true ∧
        u.clk.held = some { code := 0x0112, ts32 := s.tim.ts32 } ∧ Raises s u [] ∧
        KeepsRegs s u ([Reg.CLK_STAT, Reg.CLK_PHERR, Reg.CLK_PHPEAK, Reg.FLT_STAT, Reg.FLT_LOG t] ++ haltRegs) ∧ KeepsMem s u)) ∧
    (s.integrity = true → s.clk.stopped = false →
      (s.clk.freqTold = false → (count < 180 ∨ 211 < count) → Does (.sclkWindowEnd count) s fun u =>
        u.rg Reg.CLK_STAT = s.rg Reg.CLK_STAT ∧ u.rn (Reg.FLT_LOG t) = 0x0111 + s.rf Reg.FLT_CYCLES 0 16 * 65536 ∧
        u.clk.freqTold = true ∧
        u.evt.batch = s.evt.batch ++ held ++ [{ ev := { code := 0x0111, data := words [count], ts32 := s.tim.ts32 } }] ∧
        KeepsRegs s u [Reg.FLT_STAT, Reg.FLT_LOG t]) ∧
      (Does .sclkStopped s fun u =>
        u.clk.stopped = true ∧ u.clk.held = some { code := 0x0112, ts32 := s.tim.ts32 } ∧
        u.rg Reg.CLK_STAT = s.rg Reg.CLK_STAT ∧ u.rn (Reg.FLT_LOG t) = 0x0112 + s.rf Reg.FLT_CYCLES 0 16 * 65536 ∧
        Raises s u [] ∧ KeepsRegs s u [Reg.FLT_STAT, Reg.FLT_LOG t])) ∧
    (s.clk.stopped = true → Leaves .sclkStopped s) ∧
    (180 ≤ count → count ≤ 211 → Does (.sclkWindowEnd count) s fun u =>
      u.integrity = s.integrity ∧ u.evt.batch = s.evt.batch ++ held ∧ u.clk.stopFresh = false ∧
      (s.clk.stopFresh = false → u.clk.held = none ∧ u.clk.stopped = false) ∧
      (s.clk.stopFresh = true → u.clk.held = s.clk.held ∧ u.clk.stopped = s.clk.stopped) ∧
      (s.clk.releasing = false → KeepsRegs s u [] ∧ OnlyRegsAnd s u fun u => { u with clk := s.clk }) ∧
      (s.clk.releasing = true → s.clk.locked = true → s.integrity = false →
        (s.clk.goodWindows = 0 → u.clk.override = s.clk.override ∧ u.clk.goodWindows = 1) ∧
        (s.clk.goodWindows = 1 → u.clk.override = false ∧ u.clk.releasing = false))))

/-- R84, R335: under Flint's override a switch that the pattern holds on turns on when its FS_DT has run out and the other
switch of its leg is off at the ball; one with the other switch on stays off. R594: under the boundary scan's control of the
pins GATE_O, BYP_O, HB_OUT and SOUT are low. R67, R338, R344: an enabled trip input latches and applies the cluster's pattern
with event 0x0805, cancelling every pending turn-on and leaving heartbeat and device state; a clear is refused while it is
asserted. With COMPAT the pulse on TRIP_O[1] ends. -/
def Obligations.PatternsAndTripInputs : Prop :=
  (∀ (s : State) (g : Gate), s.onMain = true → s.padCmd g.val = .on →
    (s.clk.override = true → s.gate (if g.val % 2 = 0 then g.val + 1 else g.val - 1) = false →
      Does (.flintFsDtTurnOn g) s fun u => u.gate g.val = true ∧ (∀ h, h ≠ g.val → u.gate h = s.gate h) ∧
        Raises s u [] ∧ ({ u with prot.gate := s.prot.gate } : State) = s) ∧
    (s.clk.override = false → s.gate (if g.val % 2 = 0 then g.val + 1 else g.val - 1) = false →
      Does (.fsDtTurnOn g) s fun u => u.gate g.val = true ∧ (∀ h, h ≠ g.val → u.gate h = s.gate h) ∧
        Raises s u [] ∧ ({ u with prot.gate := s.prot.gate } : State) = s) ∧
    (s.gate (if g.val % 2 = 0 then g.val + 1 else g.val - 1) = true →
      Leaves (.flintFsDtTurnOn g) s ∧ Leaves (.fsDtTurnOn g) s)) ∧
  (∀ (s : State) (src : Src) (n : Fin 4) (g : Gate) (c : Cell) (low : Bool), s.running = true →
    (s.pinControl = true → s.gateBall g.val = false ∧ s.bypBall c.val = false ∧ s.hbBall = false ∧
      s.soutBall n.val low = false) ∧
    (s.bit Reg.GPR_TRIPI n.val = true → s.bit Reg.GPR_TRIPI (8 + n.val) = false → Does (.tripInputAsserted n) s fun u =>
      u.bit Reg.GPR_TRIPI (8 + n.val) = true ∧ u.clusterPattern = true ∧ (∀ q < 96, (u.pair q).pend = none) ∧
      u.sys.hbOut = s.sys.hbOut ∧ u.devState = s.devState ∧ Raises s u [(0x0805, n.val, [n.val])] ∧
      KeepsRegs s u [Reg.GPR_TRIPI, Reg.GPR_FLAGS, Reg.GPR_BYPO] ∧ KeepsMem s u) ∧
    (s.bit Reg.GPR_TRIPI n.val = false → Does (.tripInputAsserted n) s fun u =>
      u.rf Reg.GPR_TRIPI 0 16 = s.rf Reg.GPR_TRIPI 0 16 ∧ Raises s u [] ∧ KeepsRegs s u [Reg.GPR_TRIPI] ∧ OnlyRegs s u) ∧
    (KeyPasses s src Reg.GPR_CLR → s.bit Reg.GPR_TRIPI (8 + n.val) = true →
      (∀ level : Bool, (level = false ∨ s.bit Reg.GPR_TRIPI n.val = false) →
        Does (.clearTrip src (BitVec.ofNat 8 n.val) level) s fun u => u.bit Reg.GPR_TRIPI (8 + n.val) = false ∧
          ClearAnswer s u 3 n.val 0 ∧ u.slot src = {} ∧ KeepsMem s u) ∧
      (s.bit Reg.GPR_TRIPI n.val = true →
        Does (.clearTrip src (BitVec.ofNat 8 n.val) true) s fun u => u.bit Reg.GPR_TRIPI (8 + n.val) = true ∧
        ClearAnswer s u 3 n.val 1 ∧ u.slot src = {} ∧ KeepsMem s u ∧ u.prot = s.prot)) ∧
    (s.compat = true → bitOf s.sys.tripO 1 = true → Does .tripO1PulseEnd s fun u => bitOf u.sys.tripO 1 = false ∧
      Raises s u [] ∧ ({ u with sys := s.sys, out := s.out } : State) = s) ∧
    ((s.compat = false ∨ bitOf s.sys.tripO 1 = false) → Leaves .tripO1PulseEnd s))

/-! ### The Vertex engines (chapter 6) -/

/-- R152, R159, R174: a window of a valid entry starts its segment on an idle engine of a device that runs its engines; an entry
without VALID, or a device whose engines are idle, starts nothing. R156, R176, R177, R178: a segment that is complete at the end
of its window commits: its bank flips and the cycles are shown. One that is not overruns: no bank flips, it is counted with
event 0x0501, and at OVR_LIM consecutive periods event 0x0505 and the cluster fault reaction follow. Stated for a segment that
queued nothing. -/
def Obligations.Windows : Prop :=
  (∀ (s : State) (e : Fin 64) (k j : Nat), s.running = true → k = s.slotEngine e.val → j = s.slotSeg e.val →
    (s.slotValid e.val = true → s.enginesRun = true → s.vtx.stopped.at k false = false → s.runOf k = none →
      (s.segment k j).isSome = true → Does (.slotWindowStart e) s fun u =>
        u.runOf k = some { entry := e.val, seg := j, mid := s.slotMid e.val } ∧ u.rf (Reg.VTX_STAT k) 0 2 = 2 ∧
        u.rf (Reg.VTX_STAT k) 2 3 = j ∧ (∀ k', k' ≠ k → u.runOf k' = s.runOf k') ∧ Raises s u [] ∧
        KeepsRegs s u [Reg.VTX_STAT k] ∧ OnlyRegsAnd s u fun u => { u with vtx.run := s.vtx.run }) ∧
    ((s.slotValid e.val = false ∨ s.enginesRun = false) → Leaves (.slotWindowStart e) s)) ∧
  (∀ (s : State) (e : Fin 64) (k n : Nat) (r : SegRun) (g : Segment), s.running = true → k = s.slotEngine e.val →
    s.runOf k = some r → r.entry = e.val → r.seg < 8 → r.queue = [] → s.segment k r.seg = some g →
    r.cycles + 16 < 4294967296 → n = s.overConsec k + 1 →
    (g.blocks.length ≤ r.blk → Does (.windowEnd e) s fun u =>
      u.liveBank k r.seg = (!s.liveBank k r.seg) ∧ (∀ j, j < 8 → j ≠ r.seg → u.liveBank k j = s.liveBank k j) ∧
      u.runOf k = none ∧ u.rf (Reg.VTX_STAT k) 0 2 = 1 ∧ u.rn (Reg.VTX_EXEC_LAST k r.seg) = r.cycles + 16 ∧
      u.rn (Reg.VTX_EXEC_MAX k r.seg) = max (s.rn (Reg.VTX_EXEC_MAX k r.seg)) (r.cycles + 16) ∧ Raises s u [] ∧
      KeepsRegs s u [Reg.VTX_STAT k, Reg.VTX_BSEL k, Reg.VTX_EXEC_LAST k r.seg, Reg.VTX_EXEC_MAX k r.seg] ∧ KeepsMem s u) ∧
    (r.blk < g.blocks.length → s.vtx.overs.at k false = false → n < s.rf (Reg.VTX_CFG k) 0 4 →
      Does (.windowEnd e) s fun u => u.rg (Reg.VTX_BSEL k) = s.rg (Reg.VTX_BSEL k) ∧ u.runOf k = none ∧
        u.overConsec k = n ∧ u.rn (Reg.VTX_OVR_CNT k) = min (s.rn (Reg.VTX_OVR_CNT k) + 1) 4294967295 ∧
        Raises s u [(0x0501, k, [k, r.seg, r.cycles, r.blk])] ∧ KeepsMem s u ∧
        KeepsRegs s u [Reg.VTX_STAT k, Reg.VTX_OVR_CNT k, Reg.VTX_FLAGS k, Reg.VTX_EXEC_LAST k r.seg,
          Reg.VTX_EXEC_MAX k r.seg]) ∧
    (r.blk < g.blocks.length → s.vtx.overs.at k false = false → n = s.rf (Reg.VTX_CFG k) 0 4 →
      s.bit Reg.GPR_PSTAT 0 = false → Does (.windowEnd e) s fun u =>
        u.rg (Reg.VTX_BSEL k) = s.rg (Reg.VTX_BSEL k) ∧ u.bit (Reg.VTX_FLAGS k) 4 = true ∧ u.bit Reg.GPR_PSTAT 0 = true ∧
        u.rf Reg.GPR_CLUINFO 0 8 = 2 ∧ u.halted = true ∧ KeepsMem s u))

/-- R153, R162, R165, R185: a block without mismatch, or with one recovered, writes its checked outputs to the bank that is not
live, leaves the live bank as it is, and the segment goes on; a recovered mismatch is counted with event 0x0503. A throttled
DEFER block only copies. Stated where no word of the memories holds spoilt check bits. -/
def Obligations.BlockExecutes : Prop :=
  ∀ (s : State) (k : Engine) (mismatch : Fin 3) (r : SegRun) (b : Block) (res : BRes), s.running = true →
    NextBlock s k.val r b → res = blockResult s k.val r b → FitsBank b res →
    ((b.defer = false ∨ s.bit Reg.THW_STAT 19 = false) → mismatch.val < 2 → s.memi.raw = [] → Does (.blockComplete k mismatch) s fun u =>
      (∃ q, u.runOf k.val = some { r with blk := r.blk + 1, cycles := r.cycles + (mismatch.val + 1) * blockCost b,
                                          queue := r.queue ++ q }) ∧
      (∀ i < res.outs.length, u.dataWord k.val (bankBase (!s.liveBank k.val r.seg) + b.outs + 4 * i) =
        (checkOut (res.outs.getD i { w := 0 })
          (s.dataWord k.val (bankBase (s.liveBank k.val r.seg) + b.outs + 4 * i))).1) ∧
      (∀ a, InLiveBank s k.val r.seg a → u.byte a = s.byte a) ∧ u.liveBank k.val r.seg = s.liveBank k.val r.seg ∧
      Raises s u (if mismatch.val = 1 then [(0x0503, k.val, [k.val, r.seg, r.blk])] else []) ∧
      KeepsRegs s u [Reg.VTX_NUMX k.val, Reg.VTX_FLAGS k.val, Reg.VTX_RES_CNT k.val]) ∧
    (b.defer = true → s.bit Reg.THW_STAT 19 = true → s.vtx.deferTold.at k.val false = true →
      Does (.blockComplete k mismatch) s fun u =>
        u.runOf k.val = some { r with blk := r.blk + 1, cycles := r.cycles + blockWords b } ∧
        u.bit (Reg.VTX_FLAGS k.val) 5 = true ∧ Raises s u [] ∧ KeepsRegs s u [Reg.VTX_FLAGS k.val])

/-- R166, R355: a mismatch in the recomputation (cause 1) and an uncorrectable word among what the block reads (cause 2) are
engine faults: the engine stops in FAULT without committing, with the segment and block recorded, and the cluster fault reaction
follows with the device halted. R160: a keyed DRY puts every engine of a halted device into dry-run and is refused with 0x25 on
any other. R226: HOLD keeps the GPR_IN words that stand until it is cleared. -/
def Obligations.EngineFaultsAndHold : Prop :=
  (∀ (s : State) (k : Engine) (r : SegRun) (b : Block) (mismatch : Fin 3), s.running = true → NextBlock s k.val r b →
    (b.defer = false ∨ s.bit Reg.THW_STAT 19 = false) → s.bit Reg.GPR_PSTAT 0 = false →
    (mismatch = 2 ∨ (s.readBlock k.val r b).2.isSome = true ∧ s.halted = false) →
    Does (.blockComplete k mismatch) s fun u =>
      u.runOf k.val = none ∧ u.rf (Reg.VTX_STAT k.val) 0 2 = 3 ∧ u.bit (Reg.VTX_FLAGS k.val) 3 = true ∧
      u.rn (Reg.VTX_FAULT_INFO k.val) =
        ((if mismatch = 2 then 1 else 2) + r.seg * 4 + r.blk % 2048 * 32) % 4294967296 ∧
      u.liveBank k.val r.seg = s.liveBank k.val r.seg ∧ u.bit Reg.GPR_PSTAT 0 = true ∧ u.rf Reg.GPR_CLUINFO 0 8 = 3 ∧
      u.halted = true ∧ u.sys.hbOut = false ∧ KeepsMem s u) ∧
  (∀ (s : State) (src : Src) (v : Word), s.onMain = true →
    (KeyPasses s src Reg.VTX_CTRL →
      (s.halted = true → s.dry = true → Does (.vtxDry src) s fun u => Raises s u [] ∧ ({ u with keys := s.keys } : State) = s) ∧
      (s.halted = true → s.dry = false → Does (.vtxDry src) s fun u =>
        (∀ k < 8, u.bit (Reg.VTX_STAT k) 5 = true ∧ u.rf (Reg.VTX_STAT k) 0 2 =
          (if s.rf (Reg.VTX_STAT k) 0 2 = 3 then 3 else if s.graphed k = true then 1 else 0)) ∧ u.enginesRun = true ∧
        u.bit Reg.VTX_CTRL 0 = true ∧ u.slot src = {} ∧ Raises s u [] ∧
        KeepsRegs s u (Reg.VTX_CTRL :: (List.range 8).map Reg.VTX_STAT) ∧
        OnlyRegsAnd s u fun u => { u with keys := s.keys }) ∧
      (s.halted = false → Does (.vtxDry src) s fun u => (∀ k < 8, u.rg (Reg.VTX_STAT k) = s.rg (Reg.VTX_STAT k)) ∧
        Raises s u [(0x0325, 0, [Reg.VTX_CTRL])])) ∧
    (Reaches s Reg.GPR_CTL →
      (fld v 0 1 = 1 → s.inp.held = none → Does (.gprHold src v) s fun u => u.bit Reg.GPR_CTL 0 = true ∧
        (∀ i < 64, u.gprWord i = s.rg (Reg.GPR_IN i)) ∧ (∀ i < 64, ∀ w, (u.wr (Reg.GPR_IN i) w).gprWord i = s.rg (Reg.GPR_IN i)) ∧
        u.slot src = {} ∧ Raises s u [] ∧ KeepsRegs s u [Reg.GPR_CTL] ∧
        OnlyRegsAnd s u fun u => { u with inp := s.inp, keys := s.keys }) ∧
      (fld v 0 1 = 0 → Does (.gprHold src v) s fun u => u.bit Reg.GPR_CTL 0 = false ∧
        (∀ i < 64, u.gprWord i = s.rg (Reg.GPR_IN i)) ∧ Raises s u [] ∧ KeepsRegs s u [Reg.GPR_CTL] ∧
        OnlyRegsAnd s u fun u => { u with inp := s.inp, keys := s.keys })))

/-- R145, R172: where group PERIOD enables it the mid-period latch takes a second set, with the boundary set as it stood, and
clears NEW; where it does not, a device without a trigger on the mid-period instant does nothing. R163, R161: an integer of at
most 24 bits becomes the binary32 of exactly its value. R269, R270, R272, R273, R274: the sort gives each available cell of a
group its position among that group's ranked set, by the metric and, where it is equal, the cell's number; positions run from 0
without repeats. -/
def Obligations.MeasurementSetAndStrata : Prop :=
  (∀ s : State, s.running = true → (∀ t < 16, s.rf (Reg.ADC_TRIG_SRC t) 0 6 ≠ 0x12) →
    (s.bit Reg.SLT_PCFG_L 0 = true → Does .midPeriodLatch s fun u => u.meas.midSet = s.measurementSet ∧
      u.meas.set = s.meas.set ∧ (∀ k < 8, ∀ n < 16, u.bit (Reg.ADC_RES k n) 16 = false ∧
        u.rf (Reg.ADC_RES k n) 0 16 = s.rf (Reg.ADC_RES k n) 0 16) ∧ Raises s u [] ∧
      (s.cfg.routes = [] → KeepsMem s u)) ∧
    (s.bit Reg.SLT_PCFG_L 0 = false → Leaves .midPeriodLatch s)) ∧
  (∀ i : Int, i.natAbs ≤ 2 ^ 24 → ∃ neg m e, Fl.ofWord (fOfInt i) = .fin neg m e ∧ -24 ≤ e ∧ scaled neg m e (-24) = i * 2 ^ 24) ∧
  ((∀ (s : State) (cycles : Nat) (k : Int), s.running = true →
    (s.ring.closed = none → Leaves (.strataSortDone cycles) s) ∧
    (s.ring.closed = some k → s.defaulted k = [] → cycles < 4294967296 → Does (.strataSortDone cycles) s fun u =>
      u.rn Reg.STR_SORT_T = max (s.rn Reg.STR_SORT_T) cycles ∧ u.ring.gov = s.ring.gov ∧
      (∃ res, u.ring.res = some res ∧ res.num = k ∧ (∀ r < 16, res.nav.getD r 0 = (s.rankedSet k r).length) ∧
        ∀ c < 24, ∀ r, s.groupOfCell (24 * s.node + c) = some r →
          res.pos.getD c none = rankIn (s.sortKeys k r) (24 * s.node + c)) ∧
      Raises s u [] ∧ KeepsRegs s u [Reg.STR_SORT_T] ∧ OnlyRegsAnd s u fun u => { u with ring := s.ring })) ∧
  ∀ (s : State) (k : Int) (r g h : Nat), g ∈ s.rankedSet k r → h ∈ s.rankedSet k r →
    ∃ p q, rankIn (s.sortKeys k r) g = some p ∧ rankIn (s.sortKeys k r) h = some q ∧ p < (s.rankedSet k r).length ∧
      (p = q ↔ g = h) ∧
      (p < q ↔ metricOf s k r g < metricOf s k r h ∨ metricOf s k r g = metricOf s k r h ∧ g < h))

/-! ### The ring, Strata and the boundary (chapters 6 and 9) -/

/-- R145, R171, R268, R275, R277, R278: a control period boundary opens the next period and latches the measurement set with NEW
cleared. With an image in force it closes the snapshot it filled, complete if every member's entry is held, and fills the next;
the snapshot before comes to govern unless a member declared it incomplete, which holds the present one with event 0x0603. -/
def Obligations.PeriodBoundary : Prop :=
  ∀ s : State, s.running = true → QuietBoundary s →
    (s.cfg.inForce = false → s.vtx.numeric = [] → s.timState = 0 → s.cfg.routes = [] → Does .controlPeriodBoundary s fun u =>
      u.tim.period = s.tim.period + 1 ∧ u.meas.set = s.measurementSet ∧ u.ring = s.ring ∧
      (∀ k < 8, ∀ n < 16, u.bit (Reg.ADC_RES k n) 16 = false ∧ u.rf (Reg.ADC_RES k n) 0 16 = s.rf (Reg.ADC_RES k n) 0 16) ∧
      Raises s u [] ∧ KeepsMem s u) ∧
    (s.cfg.inForce = true → s.ring.fill = some s.tim.period → ∀ need, need = nodesOf (s.membOf s.tim.period) →
      (Does .controlPeriodBoundary s fun u => u.ring.fill = some (s.tim.period + 1) ∧ u.ring.closed = some s.tim.period ∧
        u.ring.complete = need.all (s.entryHeld s.tim.period) ∧ u.rf Reg.RNG_SNAP 0 16 = unsigned 16 s.tim.period ∧
        u.bit Reg.RNG_SNAP 16 = need.all (s.entryHeld s.tim.period)) ∧
      (s.ring.closed = some (s.tim.period - 1) → s.ring.complete = true → s.ring.gap = false →
        (need.all (fun n => !(s.entryHeld s.tim.period n && s.headerFlag s.tim.period n 0)) = true →
          Does .controlPeriodBoundary s fun u => u.ring.gov.map Res.num = some (s.tim.period - 1) ∧
            u.bit Reg.RNG_STAT 5 = true) ∧
        (need.any (fun n => s.entryHeld s.tim.period n && s.headerFlag s.tim.period n 0) = true →
          Does .controlPeriodBoundary s fun u => u.ring.gov = s.ring.gov ∧ u.bit Reg.RNG_FLAGS 2 = true ∧
            u.rn Reg.RNG_HOLD_CNT = min (s.rn Reg.RNG_HOLD_CNT + 1) 4294967295)))

/-- R251, R254, R260, R261, R262: a stomped frame is counted and one with a bad CRC counted, flagged and reported by the first
0x0601 of the period; neither is entered, and a frame passed on has one hop less, stomped where its CRC is bad. The first valid
frame of a node for the present period becomes its entry; a differing later one is a conflict and leaves the entry. -/
def Obligations.PeriodFrames : Prop :=
  ∀ (s : State) (lane : Lane) (f : Frame) (n : Nat) (k : Int), s.running = true → s.receives lane.val = true → k = s.tim.period →
    ∀ c ∈ [Instr.periodFrameReceived lane f, Instr.partnerFrameReceived lane f],
    (f.stomped = true → Does c s fun u => u.rn Reg.RNG_STOMP = min (s.rn Reg.RNG_STOMP + 1) 4294967295 ∧ Raises s u [] ∧
      KeepsRegs s u [Reg.RNG_STOMP] ∧ OnlyRegsAnd s u fun u => { u with out := s.out, tim.setSeq := s.tim.setSeq }) ∧
    (f.stomped = false → frameOk f.payload = false → s.ring.toldCrc = false → Does c s fun u =>
      u.rn Reg.RNG_CRCERR = min (s.rn Reg.RNG_CRCERR + 1) 4294967295 ∧ u.bit Reg.RNG_FLAGS 0 = true ∧
      (c = .periodFrameReceived lane f → 1 < f.ttl.toNat → f.ttl.toNat ≤ 64 → s.laneUp (onward lane.val) = true →
        Sent u (onward lane.val) (.frame (passedOn f true))) ∧
      Raises s u [(0x0601, lane.val, [lane.val, payField f.payload 1 1 % 64])] ∧
      KeepsRegs s u [Reg.RNG_CRCERR, Reg.RNG_FLAGS] ∧ KeepsMem s u) ∧
    (f.stomped = false → FrameOf s f.payload n k → s.ring.fill = some k →
      (s.gctBit k 0x3400 n = false → Does c s fun u =>
        u.bytes (gctBase k + 0x3000 + 16 * n) 16 = f.payload.take 16 ∧
        u.bytes (gctBase k + 192 * n) 192 = (f.payload.drop 16).take 192 ∧ u.gctBit k 0x3400 n = true ∧
        (∀ a, ¬ EntryByte k n a → a ≠ gctBase k + 0x3400 + n / 8 → a ≠ gctBase (k - 1) + 0x3412 → u.byte a = s.byte a) ∧
        Raises s u [] ∧ KeepsRegs s u [Reg.RNG_LATMAX, Reg.RNG_SNAP]) ∧
      (s.gctBit k 0x3400 n = true → s.gctBit k 0x3408 n = false →
        s.bytes (gctBase k + 0x3000 + 16 * n) 16 ++ s.bytes (gctBase k + 192 * n) 192 ≠ f.payload.take 208 →
        Does c s fun u => u.gctBit k 0x3408 n = true ∧ u.bit Reg.RNG_FLAGS 9 = true ∧
          u.rn Reg.RNG_CONFL = min (s.rn Reg.RNG_CONFL + 1) 4294967295 ∧
          (∀ a, a ≠ gctBase k + 0x3408 + n / 8 → u.byte a = s.byte a) ∧ Raises s u [] ∧
          KeepsRegs s u [Reg.RNG_LATMAX, Reg.RNG_CONFL, Reg.RNG_FLAGS])) ∧
    (f.stomped = false → ∀ d : Nat, 0 < d → d < 0x8000 → FrameOf s f.payload n (k - d) → s.ring.toldLate = false → Does c s fun u =>
      u.rn Reg.RNG_LATE = min (s.rn Reg.RNG_LATE + 1) 4294967295 ∧ u.bit Reg.RNG_FLAGS 10 = true ∧
      Raises s u [(0x060d, 0, [n, s.sinceBoundary (k - d + 1)])] ∧
      KeepsRegs s u [Reg.RNG_LATE, Reg.RNG_FLAGS, Reg.RNG_LATMAX] ∧ KeepsMem s u)

/-- R252, R284: a set that reports a link of another node down enters it in the link map, shows the ring state, raises 0x0606
and goes out on the other ring lanes; a set this device originated itself does nothing. Stated where the direction of ring time
stays. R263, R264, R265, R266: a stack trip set latches, drives TRIP_O[0], raises 0x060A and is forwarded on the other ring
lanes; one whose third byte is wrong is ignored and one held from the past 1 ms discarded. A keyed TRIP originates one with
cause 3 and event 0x060B. TRIPCLR clears the latch, or is refused with 0x060E while a cause this device originated is present.
With ACT the cluster's fail-safe pattern is applied. R570: from READY a discovery set goes out on both ring lanes; one received
is recorded in GLB_DISC of its node, and a second device of the own role on the own node is a duplicate with event 0x1007. R282:
a digest that differs from node 0's raises 0x060C. -/
def Obligations.RingLinksTripsAndDiscovery : Prop :=
  (∀ (s : State) (lane far : Lane) (node : Node) (p : Nat), s.running = true → s.cfg.inForce = true →
    p = (if far.val < 2 then 0 else 1) →
    (node.val = s.node → ∀ up, Leaves (.ringStateSet lane node far up) s) ∧
    (node.val ≠ s.node → s.receives lane.val = true → s.ring.sets = [] → ∀ (up : Bool) (l : List (Nat × Nat)),
      l = (if up then s.ring.down.filter (· != (node.val, far.val)) else s.ring.down ++ [(node.val, far.val)]) →
      s.ring.down.contains (node.val, far.val) = up →
      ({ s with ring.down := l } : State).timeDirection.1 = s.tim.follow →
      Does (.ringStateSet lane node far up) s fun u => u.ring.down = l ∧ u.rf Reg.RNG_STAT 0 2 = ringStateOf l 0 s.nodes ∧
        u.bit Reg.RNG_FLAGS 5 = true ∧ (∀ n ∈ s.upLanes lane.val, Sent u n (.ringState node.val far.val up)) ∧
        Raises s u [(0x0606, p, [p, ringStateOf l p s.nodes, node.val, far.val])] ∧
        KeepsRegs s u [Reg.RNG_STAT, Reg.RNG_FLAGS] ∧ KeepsMem s u)) ∧
  (∀ (s : State) (src : Src) (lane : Lane) (d1 d2 : BitVec 8) (t : TripSet) (w : Nat), s.running = true →
    t = { node := Fin.ofNat 64 d1.toNat, role := bitOf d1.toNat 6, cause := Fin.ofNat 16 d2.toNat,
          seq := Fin.ofNat 16 (d2.toNat / 16) } →
    w = t.node.val + t.role.toNat * 64 + t.cause.val * 128 + t.seq.val * 2048 →
    (∀ d3, d3 ≠ d1 ^^^ d2 ^^^ 0xa5 → Leaves (.stackTripReceived lane d1 d2 d3) s) ∧
    (∀ n, (t, n) ∈ s.ring.trips → s.now < n + 312500 → s.receives lane.val = true → Does (.stackTripReceived lane d1 d2 (d1 ^^^ d2 ^^^ 0xa5)) s fun u =>
      Raises s u [] ∧ ({ u with ring.trips := s.ring.trips } : State) = s) ∧
    (s.bit Reg.RNG_TRIPCFG 3 = false →
      (s.ring.trips = [] → s.receives lane.val = true → Does (.stackTripReceived lane d1 d2 (d1 ^^^ d2 ^^^ 0xa5)) s fun u =>
        u.bit Reg.RNG_STAT 8 = true ∧ u.rn Reg.RNG_TRIP = w ∧ bitOf u.sys.tripO 0 = true ∧ u.ring.trips = [(t, s.now)] ∧
        (∀ n ∈ s.upLanes lane.val, Sent u n (.trip t)) ∧
        Raises s u [(0x060a, 0, [t.node.val, t.role.toNat, t.cause.val, t.seq.val])] ∧
        KeepsRegs s u [Reg.RNG_STAT, Reg.RNG_TRIP, Reg.RNG_FLAGS] ∧ KeepsMem s u) ∧
      (KeyPasses s src Reg.RNG_CTRL →
        (Does (.rngTrip src) s fun u => u.bit Reg.RNG_STAT 8 = true ∧ bitOf u.sys.tripO 0 = true ∧
          u.rf Reg.RNG_TRIP 7 4 = 3 ∧ u.rf Reg.RNG_TRIP 0 6 = s.node ∧ u.ring.tripSeq = (s.ring.tripSeq + 1) % 16 ∧
          u.slot src = {} ∧ Raises s u [(0x060b, 0, [3, s.ring.tripSeq % 16])] ∧
          KeepsRegs s u [Reg.RNG_STAT, Reg.RNG_TRIP, Reg.RNG_FLAGS] ∧ KeepsMem s u) ∧
        (∀ c, s.tripCausePresent = some c → Does (.rngTripclr src) s fun u => u.bit Reg.RNG_STAT 8 = s.bit Reg.RNG_STAT 8 ∧
          u.bit Reg.RNG_FLAGS 8 = true ∧ Raises s u [(0x060e, 0, [c])] ∧ KeepsRegs s u [Reg.RNG_FLAGS] ∧
          OnlyRegsAnd s u fun u => { u with keys := s.keys }) ∧
        (s.tripCausePresent = none → s.bit Reg.RNG_STAT 8 = true → Does (.rngTripclr src) s fun u =>
          u.bit Reg.RNG_STAT 8 = false ∧ bitOf u.sys.tripO 0 = false ∧ u.ring.originated = 0 ∧ Raises s u [] ∧
          KeepsRegs s u [Reg.RNG_STAT] ∧ KeepsMem s u))) ∧
    (s.bit Reg.RNG_TRIPCFG 3 = true → s.ring.trips = [] → s.receives lane.val = true →
      Does (.stackTripReceived lane d1 d2 (d1 ^^^ d2 ^^^ 0xa5)) s fun u => u.clusterPattern = true ∧
        u.devState = s.devState ∧ (∀ q < 96, (u.pair q).pend = none))) ∧
  (∀ (s : State) (lane : Lane) (d : Disc) (a : Nat), s.running = true → a = Reg.GLB_DISC d.node.val →
    (s.sys.ready = false → Leaves .discoverySend s) ∧
    (s.sys.ready = true → Does .discoverySend s fun u =>
      (∀ n ∈ [0, 1], s.laneUp n = true → ∃ e, Sent u n (.disc e) ∧ e.node.val = s.node ∧ e.role = s.role ∧
        e.state.toNat = s.devState ∧ e.rcd = s.rg Reg.RNG_RCD ∧ e.img.toNat = s.rf Reg.CFG_IMG_ID 0 16 ∧ e.ttl = 63) ∧
      ({ u with out := s.out } : State) = s) ∧
    (s.receives lane.val = true → s.ring.disc.at d.node.val none = none → d.node.val ≠ s.node → (d.node.val ≠ 0 ∨ s.cfg.inForce = false) →
      Does (.discoveryReceived lane d) s fun u => u.bit a 0 = true ∧ u.rf a 1 4 = d.state.toNat ∧ u.bit a 5 = s.bit a 5 ∧
        u.bit a 6 = (d.rcd == s.rg Reg.RNG_RCD) ∧ u.rf a 16 16 = d.img.toNat ∧ Raises s u [] ∧ KeepsRegs s u [a] ∧
        OnlyRegsAnd s u fun u => { u with ring := s.ring, out := s.out }) ∧
    (s.receives lane.val = true → d.node.val = s.node → d.role = s.role → s.bit a 5 = false → Does (.discoveryReceived lane d) s fun u =>
      u.bit a 5 = true ∧ Raises s u [(0x1007, 0, [s.node, s.role.toNat])] ∧ KeepsRegs s u [a]) ∧
    (s.receives lane.val = true → d.node.val = 0 → s.node ≠ 0 → s.cfg.inForce = true → d.role ≠ s.role → d.rcd ≠ s.rg Reg.RNG_RCD →
      s.ring.toldRcd = false → Does (.discoveryReceived lane d) s fun u => u.bit a 6 = false ∧
        Raises s u [(0x060c, 0, [s.rn Reg.RNG_RCD, d.rcd.toNat])] ∧ KeepsRegs s u [a]))

/-! ### The edge generator (chapter 10) -/

/-- R292, R294: a shadow write marks its pair dirty; a LOAD_ALL copies the shadow of every dirty pair of the named groups into
the pending stage, and nothing while no image is loaded; the pending set of a group closes for its next commit point. R289,
R293, R295: at a commit point the closed values of the group's pairs become live, reduced to the live NP with CLAMP; a boundary
counts the period, and a mid-period event commits only with CP set. Other groups keep theirs. -/
def Obligations.ChannelValuesAndCommit : Prop :=
  (∀ (s : State) (src : Src) (q : LegPair) (g : Group) (v : Word) (wid : Bool) (a : Nat), s.running = true →
    a = (if wid then Reg.PWM_WID q.val else Reg.PWM_ON q.val) →
    (Reaches s a → Does (.pwmShadowWrite src q wid v) s fun u => u.rg a = v ∧ (u.pair q.val).dirty = true ∧
      (∀ p, p ≠ q.val → u.pair p = s.pair p) ∧ u.slot src = {} ∧ Raises s u [] ∧ KeepsRegs s u [a] ∧
      OnlyRegsAnd s u fun u => { u with pwm.pairs := s.pwm.pairs, keys := s.keys }) ∧
    (Reaches s Reg.PWM_LOAD →
      (s.cfg.inForce = true → Does (.pwmLoad src v) s fun u =>
        (∀ p < 96, u.pair p = if bitOf v.toNat (s.groupOfPair p) && (s.pair p).dirty then
            { s.pair p with pending := some (s.rn (Reg.PWM_ON p), s.rn (Reg.PWM_WID p)), dirty := false,
                            fresh := (s.pair p).wait && s.pairState == 3 && s.par.warm != some s.tim.period }
          else s.pair p) ∧ u.slot src = {} ∧ Raises s u [] ∧ KeepsRegs s u [Reg.PWM_STAT] ∧
        OnlyRegsAnd s u fun u => { u with pwm.pairs := s.pwm.pairs, keys := s.keys }) ∧
      (s.cfg.inForce = false → Does (.pwmLoad src v) s fun u => Raises s u [] ∧ ({ u with keys := s.keys } : State) = s)) ∧
    (Does (.pendingSetClose g) s fun u =>
      (∀ p < 96, u.pair p = match (s.pair p).pending with
        | some w => if s.groupOfPair p = g.val then { s.pair p with shut := some w, pending := none } else s.pair p
        | none => s.pair p) ∧ u.pwm.closed.at g.val false = true ∧ Raises s u [] ∧
      ({ u with pwm.pairs := s.pwm.pairs, pwm.closed := s.pwm.closed } : State) = s)) ∧
  (∀ (s : State) (g : Group) (mid : Bool) (np : Nat), s.running = true → QuietGroup s g.val → np = s.npOf g.val → 0 < np →
    (mid = true → s.midCommit g.val = false → Leaves (.pwmGroupBoundary g mid) s) ∧
    ((mid = true → s.midCommit g.val = true) → Does (.pwmGroupBoundary g mid) s fun u =>
      (∀ q < 96, s.groupOfPair q = g.val → ∀ on wid,
        (on, wid) = ((s.pair q).shut.getD (s.rn (Reg.PWM_ON_L q), s.rn (Reg.PWM_WID_L q))) → on < 4294967296 → wid < 4294967296 →
        (u.pair q).shut = none ∧ u.rn (Reg.PWM_ON_L q) = on % np ∧ u.rn (Reg.PWM_WID_L q) = min wid np ∧
        (np ≤ on ∨ np < wid → u.bit Reg.PWM_FLAGS 6 = true)) ∧
      (∀ q < 96, s.groupOfPair q ≠ g.val → u.pair q = s.pair q ∧ u.rg (Reg.PWM_ON_L q) = s.rg (Reg.PWM_ON_L q) ∧
        u.rg (Reg.PWM_WID_L q) = s.rg (Reg.PWM_WID_L q)) ∧
      u.rf (Reg.PWM_GSTAT g.val) 8 24 = (s.rf (Reg.PWM_GSTAT g.val) 8 24 + if mid then 0 else 1) % 16777216 ∧
      Raises s u [] ∧ KeepsMem s u ∧ u.prot.gate = s.prot.gate))

/-- R299, R302: at a transition of u that passes the filter one switch turns off and the other's dead time starts; an interval
whose effective time falls short of M is removed under DROP, with event 0x0701 the first time, and its end delayed under
STRETCH, with 0x0702. At the end of a dead time its switch turns on. -/
def Obligations.DeadTimeAndMinimumPulse : Prop :=
  ∀ (s : State) (q : LegPair) (x dt : Nat) (v : Bool), s.running = true → dt = s.deadTime q.val v →
    (PlainTransition s q.val x v → 0 < dt →
      ((∀ e, s.endOf q.val x = some e → s.minPulse q.val + dt + x ≤ e) → Does (.commandTransition q x) s fun u =>
        (u.pair q.val).level = v ∧ (u.pair q.val).up = ((s.pair q.val).up && v) ∧
        (u.pair q.val).low = ((s.pair q.val).low && !v) ∧ (u.pair q.val).pend = some v ∧
        (u.pair q.val).pendAt = (x : Int) + dt ∧ (∀ p, p ≠ q.val → u.pair p = s.pair p) ∧ Raises s u [] ∧
        KeepsRegs s u [Reg.GPR_BYPO] ∧ KeepsMem s u) ∧
      (∀ e, s.endOf q.val x = some e → x < e → e < s.minPulse q.val + dt + x →
        (s.stretchMode q.val = false → (s.pair q.val).toldDrop = false → Does (.commandTransition q x) s fun u =>
          (u.pair q.val).drop = true ∧ (u.pair q.val).level = (s.pair q.val).level ∧ (u.pair q.val).up = (s.pair q.val).up ∧
          (u.pair q.val).low = (s.pair q.val).low ∧ u.bit Reg.PWM_FLAGS 0 = true ∧
          u.rf (Reg.PWM_MPCNT q.val) 0 16 = min (s.rf (Reg.PWM_MPCNT q.val) 0 16 + 1) 65535 ∧
          Raises s u [(0x0701, q.val, [q.val, v.toNat, e - x])] ∧ KeepsRegs s u [Reg.PWM_MPCNT q.val, Reg.PWM_FLAGS] ∧
          OnlyRegsAnd s u fun u => { u with pwm.pairs := s.pwm.pairs }) ∧
        (s.stretchMode q.val = true → (s.pair q.val).toldStretch = false → Does (.commandTransition q x) s fun u =>
          (u.pair q.val).carry = s.minPulse q.val + dt + x - e ∧ (u.pair q.val).level = v ∧
          u.bit Reg.PWM_FLAGS 1 = true ∧ Raises s u [(0x0702, q.val, [q.val, v.toNat, s.minPulse q.val + dt + x - e])] ∧
          KeepsRegs s u [Reg.PWM_MPCNT q.val, Reg.PWM_FLAGS, Reg.GPR_BYPO] ∧ KeepsMem s u))) ∧
    ((s.outEn = false ∨ s.pairEnabled q.val = false) → Leaves (.commandTransition q x) s) ∧
    (∀ up, (s.pair q.val).pend = some up → Does (.deadTimeExpiry q) s fun u => (u.pair q.val).pend = none ∧
      (u.pair q.val).up = (up || (s.pair q.val).up) ∧ (u.pair q.val).low = (!up || (s.pair q.val).low) ∧
      (s.padCmd (2 * q.val + if up then 0 else 1) = .gen false → u.gate (2 * q.val + if up then 0 else 1) = true) ∧
      (∀ p, p ≠ q.val → u.pair p = s.pair p) ∧ Raises s u [] ∧ KeepsRegs s u [Reg.GPR_BYPO] ∧ KeepsMem s u) ∧
    ((s.pair q.val).pend = none → Leaves (.deadTimeExpiry q) s)

/-- R299, R300: no step ever commands both switches of a leg pair on. -/
def Obligations.SwitchesStayApart : Prop :=
  ∀ s t : State, SwitchesApart s → Machine.step s = .next t → SwitchesApart t

/-- R307, R308: a high sample raises the adapted dead time by STEP and clears its clean count, up to its bound with event 0x0704
the first time; ADT_N low samples in a row lower it by STEP. A sample counts only while the generator's command holds the switch
on. R312, R313, R314, R315: a replica loop keeps its code, and one that reaches an end of its range raises 0x0706; a measurement
rewrites the tap of its fine position unless a transition has aborted it; a line older than AGE_MAX raises 0x0705 once. -/
def Obligations.AdaptedTiming : Prop :=
  (∀ (s : State) (g : Gate) (level : Bool) (q old clean step : Nat), s.running = true → q = g.val / 2 →
    old = (if g.val % 2 = 0 then (s.pair q).adtR else (s.pair q).adtF) → step = s.rf (Reg.PWM_ADT q) 16 8 →
    clean = (if g.val % 2 = 0 then (s.pair q).cleanR else (s.pair q).cleanF) →
    (s.adaptive q = true → s.padCmd g.val = .gen true →
      (old + step < (s.adtBounds q).2 → Does (.adtSample g true) s fun u => Adapted s u q g.val (old + step) 0 ∧ Raises s u [] ∧
        KeepsRegs s u [Reg.PWM_ADT_STAT q, Reg.PWM_ADT_CNT q, Reg.GPR_SWINFO g.val]) ∧
      ((s.adtBounds q).2 ≤ old + step → s.pwm.toldAdt.at (2 * q + g.val % 2) false = false → Does (.adtSample g true) s fun u =>
        Adapted s u q g.val (s.adtBounds q).2 0 ∧ u.bit Reg.PWM_FLAGS 3 = true ∧
        Raises s u [(0x0704, q, [q, g.val % 2, (s.adtBounds q).2])]) ∧
      (clean + 1 < s.rf (Reg.PWM_ADT q) 24 8 → Does (.adtSample g false) s fun u => Adapted s u q g.val old (clean + 1) ∧ Raises s u [] ∧
        KeepsRegs s u [Reg.PWM_ADT_STAT q, Reg.GPR_SWINFO g.val]) ∧
      (s.rf (Reg.PWM_ADT q) 24 8 ≤ clean + 1 → (s.adtBounds q).1 + step ≤ old → Does (.adtSample g false) s fun u =>
        Adapted s u q g.val (old - step) 0 ∧ Raises s u [])) ∧
    ((s.adaptive q = false ∨ s.padCmd g.val ≠ .gen true) → Does (.adtSample g level) s fun u => u.dsat g.val = level ∧
      u.pwm = s.pwm ∧ Raises s u [] ∧ KeepsRegs s u [Reg.GPR_SWINFO g.val] ∧ KeepsMem s u)) ∧
  (∀ (s : State) (loop : Fin 9) (line : Fin 200) (fine : Fin 64) (tap : Fin 80) (code : Nat), s.running = true →
    (Does (.replicaBiasUpdate loop code false) s fun u => u.pwm.bias.at loop.val 0 = code ∧
      u.bit Reg.PWM_CALSTAT loop.val = true ∧ u.pwm.out.at loop.val false = false ∧ Raises s u [] ∧
      KeepsRegs s u [Reg.PWM_CALSTAT] ∧ OnlyRegsAnd s u fun u => { u with pwm := s.pwm }) ∧
    (s.pwm.out.at loop.val false = false → s.pairState ≠ 3 → Does (.replicaBiasUpdate loop code true) s fun u =>
      u.bit Reg.PWM_CALSTAT loop.val = false ∧ u.pwm.out.at loop.val false = true ∧ u.bit Reg.PWM_FLAGS 5 = true ∧
      Raises s u [(0x0706, loop.val, [loop.val, code])] ∧ KeepsRegs s u [Reg.PWM_CALSTAT, Reg.PWM_FLAGS] ∧
      OnlyRegsAnd s u fun u => { u with pwm := s.pwm }) ∧
    (Does (.lineMeasurementStart line fine) s fun u => u.pwm.measuring.at line.val none = some fine.val ∧ Raises s u [] ∧
      ({ u with pwm.measuring := s.pwm.measuring } : State) = s) ∧
    (s.pwm.measuring.at line.val none = some fine.val → Does (.calMeasurementDone line tap) s fun u =>
      u.tapOf line.val fine.val = tap.val ∧ u.pwm.measuring.at line.val none = none ∧ Raises s u [] ∧
      ({ u with pwm := s.pwm } : State) = s) ∧
    (s.pwm.measuring.at line.val none = none → Leaves (.calMeasurementDone line tap) s) ∧
    (312500 * s.rf Reg.PWM_CALCFG 0 16 < s.lineTicks line.val → s.pwm.toldStale.at line.val false = false →
      Does (.lineAgeExceeded line) s fun u => u.bit Reg.PWM_FLAGS 4 = true ∧
        Raises s u [(0x0705, line.val, [line.val, s.lineTicks line.val / 312500])] ∧ KeepsRegs s u [Reg.PWM_FLAGS] ∧
        OnlyRegsAnd s u fun u => { u with pwm := s.pwm }) ∧
    (s.lineTicks line.val ≤ 312500 * s.rf Reg.PWM_CALCFG 0 16 → Leaves (.lineAgeExceeded line) s))

/-! ### Gate protection (chapter 11) -/

/-- R321, R326, R328, R331: a qualified fault latches its switch off with event 0x0801 while it was on and 0x0802 while it was
off, and leaves the generator and the other cells' switches; a second one of the cell within ESC_WIN is a cell fault, and the
CLU_K-th cell within CLU_WIN a cluster fault with 0x0804 behind it. A latched switch is not evaluated. -/
def Obligations.SwitchFaults : Prop :=
  ∀ (s : State) (g : Gate) (hard : Bool) (c : Nat) (e : Nat × Nat × List Nat), s.running = true → c = g.val / 8 →
    e = (if s.gate g.val then (0x0801, g.val, [g.val, hard.toNat, s.compat.toNat]) else (0x0802, g.val, [g.val])) →
    (s.evaluating = true → s.latched g.val = false →
      (s.prot.swAt.at c none = none → Does (.switchFaultQualified g hard) s fun u =>
        u.latched g.val = true ∧ u.gate g.val = false ∧ (∀ h < 192, h ≠ g.val → u.latched h = s.latched h) ∧
        (∀ h, h / 8 ≠ c → u.gate h = s.gate h) ∧ u.rf (Reg.GPR_SWINFO g.val) 0 2 = (if s.gate g.val then 1 else 2) ∧
        u.bit (Reg.GPR_SWINFO g.val) 2 = (hard && s.gate g.val) ∧ u.pwm = s.pwm ∧ Raises s u [e] ∧
        KeepsRegs s u [Reg.GPR_SWLAT (g.val / 32), Reg.GPR_SWINFO g.val, Reg.GPR_FLAGS, Reg.GPR_PSTAT, Reg.GPR_BYPO] ∧
        KeepsMem s u) ∧
      (∀ t g0, s.prot.swAt.at c none = some (t, g0) → s.now ≤ t + s.rf Reg.GPR_ESC_L 0 16 → s.cellFs c = false →
        (s.cellsInWindow c + 1 < s.rf Reg.GPR_ESC_L 16 5 → Does (.switchFaultQualified g hard) s fun u =>
          u.latched g.val = true ∧ u.cellFs c = true ∧ u.rf (Reg.GPR_CELLINFO c) 0 4 = 1 ∧
          (∀ i < 4, (u.pair (4 * c + i)).pend = none) ∧ u.devState = s.devState ∧ u.bit Reg.GPR_PSTAT 0 = s.bit Reg.GPR_PSTAT 0 ∧
          Raises s u [e, (0x0803, c, [c, 1, g0, g.val])] ∧ KeepsMem s u) ∧
        (s.rf Reg.GPR_ESC_L 16 5 ≤ s.cellsInWindow c + 1 → s.bit Reg.GPR_PSTAT 0 = false → s.bit Reg.RNG_TRIPCFG 0 = false →
          s.evt.batch = [] → Does (.switchFaultQualified g hard) s fun u =>
          u.cellFs c = true ∧ u.bit Reg.GPR_PSTAT 0 = true ∧ u.rf Reg.GPR_CLUINFO 0 4 = 1 ∧ u.halted = true ∧ u.pairState = 0 ∧
          u.sys.hbOut = false ∧ bitOf u.sys.tripO 1 = true ∧
          u.evt.batch.map (fun r => (r.ev.code, r.cluster.map Event.code)) = [(e.1, none), (0x0803, some 0x0804)]))) ∧
    ((s.evaluating = false ∨ s.latched g.val = true) → Leaves (.switchFaultQualified g hard) s)

/-- R339, R340, R341: an accepted bypass level shows in GPR_BYPFB; an opening behind a closure that is still commanded raises
0x0811, a closure without command of a switching cell is a cell fault with cause BYPASS behind 0x0812, and a bypass that has not
moved within T_CLOSE raises 0x0810. R343, R344, R345: keyed clears of a switch, a cell and the cluster latch, each answered in
GPR_CLR_STAT with event 0x0820, or refused with 0x0821 and its reason and nothing else changed. A cleared switch stays off, a
cleared cell's pairs hold their fail-safe command. -/
def Obligations.BypassAndClears : Prop :=
  (∀ (s : State) (c : Cell) (closed : Bool), s.running = true →
    (s.populated c.val = false → Does (.bypFbAccepted c closed) s fun u => u.bypClosed c.val = closed ∧
      bitOf u.prot.closedSince c.val = closed ∧ Raises s u [] ∧
      KeepsRegs s u [Reg.GPR_BYPFB] ∧ OnlyRegsAnd s u fun u => { u with prot.closedSince := s.prot.closedSince }) ∧
    (s.populated c.val = true →
      (bitOf s.prot.byp c.val = false → (closed = false ∨ s.switching c.val = false) → Does (.bypFbAccepted c closed) s fun u =>
        u.bypClosed c.val = closed ∧ bitOf u.prot.closedSince c.val = closed ∧ (closed = false → bitOf u.prot.waitOpen c.val = false) ∧
        Raises s u [] ∧ KeepsRegs s u [Reg.GPR_BYPFB] ∧
        OnlyRegsAnd s u fun u => { u with prot.closedSince := s.prot.closedSince, prot.waitOpen := s.prot.waitOpen }) ∧
      (bitOf s.prot.byp c.val = true → Does (.bypFbAccepted c true) s fun u => u.bypClosed c.val = true ∧ Raises s u [] ∧
        KeepsRegs s u [Reg.GPR_BYPFB] ∧ OnlyRegsAnd s u fun u => { u with prot := s.prot }) ∧
      (bitOf s.prot.byp c.val = true → bitOf s.prot.closedSince c.val = true → Does (.bypFbAccepted c false) s fun u =>
        u.bypClosed c.val = false ∧ u.bit Reg.GPR_FLAGS 6 = true ∧ u.cellFs c.val = s.cellFs c.val ∧
        bitOf u.prot.closedSince c.val = false ∧ Raises s u [(0x0811, c.val, [c.val])] ∧
        KeepsRegs s u [Reg.GPR_BYPFB, Reg.GPR_FLAGS] ∧
        OnlyRegsAnd s u fun u => { u with prot.closedSince := s.prot.closedSince, prot.waitOpen := s.prot.waitOpen }) ∧
      (bitOf s.prot.byp c.val = false → s.switching c.val = true → s.cellFs c.val = false →
        s.cellsInWindow c.val + 1 < s.rf Reg.GPR_ESC_L 16 5 → Does (.bypFbAccepted c true) s fun u =>
          u.bypClosed c.val = true ∧ u.cellFs c.val = true ∧ u.rf (Reg.GPR_CELLINFO c.val) 0 4 = 4 ∧
          Raises s u [(0x0812, c.val, [c.val]), (0x0803, c.val, [c.val, 4, 0, 0])] ∧ KeepsMem s u) ∧
      (bitOf s.prot.byp c.val = true → s.bypClosed c.val = false → Does (.bypassTcloseTimeout c) s fun u =>
        u.bit Reg.GPR_FLAGS 6 = true ∧ Raises s u [(0x0810, c.val, [c.val, 1])] ∧ KeepsRegs s u [Reg.GPR_FLAGS] ∧ OnlyRegs s u) ∧
      (bitOf s.prot.byp c.val = false → s.heldType c.val = true → s.bypClosed c.val = true →
        Does (.bypassTcloseTimeout c) s fun u => u.bit Reg.GPR_FLAGS 6 = true ∧ Raises s u [(0x0810, c.val, [c.val, 0])] ∧
          KeepsRegs s u [Reg.GPR_FLAGS] ∧ OnlyRegs s u)) ∧
    ((s.populated c.val = false ∨ s.bypClosed c.val = bitOf s.prot.byp c.val) → Leaves (.bypassTcloseTimeout c) s)) ∧
  (∀ (s : State) (src : Src) (g : BitVec 8) (c : BitVec 8) (dsat : Bool) (d : BitVec 8), KeyPasses s src Reg.GPR_CLR →
    (192 ≤ g.toNat → Does (.clearSwitch src g dsat) s fun u => ClearAnswer s u 0 g.toNat 5 ∧ u.slot src = {} ∧
      KeepsRegs s u [Reg.GPR_CLR_STAT, Reg.GPR_FLAGS] ∧ OnlyRegsAnd s u fun u => { u with keys := s.keys }) ∧
    (g.toNat < 192 →
      (Does (.clearSwitch src g true) s fun u => ClearAnswer s u 0 g.toNat 1 ∧ u.latched g.toNat = s.latched g.toNat ∧
        KeepsRegs s u [Reg.GPR_CLR_STAT, Reg.GPR_FLAGS, Reg.GPR_SWINFO g.toNat] ∧ u.prot.gate = s.prot.gate) ∧
      (s.latched g.toNat = false → Does (.clearSwitch src g false) s fun u => ClearAnswer s u 0 g.toNat 0 ∧
        KeepsRegs s u [Reg.GPR_CLR_STAT, Reg.GPR_SWINFO g.toNat] ∧ u.prot.gate = s.prot.gate) ∧
      (s.latched g.toNat = true → Does (.clearSwitch src g false) s fun u => ClearAnswer s u 0 g.toNat 0 ∧
        u.latched g.toNat = false ∧ (s.gate g.toNat = false → u.gate g.toNat = false) ∧
        (∀ h < 192, h ≠ g.toNat → u.latched h = s.latched h) ∧ KeepsMem s u)) ∧
    (24 ≤ c.toNat → Does (.clearCell src c d) s fun u => ClearAnswer s u 1 c.toNat 5) ∧
    (c.toNat < 24 → s.cellFs c.toNat = true →
      (∀ i < 8, s.latched (8 * c.toNat + i) = true → bitOf d.toNat i = true →
        Does (.clearCell src c d) s fun u => ClearAnswer s u 1 c.toNat 1 ∧ u.cellFs c.toNat = true) ∧
      (s.cellMeasBad c.toNat = false → s.bypClosed c.toNat = true → s.heldType c.toNat = false →
        Does (.clearCell src c 0) s fun u => ClearAnswer s u 1 c.toNat 2 ∧ u.cellFs c.toNat = true) ∧
      (s.cellMeasBad c.toNat = false → s.bypClosed c.toNat = false → bitOf s.prot.fsreq c.toNat = true →
        Does (.clearCell src c 0) s fun u => ClearAnswer s u 1 c.toNat 3 ∧ u.cellFs c.toNat = true) ∧
      (s.cellMeasBad c.toNat = false → s.bypClosed c.toNat = false → bitOf s.prot.fsreq c.toNat = false →
        Does (.clearCell src c 0) s fun u => ClearAnswer s u 1 c.toNat 0 ∧ u.cellFs c.toNat = false ∧
          (∀ i < 8, u.latched (8 * c.toNat + i) = false) ∧ (∀ i < 4, (u.pair (4 * c.toNat + i)).hold = true) ∧
          (∀ p < 24, p ≠ c.toNat → u.cellFs p = s.cellFs p) ∧ u.slot src = {} ∧ KeepsMem s u)) ∧
    (s.halted = false → Does (.clearCluster src) s fun u => ClearAnswer s u 2 0 4 ∧
      u.bit Reg.GPR_PSTAT 0 = s.bit Reg.GPR_PSTAT 0) ∧
    (s.halted = true → (∀ i < 8, bitOf s.prot.causes i = true → s.causePresent i = false) →
      (s.bit Reg.GPR_PSTAT 0 = false → Does (.clearCluster src) s fun u => ClearAnswer s u 2 0 0 ∧
        KeepsRegs s u [Reg.GPR_CLR_STAT] ∧ OnlyRegsAnd s u fun u => { u with keys := s.keys }) ∧
      (s.bit Reg.GPR_PSTAT 0 = true → bitOf s.thw.levels 3 = false →
        Does (.clearCluster src) s fun u => ClearAnswer s u 2 0 0 ∧ u.bit Reg.GPR_PSTAT 0 = false ∧
          bitOf u.sys.tripO 1 = false ∧ u.slot src = {} ∧ KeepsMem s u)))

/-! ### Flint (chapter 13) -/

/-- R368, R369, R372, R376, R383, R384: behind a cycle no function is in RUN that an input, a frame, a mismatch or a silent
network demands, SGI runs only with its request held, access is never permitted with SGI or SST energised, and an output is
energised only by its own function in RUN. A request takes effect at the cycle; a function without demand, with restart AUTO,
enters RUN with event 0x0910. R366, R371, R373: an accepted level shows in FLT_SIN; a pair whose channels have differed for
N_DISC cycles latches in that cycle and locks every function that uses it; a failed input test latches its pair with event
0x0902. -/
def Obligations.FunctionsAndInputs : Prop :=
  (∀ s : State, s.onMain = true →
    (s.flintRuns = false → Leaves .flintCycle s) ∧
    (s.flintRuns = true →
      (Does .flintCycle s fun u => (AccessInterlock s → AccessInterlock u) ∧
        (∀ f < 3, u.func f = 1 → NoDemand s f ∧ u.lockedBy f = false) ∧ (u.func 0 = 1 → u.bit Reg.FLT_STAT 2 = true) ∧
        (∀ n < 4, ∀ low, u.sout n low = true → ∃ f, s.ownerOf n = some f ∧ u.func f = 1) ∧ KeepsMem s u) ∧
      (s.flint.req = 1 → Does .flintCycle s fun u => u.bit Reg.FLT_STAT 2 = true ∧ u.flint.req = 0) ∧
      (s.flint.req = 2 → Does .flintCycle s fun u => u.bit Reg.FLT_STAT 2 = false ∧ u.func 0 ≠ 1) ∧
      (∀ d, s.flint.safe = some d → d.pairs = [] → d.frame = 0 → d.manual = 0 → d.enable = 2 → s.flint.req = 0 →
        s.flint.rst = false → s.flint.pulse = [] → s.flint.selftest = false → s.rn Reg.FLT_DISC = 0 →
        s.rf Reg.FLT_STAT 0 2 ≠ 3 → s.flint.kept = [] → (∀ n < 4, s.readbackFault n = false) →
        (∀ f < 3, s.func f = 0) → Does .flintCycle s fun u => u.func 1 = 1 ∧ u.func 0 = 0 ∧ u.func 2 = 0 ∧
          u.rn Reg.FLT_CYCLES = (s.rn Reg.FLT_CYCLES + 1) % 4294967296 ∧ Raises s u [(0x0910, 1, [1])]))) ∧
  (∀ (s : State) (n : Fin 8) (b level : Bool), s.onMain = true →
    (s.flint.held = true → Leaves (.sinLevelAccepted n b level) s) ∧
    (s.flint.held = false → Does (.sinLevelAccepted n b level) s fun u =>
      (if b then u.sinB n.val = level ∧ ∀ m < 8, u.sinA m = s.sinA m else u.sinA n.val = level ∧ ∀ m < 8, u.sinB m = s.sinB m) ∧
      Raises s u [] ∧ KeepsRegs s u [Reg.FLT_SIN] ∧ OnlyRegs s u) ∧
    (s.flintRuns = true → (s.sin n.val).role ≠ .unused →
      (s.flint.req = 0 → s.sinA n.val ≠ s.sinB n.val → s.flint.disagree.at n.val 0 + 1 = (s.sin n.val).tDisc →
        Does .flintCycle s fun u => u.bit Reg.FLT_DISC n.val = true ∧
          ∀ f < 3, s.pairServes n.val f = true → u.func f = 2) ∧
      (Does (.flintInputTest (BitVec.ofNat 8 (2 ^ n.val))) s fun u => u.bit Reg.FLT_DISC (8 + n.val) = true ∧
        u.flint.testBad.at n.val false = true ∧ Raises s u [(0x0902, n.val, [])] ∧
        KeepsRegs s u [Reg.FLT_DISC, Reg.FLT_STAT, Reg.FLT_LOG (s.rf Reg.FLT_STAT 4 4)]) ∧
      (Does (.flintInputTest 0) s fun u => Raises s u [] ∧ ({ u with flint.testBad := s.flint.testBad } : State) = s)))

/-- R380, R382, R383: a valid frame of the SAFE EtherType addressed to the port's station or to the SAFE multicast becomes its
network's last SEQ and ends its silence; an invalid one, or a fifth in a cycle, is counted and nothing else; other frames never
reach Flint. Silence withdraws every permit, and a frame without partner after T_SKEW is counted. R376, R377, R378: the eighth
mismatched comparison in a row is a readback fault: both switches off, the function LOCKED, event 0x0905. A test pulse turns the
tested switch of an output in RUN off and keeps the other on. -/
def Obligations.SafetyFramesAndOutputs : Prop :=
  (∀ (s : State) (net : Fin 2) (dst : BitVec 48) (e : BitVec 16) (p : List Byte) (seq : Nat), s.running = true →
    s.flintRuns = true → s.receives (4 + net.val) = true → seq = leNat ((p.drop 12).take 4) →
    (s.safeAddressed net.val dst.toNat = true ↔
      dst.toNat = s.station net.val ∨ s.safe.multicast.map BitVec.toNat = some dst.toNat) ∧
    (s.safeAddressed net.val dst.toNat = false → Leaves (.safetyFrame net dst e p) s) ∧
    (e ≠ s.safe.etherType → Leaves (.safetyFrame net dst e p) s) ∧
    (e = s.safe.etherType → s.safeAddressed net.val dst.toNat = true →
      ((4 ≤ s.flint.box.at net.val 0 ∨ s.pduOk net.val p = false) → Does (.safetyFrame net dst e p) s fun u =>
        u.rf Reg.FLT_FRMERR (16 * net.val) 16 = min (s.rf Reg.FLT_FRMERR (16 * net.val) 16 + 1) 65535 ∧
        u.flint.open' = s.flint.open' ∧ u.flint.dem = s.flint.dem ∧ Raises s u [] ∧ KeepsRegs s u [Reg.FLT_FRMERR]) ∧
      (s.flint.box.at net.val 0 < 4 → s.pduOk net.val p = true →
        (s.netAlive net.val = false ∨ (1 ≤ (seq + 4294967296 - s.rn (seqReg net.val)) % 4294967296 ∧
          (seq + 4294967296 - s.rn (seqReg net.val)) % 4294967296 ≤ 65535)) → Does (.safetyFrame net dst e p) s fun u =>
          u.rn (seqReg net.val) = seq ∧ u.netAlive net.val = true ∧
          (∀ f < 3, bitOf (leNat ((p.drop 9).take 1)) f = false → bitOf u.flint.dem f = true) ∧ Raises s u [] ∧
          KeepsRegs s u [seqReg net.val, Reg.FLT_NET])) ∧
    (Does (.networkSilence net) s fun u => u.netAlive net.val = false ∧ u.flint.perm = 0 ∧ u.flint.quiet = true ∧ Raises s u [] ∧
      KeepsRegs s u [Reg.FLT_NET] ∧ OnlyRegsAnd s u fun u => { u with flint := s.flint }) ∧
    (((s.flint.open'.at net.val []).all Unpaired.late = true) → Leaves (.unpairedFrameTimeout net) s) ∧
    (((s.flint.open'.at net.val []).all Unpaired.late = false) → Does (.unpairedFrameTimeout net) s fun u =>
      u.rf Reg.FLT_UNPAIRED 0 16 = min (s.rf Reg.FLT_UNPAIRED 0 16 + 1) 65535 ∧ Raises s u [] ∧
      KeepsRegs s u [Reg.FLT_UNPAIRED] ∧ OnlyRegsAnd s u fun u => { u with flint := s.flint })) ∧
  (∀ (s : State) (n : Fin 4) (low : Bool) (f : Nat), s.onMain = true → s.flintRuns = true → s.ownerOf n.val = some f → f < 3 →
    s.flint.pulse.at n.val none = none →
    (Does (.readbackCompare n low (s.sout n.val low) true) s fun u => u.flint.bad.at (2 * n.val + low.toNat) 0 = 0 ∧
      u.bit Reg.FLT_SOUT (8 + n.val + 4 * low.toNat) = s.sout n.val low ∧ Raises s u [] ∧ KeepsRegs s u [Reg.FLT_SOUT]) ∧
    (s.flint.bad.at (2 * n.val + low.toNat) 0 < 7 → Does (.readbackCompare n low (!s.sout n.val low) true) s fun u =>
      u.flint.bad.at (2 * n.val + low.toNat) 0 = s.flint.bad.at (2 * n.val + low.toNat) 0 + 1 ∧ Raises s u [] ∧
      KeepsRegs s u [Reg.FLT_SOUT]) ∧
    (s.flint.bad.at (2 * n.val + low.toNat) 0 = 7 → Does (.readbackCompare n low (!s.sout n.val low) true) s fun u =>
      u.readbackFault n.val = true ∧ u.func f = 2 ∧ u.rf Reg.FLT_FUNC (8 + 4 * f) 4 = 6 ∧ u.sout n.val false = false ∧
      u.sout n.val true = false ∧ Raises s u [(0x0905, n.val, [])]) ∧
    (s.func f = 1 → s.readbackFault n.val = false → s.flint.next.at n.val false = low → Does (.testPulseStart n) s fun u =>
      u.sout n.val low = false ∧ u.sout n.val (!low) = true ∧ u.rf Reg.FLT_TEST 0 2 = n.val ∧
      u.bit Reg.FLT_TEST 2 = low ∧ Raises s u [] ∧ KeepsRegs s u [Reg.FLT_TEST, Reg.FLT_SOUT]) ∧
    (s.func f ≠ 1 → Leaves (.testPulseStart n) s))

/-- R363, R366, R384, R395: a Flint reset clears the FLT block, the SGI request and the SAFE configuration, and runs the
diagnostics; a supply out of its window or an asserted reset holds Flint with every output off. A memory error or a failed
diagnostic locks every function with event 0x0906, the former behind 0x0C03 (R355), a watchdog expiry turns every output off
with 0x0907. R387: a keyed request waits in Flint for its next cycle boundary; one that FRESET asks for resets Flint there,
unless a function is in RUN, which is counted in REQREF with event 0x0915. A function locked by a readback or by 0x0906 stays
locked (R384), and behind a watchdog expiry FRESET is executed as well (R353). -/
def Obligations.FlintResetsAndRequests : Prop :=
  (∀ (s : State) (node : Node) (kind : Fin 3), s.onMain = true →
    (∀ p ∈ [(Instr.flintPowerOnReset true node, true), (.vddFlintOutOfWindow, true), (.flintPowerOnReset false node, false)],
      Does p.1 s fun u => u.flint.held = p.2 ∧ u.flint.selftest = !p.2 ∧ OutputsSafe u ∧ (∀ f < 3, u.func f = 0) ∧
        u.flint.safe = none ∧ u.bit Reg.FLT_STAT 2 = false ∧ (∀ i < 16, u.rn (Reg.FLT_LOG i) = 0) ∧
        (p.2 = false → u.flint.node = node.val) ∧ Raises s u [] ∧ KeepsMem s u) ∧
    (s.flint.held = false → s.flint.selftest = true →
      (Does (.flintSelftestComplete true) s fun u => u.flint.selftest = false ∧
        u.rf Reg.FLT_STAT 0 2 = (if s.rf Reg.FLT_STAT 0 2 = 3 then 3 else if s.flint.safe.isSome then 2 else 1) ∧ Raises s u [] ∧ KeepsRegs s u [Reg.FLT_STAT] ∧
        OnlyRegsAnd s u fun u => { u with flint := s.flint }) ∧
      (Does (.flintSelftestComplete false) s fun u => (∀ f < 3, u.func f = 2) ∧ OutputsSafe u ∧ Raises s u [(0x0906, 0, [])])) ∧
    (s.flintRuns = true →
      (∀ p ∈ [(Instr.flintMemoryError, [(0x0c03, 0, Config.flintErrorData s.free)]),
          (.flintDiagnosticStep kind false, if kind.val = 0 then [(0x0c03, 0, Config.flintErrorData s.free)] else [])],
        Does p.1 s fun u => (∀ f < 3, u.func f = 2) ∧ OutputsSafe u ∧ u.rf Reg.FLT_STAT 0 2 = 3 ∧
          Raises s u (p.2 ++ [(0x0906, 0, [])]) ∧ KeepsMem s u) ∧
      (Does (.flintDiagnosticStep kind true) s fun u => u.flint.diag.at kind.val 0 = s.flint.diag.at kind.val 0 + 1 ∧
        Raises s u [] ∧ ({ u with flint.diag := s.flint.diag } : State) = s) ∧
      (Does .flintWatchdogExpiry s fun u => u.bit Reg.FLT_STAT 3 = true ∧ u.flintRuns = false ∧ OutputsSafe u ∧
        (∀ f < 3, u.func f ≠ 1) ∧ Raises s u [(0x0907, 0, [])] ∧ KeepsMem s u))) ∧
  (∀ (s : State) (src : Src), s.flint.held = false → s.flint.req < 16 →
    (KeyPasses s src Reg.GLB_FLTREQ →
      ∀ p ∈ [(Instr.sgiSet src, 0), (.sgiClr src, 1), (.flintRstRequest src, 2), (.freset src, 3)], Does p.1 s fun u =>
        (∀ j < 4, bitOf u.flint.req j = (bitOf s.flint.req j || j == p.2)) ∧ u.slot src = {} ∧ Raises s u [] ∧
        ({ u with flint.req := s.flint.req, keys := s.keys } : State) = s) ∧
    (s.onMain = true → s.flintRuns = true → s.flint.req = 8 →
      ((∀ f < 3, s.func f ≠ 1) → Does .flintCycle s fun u => u.flint.selftest = true ∧ u.flint.safe = none ∧ OutputsSafe u ∧
        u.bit Reg.FLT_STAT 2 = false ∧ Raises s u [] ∧
        ∀ f < 3, s.func f = 2 → s.rf Reg.FLT_FUNC (8 + 4 * f) 4 = 6 ∨ s.rf Reg.FLT_FUNC (8 + 4 * f) 4 = 7 → u.func f = 2) ∧
      ((∃ f < 3, s.func f = 1) → Does .flintCycle s fun u => u.flint.req = 0 ∧
        u.rf Reg.FLT_STAT 8 8 = min (s.rf Reg.FLT_STAT 8 8 + 1) 255)) ∧
    (s.bit Reg.FLT_STAT 3 = true → s.flint.req = 8 → Does .flintCycle s fun u => u.flintRuns = true ∧
      u.flint.selftest = true ∧ u.flint.safe = none ∧ OutputsSafe u ∧ Raises s u []))

/-! ### Pair redundancy (chapter 14) -/

/-- R22, R28, R410, R418: HB_IN going dead or alive shows in PEER_HB; a takeover in progress is abandoned with event 0x0A09 when
it comes alive again. Two active heartbeats raise 0x0A03, and the device of role B becomes standby. A standby that loses its
partner raises 0x0A01 and, if eligible, enters TAKING with HB_OUT running and every pair held; a checkpoint that has arrived in
part leaves its buffer invalid (R407; its reason number is the model's choice). -/
def Obligations.PartnerLossAndDualActive : Prop :=
  ∀ s : State, s.running = true →
    (Does .heartbeatDead s fun u => u.bit Reg.PAR_STAT 2 = false ∧ u.par.deadSince = s.now ∧ Raises s u [] ∧
      KeepsRegs s u [Reg.PAR_STAT] ∧ OnlyRegsAnd s u fun u => { u with par := s.par }) ∧
    (s.pairState ≠ 2 → Does .heartbeatAlive s fun u => u.bit Reg.PAR_STAT 2 = true ∧ u.pairState = s.pairState ∧ Raises s u [] ∧
      KeepsRegs s u [Reg.PAR_STAT] ∧ OnlyRegs s u) ∧
    (s.pairState = 2 → Does .heartbeatAlive s fun u => u.bit Reg.PAR_STAT 2 = true ∧ u.pairState = 1 ∧ u.sys.hbOut = false ∧
      u.outEn = false ∧ u.bufValid 0 = false ∧ u.bufValid 1 = false ∧ (∃ l, Raises s u (l ++ [(0x0a09, 0, [])])) ∧ KeepsMem s u) ∧
    ((s.pairState ≠ 3 ∨ s.bit Reg.PAR_STAT 2 = false) → Leaves .dualActiveTimeout s) ∧
    (s.pairState = 3 → s.bit Reg.PAR_STAT 2 = true →
      (s.role = false → Does .dualActiveTimeout s fun u => u.pairState = 3 ∧ u.sys.hbOut = s.sys.hbOut ∧
        Raises s u [(0x0a03, 0, [0, 0])] ∧ KeepsRegs s u [Reg.PAR_FLAGS] ∧ OnlyRegs s u) ∧
      (s.role = true → Does .dualActiveTimeout s fun u => u.pairState = 1 ∧ u.sys.hbOut = false ∧ u.outEn = false ∧
        (∃ l, Raises s u ((0x0a03, 0, [1, 0]) :: l)) ∧ KeepsMem s u)) ∧
    (s.pairState ≠ 1 → Leaves .partnerLoss s) ∧
    (s.pairState = 1 →
      (∀ q, s.par.arriving = some q → Does .partnerLoss s fun u => u.par.arriving = none ∧ u.bufValid (q.toNat % 2) = false ∧
        u.bufCkpt (1 - q.toNat % 2) = s.bufCkpt (1 - q.toNat % 2) ∧ u.bit Reg.PAR_FLAGS 2 = true ∧
        u.bit Reg.PAR_FLAGS 0 = true ∧ (u.pairState = 1 ∨ u.pairState = 2) ∧
        (∃ l, Raises s u ((0x0a04, 0, [q.toNat % 2, q.toNat, 7]) :: l)) ∧ KeepsMem s u) ∧
      (s.par.arriving = none → bitOf s.healthBits 11 = true → Does .partnerLoss s fun u =>
        u.pairState = 2 ∧ u.sys.hbOut = true ∧ u.outEn = true ∧ (∀ q < 96, (u.pair q).hold = true ∧ (u.pair q).started = false) ∧
        u.par.lossAt = s.now ∧ u.rg Reg.PAR_TO_TS = s.tim.ts32 ∧ Raises s u [(0x0a01, 0, [1, s.rn Reg.PAR_CKPT_SEQ])] ∧ KeepsMem s u) ∧
      (s.par.arriving = none → bitOf s.healthBits 11 = false → s.bit Reg.PAR_STAT 4 = false → s.ckptOk = true →
        Does .partnerLoss s fun u => u.pairState = 1 ∧ u.sys.hbOut = s.sys.hbOut ∧ u.outEn = s.outEn ∧ u.pwm = s.pwm ∧
        Raises s u [(0x0a01, 0, [0, s.rn Reg.PAR_CKPT_SEQ])] ∧ KeepsRegs s u [Reg.PAR_FLAGS, Reg.PAR_TO_TS, Reg.PAR_STAT] ∧
        KeepsMem s u))

/-- R404, R406, R407, R408, R411: the staged checkpoint stands in its Geode buffer, its header first (R405), and goes out on L3.
A standby takes a valid checkpoint as its newest, an invalid one marks its buffer invalid with event 0x0A04, and the other
buffer keeps its own; the latch vector received last is kept. R497: with AUTO on L3 streaming waits for the partner's receive
lock. A taking device loads the newest checkpoint: live banks, PWM shadows marked dirty, latches, but no cluster latch. That the
command also tells of a part of a checkpoint is the model's choice. -/
def Obligations.Checkpoints : Prop :=
  ∀ (s : State) (c o : Ckpt) (b : Nat) (v : LatchVec), s.running = true → b = c.seq.toNat % 2 →
    (s.par.capture = none → Leaves .checkpointStagingDone s ∧ Leaves .checkpointSent s) ∧
    (s.par.capture = some c →
      (Does .checkpointStagingDone s fun u => u.bytes (geodeAt b) (ckptBytes c).length = ckptBytes c ∧
        (100 ≤ c.length.toNat → u.bytes (geodeAt b) 64 = ckptHeader c) ∧
        (s.mayStream = true → u.bit Reg.PAR_CKPT_STAT 3 = true ∧ u.par = s.par) ∧
        (s.mayStream = false → u.par.capture = none ∧ u.rg Reg.PAR_CKPT_STAT = s.rg Reg.PAR_CKPT_STAT) ∧
        (∀ a, a < geodeAt b ∨ geodeAt b + (ckptBytes c).length ≤ a → u.byte a = s.byte a) ∧ Raises s u [] ∧
        KeepsRegs s u [Reg.PAR_CKPT_STAT]) ∧
      (Does .checkpointSent s fun u => u.par.capture = none ∧ u.bit Reg.PAR_CKPT_STAT 3 = false ∧
        (s.partnerUp = true → Sent u 3 (.ckpt c)) ∧ Raises s u [] ∧ KeepsRegs s u [Reg.PAR_CKPT_STAT] ∧
        OnlyRegsAnd s u fun u => { u with par.capture := s.par.capture, out := s.out })) ∧
    (s.pairState ≠ 1 ∨ s.receives 3 = false → Leaves (.checkpointReceived c) s) ∧
    (s.pairState = 1 → s.receives 3 = true → c.part = true → Does (.checkpointReceived c) s fun u =>
      u.par.arriving = some c.seq ∧ u.bit Reg.PAR_CKPT_STAT 3 = true ∧ Raises s u [] ∧ KeepsRegs s u [Reg.PAR_CKPT_STAT] ∧
      OnlyRegsAnd s u fun u => { u with par.arriving := s.par.arriving }) ∧
    (s.pairState = 1 → s.receives 3 = true → c.part = false →
      (∀ r, s.ckptBad c = some r → Does (.checkpointReceived c) s fun u => u.bufValid b = false ∧ u.par.arriving = none ∧
        u.bufCkpt (1 - b) = s.bufCkpt (1 - b) ∧ u.bit Reg.PAR_FLAGS 2 = true ∧
        (∃ l, Raises s u ((0x0a04, 0, [b, c.seq.toNat, r]) :: l)) ∧ u.mtr = s.mtr) ∧
      (s.ckptBad c = none → Does (.checkpointReceived c) s fun u => u.bufCkpt b = some c ∧ u.newestCkpt = some c ∧
        u.bufCkpt (1 - b) = s.bufCkpt (1 - b) ∧ u.rg Reg.PAR_CKPT_SEQ = c.seq ∧ u.bit Reg.PAR_CKPT_STAT 3 = false ∧
        u.bytes (geodeAt b) (ckptBytes c).length = ckptBytes c ∧
        (c.final = true → u.par.loaded = true ∧ u.par.resumed = some c))) ∧
    ((s.pairState = 0 ∨ s.pairState = 3) → Leaves (.latchVectorReceived v) s) ∧
    ((s.pairState = 1 ∨ s.pairState = 2) → s.receives s.partnerLane = true → Does (.latchVectorReceived v) s fun u =>
      u.prot.vecRx = some v ∧ Raises s u [] ∧ ({ u with prot.vecRx := s.prot.vecRx } : State) = s) ∧
    (s.pairState ≠ 2 → Leaves .takeoverPrepareDone s) ∧
    (s.pairState = 2 → s.newestCkpt = some o → s.prot.vecRx = none → Does .takeoverPrepareDone s fun u =>
      u.par.prepared = true ∧ u.par.resumed = some o ∧
      (∀ q < 96, u.rg (Reg.PWM_ON q) = (o.pwm.getD q {}).on ∧ u.rg (Reg.PWM_WID q) = (o.pwm.getD q {}).wid ∧
        u.rg (Reg.PWM_DT q) = (o.pwm.getD q {}).dt ∧ u.rg (Reg.PWM_DT_L q) = (o.pwm.getD q {}).dt ∧
        (u.pair q).dirty = true ∧ (u.pair q).adtR = (o.pwm.getD q {}).adtR) ∧
      (∀ k < 8, u.rg (Reg.VTX_BSEL k) = (o.engines.getD k (0, [])).1) ∧
      (∀ i < 6, u.rg (Reg.GPR_SWLAT i) = o.swLatch.getD i 0) ∧ u.rg Reg.GPR_CELLFS = o.cellFs ∧
      u.bit Reg.GPR_PSTAT 0 = s.bit Reg.GPR_PSTAT 0 ∧ u.pairState = 2 ∧ Raises s u [])

/-- R400, R401, R402, R416: a health report shows the health word with its sequence number and goes to the partner; one received
is kept, and its LOADED names the handover period at least HO_LEAD ahead. A failed self-test item of a standby sets its bit, a
full rerun without failure clears it. A handover request is refused with 0x0A08 unless the device is active, its partner linked
and eligible, and is abandoned when LOADED does not come. -/
def Obligations.HealthAndHandover : Prop :=
  ∀ (s : State) (src : Src) (w : Word) (d : Word × Word) (l3 : Bool) (item : Fin 5) (p : Int), s.running = true →
    s.receives s.partnerLane = true →
    (s.pairState ≠ 1 → Does .healthReportSend s fun u => u.rf Reg.PAR_HLTH_OWN 0 13 = s.healthBits ∧
      u.rf Reg.PAR_HLTH_OWN 16 16 = s.par.hseq % 65536 ∧ u.par.hseq = (s.par.hseq + 1) % 65536 ∧
      u.bit Reg.PAR_STAT 4 = bitOf s.healthBits 11 ∧
      (s.partnerUp = true → Sent u s.partnerLane (.health (u.rg Reg.PAR_HLTH_OWN) s.ownDigest (s.bit (Reg.LAN_LSTAT 3) 1))) ∧
      Raises s u [] ∧
      KeepsRegs s u [Reg.PAR_HLTH_OWN, Reg.PAR_STAT] ∧ KeepsMem s u) ∧
    (s.pairState = 0 → Does (.healthReportReceived w (d, l3)) s fun u => u.rg Reg.PAR_HLTH_PEER = w ∧
      u.bit Reg.PAR_STAT 5 = (fld w 11 1 == 1) ∧ u.par.peerDigest = some d ∧ Raises s u [] ∧
      KeepsRegs s u [Reg.PAR_HLTH_PEER, Reg.PAR_STAT] ∧ KeepsMem s u) ∧
    (s.pairState = 3 → fld w 0 1 = 1 → s.par.dual = false → s.role = false → s.bit Reg.PAR_STAT 6 = false →
      Does (.healthReportReceived w (d, l3)) s fun u => u.pairState = 3 ∧ u.par.l3Seen = (s.par.l3Seen || l3) ∧ Raises s u [(0x0a03, 0, [0, 1])]) ∧
    (s.pairState = 3 → fld w 0 1 = 0 → fld w 12 1 = 1 → s.bit Reg.PAR_STAT 6 = true → s.par.finalDue = false →
      s.par.hoPeriod = none → Does (.healthReportReceived w (d, l3)) s fun u =>
        u.par.hoPeriod = some (s.tim.period + s.rf Reg.PAR_HOCFG 16 8) ∧ u.pairState = 3 ∧
        Sent u s.partnerLane (.handover (s.tim.period + s.rf Reg.PAR_HOCFG 16 8)) ∧ Raises s u []) ∧
    (s.pairState ≠ 1 → Leaves (.selftestStep item true true) s) ∧
    (s.pairState = 1 → (item.val = 3 → s.bit Reg.PAR_STAT 2 = true ∧ s.sys.hbOut = false) →
      (Does (.selftestStep item false false) s fun u => u.bit Reg.PAR_ST_FAIL item.val = true ∧ u.bit Reg.PAR_STAT 4 = false) ∧
      (bitOf s.par.stBad item.val = false → (item.val = 2 → s.par.laneLost = 0) → Does (.selftestStep item true true) s fun u =>
        u.bit Reg.PAR_ST_FAIL item.val = false)) ∧
    (KeyPasses s src Reg.PAR_CTRL →
      (HandoverAsked s → Does (.parHandover src) s fun u => u.bit Reg.PAR_STAT 6 = true ∧ u.par.finalDue = true ∧
        u.par.hoSince = some s.now ∧ u.slot src = {} ∧ Raises s u [(0x0a07, 0, [0])] ∧ KeepsRegs s u [Reg.PAR_STAT] ∧
        OnlyRegsAnd s u fun u => { u with par := s.par, keys := s.keys }) ∧
      (∀ r, (s.pairState ≠ 3 ∧ r = 4) ∨ (s.pairState = 3 ∧ s.partnerUp = false ∧ r = 1) ∨
          (s.pairState = 3 ∧ s.partnerUp = true ∧ s.bit Reg.PAR_HLTH_PEER 11 = false ∧ r = 2) →
        Does (.parHandover src) s fun u => u.par = s.par ∧ u.bit Reg.PAR_FLAGS 5 = true ∧ Raises s u [(0x0a08, 0, [r])] ∧
          KeepsRegs s u [Reg.PAR_FLAGS])) ∧
    (s.pairState = 3 → s.bit Reg.PAR_STAT 6 = true → s.par.hoPeriod = none → Does .handoverTimeout s fun u =>
      u.bit Reg.PAR_STAT 6 = false ∧ u.par.finalDue = false ∧ u.pairState = 3 ∧ Raises s u [(0x0a08, 0, [3])] ∧
      KeepsRegs s u [Reg.PAR_STAT, Reg.PAR_FLAGS] ∧ OnlyRegsAnd s u fun u => { u with par := s.par }) ∧
    (s.bit Reg.PAR_STAT 6 = false → Leaves .handoverTimeout s) ∧
    (s.pairState = 1 → s.par.loaded = true → Does (.handoverMessageReceived p) s fun u => u.par.hoPeriod = some p ∧ Raises s u [] ∧
      ({ u with par.hoPeriod := s.par.hoPeriod } : State) = s) ∧
    (s.par.loaded = false → Leaves (.handoverMessageReceived p) s)

/-! ### Metering (chapter 15) -/

/-- R424, R425, R426, R427, R430, R444: an enabled point adds the energy of a sample to the import or the export side by its own
sign, modulo 2⁶⁴ J/256 with wraps counted; a sample whose instant a commit of its scales does not precede takes those it
replaced (R445); a sample with an invalid input sets GAP and is not taken; the REV_N-th sample against the confirmed sign
records a reversal at the instant of the first; a point named by MTR_SNAP latches its registers after the sample. R429, R431,
R432, R434: an interval end closes the interval registers into a record on HQ2 and clears them; where a sample of the interval
may still come, the record waits for the first sample behind it (the model's choice); a report window's end writes mean, RMS and
active power of each pair together, AC RMS as the mean over line cycles; an absent crossing is told once with event 0x0B01. -/
def Obligations.EnergyAndIntervals : Prop :=
  (∀ (s : State) (k : Point) (a t t0 : Nat) (l : List Word) (src : Src) (v : Word), s.running = true → t = s.meterInstant k a →
    (s.bit (Reg.MTR_PCFG k) 0 = false → Leaves (.meterSample k a) s) ∧
    (s.bit (Reg.MTR_PCFG k) 0 = true → s.cfg.pend = [] → (s.point k).snap = false → InOpenInterval s k t →
      (s.point k).scales = [] → (∃ p < s.pairsOf k, s.codesOk k p = false) → Does (.meterSample k a) s fun u =>
        u.point k = { s.point k with gap := true } ∧ u.bit Reg.MTR_FLAGS 0 = true ∧ Raises s u [] ∧
        KeepsRegs s u [Reg.MTR_FLAGS] ∧ OnlyRegsAnd s u fun u => { u with mtr := s.mtr }) ∧
    (Samples s k t0 → InOpenInterval s k t → (∀ n < 4, s.bit (Reg.MTR_MPO_CFG n) 0 = false) →
      (0 < ((s.setScales k l).pointPower k).m → (∃ x ∈ (s.point k).scales, t ≤ x.1 ∧ (s.point k).scales = [(x.1, l)]) → Does (.meterSample k a) s fun u =>
        (u.point k).eimp = ((s.point k).eimp + sampleEnergy (s.setScales k l) k t t0) % 2 ^ 96 ∧
        (u.point k).scales = (s.point k).scales ∧ ∀ p ∈ s.membersOf 7 k, u.rg p.2 = s.rg p.2)) ∧
    (Samples s k t0 → InOpenInterval s k t → (s.point k).scales = [] → (∀ n < 4, s.bit (Reg.MTR_MPO_CFG n) 0 = false) →
      ((s.pointPower k).m = 0 → Does (.meterSample k a) s fun u => (u.point k).last = some t ∧
        (u.point k).eimp = (s.point k).eimp ∧ (u.point k).eexp = (s.point k).eexp ∧ (u.point k).iimp = (s.point k).iimp ∧
        (u.point k).iexp = (s.point k).iexp ∧ (u.point k).run = (s.point k).run ∧ Raises s u []) ∧
      (0 < (s.pointPower k).m → Does (.meterSample k a) s fun u => (u.point k).last = some t ∧
        (u.point k).eimp = ((s.point k).eimp + sampleEnergy s k t t0) % 2 ^ 96 ∧
        (u.point k).wrapI = ((s.point k).wrapI + ((s.point k).eimp + sampleEnergy s k t t0) / 2 ^ 96) % 65536 ∧
        (u.point k).iimp = ((s.point k).iimp + sampleEnergy s k t t0) % 2 ^ 96 ∧
        (u.point k).eexp = (s.point k).eexp ∧ (u.point k).iexp = (s.point k).iexp ∧ (u.point k).wrapE = (s.point k).wrapE ∧
        (∀ j, j ≠ k.val → u.point j = s.point j) ∧ KeepsMem s u) ∧
      ((s.pointPower k).m < 0 → Does (.meterSample k a) s fun u => (u.point k).last = some t ∧
        (u.point k).eexp = ((s.point k).eexp + sampleEnergy s k t t0) % 2 ^ 96 ∧
        (u.point k).wrapE = ((s.point k).wrapE + ((s.point k).eexp + sampleEnergy s k t t0) / 2 ^ 96) % 65536 ∧
        (u.point k).iexp = ((s.point k).iexp + sampleEnergy s k t t0) % 2 ^ 96 ∧
        (u.point k).eimp = (s.point k).eimp ∧ (u.point k).iimp = (s.point k).iimp ∧ (u.point k).wrapI = (s.point k).wrapI ∧
        (∀ j, j ≠ k.val → u.point j = s.point j) ∧ KeepsMem s u) ∧
      ((s.pointPower k).m < 0 → (s.point k).run = 0 → (s.point k).sign ≠ -1 → 1 < s.rf (Reg.MTR_REV k) 0 16 →
        Does (.meterSample k a) s fun u => (u.point k).run = 1 ∧ (u.point k).runSign = -1 ∧ (u.point k).runAt = t ∧
          (u.point k).sign = (s.point k).sign ∧ Raises s u []) ∧
      ((s.pointPower k).m < 0 → (s.point k).sign = 1 → 0 < (s.point k).run → (s.point k).runSign = -1 →
        ((s.point k).run + 1 < s.rf (Reg.MTR_REV k) 0 16 → Does (.meterSample k a) s fun u =>
          (u.point k).run = (s.point k).run + 1 ∧ (u.point k).sign = 1 ∧ Raises s u []) ∧
        ((s.point k).run + 1 = s.rf (Reg.MTR_REV k) 0 16 → Does (.meterSample k a) s fun u =>
          (u.point k).run = 0 ∧ (u.point k).sign = -1 ∧ (u.point k).revs = (s.point k).revs + 1 ∧
          (u.point k).revTs = BitVec.ofNat 32 (ts32At (s.point k).runAt) ∧ u.bit Reg.MTR_FLAGS 6 = true ∧
          Raises s u [(0x0b10, k, [k, 0xffffffff, ts32At (s.point k).runAt])]))) ∧
    (s.bit (Reg.MTR_PCFG k) 0 = true → s.cfg.pend = [] → (s.point k).snap = true → Does (.meterSample k a) s fun u =>
      (u.point k).snap = false ∧ u.rg (Reg.MTR_EIMP_LO k) = BitVec.ofNat 32 ((u.point k).eimp / 2 ^ 32) ∧
      u.rg (Reg.MTR_EIMP_HI k) = BitVec.ofNat 32 ((u.point k).eimp / 2 ^ 64) ∧
      u.rg (Reg.MTR_EEXP_LO k) = BitVec.ofNat 32 ((u.point k).eexp / 2 ^ 32) ∧
      u.rg (Reg.MTR_EWRAP k) = BitVec.ofNat 32 ((u.point k).wrapI + (u.point k).wrapE * 65536) ∧
      u.rg (Reg.MTR_SNAP_TS k) = BitVec.ofNat 32 (ts32At t)) ∧
    (Reaches s Reg.MTR_SNAP → Does (.mtrSnap src v) s fun u =>
      (∀ j < 4, u.point j = { s.point j with snap := (s.point j).snap || bitOf v.toNat j }) ∧ u.slot src = {} ∧ Raises s u [] ∧
      KeepsRegs s u [] ∧ OnlyRegsAnd s u fun u => { u with mtr := s.mtr, keys := s.keys })) ∧
  (∀ (s : State) (k : Point) (a b : Nat), s.running = true →
    (s.bit (Reg.MTR_PCFG k) 0 = false →
      Leaves (.meterIntervalEnd k) s ∧ Leaves (.reportWindowEnd k) s ∧ Leaves (.zeroCrossingAbsent k) s) ∧
    (s.bit (Reg.MTR_PCFG k) 0 = true →
      (b = s.intervalAt k s.tim.s → (s.point k).ivl.any (fun i => decide (b ≤ i)) = true → Leaves (.meterIntervalEnd k) s) ∧
      (b = s.intervalAt k s.tim.s → (s.point k).ivl.any (fun i => decide (b ≤ i)) = false → (s.point k).due = false →
        (s.sampleDue k = true → Does (.meterIntervalEnd k) s fun u => u.point k = { s.point k with due := true } ∧
          Raises s u [] ∧ OnlyRegsAnd s u (fun u => { u with mtr := s.mtr }) ∧ KeepsRegs s u []) ∧
        (s.sampleDue k = false → bufEntries (s.hq.buf.at 2 []) ≤ 253 → Does (.meterIntervalEnd k) s fun u =>
          Closed s u k b ∧ u.point k = closedPoint s k b ∧ Raises s u [] ∧
          (∀ j, j ≠ k.val → u.point j = s.point j) ∧ KeepsRegs s u [] ∧ KeepsMem s u)) ∧
      (b = s.intervalAt k (s.meterInstant k a / 20000000000) → (∃ i < b, (s.point k).ivl = some i) →
        bufEntries (s.hq.buf.at 2 []) ≤ 253 → (∃ p < s.pairsOf k, s.codesOk k p = false) → s.cfg.pend = [] →
        (s.point k).scales = [] → (s.point k).snap = false → Does (.meterSample k a) s fun u =>
          Closed s u k b ∧ u.point k = { closedPoint s k b with gap := true } ∧ Raises s u [] ∧ KeepsMem s u) ∧
      (∀ d q0, d = Dy.ofInt (s.point k).dt → q0 = (s.point k).pairs.getD 0 {} → Does (.reportWindowEnd k) s fun u =>
        (∀ j q, j < s.pairsOf k → q = (s.point k).pairs.getD j {} → 0 < (s.point k).dt →
          u.rg (Reg.MTR_VMEAN k j) = dyDiv q.sv d ∧ u.rg (Reg.MTR_IMEAN k j) = dyDiv q.si d ∧
          u.rg (Reg.MTR_P k j) = dyDiv q.sp d ∧
          ((s.bit (Reg.MTR_PCFG k) 1 = false ∨ (s.point k).absent = true) →
            u.rg (Reg.MTR_VRMS k j) = dySqrtDiv q.svv d ∧ u.rg (Reg.MTR_IRMS k j) = dySqrtDiv q.sii d) ∧
          (s.bit (Reg.MTR_PCFG k) 1 = true → (s.point k).absent = false → 0 < q.cycles →
            u.rg (Reg.MTR_VRMS k j) = dyDiv q.rv (Dy.ofInt q.cycles) ∧
            u.rg (Reg.MTR_IRMS k j) = dyDiv q.ri (Dy.ofInt q.cycles))) ∧
        (s.bit (Reg.MTR_PCFG k) 1 = true → (s.point k).absent = false → 0 < q0.cycles →
          u.rg (Reg.MTR_FREQ k) = roundF false (q0.cycles * 20000000000) q0.len.toNat 32 ∧
          u.bit (Reg.MTR_QSTAT k) 0 = true) ∧
        (s.bit (Reg.MTR_PCFG k) 1 = false → u.rg (Reg.MTR_FREQ k) = 0 ∧ u.rn (Reg.MTR_QSTAT k) = 4) ∧
        (u.point k).dt = 0 ∧ (u.point k).eimp = (s.point k).eimp ∧ (u.point k).eexp = (s.point k).eexp ∧ Raises s u [] ∧
        KeepsMem s u ∧ OnlyRegsAnd s u fun u => { u with mtr := s.mtr, free := s.free }) ∧
      ((s.bit (Reg.MTR_PCFG k) 1 = false ∨ (s.point k).absent = true) → Leaves (.zeroCrossingAbsent k) s) ∧
      (s.bit (Reg.MTR_PCFG k) 1 = true → (s.point k).absent = false → Does (.zeroCrossingAbsent k) s fun u =>
        (u.point k).absent = true ∧ u.rg (Reg.MTR_FREQ k) = 0 ∧ u.rf (Reg.MTR_QSTAT k) 0 2 = 0 ∧
        u.bit Reg.MTR_STAT (4 + k) = false ∧ Raises s u [(0x0b01, k, [k])] ∧
        KeepsRegs s u [Reg.MTR_STAT, Reg.MTR_FLAGS, Reg.MTR_FREQ k, Reg.MTR_QSTAT k] ∧
        OnlyRegsAnd s u fun u => { u with mtr := s.mtr })))

/-- R437, R438: pulses fall due by the weight; each enters the backlog, saturating with one event 0x0B02, and the output emits
one after another, a low interval of its width behind each; a due pulse never changes the one being emitted. R439, R440: an
enabled pulse input counts transitions to its active level; at a check window's end the deviation beyond 2·W + TOL·E_int raises
0x0B03 and sets CHK, and a window that holds a restore is not judged. R435: at the end of an MF period the cell's IMF RMS and
link power are those of its samples, V set; without VALID of the IMF channel the last values stand with V clear. -/
def Obligations.PulsesAndLinkQuantities : Prop :=
  (∀ (s : State) (k : Point) (n : Fin 4) (a t t0 m : Nat), s.running = true → t = s.meterInstant k a →
    (Samples s k t0 → InOpenInterval s k t → (s.point k).scales = [] → PulsesOnly s n → 0 < (s.pointPower k).m → s.bit (Reg.MTR_MPO_CFG n) 0 = true →
      s.rf (Reg.MTR_MPO_CFG n) 1 2 = k → s.bit (Reg.MTR_MPO_CFG n) 3 = false → 0 < s.rn (Reg.MTR_MPO_W n) →
      m = ((s.mpo n).acc + sampleEnergy s k t t0) / (s.rn (Reg.MTR_MPO_W n) * 2 ^ 40) →
      Does (.meterSample k a) s fun u =>
        (u.mpo n).acc = ((s.mpo n).acc + sampleEnergy s k t t0) % (s.rn (Reg.MTR_MPO_W n) * 2 ^ 40) ∧
        ((s.mpo n).pulse.isSome = true → (u.mpo n).pulse = (s.mpo n).pulse ∧ (u.mpo n).count = (s.mpo n).count ∧
          (0 < m → (u.mpo n).backlog = min ((s.mpo n).backlog + m) 65535 ∧
            (65535 < (s.mpo n).backlog + m → u.bit Reg.MTR_FLAGS 2 = true ∧ u.bit (Reg.MTR_MPO_BKLG n) 16 = true ∧
              (s.bit (Reg.MTR_MPO_BKLG n) 16 = false → ∃ l, Raises s u ((0x0b02, n, [n]) :: l))))) ∧
        ((s.mpo n).pulse = none → 0 < m → (s.mpo n).backlog + m ≤ 65535 →
          (u.mpo n).backlog = (s.mpo n).backlog + m - 1 ∧ (u.mpo n).count = ((s.mpo n).count + 1) % 4294967296 ∧
          (2 ≤ m → (u.mpo n).pulse = some (min 10000000 (s.rf (Reg.MTR_MPO_CFG n) 8 8 * 20000000), true)) ∧
          Out.pin (.mpo n) (!s.bit (Reg.MTR_MPO_CFG n) 4) ∈ u.out)) ∧
    ((s.mpo n).pulse = none → Leaves (.mpoPulseEnd n) s) ∧
    (∀ w, (s.mpo n).pulse = some (w, true) → Does (.mpoPulseEnd n) s fun u =>
      (u.mpo n).pulse = some (w, false) ∧ (u.mpo n).backlog = (s.mpo n).backlog ∧ (u.mpo n).count = (s.mpo n).count ∧
      Out.pin (.mpo n) (s.bit (Reg.MTR_MPO_CFG n) 4) ∈ u.out ∧ Raises s u [] ∧ KeepsRegs s u [Reg.MTR_MPO_BKLG n] ∧
      u.mtr.points = s.mtr.points) ∧
    (∀ w, (s.mpo n).pulse = some (w, false) → Does (.mpoPulseEnd n) s fun u => Raises s u [] ∧
      (((s.mpo n).backlog = 0 ∨ s.bit (Reg.MTR_MPO_CFG n) 0 = false) → (u.mpo n).pulse = none ∧
        (u.mpo n).backlog = (s.mpo n).backlog ∧ u.out = s.out) ∧
      (0 < (s.mpo n).backlog → s.bit (Reg.MTR_MPO_CFG n) 0 = true → (u.mpo n).backlog = (s.mpo n).backlog - 1 ∧
        (u.mpo n).count = ((s.mpo n).count + 1) % 4294967296 ∧ (u.mpo n).pulse = some (s.mpoWidth n (s.mpo n), true)) ∧
      KeepsRegs s u [Reg.MTR_MPO_BKLG n] ∧ u.mtr.points = s.mtr.points)) ∧
  (∀ (s : State) (n : Fin 4) (level : Bool) (ext int : Nat), s.running = true →
    ((s.bit (Reg.MTR_MPI_CFG n) 0 = false ∨ level = s.bit (Reg.MTR_MPI_CFG n) 1) → Leaves (.mpiTransition n level) s) ∧
    (s.bit (Reg.MTR_MPI_CFG n) 0 = true → level = !s.bit (Reg.MTR_MPI_CFG n) 1 → Does (.mpiTransition n level) s fun u =>
      (u.mpi n).count = ((s.mpi n).count + 1) % 4294967296 ∧ (∀ j, j ≠ n.val → u.mpi j = s.mpi j) ∧ Raises s u [] ∧
      KeepsRegs s u [] ∧ OnlyRegsAnd s u fun u => { u with mtr := s.mtr }) ∧
    (s.bit (Reg.MTR_MPI_CFG n) 5 = false → Leaves (.checkWindowEnd n) s) ∧
    (s.bit (Reg.MTR_MPI_CFG n) 5 = true →
      ext = ((s.mpi n).count + 4294967296 - (s.mpi n).base) % 4294967296 * s.rn (Reg.MTR_MPI_W n) →
      int = (s.mpiEnergy n + 2 ^ 64 - (s.mpi n).baseE) % 2 ^ 64 → Does (.checkWindowEnd n) s fun u =>
        (u.mpi n).base = (s.mpi n).count ∧ (u.mpi n).skip = false ∧ (u.mpi n).baseE = s.mpiEnergy n ∧ (u.mpi n).count = (s.mpi n).count ∧
        u.rg (Reg.MTR_MPI_DEV n) = roundInt (256 * (ext : Int) - int) (-8) ∧
        (if (s.mpi n).skip = false ∧ 10000 * 256 * 2 * s.rn (Reg.MTR_MPI_W n) + s.rf (Reg.MTR_MPI_CHK n) 16 14 * int <
            10000 * (256 * (ext : Int) - int).natAbs then
          (u.point (s.rf (Reg.MTR_MPI_CFG n) 2 2)).chk = true ∧ u.bit Reg.MTR_FLAGS 3 = true ∧
            Raises s u [(0x0b03, n, [n, (fOfNat ext).toNat, (roundInt int (-8)).toNat])]
        else u.mtr.points = s.mtr.points ∧ Raises s u []) ∧ KeepsRegs s u [Reg.MTR_MPI_DEV n, Reg.MTR_FLAGS] ∧ KeepsMem s u)) ∧
  (∀ (s : State) (c : Cell) (start : Nat) (l : List MfSample), s.running = true →
    (s.populated c = false → Leaves (.mfPeriodEnd c start l) s) ∧
    (s.populated c = true →
      (s.bit (Reg.SDM_RES (3 * c + 2)) 24 = false → Does (.mfPeriodEnd c start l) s fun u =>
        u.bit (Reg.MTR_CSTAT c) 0 = false ∧ Raises s u [] ∧ KeepsRegs s u [Reg.MTR_CSTAT c] ∧ OnlyRegs s u) ∧
      (s.bit (Reg.SDM_RES (3 * c + 2)) 24 = true → Does (.mfPeriodEnd c start l) s fun u =>
        (0 < (l.map MfSample.dt).sum → u.rg (Reg.MTR_CIMF c) = dySqrtDiv (mfSums (s.scaleOf (3 * c)) (s.scaleOf (3 * c + 2)) l).1
          (Dy.ofInt (l.map MfSample.dt).sum) ∧
        u.rg (Reg.MTR_CPLINK c) = dyDiv (mfSums (s.scaleOf (3 * c)) (s.scaleOf (3 * c + 2)) l).2.2.2
          (Dy.ofInt (l.map MfSample.dt).sum)) ∧ u.bit (Reg.MTR_CSTAT c) 0 = true ∧ Raises s u [] ∧
        KeepsRegs s u [Reg.MTR_CIMF c, Reg.MTR_CPLINK c, Reg.MTR_CLPF c, Reg.MTR_CFMF c, Reg.MTR_CZVS c, Reg.MTR_CSTAT c] ∧
        KeepsMem s u)))

/-- R441, R442, R443: only an active device saves, on its timer or on a keyed SAVE_NOW, where the hold-up energy allows it; a
failed save leaves SEQ as it was, with event 0x0B05. LOAD takes the newest valid record into the window; RESTORE adds a valid
record once, and is refused with 0x0B14 otherwise. -/
def Obligations.SaveAndRestore : Prop :=
  ∀ (s : State) (src : Src) (result : Fin 3) (l : List (List Byte)) (slot : Nat) (w : List Word), s.running = true →
    ((s.pairState ≠ 3 ∨ s.mtr.save.isSome = true) → Leaves .saveTimer s) ∧
    (s.pairState = 3 → s.mtr.save = none → Does .saveTimer s (SaveAttempt s) ∧
      (KeyPasses s src Reg.MTR_CTRL → Does (.saveNow src) s fun u => SaveAttempt s u ∧ u.slot src = {})) ∧
    (s.mtr.save = none → Leaves (.saveComplete result) s) ∧
    (s.mtr.save = some (slot, w) → Does (.saveComplete result) s fun u => u.mtr.save = none ∧ u.bit Reg.MTR_STAT 8 = false ∧
      (result.val = 0 → s.sys.flash ≠ .mute → u.rg Reg.MTR_SAVE_SEQ = w.getD 2 0 ∧ u.rg Reg.MTR_SAVE_TS = s.tim.ts32 ∧ Raises s u [] ∧
        KeepsRegs s u [Reg.MTR_STAT, Reg.MTR_SAVE_SEQ, Reg.MTR_SAVE_TS]) ∧
      (result.val = 0 → s.sys.flash = .mute → u.rg Reg.MTR_SAVE_SEQ = s.rg Reg.MTR_SAVE_SEQ ∧
        Raises s u [(0x0b05, 0, [1, slot])]) ∧
      (result.val ≠ 0 → u.bit Reg.MTR_FLAGS 5 = true ∧ Raises s u [(0x0b05, 0, [result, slot])] ∧
        KeepsRegs s u [Reg.MTR_STAT, Reg.MTR_FLAGS]) ∧ OnlyRegsAnd s u fun u => { u with mtr.save := s.mtr.save }) ∧
    (KeyPasses s src Reg.MTR_CTRL → Does (.mtrLoad src) s fun u => u.mtr.loading = true ∧ u.rf Reg.MTR_STAT 10 2 = 0 ∧
      u.slot src = {} ∧ Raises s u [] ∧ KeepsRegs s u [Reg.MTR_STAT] ∧
      OnlyRegsAnd s u fun u => { u with mtr.loading := s.mtr.loading, keys := s.keys }) ∧
    (s.mtr.loading = false → Leaves (.mtrLoadDone l) s) ∧
    (s.mtr.loading = true →
      (newestRecord l = none → Does (.mtrLoadDone l) s fun u => u.mtr.loading = false ∧ u.bit Reg.MTR_STAT 11 = true ∧
        Raises s u [] ∧ KeepsRegs s u [Reg.MTR_STAT]) ∧
      (∀ r, newestRecord l = some r → Does (.mtrLoadDone l) s fun u => u.mtr.loading = false ∧ u.bit Reg.MTR_STAT 10 = true ∧
        u.restoreBytes = r ∧ u.rn Reg.MTR_SAVE_SEQ = recordSeq r ∧ recordOk r = true ∧ Raises s u [] ∧
        KeepsRegs s u ([Reg.MTR_STAT, Reg.MTR_SAVE_SEQ] ++ (List.range 64).map Reg.MTR_RREC))) ∧
    (KeyPasses s src Reg.MTR_CTRL →
      (s.bit Reg.MTR_STAT 9 = true → Does (.mtrRestore src) s fun u => Raises s u [(0x0b14, 0, [1])] ∧ KeepsRegs s u [] ∧
        OnlyRegsAnd s u fun u => { u with keys := s.keys }) ∧
      (s.bit Reg.MTR_STAT 9 = false → recordOk s.restoreBytes = false → Does (.mtrRestore src) s fun u =>
        Raises s u [(0x0b14, 0, [2])] ∧ KeepsRegs s u [] ∧ OnlyRegsAnd s u fun u => { u with keys := s.keys }) ∧
      (s.bit Reg.MTR_STAT 9 = false → recordOk s.restoreBytes = true → Does (.mtrRestore src) s fun u =>
        u.bit Reg.MTR_STAT 9 = true ∧
        (∀ k < 4, (u.point k).eimp = ((s.point k).eimp + leNat ((s.restoreBytes.drop (0x20 + 20 * k)).take 8) * 2 ^ 32) % 2 ^ 96 ∧
          (u.point k).eexp = ((s.point k).eexp + leNat ((s.restoreBytes.drop (0x28 + 20 * k)).take 8) * 2 ^ 32) % 2 ^ 96 ∧
          (u.point k).iimp = (s.point k).iimp ∧ (u.point k).restored = true) ∧
        (∀ n < 4, (u.mpi n).count = ((s.mpi n).count + leNat ((s.restoreBytes.drop (0x90 + 4 * n)).take 4)) % 4294967296) ∧
        (∃ t, Raises s u [(0x0b13, 0, [recordSeq s.restoreBytes, t % 4294967296, t / 4294967296])]) ∧
        KeepsRegs s u ([Reg.MTR_STAT] ++ (List.range 4).map Reg.MTR_MPO_BKLG) ∧ KeepsMem s u))

/-! ### Memory and arbiter (chapter 16) -/

/-- R449, R450, R451, R452: the fill leaves every word zero and the log empty, and serves held host accesses behind it. A host
write through BAR2 stores its bytes alone; in the GCT, or outside the general region unless halted, it is refused with 0x25; an
uncorrectable read of a partial write drops it with event 0x0C03. A host read, which the model has as a form of the same command
(its choice), returns the bytes, completes with completer abort on an uncorrectable word, and as an unsupported request where
nothing is mapped. R460: a keyed MEM_TEST_EN ends test mode at any time, and begins it halted. -/
def Obligations.MemoryFillAndHostWrites : Prop :=
  ∀ (s : State) (off n : Nat) (l : List Byte) (x : Bar2) (err : Fin 3) (src : Src) (en : Bool), s.running = true →
    (s.bit Reg.MEM_STAT 0 = true → Leaves .memoryFillDone s) ∧
    (s.bit Reg.MEM_STAT 0 = false → s.memi.held = [] → Does .memoryFillDone s fun u => (∀ a, u.byte a = 0) ∧
      u.memi.log = List.replicate 16 none ∧ u.bit Reg.MEM_STAT 0 = true ∧
      u.devState = (if s.devState = 3 then 4 else s.devState) ∧ Raises s u [] ∧ KeepsRegs s u [Reg.MEM_STAT, Reg.GLB_STAT]) ∧
    (s.bit Reg.MEM_STAT 0 = false → Does (.bar2HostWrite off x err) s fun u =>
      u.memi.held = s.memi.held ++ [(off, x, err)] ∧ KeepsMem s u ∧ Raises s u [] ∧ KeepsRegs s u []) ∧
    (s.bit Reg.MEM_STAT 0 = true → 0 < l.length →
      (region off = 0 → Does (.bar2HostWrite off (.write l) err) s fun u => u.out = Out.unsupported :: s.out ∧
        ({ u with out := s.out } : State) = s) ∧
      ((region off = 3 ∨ (2 ≤ region off ∧ s.halted = false)) → Does (.bar2HostWrite off (.write l) err) s fun u => KeepsMem s u ∧
        u.rn Reg.CFG_REFUSE_ADDR = off % 4294967296 ∧ Raises s u [(0x0325, 0, [off])] ∧
        KeepsRegs s u [Reg.CFG_REFUSE_CNT, Reg.CFG_REFUSE_ADDR] ∧ OnlyRegs s u) ∧
      ((region off = 1 ∨ ((region off = 2 ∨ region off = 4) ∧ s.halted = true)) → s.bit Reg.MEM_STAT 2 = false →
        ((off % 8 = 0 ∧ l.length = 8) ∨ (err.val < 2 ∧ s.memi.raw = []) → Does (.bar2HostWrite off (.write l) err) s fun u =>
          (∀ i < l.length, u.byte (off + i) = l.getD i 0) ∧ (∀ a, a < off ∨ off + l.length ≤ a → u.byte a = s.byte a) ∧
          ((off % 8 = 0 ∧ l.length = 8) ∨ err.val = 0 → Raises s u [] ∧ KeepsRegs s u [])) ∧
        (err.val = 2 → ¬ (off % 8 = 0 ∧ l.length = 8) → Does (.bar2HostWrite off (.write l) err) s fun u => KeepsMem s u ∧
          u.rn Reg.MEM_UE_ADDR = off / 8 * 8 % 4294967296 ∧ u.rn Reg.MEM_UE_INFO = 8 ∧ u.bit Reg.MEM_FLAGS 3 = true ∧
          Raises s u [(0x0c03, 0, [off / 8 * 8, 8])] ∧
          KeepsRegs s u [Reg.MEM_UE_CNT, Reg.MEM_UE_ADDR, Reg.MEM_UE_INFO, Reg.MEM_FLAGS] ∧ OnlyRegs s u))) ∧
    (s.bit Reg.MEM_STAT 0 = true →
      (region off = 0 → Does (.bar2HostWrite off (.read n) err) s fun u => u.out = Out.unsupported :: s.out ∧
        ({ u with out := s.out } : State) = s) ∧
      (region off ≠ 0 → s.bit Reg.MEM_STAT 2 = false → s.memi.raw = [] →
        (err.val = 0 → Does (.bar2HostWrite off (.read n) err) s fun u => u.out = Out.readBytes (s.bytes off n) :: s.out ∧
          ({ u with out := s.out } : State) = s) ∧
        (err.val = 2 → Does (.bar2HostWrite off (.read n) err) s fun u => Out.abort ∈ u.out ∧
          u.rn Reg.MEM_UE_ADDR = off / 8 * 8 ∧ u.rn Reg.MEM_UE_INFO = 8 ∧ Raises s u [(0x0c03, 0, [off / 8 * 8, 8])] ∧
          KeepsMem s u))) ∧
    (KeyPasses s src Reg.MEM_TEST → s.bit Reg.MEM_STAT 2 = !en → (en = true → s.halted = true) →
      Does (.memTestEn src en) s fun u => u.bit Reg.MEM_STAT 2 = en ∧ KeepsMem s u)

/-- R450, R453, R454, R455, R456, R355, R475: an uncorrectable error is recorded with address and reader and event 0x0C03. A
correction counts on the log entry of its word, or takes a free one; at CORR_THR event 0x0C01 tells it and AUTO_WB has the word
written back, in the SSM by a request of the scrubber for 2 beats; behind a rewrite it is persistent, told once by 0x0C02.
Corrections wait for the log, one in a cycle, behind at most seven others. MEM_LOGCLR clears all entries but that of a
correction that has entered the log in the same tick. R457, R459: GO starts a scrub with a clean summary at START; it is ignored
while one runs, and refused by state 4 with START above END. Its words in the SSM are asked for at their bank, up to 8 in one
grant. The end of a scrub and ABORT leave DONE or ABORTED with event 0x0C05 and the summary. R460: test mode is entered only
halted, told by event 0x0C07; a test write stores data and check bits as they are, and a test read returns them with the
syndrome and its class. -/
def Obligations.ErrorsAndScrubbing : Prop :=
  (∀ (s : State) (reader : Fin 15) (w : Fin 2097152) (src : Src) (v : Word) (i : Nat) (e : LogEntry), s.running = true →
    (8 ≤ reader.val → reader.val ≠ 12 → Does (.uncorrectableError reader w) s fun u => u.rn Reg.MEM_UE_ADDR = 8 * w.val ∧
      u.rn Reg.MEM_UE_INFO = reader ∧ u.bit Reg.MEM_FLAGS 3 = true ∧
      u.rn Reg.MEM_UE_CNT = min (s.rn Reg.MEM_UE_CNT + 1) 4294967295 ∧
      (∃ l, Raises s u ((0x0c03, 0, [8 * w, reader]) :: l) ∧ (reader.val ≠ 10 → l = [])) ∧
      (reader.val = 8 → Out.abort ∈ u.out) ∧ (reader.val = 14 → u.ring.gap = true) ∧
      (reader.val = 10 → u.bufCkpt (w.val / 65536 % 2) = none) ∧
      (reader.val = 9 → s.scrubbing = true → u.rn Reg.MEM_SCRUB_UE = min (s.rn Reg.MEM_SCRUB_UE + 1) 4294967295) ∧
      KeepsMem s u) ∧
    (reader.val < 8 → s.bit Reg.GPR_PSTAT 0 = false → Does (.uncorrectableError reader w) s fun u =>
      u.rn Reg.MEM_UE_INFO = reader ∧ u.rf (Reg.VTX_STAT reader) 0 2 = 3 ∧ u.runOf reader = none ∧
      u.rf (Reg.VTX_FAULT_INFO reader) 0 2 = 2 ∧ u.bit Reg.GPR_PSTAT 0 = true ∧ u.halted = true ∧ KeepsMem s u) ∧
    ((reader.val ≠ 9 ∨ s.scrubbing = false) →
      (s.memi.queue.length ≤ 8 → Does (.correctionLogUpdate [(reader, w)]) s fun u =>
        u.memi.queue = (if s.memi.queue.length = 8 then s.memi.queue else s.memi.queue ++ [(reader.val, w.val)]).drop 1 ∧
        u.rn Reg.MEM_CORR_CNT = min (s.rn Reg.MEM_CORR_CNT + 1) 4294967295 ∧ u.bit Reg.MEM_FLAGS 0 = true ∧ KeepsMem s u)) ∧
    ((reader.val ≠ 9 ∨ s.scrubbing = false) → s.memi.log.length = 16 → s.memi.queue = [] →
      (entryOf s.memi.log w = some (i, e) → e.count < 15 → e.rewritten = false →
        (e.count + 1 ≠ s.rf Reg.MEM_CFG 0 4 → Does (.correctionLogUpdate [(reader, w)]) s fun u =>
          u.memi.log = s.memi.log.set i (some { e with count := e.count + 1, src := reader, at' := s.memi.serial }) ∧
          u.rn Reg.MEM_CORR_CNT = min (s.rn Reg.MEM_CORR_CNT + 1) 4294967295 ∧ u.bit Reg.MEM_FLAGS 0 = true ∧ Raises s u [] ∧
          KeepsRegs s u [Reg.MEM_CORR_CNT, Reg.MEM_FLAGS] ∧ KeepsMem s u) ∧
        (e.count + 1 = s.rf Reg.MEM_CFG 0 4 → Does (.correctionLogUpdate [(reader, w)]) s fun u =>
          Raises s u [(0x0c01, 0, [8 * w, e.count + 1, (s.bit Reg.MEM_CFG 4).toNat])] ∧
          (∃ f, u.memi.log.getD i none = some f ∧
            (s.bit Reg.MEM_CFG 4 = false ∨ w.val < 0x80000 → f.rewritten = false ∧ f.count = e.count + 1) ∧
            (s.bit Reg.MEM_CFG 4 = true → 0x80000 ≤ w.val → f.rewritten = true ∧ f.count = 0)) ∧
          (s.bit Reg.MEM_CFG 4 = true → w.val < 0x80000 → ∃ q : ArbReq, q.r = 9 ∧ q.kind = .writeBack ∧ q.beats = 2 ∧
            q.addr = 8 * w.val ∧ ((u.arbBank (w.val / 0x8000)).holder = some q ∨ q ∈ (u.arbBank (w.val / 0x8000)).waiting)) ∧
          KeepsMem s u)) ∧
      (entryOf s.memi.log w = some (i, e) → e.rewritten = true → e.pers = false → min (e.count + 1) 15 ≠ s.rf Reg.MEM_CFG 0 4 →
        Does (.correctionLogUpdate [(reader, w)]) s fun u => (∃ f, u.memi.log.getD i none = some f ∧ f.pers = true ∧
          f.count = min (e.count + 1) 15) ∧ u.bit Reg.MEM_FLAGS 2 = true ∧ Raises s u [(0x0c02, 0, [8 * w, reader])] ∧
          KeepsMem s u) ∧
      (entryOf s.memi.log w = none → victim s.memi.log = some i → s.rf Reg.MEM_CFG 0 4 ≠ 1 →
        Does (.correctionLogUpdate [(reader, w)]) s fun u => u.memi.log =
          s.memi.log.set i (some { addr := w, count := 1, src := reader, at' := s.memi.serial }) ∧ Raises s u [] ∧
          KeepsRegs s u [Reg.MEM_CORR_CNT, Reg.MEM_FLAGS] ∧ KeepsMem s u) ∧
      (entryOf s.memi.log w = none → victim s.memi.log = none → s.bit Reg.MEM_FLAGS 4 = false →
        Does (.correctionLogUpdate [(reader, w)]) s fun u => u.memi.log = s.memi.log ∧ u.bit Reg.MEM_FLAGS 4 = true ∧
          Raises s u [(0x0c06, 0, [min (s.rn Reg.MEM_LOGOVF + 1) 4294967295])] ∧
          KeepsRegs s u [Reg.MEM_CORR_CNT, Reg.MEM_FLAGS, Reg.MEM_LOGOVF] ∧ KeepsMem s u)) ∧
    (Reaches s Reg.MEM_LOGCLR →
      (fld v 0 1 = 0 → Does (.memLogclr src v) s fun u => u.slot src = {} ∧ Raises s u [] ∧ KeepsRegs s u [] ∧
        OnlyRegsAnd s u fun u => { u with keys := s.keys }) ∧
      (fld v 0 1 = 1 → s.memi.log.length = 16 → Does (.memLogclr src v) s fun u =>
        (∀ j < 16, u.memi.log.getD j none ≠ none → j = 0 ∧ ∃ r w', s.memi.newest = some (s.now, r, w')) ∧
        (∀ r w', s.memi.newest = some (s.now, r, w') →
          u.memi.log.getD 0 none = some { addr := w', count := 1, src := r, at' := s.memi.serial }) ∧
        u.slot src = {} ∧ Raises s u [] ∧ KeepsRegs s u [] ∧ KeepsMem s u))) ∧
  (∀ (s : State) (src : Src) (wb en : Bool) (last : Fin 2097152) (l : List Byte) (err : Fin 3), s.running = true →
    (Reaches s Reg.MEM_SCRUB_CTL →
      (s.scrubbing = true → Does (.scrubGo src wb) s fun u => Raises s u [] ∧ KeepsRegs s u [] ∧
        OnlyRegsAnd s u fun u => { u with keys := s.keys }) ∧
      (s.scrubbing = false → s.rn Reg.MEM_SCRUB_END < s.rn Reg.MEM_SCRUB_START → Does (.scrubGo src wb) s fun u =>
        u.scrubbing = false ∧ u.rf Reg.MEM_SCRUB_STAT 0 3 = 4 ∧ Raises s u [] ∧
        KeepsRegs s u [Reg.MEM_SCRUB_CTL, Reg.MEM_SCRUB_STAT] ∧ OnlyRegsAnd s u fun u => { u with keys := s.keys }) ∧
      (s.scrubbing = false → s.rn Reg.MEM_SCRUB_START ≤ s.rn Reg.MEM_SCRUB_END → Does (.scrubGo src wb) s fun u =>
        u.scrubbing = true ∧ u.rn Reg.MEM_SCRUB_STAT = 1 ∧ u.bit Reg.MEM_SCRUB_CTL 1 = wb ∧ u.rn Reg.MEM_SCRUB_CORR = 0 ∧
        u.rn Reg.MEM_SCRUB_UE = 0 ∧ u.rn Reg.MEM_SCRUB_FIRST = 0 ∧ u.rn Reg.MEM_SCRUB_LAST = 0 ∧ u.slot src = {} ∧
        u.memi.scrubNext = mappedFrom (s.rn Reg.MEM_SCRUB_START / 8) ∧
        (s.rn Reg.MEM_SCRUB_START < 0x400000 → ∃ q : ArbReq, ∃ k, q.kind = .scrub k ∧ 1 ≤ k ∧ k ≤ 8 ∧
          q.addr = s.rn Reg.MEM_SCRUB_START / 8 * 8 ∧ ((u.arbBank (s.rn Reg.MEM_SCRUB_START / 0x40000)).holder = some q ∨
            q ∈ (u.arbBank (s.rn Reg.MEM_SCRUB_START / 0x40000)).waiting)) ∧
        Raises s u [] ∧ KeepsMem s u ∧ KeepsRegs s u ([Reg.MEM_STAT, Reg.MEM_SCRUB_CTL, Reg.MEM_SCRUB_STAT, Reg.MEM_SCRUB_CORR,
          Reg.MEM_SCRUB_UE, Reg.MEM_SCRUB_FIRST, Reg.MEM_SCRUB_LAST] ++ arbRegs)) ∧
      (s.scrubbing = false → Does (.scrubAbort src last) s fun u => Raises s u [] ∧ KeepsRegs s u []) ∧
      (s.scrubbing = true → s.memi.raw = [] → s.memi.scrubNext ≤ last.val → Does (.scrubAbort src last) s fun u =>
        u.scrubbing = false ∧ u.rf Reg.MEM_SCRUB_STAT 0 3 = 3 ∧ u.rf Reg.MEM_SCRUB_STAT 3 21 = last ∧ u.bit Reg.MEM_FLAGS 5 = true ∧
        Raises s u [(0x0c05, 0, [3, s.rn Reg.MEM_SCRUB_CORR, s.rn Reg.MEM_SCRUB_UE])] ∧ KeepsMem s u ∧
        KeepsRegs s u ([Reg.MEM_STAT, Reg.MEM_SCRUB_STAT, Reg.MEM_FLAGS] ++ arbRegs))) ∧
    (s.scrubbing = false → Leaves .scrubDone s) ∧
    (s.scrubbing = true → s.memi.raw = [] → Does .scrubDone s fun u => u.scrubbing = false ∧ u.rf Reg.MEM_SCRUB_STAT 0 3 = 2 ∧
      u.rf Reg.MEM_SCRUB_STAT 3 21 = s.rf Reg.MEM_SCRUB_END 3 21 ∧ u.bit Reg.MEM_FLAGS 5 = true ∧
      Raises s u [(0x0c05, 0, [2, s.rn Reg.MEM_SCRUB_CORR, s.rn Reg.MEM_SCRUB_UE])] ∧ KeepsMem s u ∧
      KeepsRegs s u ([Reg.MEM_STAT, Reg.MEM_SCRUB_STAT, Reg.MEM_FLAGS] ++ arbRegs)) ∧
    (KeyPasses s src Reg.MEM_TEST →
      (en = true → s.halted = false → Does (.memTestEn src en) s fun u => u.rg Reg.MEM_STAT = s.rg Reg.MEM_STAT ∧
        u.slot src = {} ∧ Raises s u [(0x0325, 0, [Reg.MEM_TEST])] ∧ KeepsRegs s u [Reg.CFG_REFUSE_CNT, Reg.CFG_REFUSE_ADDR] ∧
        OnlyRegsAnd s u fun u => { u with keys := s.keys }) ∧
      ((en = false ∨ s.halted = true) → s.bit Reg.MEM_STAT 2 = en → Does (.memTestEn src en) s fun u =>
        u.slot src = {} ∧ ({ u with keys := s.keys } : State) = s) ∧
      ((en = false ∨ s.halted = true) → s.bit Reg.MEM_STAT 2 = !en → Does (.memTestEn src en) s fun u =>
        u.bit Reg.MEM_STAT 2 = en ∧ u.bit Reg.MEM_TEST 0 = en ∧ u.slot src = {} ∧ Raises s u [(0x0c07, 0, [en.toNat])] ∧
        KeepsRegs s u [Reg.MEM_STAT, Reg.MEM_TEST] ∧ OnlyRegsAnd s u fun u => { u with keys := s.keys })) ∧
    (s.bit Reg.MEM_STAT 0 = true → s.bit Reg.MEM_STAT 2 = true → s.halted = true → region (8 * last.val) ∈ [1, 2, 4] →
      (l.length = 8 → Does (.bar2HostWrite (8 * last.val) (.write l) err) s fun u =>
        u.rawWord last = (leNat l, s.rf Reg.MEM_TEST_CWR 0 8) ∧
        (∀ a, a < 8 * last.val ∨ 8 * last.val + 8 ≤ a → u.byte a = s.byte a) ∧ Raises s u [] ∧ KeepsRegs s u []) ∧
      (0 < l.length → l.length ≠ 8 → Does (.bar2HostWrite (8 * last.val) (.write l) err) s fun u =>
        Raises s u [(0x0325, 0, [8 * last.val])] ∧ KeepsMem s u ∧ u.memi = s.memi) ∧
      (Does (.bar2HostWrite (8 * last.val) (.read 8) err) s fun u =>
        u.out = Out.readBytes (leBytes (s.rawWord last).1 8) :: s.out ∧
        u.rn Reg.MEM_TEST_CRD = (s.rawWord last).2 % 256 + eccSyndrome (s.rawWord last).1 (s.rawWord last).2 * 256 +
          eccClass (s.rawWord last).1 (s.rawWord last).2 * 65536 ∧ Raises s u [] ∧ KeepsRegs s u [Reg.MEM_TEST_CRD] ∧ KeepsMem s u)))

/-- R455, R457, R463, R464, R465, R466, R467: an idle bank grants a request in the cycle after its arrival, by the keys of all
that stand in that cycle; the last beat of a transfer makes its writes take effect, or returns what it read, and grants the
largest key; URG and CLASS above the holder's preempt it without effect, age alone never; a new class is weighed from the next
cycle. R470, R471, R472, R473, R474: a lock request of a permitted requester reserves its bank; writes of the sequence take
effect together when it releases. A request of a larger key wounds the sequence that holds its bank: released without effect and
counted, it restarts from its first lock with its age, and the bank is granted anew in the cycle behind the release. In SERVICE
mode a requester that holds too long or withdraws after grant is cut off without effect, demoted and told by 0x0C04, also where
a wound of the same tick has released it first (R475); in LENIENT mode a withdrawal only frees the bank. -/
def Obligations.Arbiter : Prop :=
  (∀ (s : State) (src : Src) (r : Fin 12) (b : Fin 16) (n a t : Nat) (late : Bool) (d : List Nat) (q h : ArbReq) (v : Word),
    s.running = true → s.reservedBy b = none → t = s.fclk late →
    (q = { r := r, since := t, beats := n, addr := a, data := d } →
      (s.arbBank b = {} → Does (.arbRequest r b n false late a d) s fun u =>
        u.arbBank b = { holder := some { q with granted := t + 1 } } ∧ (∀ c, c ≠ b.val → u.arbBank c = s.arbBank c) ∧
        u.rf (Reg.ARB_WAITMAX r) 0 16 = max (s.rf (Reg.ARB_WAITMAX r) 0 16) 1 ∧ Raises s u [] ∧
        KeepsRegs s u [Reg.ARB_WAITMAX r] ∧ KeepsMem s u) ∧
      (s.arbBank b = { holder := some h } → h.granted ≤ t → s.rank t q ≤ s.rank t h →
        Does (.arbRequest r b n false late a d) s fun u =>
          u.arbBank b = { holder := some h, waiting := [q] } ∧ (∀ c, c ≠ b.val → u.arbBank c = s.arbBank c) ∧ Raises s u [] ∧
          KeepsRegs s u [] ∧ KeepsMem s u) ∧
      (s.arbBank b = { holder := some h } → h.granted ≤ t → s.rank t h < s.rank t q → t - h.granted + 1 < h.beats →
        Does (.arbRequest r b n false late a d) s fun u =>
          u.arbBank b = { holder := some { q with granted := t + 1 }, waiting := [{ h with granted := 0, made := false }] } ∧
          (∀ c, c ≠ b.val → u.arbBank c = s.arbBank c) ∧
          u.rn Reg.ARB_PREEMPT = min (s.rn Reg.ARB_PREEMPT + 1) 4294967295 ∧ Raises s u [] ∧ KeepsMem s u) ∧
      (s.arbBank b = { holder := some h } → t < h.granted → Does (.arbRequest r b n false late a d) s fun u =>
        u.arbBank b = (if s.key t h < s.key t q then
            { holder := some { q with granted := h.granted }, waiting := [{ h with granted := 0, made := false }] }
          else { holder := some h, waiting := [q] }) ∧
        u.rg Reg.ARB_PREEMPT = s.rg Reg.ARB_PREEMPT ∧ Raises s u [] ∧ KeepsMem s u)) ∧
    (s.arbBank b = {} → Leaves (.arbGrantDecision b late) s) ∧
    ((s.arbBank b).holder = some h →
      (h.kind = .plain → h.data ≠ [] → Does (.arbGrantDecision b late) s fun u =>
        (∀ i < (h.data.flatMap fun v => leBytes v 8).length,
          u.byte (h.addr + i) = (h.data.flatMap fun v => leBytes v 8).getD i 0) ∧
        (∀ a, a < h.addr ∨ h.addr + (h.data.flatMap fun v => leBytes v 8).length ≤ a → u.byte a = s.byte a) ∧
        ((s.arbBank b).waiting = [] → (u.arbBank b).holder = none) ∧
        ((s.arbBank b).waiting ≠ [] → ∃ q ∈ (s.arbBank b).waiting, ∃ m, (u.arbBank b).holder = some { q with granted := t + 1, made := m } ∧
          ∀ p ∈ (s.arbBank b).waiting, s.key t p ≤ s.key t q) ∧
        (∀ c, c ≠ b.val → u.arbBank c = s.arbBank c) ∧ Raises s u []) ∧
      (h.kind = .plain → h.data = [] → s.memi.raw = [] → t = h.granted + h.beats - 1 → 0 < h.beats → 0 < h.granted →
        Does (.arbGrantDecision b late) s fun u =>
          Out.arbRead h.r ((List.range h.beats).map fun i => leNat (s.bytes (h.addr + 8 * i) 8)) ∈ u.out ∧ KeepsMem s u ∧
          Raises s u []) ∧
      (h.kind = .writeBack → Does (.arbGrantDecision b late) s fun u => u.memi.log = rewriteLog (h.addr / 8) s.memi.log ∧
        KeepsMem s u ∧ Raises s u []) ∧
      (∀ k, h.kind = .scrub k → 0 < k → s.memi.raw = [] → Does (.arbGrantDecision b late) s fun u =>
        u.memi.scrubLast = h.addr / 8 + k - 1 ∧ u.memi.scrubNext = mappedFrom (h.addr / 8 + k) ∧ KeepsMem s u ∧ Raises s u [])) ∧
    (s.demoted r = true → s.arbBank b = { holder := some h, waiting := [q] } → q.r = r → h.granted ≤ s.fclk true →
      s.rank (s.fclk true) { q with urgent := true } ≤ s.rank (s.fclk true) h → Does (.arbUrgent r b) s fun u =>
        u.arbBank b = { holder := some h, waiting := [{ q with urgent := true }] } ∧ bitOf u.urgentNow r = false ∧
        KeepsMem s u ∧ Raises s u [] ∧ KeepsRegs s u []) ∧
    (s.demoted r = false → s.arbBank b = { holder := some h, waiting := [q] } → q.r = r → h.granted ≤ s.fclk true →
      s.urg (s.fclk true) h = false →
      (h.beats ≤ s.fclk true - h.granted + 1 → Does (.arbUrgent r b) s fun u =>
        u.arbBank b = { holder := some h, waiting := [{ q with urgent := true }] } ∧ bitOf u.urgentNow r = true ∧
        KeepsMem s u ∧ Raises s u [] ∧ KeepsRegs s u []) ∧
      (s.fclk true - h.granted + 1 < h.beats → Does (.arbUrgent r b) s fun u =>
        (∃ m, (u.arbBank b).holder = some { q with urgent := true, granted := s.fclk true + 1, made := m }) ∧
        (u.arbBank b).waiting = [{ h with granted := 0, made := false }] ∧ KeepsMem s u)) ∧
    (Reaches s (Reg.ARB_CLASS r) → (∀ c, c ≠ b.val → s.arbBank c = {}) →
      (s.arbBank b = {} → Does (.arbClassWrite src r v) s fun u => u.rn (Reg.ARB_CLASS r) = fld v 0 2 ∧
        u.arb = { s.arb with oldClass := u.arb.oldClass } ∧ u.arbClass (s.fclk true) r = s.arbClass (s.fclk true) r ∧
        u.slot src = {} ∧ Raises s u [] ∧ KeepsRegs s u [Reg.ARB_CLASS r] ∧ KeepsMem s u) ∧
      (s.arbBank b = { holder := some h, waiting := [q] } → q.r = r → h.r ≠ r → s.demoted r = false →
        s.urg (s.fclk true + 1) h = false → q.urgent = false → s.arbClass (s.fclk true + 1) h.r < fld v 0 2 →
        h.granted ≤ s.fclk true + 1 → s.fclk true + 1 - h.granted + 1 < h.beats →
        Does (.arbClassWrite src r v) s fun u => u.rn (Reg.ARB_CLASS r) = fld v 0 2 ∧
          (∃ m, (u.arbBank b).holder = some { q with granted := s.fclk true + 2, made := m }) ∧ KeepsMem s u))) ∧
  (∀ (s : State) (r : Fin 12) (b : Fin 16) (n a t p : Nat) (late : Bool) (d : List Nat) (q f : ArbReq) (z : LockSeq),
    s.running = true → t = s.fclk late →
    ((r.val = 8 ∨ r.val = 10) → s.bit Reg.ARB_LOCKEN r = true → s.lockSeq r = none → s.arbBank b = {} →
      s.reservedBy b = none → q = { r := r, since := t, beats := n, lock := true, addr := a, data := d } →
      Does (.arbRequest r b n true late a d) s fun u =>
        u.lockSeq r = some { since := t, first := (b, q), banks := [b] } ∧
        u.arbBank b = { holder := some { q with granted := t + 1, made := true } } ∧ Raises s u [] ∧ KeepsMem s u) ∧
    (p < 12 → s.lockSeq p = some z → z.banks = [b.val] → z.first.1 = b.val → (∀ x < 12, x ≠ p → s.lockSeq x = none) → p ≠ r.val → s.arbBank b = {} →
      q = { r := r, since := t, beats := n, addr := a, data := d } → f = { z.first.2 with since := z.since, granted := 0, made := false } →
      s.seqKey t p z < s.key t q → s.key (t + 1) f < s.key (t + 1) q → Does (.arbRequest r b n false late a d) s fun u =>
        u.lockSeq p = some { since := z.since, first := z.first } ∧
        u.arbBank b = { holder := some { q with granted := t + 2 }, waiting := [f] } ∧
        u.rn Reg.ARB_WOUND = min (s.rn Reg.ARB_WOUND + 1) 4294967295 ∧ Raises s u [] ∧ KeepsMem s u) ∧
    (s.lockSeq r = some z → s.reservedBy b = some r.val → s.arbBank b = { holder := some q } → q.r = r → q.kind = .plain → d ≠ [] →
      q.data = d → Does (.arbGrantDecision b late) s fun u =>
        u.lockSeq r = some { z with writes := (q.addr, d) :: z.writes } ∧ u.arbBank b = {} ∧ Raises s u [] ∧ KeepsMem s u) ∧
    (s.lockSeq r = none → Leaves (.lockRelease r) s) ∧
    (s.lockSeq r = some z →
      (z.writes = [] → Does (.lockRelease r) s fun u => u.lockSeq r = none ∧ KeepsMem s u ∧ Raises s u []) ∧
      (z.writes = [(a, d)] → Does (.lockRelease r) s fun u => u.lockSeq r = none ∧
        (∀ i < (d.flatMap fun v => leBytes v 8).length, u.byte (a + i) = (d.flatMap fun v => leBytes v 8).getD i 0) ∧
        (∀ x, x < a ∨ a + (d.flatMap fun v => leBytes v 8).length ≤ x → u.byte x = s.byte x) ∧ Raises s u [])) ∧
    ((s.arbService = false ∨ (s.holds r b = false ∧ s.arb.wounded.at r none = none)) → Leaves (.arbHoldCutoff r b) s) ∧
    (s.arbService = true → s.holds r b = false → (∃ x ∈ s.arb.wounded.at r none, x.1 / 2 = s.now ∧ b.val ∈ x.2.1) →
      Does (.arbHoldCutoff r b) s fun u => u.demoted r = true ∧ u.bit Reg.ARB_CUT (16 + r) = false ∧
        Raises s u [(0x0c04, 0, [r, 0])] ∧ KeepsMem s u) ∧
    (s.holds r b = false → Leaves (.arbWithdraw r b) s) ∧
    (s.arbBank b = { holder := some q } → (∀ c, c ≠ b.val → s.arbBank c = {}) → q.r = r → q.kind = .plain → s.lockSeq r = none →
      s.reservedBy b = none →
      (s.arbService = true →
        (Does (.arbHoldCutoff r b) s fun u => u.arbBank b = {} ∧ u.demoted r = true ∧ u.bit Reg.ARB_CUT (16 + r) = false ∧
          Raises s u [(0x0c04, 0, [r, 0])] ∧ KeepsRegs s u [Reg.ARB_CUT] ∧ KeepsMem s u) ∧
        (Does (.arbWithdraw r b) s fun u => u.arbBank b = {} ∧ u.demoted r = true ∧ u.bit Reg.ARB_CUT (16 + r) = true ∧
          Raises s u [(0x0c04, 0, [r, 1])] ∧ KeepsRegs s u [Reg.ARB_CUT] ∧ KeepsMem s u)) ∧
      (s.arbService = false → Does (.arbWithdraw r b) s fun u => u.arbBank b = {} ∧ u.demoted r = s.demoted r ∧
        Raises s u [] ∧ KeepsRegs s u [] ∧ OnlyRegsAnd s u fun u => { u with arb := s.arb, out := s.out })))

/-! ### Lanes and station Ethernet (chapter 17) -/

/-- R482, R483, R487: block lock is declared on an awake receiver; its loss is counted, clears QLOCK in the same tick with event
0x0D01 where it was set, and 0x0A05 on a partner lane; QLOCK sets with event 0x0D02. R401: the lane bit of the self-test follows
the QLOCK of an awake lane of ring or partner. R252, R485, R486: ring-state sets, lane-state sets and single-lane mode follow.
R498: so does the link of a station port. R486, R495, R496: a lane-state set that shows L2 unlocked brings single-lane mode,
which wakes L3 both ways; the mode ends once both report L2 locked, and the directions in AUTO follow the pair state again. A
direction wakes and sleeps as its use permits; a transmit direction that wakes sends idle blocks; SIGDET follows the signal also
where the direction sleeps. -/
def Obligations.LaneLocksAndSleep : Prop :=
  (∀ (s : State) (n : Lane) (signal : Bool) (k : Nat), s.running = true →
    (s.awake n false = false → s.looped n = false → Leaves (.blockLockGained n) s) ∧
    ((s.awake n false = true ∨ s.looped n = true) → Does (.blockLockGained n) s fun u => u.bit (Reg.LAN_LSTAT n) 0 = true ∧
      u.bit (Reg.LAN_LSTAT n) 1 = s.bit (Reg.LAN_LSTAT n) 1 ∧
      (n.val ≠ 4 → n.val ≠ 5 → Raises s u [] ∧ KeepsRegs s u [Reg.LAN_LSTAT n] ∧ OnlyRegs s u) ∧
      ((n.val = 4 ∨ n.val = 5) → u.bit (Reg.LAN_ETH_STAT (n.val - 4)) 0 = u.ethUp (n.val - 4) ∧
        u.bit Reg.LAN_STAT (20 + n.val) = u.ethUp (n.val - 4))) ∧
    (s.looped n = true → Leaves (.blockLockLost n true k) s) ∧
    (s.bit (Reg.LAN_LSTAT n) 0 = false → s.looped n = false → Does (.blockLockLost n true k) s fun u =>
      u.bit (Reg.LAN_LSTAT n) 2 = false ∧ Raises s u [] ∧ KeepsRegs s u [Reg.LAN_LSTAT n] ∧ OnlyRegs s u) ∧
    (s.bit (Reg.LAN_LSTAT n) 0 = false → Leaves (.blockLockLost n false k) s) ∧
    (s.bit (Reg.LAN_LSTAT n) 0 = true → (signal && s.looped n) = false →
      (s.bit (Reg.LAN_LSTAT n) 1 = false → Does (.blockLockLost n signal k) s fun u => u.bit (Reg.LAN_LSTAT n) 0 = false ∧
        u.rn (Reg.LAN_LOCKLOSS n) = min (s.rn (Reg.LAN_LOCKLOSS n) + 1) 4294967295 ∧
        u.rn (Reg.LAN_SHERR n) = min (s.rn (Reg.LAN_SHERR n) + k) 4294967295 ∧
        (n.val ≠ 4 → n.val ≠ 5 → Raises s u [] ∧
          KeepsRegs s u [Reg.LAN_LSTAT n, Reg.LAN_LOCKLOSS n, Reg.LAN_SHERR n] ∧ OnlyRegs s u)) ∧
      (s.bit (Reg.LAN_LSTAT n) 1 = true → Does (.blockLockLost n signal k) s fun u => u.bit (Reg.LAN_LSTAT n) 0 = false ∧
        u.bit (Reg.LAN_LSTAT n) 1 = false ∧ u.bit Reg.LAN_STAT n = false ∧ u.bit Reg.LAN_FLAGS n = true ∧
        ((n.val = 2 ∨ n.val = 3) → (s.bit Reg.PAR_STAT 4 = false ∨ s.pairState ≠ 1) →
          Raises s u [(0x0d01, n.val, [n.val, signal.toNat]), (0x0a05, n.val, [n.val])]) ∧
        (∃ l, Raises s u ((0x0d01, n.val, [n.val, signal.toNat]) :: l)) ∧
        (n.val ≠ 4 → n.val ≠ 5 → s.awake n false = true → u.bit Reg.PAR_ST_FAIL 2 = true) ∧
        ((n.val = 4 ∨ n.val = 5) → u.bit (Reg.LAN_ETH_STAT (n.val - 4)) 0 = u.ethUp (n.val - 4) ∧
          KeepsRegs s u [Reg.LAN_LSTAT n, Reg.LAN_LOCKLOSS n, Reg.LAN_SHERR n, Reg.LAN_STAT, Reg.LAN_FLAGS,
            Reg.LAN_ETH_STAT (n.val - 4)] ∧ OnlyRegsAnd s u fun u => { u with tim := s.tim, lan := s.lan }) ∧
        ((n.val < 2 ∨ 6 ≤ n.val) → u.laneUp n = false ∧ ∀ m ∈ s.upLanes n, Sent u m (.ringState s.node n false)) ∧
        ((n.val = 2 ∨ n.val = 3) → u.partnerUp = (u.carries 2 || u.carries 3)) ∧
        (n.val = 2 → u.bit Reg.LAN_STAT 26 = true ∧ Sent u 3 (.laneState s.node s.role false) ∧
          (s.bit Reg.LAN_STAT 26 = false → u.awake 3 true = true ∧ u.awake 3 false = true)) ∧ KeepsMem s u)) ∧
    ((s.bit (Reg.LAN_LSTAT n) 0 = false ∨ s.bit (Reg.LAN_LSTAT n) 1 = true) → Leaves (.qlockSet n) s) ∧
    (s.bit (Reg.LAN_LSTAT n) 0 = true → s.bit (Reg.LAN_LSTAT n) 1 = false → Does (.qlockSet n) s fun u =>
      u.bit (Reg.LAN_LSTAT n) 1 = true ∧ u.bit Reg.LAN_STAT n = true ∧
      (∃ l, Raises s u ((0x0d02, n.val, [n.val]) :: l)) ∧
      (2 ≤ n.val → n.val < 6 → (n.val = 4 ∨ n.val = 5 ∨ s.bit Reg.PAR_STAT 4 = false ∨ s.pairState ≠ 1) →
        Raises s u [(0x0d02, n.val, [n.val])]) ∧
      (n.val ≠ 4 → n.val ≠ 5 → s.par.stLane = false → s.par.laneLost = 2 ^ n.val → u.bit Reg.PAR_ST_FAIL 2 = false) ∧
      ((n.val = 4 ∨ n.val = 5) → KeepsRegs s u [Reg.LAN_LSTAT n, Reg.LAN_STAT] ∧ OnlyRegs s u) ∧
      ((n.val < 2 ∨ 6 ≤ n.val) → u.laneUp n = true ∧ ∀ m ∈ s.upLanes n, Sent u m (.ringState s.node n true)) ∧
      (n.val = 2 → Sent u s.partnerLane (.laneState s.node s.role true)) ∧
      ((n.val = 2 ∨ n.val = 3) → KeepsRegs s u [Reg.LAN_LSTAT n, Reg.LAN_STAT, Reg.PAR_STAT, Reg.RNG_LINK, Reg.PAR_ST_FAIL,
        Reg.PAR_FLAGS]) ∧ KeepsMem s u)) ∧
  (∀ (s : State) (n : Lane) (l2 : Bool), s.running = true →
    (s.receives 2 = false → s.receives 3 = false → Leaves (.laneStateSetReceived l2) s) ∧
    ((l2 = true ∨ s.bit Reg.LAN_STAT 26 = true) → (s.receives 2 = true ∨ s.receives 3 = true) → Does (.laneStateSetReceived l2) s fun u => u.lan.peerL2 = l2 ∧
      Raises s u [] ∧ KeepsRegs s u [] ∧ OnlyRegsAnd s u fun u => { u with lan.peerL2 := s.lan.peerL2 }) ∧
    (s.bit Reg.LAN_STAT 26 = false → (s.receives 2 = true ∨ s.receives 3 = true) → Does (.laneStateSetReceived false) s fun u => u.bit Reg.LAN_STAT 26 = true ∧
      u.lan.peerL2 = false ∧ u.awake 3 true = true ∧ u.awake 3 false = true ∧
      Sent u 3 (.laneState s.node s.role (s.bit (Reg.LAN_LSTAT 2) 1)) ∧ Raises s u [] ∧
      KeepsRegs s u ([Reg.LAN_STAT, Reg.PAR_STAT, Reg.RNG_LINK] ++ (List.range 8).map Reg.LAN_LSTAT) ∧ KeepsMem s u) ∧
    ((s.bit Reg.LAN_STAT 26 = false ∨ s.bit (Reg.LAN_LSTAT 2) 1 = false ∨ s.lan.peerL2 = false) → Leaves .singleLaneExit s) ∧
    (s.bit Reg.LAN_STAT 26 = true → s.bit (Reg.LAN_LSTAT 2) 1 = true → s.lan.peerL2 = true → Does .singleLaneExit s fun u =>
      u.bit Reg.LAN_STAT 26 = false ∧ (∀ m < 8, s.laneUse m true = 2 → u.awake m true = decide (2 ≤ s.pairState)) ∧
      Raises s u [] ∧ KeepsRegs s u ([Reg.LAN_STAT, Reg.PAR_STAT, Reg.RNG_LINK] ++ (List.range 8).map Reg.LAN_LSTAT) ∧
      OnlyRegsAnd s u fun u => { u with out := s.out }) ∧
    ((s.laneUse n true = 1 ∨ s.laneUse n true = 3) → Leaves (.laneWake n true) s) ∧
    (s.laneUse n true = 0 → Does (.laneWake n true) s fun u => u.awake n true = true ∧
      (s.awake n true = false → s.looped n = false → Out.idle n ∈ u.out) ∧ Raises s u [] ∧
      KeepsRegs s u [Reg.LAN_LSTAT n, Reg.LAN_STAT, Reg.PAR_STAT, Reg.RNG_LINK] ∧
      OnlyRegsAnd s u fun u => { u with out := s.out }) ∧
    (s.looped n = true → Leaves (.laneWake n false) s) ∧
    (s.looped n = false → Does (.laneWake n false) s fun u => u.bit (Reg.LAN_LSTAT n) 2 = true ∧
      u.awake n false = (s.awake n false || decide (s.laneUse n false ≠ 1)) ∧ Raises s u [] ∧
      KeepsRegs s u [Reg.LAN_LSTAT n, Reg.LAN_STAT, Reg.PAR_STAT, Reg.RNG_LINK] ∧ OnlyRegs s u) ∧
    (s.laneUse n true = 2 → Does (.laneWake n true) s fun u =>
      u.awake n true = (s.bit Reg.LAN_STAT 26 || decide (2 ≤ s.pairState)) ∧ Raises s u [] ∧
      OnlyRegsAnd s u fun u => { u with out := s.out }) ∧
    ((s.laneUse n false ≠ 2 ∨ s.pairState < 2 ∨ s.bit Reg.LAN_STAT 26 = true) → Leaves (.laneSleepTimeout n) s) ∧
    (s.laneUse n false = 2 → 2 ≤ s.pairState → s.bit Reg.LAN_STAT 26 = false → Does (.laneSleepTimeout n) s fun u =>
      (n.val ≠ 2 → u.awake n false = false) ∧ u.bit (Reg.LAN_LSTAT n) 0 = false ∧ u.bit (Reg.LAN_LSTAT n) 2 = false ∧
      (s.bit (Reg.LAN_LSTAT n) 0 = false → Raises s u [] ∧
        KeepsRegs s u [Reg.LAN_LSTAT n, Reg.LAN_STAT, Reg.PAR_STAT, Reg.RNG_LINK] ∧ OnlyRegs s u)))

/-- R484, R488, R489, R490, R491, R492, R494, R495: a lane that sleeps, hunts or is in loop ignores what it receives; the
generator sends its polynomial; pattern lock starts the counters, which saturate at 48 bits, and its loss raises 0x0D05; a read
of a LO word latches its HI word; a test or freeze on a lane with traffic is refused with 0x25; CLR clears both. An awake
receiver reports its eye with the worse of the hour, and an equaliser code at its limit once. R498, R499, R500, R501: a port's
link follows from its lock and what its PHY reports, and raises 0x0D03 when it goes down and 0x0D04 when it comes up. A frame of
a bad size, of another destination or of other content is counted in LAN_RXDROP, a bad FCS in LAN_RXFCS; an accepted one in
LAN_RXOK, and the MAC answers ARP requests, and echo requests up to ten a second, and passes a safety frame to its mailbox
(R380) and an IEEE 1588 frame with the time of its arrival to the time block. -/
def Obligations.TestPatternsAndEthernet : Prop :=
  (∀ (s : State) (src : Src) (n : Lane) (e t : Nat) (v rx : Word) (taps : BitVec 16) (h w : Byte), s.running = true →
    ((s.bit (Reg.LAN_CTL n) 1 = false ∨ (s.prbs n).since.isSome = true) → Leaves (.prbsLockChange n true e) s) ∧
    (s.bit (Reg.LAN_CTL n) 1 = true → (s.prbs n).since = none → Does (.prbsLockChange n true e) s fun u =>
      u.prbs n = { s.prbs n with since := some s.now } ∧ u.bit (Reg.LAN_LSTAT n) 3 = true ∧ Raises s u [] ∧
      KeepsRegs s u [Reg.LAN_LSTAT n] ∧ OnlyRegsAnd s u fun u => { u with lan := s.lan }) ∧
    ((s.prbs n).since = none → Leaves (.prbsLockChange n false e) s) ∧
    ((s.prbs n).since = some t → Does (.prbsLockChange n false e) s fun u =>
      u.prbs n = { since := none, bits := min ((s.prbs n).bits + (s.now - t) * s.bitsPerTick n) (2 ^ 48 - 1),
                   errs := min ((s.prbs n).errs + e) (2 ^ 48 - 1) } ∧
      u.bit (Reg.LAN_LSTAT n) 3 = false ∧ u.bit Reg.LAN_FLAGS 10 = true ∧ Raises s u [(0x0d05, n, [n])] ∧
      KeepsRegs s u [Reg.LAN_LSTAT n, Reg.LAN_FLAGS, Reg.LAN_PRBS_BIT_LO n, Reg.LAN_PRBS_ERR_LO n] ∧
      OnlyRegsAnd s u fun u => { u with lan := s.lan }) ∧
    (s.sys.ready = false → Does (.lanPrbsLoRead n true e) s fun u => u.out = Out.readValue 0 :: s.out ∧ Raises s u [] ∧
      KeepsRegs s u []) ∧
    (s.sys.ready = true →
      ((s.prbs n).since = none → Does (.lanPrbsLoRead n true e) s fun u =>
        u.out = Out.readValue (s.rg (Reg.LAN_PRBS_BIT_LO n)) :: s.out ∧
        u.rg (Reg.LAN_PRBS_BIT_HI n) = BitVec.ofNat 32 ((s.prbs n).bits / 4294967296) ∧ Raises s u [] ∧
        KeepsRegs s u [Reg.LAN_PRBS_BIT_HI n]) ∧
      ((s.prbs n).since = some t → Does (.lanPrbsLoRead n false e) s fun u =>
        u.out = Out.readValue (BitVec.ofNat 32 (min ((s.prbs n).errs + e) (2 ^ 48 - 1))) :: s.out ∧
        u.rg (Reg.LAN_PRBS_ERR_HI n) = BitVec.ofNat 32 (min ((s.prbs n).errs + e) (2 ^ 48 - 1) / 4294967296) ∧
        Raises s u [] ∧ KeepsRegs s u [Reg.LAN_PRBS_ERR_HI n, Reg.LAN_PRBS_BIT_LO n, Reg.LAN_PRBS_ERR_LO n])) ∧
    (Reaches s (Reg.LAN_CTL n) →
      (s.laneFree n = false → (fld v 0 2 ≠ 0 ∨ fld v 4 2 ≠ 0) → Does (.lanCtlWrite src n v) s fun u =>
        u.rg (Reg.LAN_CTL n) = s.rg (Reg.LAN_CTL n) ∧ Raises s u [(0x0325, 0, [Reg.LAN_CTL n])] ∧
        KeepsRegs s u [Reg.CFG_REFUSE_CNT, Reg.CFG_REFUSE_ADDR] ∧ OnlyRegsAnd s u fun u => { u with keys := s.keys }) ∧
      ((s.laneFree n = true ∨ (fld v 0 2 = 0 ∧ fld v 4 2 = 0)) → Does (.lanCtlWrite src n v) s fun u =>
        u.rn (Reg.LAN_CTL n) = fld v 0 6 ∧ (fld v 1 1 = 0 → (u.prbs n).since = none ∧ u.bit (Reg.LAN_LSTAT n) 3 = false) ∧
        (fld v 6 1 = 1 → (u.prbs n).bits = 0 ∧ (u.prbs n).errs = 0 ∧ u.rn (Reg.LAN_PRBS_BIT_LO n) = 0 ∧
          u.rn (Reg.LAN_PRBS_BIT_HI n) = 0 ∧ u.rn (Reg.LAN_PRBS_ERR_LO n) = 0 ∧ u.rn (Reg.LAN_PRBS_ERR_HI n) = 0) ∧
        u.looped n = decide (fld v 4 1 = 1) ∧ u.partnerUp = (u.carries 2 || u.carries 3) ∧ u.slot src = {} ∧ Raises s u [] ∧
        (fld v 0 1 = 1 → fld v 4 1 = 0 → (s.bit (Reg.LAN_CTL n) 0 = false ∨ s.looped n = true) →
          u.out = Out.prbs n (some (prbsPoly (fld v 2 2))) :: s.out) ∧
        (fld v 0 1 = 0 → u.out = if s.bit (Reg.LAN_CTL n) 0 = true ∧ s.looped n = false then Out.prbs n none :: s.out else s.out) ∧
        OnlyRegsAnd s u fun u => { u with keys := s.keys, lan := s.lan, free := s.free, out := s.out })) ∧
    (s.receives n = false → ∀ (f : Frame) (far : Lane) (node : Node) (up : Bool) (d1 d2 d3 : BitVec 8) (d : Disc) (x y : Node)
        (m : Tun), ∀ c ∈ [Instr.periodFrameReceived n f, .partnerFrameReceived n f, .ringStateSet n node far up,
          .stackTripReceived n d1 d2 d3, .discoveryReceived n d, .tunnelMessageReceived n x y m], Leaves c s) ∧
    (s.awake n false = false → Leaves (.eyeMeasurement n h w (rx, taps)) s) ∧
    (s.awake n false = true → Does (.eyeMeasurement n h w (rx, taps)) s fun u => u.rf (Reg.LAN_EYE n) 0 8 = h.toNat ∧
      u.rf (Reg.LAN_EYE n) 8 8 = w.toNat ∧
      (s.lan.hour.at n none = some (s.tim.s / 3600) → u.rf (Reg.LAN_EYE n) 16 8 = min h.toNat (s.rf (Reg.LAN_EYE n) 16 8) ∧
        u.rf (Reg.LAN_EYE n) 24 8 = min w.toNat (s.rf (Reg.LAN_EYE n) 24 8)) ∧
      (s.lan.hour.at n none ≠ some (s.tim.s / 3600) → u.rf (Reg.LAN_EYE n) 16 8 = h.toNat ∧
        u.rf (Reg.LAN_EYE n) 24 8 = w.toNat) ∧
      Raises s u (if s.bit (Reg.LAN_CTL n) 5 = false ∧ eqLimit rx taps = true ∧ s.bit Reg.LAN_FLAGS 11 = false then
        [(0x0d06, n, [n, fld rx 0 6])] else []) ∧
      (s.bit (Reg.LAN_CTL n) 5 = true → u.rg (Reg.LAN_RXEQ n) = s.rg (Reg.LAN_RXEQ n) ∧ u.lan.taps = s.lan.taps) ∧
      (s.bit (Reg.LAN_CTL n) 5 = false → u.rg (Reg.LAN_RXEQ n) = rx &&& 0xffffff3f ∧ u.lan.taps.at n 0 = taps) ∧
      KeepsRegs s u [Reg.LAN_EYE n, Reg.LAN_RXEQ n, Reg.LAN_FLAGS] ∧ OnlyRegsAnd s u fun u => { u with lan := s.lan })) ∧
  (∀ (s silent : State) (p : Fin 2) (st : BitVec 4) (f : List Byte) (c : Nat) (giga : Bool), s.running = true →
    c = s.ethContent p f → silent = { s with tim.announce := s.tim.announce.put p none none } → giga = s.bit (Reg.LAN_ETH_CFG p) 0 →
    (Does (.ethLinkChange p st) s fun u => u.bit (Reg.LAN_ETH_STAT p) 0 = u.ethUp p ∧ u.bit Reg.LAN_STAT (24 + p) = u.ethUp p ∧
      u.ethUp p = (if giga = false then s.bit (Reg.LAN_LSTAT (4 + p)) 0 && !bitOf st.toNat 0 && !bitOf st.toNat 1 && !bitOf st.toNat 3
        else if s.bit (Reg.LAN_ETH_CFG p) 1 = true then bitOf st.toNat 2 else s.bit (Reg.LAN_LSTAT (4 + p)) 0) ∧
      Raises s u (if s.bit (Reg.LAN_ETH_STAT p) 0 = u.ethUp p then []
        else if u.ethUp p = true then [(0x0d04, 4 + p.val, [4 + p.val, giga.toNat])]
        else [(0x0d03, 4 + p.val, [4 + p.val, u.rf (Reg.LAN_ETH_STAT p) 1 2])] ++ (if silent.bestPort = s.tim.port then [] else
          [(0x0204, 0, [silent.bestPort])])) ∧
      KeepsRegs s u [Reg.LAN_ETH_STAT p, Reg.LAN_STAT, Reg.LAN_FLAGS] ∧
      OnlyRegsAnd s u fun u => { u with tim := s.tim, lan := s.lan }) ∧
    (s.receives (4 + p) = false → Leaves (.ethFrameReceived p f) s) ∧
    (s.receives (4 + p) = true → (f.length < 64 ∨ 1522 < f.length) → Does (.ethFrameReceived p f) s fun u =>
      u.rn (Reg.LAN_RXDROP p) = min (s.rn (Reg.LAN_RXDROP p) + 1) 4294967295 ∧ Raises s u [] ∧
      KeepsRegs s u [Reg.LAN_RXDROP p] ∧ OnlyRegs s u) ∧
    (s.receives (4 + p) = true → 64 ≤ f.length → f.length ≤ 1522 →
      (leNat (f.drop (f.length - 4)) ≠ (crc32 (f.take (f.length - 4))).toNat → Does (.ethFrameReceived p f) s fun u =>
        u.rn (Reg.LAN_RXFCS p) = min (s.rn (Reg.LAN_RXFCS p) + 1) 4294967295 ∧ Raises s u [] ∧
        KeepsRegs s u [Reg.LAN_RXFCS p] ∧ OnlyRegs s u) ∧
      (leNat (f.drop (f.length - 4)) = (crc32 (f.take (f.length - 4))).toNat →
        ((s.macFor p f = false ∨ s.vlanOk p f = false ∨ c = 0) → Does (.ethFrameReceived p f) s fun u =>
          u.rn (Reg.LAN_RXDROP p) = min (s.rn (Reg.LAN_RXDROP p) + 1) 4294967295 ∧ Raises s u [] ∧
          KeepsRegs s u [Reg.LAN_RXDROP p] ∧ OnlyRegs s u) ∧
        (s.macFor p f = true → s.vlanOk p f = true → c = 2 → Machine.exec (.ethFrameReceived p f) s =
          Machine.exec (.safetyFrame p (BitVec.ofNat 48 (leNat (f.take 6))) (BitVec.ofNat 16 (frameType f))
            ((f.take (f.length - 4)).drop (payloadAt f))) (s.count (Reg.LAN_RXOK p))) ∧
        (s.macFor p f = true → s.vlanOk p f = true → c ≠ 0 → c ≠ 2 → Does (.ethFrameReceived p f) s fun u =>
          u.rn (Reg.LAN_RXOK p) = min (s.rn (Reg.LAN_RXOK p) + 1) 4294967295 ∧ Raises s u [] ∧
          (c = 1 → u.lan.ptp.at p [] = s.lan.ptp.at p [] ++ [s.stamp50] ∧ u.out = s.out) ∧
          (s.sends (4 + p) = false → u.out = s.out) ∧
          (s.sends (4 + p) = true →
            (c = 3 → u.out = Out.eth p 2 :: s.out ∧ u.rn (Reg.LAN_TXOK p) = min (s.rn (Reg.LAN_TXOK p) + 1) 4294967295) ∧
            (c = 4 → (s.lan.echo.at p (0, 0)).1 = s.tim.s →
              ((s.lan.echo.at p (0, 0)).2 < 10 → u.out = Out.eth p 3 :: s.out) ∧
              (10 ≤ (s.lan.echo.at p (0, 0)).2 → u.out = s.out))) ∧
          KeepsRegs s u [Reg.LAN_RXOK p, Reg.LAN_TXOK p] ∧
          OnlyRegsAnd s u fun u => { u with lan := s.lan, out := s.out }))))

/-! ### Host queues and the tunnel (chapter 18) -/

/-- R513, R514, R526: EN set zeroes both pointers; SIZE out of range or changed while EN is set is refused with 0x25, and so is
HQ_HEAD moved past HQ_TAIL, whatever its reserved bits say (R9). A doorbell makes the new descriptors available; a badly formed
one completes with ERR and code 0x01 (R519). A disabled queue fetches nothing. R513, R517, R518, R523: a buffered record, the
newest epoch mark first, is written behind HQ_TAIL once the queue has room and the link is up, with the pointer behind it;
vector 33 follows one of class CLUSTER or above on HQ0. A relaying device sends it to node 0 instead. The vector of a queue
signals with CNT records unsignalled, or by its timer, or becomes pending. The STATUS of a memory read follows the record that
HQ5 keeps for it (R522). -/
def Obligations.QueuesTowardTheHost : Prop :=
  (∀ (s : State) (src : Src) (q : Queue) (v : Word) (l : List Desc) (d : Desc) (size n : Nat), s.onMain = true →
    (Reaches s (Reg.HQ_QCFG q) → size = fld v 4 5 →
      ((size < 4 ∨ 16 < size ∨ (s.qOn q = true ∧ size ≠ s.hrf (Reg.HQ_QCFG q) 4 5)) → Does (.hqQueueEnable src q v) s fun u =>
        u.hq = s.hq ∧ Raises s u [(0x0325, 0, [Reg.HQ_QCFG q])] ∧ KeepsRegs s u [Reg.CFG_REFUSE_CNT, Reg.CFG_REFUSE_ADDR]) ∧
      (4 ≤ size → size ≤ 16 → s.qOn q = false → fld v 0 1 = 1 → Does (.hqQueueEnable src q v) s fun u => u.qOn q = true ∧
        u.qSize q = 2 ^ size ∧ u.qHead q = 0 ∧ u.qTail q = 0 ∧ u.slot src = {} ∧ Raises s u [] ∧
        (∀ a, a ∉ [Reg.HQ_QCFG q.val, Reg.HQ_HEAD q.val, Reg.HQ_TAIL q.val] → u.hrg a = s.hrg a) ∧
        OnlyRegsAnd s u fun u => { u with hq := s.hq, keys := s.keys }) ∧
      (4 ≤ size → size ≤ 16 → (s.qOn q = true → size = s.hrf (Reg.HQ_QCFG q) 4 5) → fld v 0 1 = 0 →
        Does (.hqQueueEnable src q v) s fun u => u.qOn q = false ∧ u.hq.desc.at q [] = [] ∧ u.qHead q = s.qHead q ∧
          u.qTail q = s.qTail q ∧ Raises s u [] ∧ OnlyRegsAnd s u fun u => { u with hq := s.hq, keys := s.keys })) ∧
    (Reaches s (Reg.HQ_HEAD q) →
      (q.val < 16 → n = fld v 0 16 → n < s.qSize q → (n + s.qSize q - s.qHead q) % s.qSize q ≤ s.qUsed q →
        Does (.hqHeadWrite src q v) s fun u => u.qHead q = n ∧
          (∀ a, a ≠ Reg.HQ_HEAD q.val → u.hrg a = s.hrg a) ∧ Raises s u [] ∧
          OnlyRegsAnd s u fun u => { u with hq := s.hq, keys := s.keys }) ∧
      (q.val < 16 → n = fld v 0 16 → (s.qSize q ≤ n ∨ s.qUsed q < (n + s.qSize q - s.qHead q) % s.qSize q) → Does (.hqHeadWrite src q v) s fun u =>
        u.hq = s.hq ∧ Raises s u [(0x0325, 0, [Reg.HQ_HEAD q])] ∧ KeepsRegs s u [Reg.CFG_REFUSE_CNT, Reg.CFG_REFUSE_ADDR]) ∧
      (16 ≤ q.val → Does (.hqHeadWrite src q v) s fun u => u.hq = s.hq ∧ Raises s u [] ∧ KeepsRegs s u [])) ∧
    (Reaches s (Reg.HQ_TAIL q) →
      (q.val < 16 → Does (.hqDoorbell src q v l) s fun u => u.hq = s.hq ∧ Raises s u [] ∧ KeepsRegs s u []) ∧
      (16 ≤ q.val → s.qOn q = false → Does (.hqDoorbell src q v l) s fun u => u.hq.desc = s.hq.desc ∧ u.out = s.out ∧
        u.hrg (Reg.HQ_TAIL q) = BitVec.ofNat 32 (v.toNat % 65536) ∧ Raises s u [] ∧ KeepsRegs s u []) ∧
      (16 ≤ q.val → q.val ≤ 18 → s.qOn q = true →
        size = (v.toNat % s.qSize q + s.qSize q - s.qTail q % s.qSize q) % s.qSize q →
        ((s.linkUp = false ∨ s.hq.away.at q false = true ∨
            ∃ e, (s.hq.desc.at q [] ++ l.take size).head? = some e ∧ descBad q e = false) →
          Does (.hqDoorbell src q v l) s fun u => u.hq.desc.at q [] = s.hq.desc.at q [] ++ l.take size ∧
            u.hrg (Reg.HQ_TAIL q) = BitVec.ofNat 32 (v.toNat % s.qSize q) ∧ u.slot src = {} ∧ u.out = s.out ∧ Raises s u [] ∧
            KeepsRegs s u [] ∧ KeepsMem s u) ∧
        (s.linkUp = true → s.hq.away.at q false = false → s.hq.desc.at q [] = [] → size = 1 → l = [d] → descBad q d = true →
          Does (.hqDoorbell src q v l) s fun u => u.hq.desc.at q [] = [] ∧ u.qHead q = (s.qHead q + 1) % s.qSize q % 65536 ∧
            Out.hostWrite (s.entryAddr q (s.qHead q) + 0x18) [statusWord 1 0 true] ∈ u.out ∧
            Raises s u [(0x0e04, q, [q, d.tag.toNat, 1])] ∧ KeepsRegs s u [] ∧ KeepsMem s u)))) ∧
  (∀ (s : State) (q : Queue) (r : Record) (n : Nat) (st : Word), s.running = true →
    ((6 ≤ q.val ∨ s.qOn q = false ∨ s.linkUp = false ∨ s.hrf Reg.HQ_CFG 0 1 = 1 ∨ s.nextRecord q = none) →
      Leaves (.recordWrite q) s) ∧
    (q.val < 6 → s.qOn q = true → s.linkUp = true → s.hrf Reg.HQ_CFG 0 1 = 0 → s.nextRecord q = some r →
      (s.qSize q ≤ s.qUsed q + r.entries → Leaves (.recordWrite q) s) ∧
      (s.qUsed q + r.entries < s.qSize q → Does (.recordWrite q) s fun u =>
        u.qTail q = (s.qTail q + r.entries) % s.qSize q % 65536 ∧
        (∀ i < r.entries, Out.hostWrite (s.entryAddr q (s.qTail q + i)) (r.entry i) ∈ u.out) ∧
        Out.hostWrite (s.shadowAddr q) [BitVec.ofNat 32 ((s.qTail q + r.entries) % s.qSize q)] ∈ u.out ∧
        (∀ m l, s.hq.mark.at q [] = m :: l → u.hq.mark.at q [] = l ∧ u.hq.buf.at q [] = s.hq.buf.at q []) ∧
        (s.hq.mark.at q [] = [] → u.hq.buf.at q [] = (s.hq.buf.at q []).tail) ∧ u.hq.lost.at q false = false ∧
        (s.hq.unsig.at q 0 + 1 < s.hrf (Reg.HQ_IMOD q) 0 8 → u.hq.unsig.at q 0 = s.hq.unsig.at q 0 + 1) ∧
        (s.hrf (Reg.HQ_IMOD q) 0 8 ≤ s.hq.unsig.at q 0 + 1 → u.hq.unsig.at q 0 = 0 ∧
          (s.hrf (Reg.HQ_MSIX (4 * q + 3)) 0 1 = 0 → Out.msix q ∈ u.out)) ∧ KeepsMem s u ∧
        (q.val = 5 → r.ev.code = resultCode → s.hq.result = some (1, st) → s.hq.desc.at 18 [] ≠ [] →
          u.hq.result = none ∧ Out.hostWrite (s.entryAddr 18 (s.qHead 18) + 0x18) [st] ∈ u.out) ∧
        ((q.val = 5 → s.hq.result = none) → Raises s u [] ∧ KeepsRegs s u []) ∧
        (q.val = 0 → 4 ≤ eventClass r.ev.code → s.hrf (Reg.HQ_MSIX 135) 0 1 = 0 → u.out.head? = some (Out.msix 33)))) ∧
    ((6 ≤ q.val ∨ s.hrf Reg.HQ_CFG 0 1 = 0 ∨ s.tunnelLane 0 = none ∨ s.nextRecord q = none) → Leaves (.recordRelay q) s) ∧
    (q.val < 6 → (q.val = 5 → s.hq.result = none) → s.hrf Reg.HQ_CFG 0 1 = 1 → s.tunnelLane 0 = some n → s.laneUp n = true → s.nextRecord q = some r →
      Does (.recordRelay q) s fun u => Sent u n (.tunnel s.node 0 (.record q
        { code := r.ev.code, unit := r.ev.unit, data := r.ev.data, ts32 := r.ev.ts32, src := r.src, seq := r.seq,
          lost := r.lost })) ∧
        (s.hq.mark.at q [] = [] → u.hq.buf.at q [] = (s.hq.buf.at q []).tail) ∧ Raises s u [] ∧ KeepsRegs s u [] ∧
        KeepsMem s u) ∧
    (s.hq.unsig.at q 0 = 0 → Leaves (.interruptModeration q) s) ∧
    (0 < s.hq.unsig.at q 0 → Does (.interruptModeration q) s fun u => u.hq.unsig.at q 0 = 0 ∧ Raises s u [] ∧
      (s.hrf (Reg.HQ_MSIX (4 * q + 3)) 0 1 = 0 → u.out = Out.msix q :: s.out) ∧
      (s.hrf (Reg.HQ_MSIX (4 * q + 3)) 0 1 = 1 → u.hrf (Reg.HQ_MSIX_PBA (q / 32)) (q % 32) 1 = 1 ∧ u.out = s.out) ∧
      KeepsRegs s u [] ∧ KeepsMem s u))

/-- R519, R521, R522: the descriptor at the front of HQ17 or HQ18 runs, here or with its target node. A list is applied in order
and answers with its refused writes; a write moves the bytes of its buffer alone; a read delivers the bytes, then a record on
HQ5 with TAG, then STATUS, at once where HQ5 is disabled (the model's choice); LOCK beyond ARB_HOLD completes with code 0x03, an
uncorrectable word with 0x04. -/
def Obligations.DescriptorsRun : Prop :=
  ∀ (s : State) (d : Desc) (l : List (Nat × Word)) (a : Nat) (v : Word) (b : List Byte) (bad : Option (Fin 2097152))
      (w : Fin 2097152) (n : Nat) (h : Nat), s.running = true → h = s.entryAddr 18 (s.qHead 18) + 0x18 →
    (s.frontDesc 17 = none → Leaves (.commandList l) s) ∧
    (s.frontDesc 17 = some d →
      (d.node = s.node → Does (.commandList l) s fun u => u =
        (s.runList (l.take (d.len / 8))).1.descDone 17 (s.runList (l.take (d.len / 8))).2) ∧
      (d.node ≠ s.node → s.tunnelLane d.node = some n → s.laneUp n = true → Does (.commandList l) s fun u =>
        Sent u n (.tunnel s.node d.node (.desc 17 s.hq.descNo d (listBytes (l.take (d.len / 8))))) ∧ u.hq.away.at 17 false = true ∧
        u.hq.awayNo.at 17 0 = s.hq.descNo ∧ u.regs = s.regs ∧ KeepsMem s u ∧ Raises s u [])) ∧
    (a ≠ Reg.GLB_CTRL → s.runList [(a, v)] = ((hostWrite .list a v s).disarm .list,
      if s.listRefused (hostWrite .list a v s) a v then statusWord 1 0 false else statusWord 0 0 false)) ∧
    ((∀ e, s.frontDesc 18 = some e → e.op ≠ 3) → Leaves (.memoryWriteTransfer b) s) ∧
    ((∀ e, s.frontDesc 18 = some e → e.op ≠ 4) → Leaves (.memoryReadTransfer bad) s) ∧
    (s.frontDesc 18 = some d → d.node = s.node → s.hq.desc.at 18 [] = [d] →
      (d.op = 3 → s.overLock d = true → Does (.memoryWriteTransfer b) s fun u => KeepsMem s u ∧
        Out.hostWrite h [statusWord 3 0 true] ∈ u.out ∧ Raises s u [(0x0e04, 18, [18, d.tag.toNat, 3])] ∧ KeepsRegs s u []) ∧
      (d.op = 3 → s.overLock d = false → (∀ x < d.len, region (d.dofs + x) = 1) → s.bit Reg.MEM_STAT 2 = false →
        b.length = d.len → d.len % 8 = 0 → d.dofs % 8 = 0 → Does (.memoryWriteTransfer b) s fun u =>
          (∀ i < d.len, u.byte (d.dofs + i) = b.getD i 0) ∧
          (∀ x, x < d.dofs ∨ d.dofs + d.len ≤ x → u.byte x = s.byte x) ∧ Out.hostWrite h [statusWord 0 0 false] ∈ u.out ∧
          u.hq.desc.at 18 [] = [] ∧ u.qHead 18 = (s.qHead 18 + 1) % s.qSize 18 % 65536 ∧ Raises s u [] ∧ KeepsRegs s u []) ∧
      (d.op = 4 → s.overLock d = false → s.transferBad d.dofs d.len false = false → s.bit Reg.MEM_STAT 2 = false →
        0 < d.len → d.len % 8 = 0 → bufEntries (s.hq.buf.at 5 []) < 256 → s.memi.raw = [] →
        (Does (.memoryReadTransfer none) s fun u => KeepsMem s u ∧
          Out.hostWrite d.addr ((List.range (d.len / 4)).map fun i => s.mem32 (d.dofs + 4 * i)) ∈ u.out ∧
          (∃ r, u.hq.buf.at 5 [] = s.hq.buf.at 5 [] ++ [r] ∧ r.ev.code = resultCode ∧ r.ev.data = [d.tag]) ∧
          (s.qOn 5 = true → u.hq.result = some (s.results + 1, statusWord 0 0 false) ∧ u.hq.desc.at 18 [] = [d]) ∧
          (s.qOn 5 = false → Out.hostWrite h [statusWord 0 0 false] ∈ u.out ∧ u.hq.desc.at 18 [] = []) ∧ Raises s u [] ∧
          KeepsRegs s u []) ∧
        (s.qOn 5 = false → Does (.memoryReadTransfer (some w)) s fun u => KeepsMem s u ∧ Out.hostWrite h [statusWord 4 0 true] ∈ u.out ∧
          u.rn Reg.MEM_UE_ADDR = 8 * w.val ∧
          Raises s u [(0x0c03, 0, [8 * w.val, 8]), (0x0e04, 18, [18, d.tag.toNat, 4])]))) ∧
    (s.frontDesc 16 = none → Leaves (.imageChunk b) s) ∧
    (s.frontDesc 16 = some d → d.node = s.node → s.hq.desc.at 16 [] = [d] →
      (d.dofs ≠ (match s.cfg.load with | some x => x.data.length | none => d.dofs + 1) → Does (.imageChunk b) s fun u =>
        u.cfg.load = s.cfg.load ∧ Out.hostWrite (s.entryAddr 16 (s.qHead 16) + 0x18) [statusWord 2 0 true] ∈ u.out ∧
        Raises s u [(0x0e04, 16, [16, d.tag.toNat, 2])] ∧ KeepsRegs s u [] ∧ KeepsMem s u) ∧
      (∀ x, s.cfg.load = some x → x.checking = false → x.ring = false → d.dofs = x.data.length →
        (imageNeed (x.data ++ b.take d.len) = none ∨
          ∃ m, imageNeed (x.data ++ b.take d.len) = some m ∧ (x.data ++ b.take d.len).length < m) →
        Does (.imageChunk b) s fun u => u.cfg.load = some { x with data := x.data ++ b.take d.len } ∧
          Out.hostWrite (s.entryAddr 16 (s.qHead 16) + 0x18) [statusWord 0 0 false] ∈ u.out ∧ Raises s u [] ∧
          KeepsRegs s u [] ∧ KeepsMem s u) ∧
      (∀ x m, s.cfg.load = some x → x.checking = false → x.ring = false → d.dofs = x.data.length →
        imageNeed (x.data ++ b.take d.len) = some m → m ≤ (x.data ++ b.take d.len).length → Does (.imageChunk b) s fun u =>
          u.cfg.load = some { x with data := (x.data ++ b.take d.len).take m, checking := true } ∧
          u.rf Reg.CFG_STAT 0 3 = 2 ∧ Raises s u [] ∧ KeepsRegs s u [Reg.CFG_STAT] ∧ KeepsMem s u))

/-- R508, R509, R510, R511: a window access that cannot reach its node completes as an unsupported request, counted in UR
without ring traffic; others travel on the lane with fewer hops. A key write travels with the next write to its window, or alone
after 1 µs. A read ends by the response that carries its tag, or by its time-out with completer abort, event 0x0E05 and vector
32. A message for another node goes on. R524, R525, R590: the link going down raises 0x0E02 with its last width and rate, and
coming up 0x0E03. A function-level reset disables every queue, empties the buffers, counting their records as dropped, aborts
reads and descriptors and returns the MSI-X table to reset, with event 0x0E06; nothing else changes but GLB_RSTCAUSE.
PCIE_PERST_N resets the HQ block alike. -/
def Obligations.NodeWindowsAndHostLink : Prop :=
  (∀ (s : State) (n dst : Node) (lane : Lane) (off k t : Nat) (v w : Word) (m : Tun) (rest : List (Nat × Nat × Nat × Nat)) (tag no : Nat) (q : Nat)
      (b : List Byte), s.running = true →
    (n.val ≠ s.node →
      (s.windowBad n off = true → (Does (.windowRead n off) s fun u =>
          u.hrf Reg.HQ_TUN_ERR 0 16 = min (s.hrf Reg.HQ_TUN_ERR 0 16 + 1) 65535 ∧ u.out = Out.unsupported :: s.out ∧
          u.hq.reads = s.hq.reads ∧ Raises s u [] ∧ KeepsRegs s u [] ∧ KeepsMem s u) ∧
        (Does (.windowWrite n off v) s fun u => u.hrf Reg.HQ_TUN_ERR 0 16 = min (s.hrf Reg.HQ_TUN_ERR 0 16 + 1) 65535 ∧
          u.out = Out.unsupported :: s.out ∧ Raises s u [] ∧ KeepsRegs s u [] ∧ KeepsMem s u)) ∧
      (s.windowBad n off = false → s.tunnelLane n = some k → s.laneUp k = true → s.sends k = true →
        (s.hq.keyHold.at n none = none → (Does (.windowRead n off) s fun u =>
            u.out = Out.lane k (.tunnel s.node n (.read off s.hq.tag)) :: s.out ∧
            u.hq.reads = s.hq.reads ++ [(n.val, off, s.now, s.hq.tag)] ∧ u.hq.tag = s.hq.tag + 1 ∧
            Raises s u [] ∧ KeepsRegs s u [] ∧ KeepsMem s u) ∧
          (off ≠ Reg.GLB_KEY → Does (.windowWrite n off v) s fun u =>
            u.out = Out.lane k (.tunnel s.node n (.write off v)) :: s.out ∧ Raises s u [] ∧ KeepsRegs s u [] ∧ KeepsMem s u) ∧
          (off = Reg.GLB_KEY → Does (.windowWrite n off v) s fun u => u.hq.keyHold.at n none = some v ∧ u.out = s.out ∧
            Raises s u [] ∧ KeepsRegs s u [] ∧ KeepsMem s u)) ∧
        (s.hq.keyHold.at n none = some w →
          (off ≠ Reg.GLB_KEY → Does (.windowWrite n off v) s fun u => u.hq.keyHold.at n none = none ∧
            u.out = Out.lane k (.tunnel s.node n (.pair w off v)) :: s.out ∧ Raises s u [] ∧ KeepsRegs s u []) ∧
          (Does (.keyPairTimeout n) s fun u => u.hq.keyHold.at n none = none ∧
            u.out = Out.lane k (.tunnel s.node n (.write Reg.GLB_KEY w)) :: s.out ∧ Raises s u [] ∧ KeepsRegs s u [] ∧
            KeepsMem s u)))) ∧
    (n.val = s.node → badAccess off = true → Does (.windowRead n off) s fun u =>
      u.hrf Reg.HQ_TUN_ERR 0 16 = min (s.hrf Reg.HQ_TUN_ERR 0 16 + 1) 65535 ∧ u.out = Out.unsupported :: s.out ∧
      Raises s u [] ∧ KeepsRegs s u []) ∧
    (s.hq.keyHold.at n none = none → Leaves (.keyPairTimeout n) s) ∧
    (takeRead n off (some tag) s.hq.reads = none → Leaves (.tunnelResponse n off (tag, some v)) s) ∧
    (takeRead n off none s.hq.reads = none → Leaves (.tunnelReadTimeout n off) s) ∧
    (takeRead n off (some tag) s.hq.reads = some (t, rest) →
      (Does (.tunnelResponse n off (tag, some v)) s fun u => u.hq.reads = rest ∧ u.out = Out.readValue v :: s.out ∧
        u.hrf Reg.HQ_TUN_MAX 0 32 = max (s.hrf Reg.HQ_TUN_MAX 0 32) ((s.now - t) * 4 / 125) % 4294967296 ∧ Raises s u [] ∧
        KeepsRegs s u [] ∧ KeepsMem s u)) ∧
    (takeRead n off none s.hq.reads = some (t, rest) →
      (Does (.tunnelReadTimeout n off) s fun u => u.hq.reads = rest ∧ Out.abort ∈ u.out ∧
        u.hrf Reg.HQ_TUN_ERR 16 16 = min (s.hrf Reg.HQ_TUN_ERR 16 16 + 1) 65535 ∧ u.hrf Reg.HQ_FLAGS 17 1 = 1 ∧
        (s.hrf (Reg.HQ_MSIX 131) 0 1 = 0 → Out.msix 32 ∈ u.out) ∧ Raises s u [(0x0e05, 0, [n, off])] ∧ KeepsRegs s u [] ∧
        KeepsMem s u)) ∧
    (dst.val ≠ s.node →
      (s.receives lane.val = true → s.sends (onward lane) = true → s.laneUp (onward lane) = true → Does (.tunnelMessageReceived lane n dst m) s fun u =>
        u.out = Out.lane (onward lane) (.tunnel n dst m) :: s.out ∧ Raises s u [] ∧ KeepsRegs s u [] ∧ KeepsMem s u) ∧
      (s.laneUp (onward lane) = false → Leaves (.tunnelMessageReceived lane n dst m) s)) ∧
    (dst.val = s.node →
      (badAccess off = true → s.receives lane.val = true → s.sends k = true → s.tunnelLane n = some k → s.laneUp k = true →
        Does (.tunnelMessageReceived lane n dst (.read off tag)) s fun u =>
          u.out = Out.lane k (.tunnel s.node n (.response off tag none)) :: s.out ∧ Raises s u [] ∧ KeepsRegs s u []) ∧
      (takeRead n off (some tag) s.hq.reads = none → Leaves (.tunnelMessageReceived lane n dst (.response off tag (some v))) s) ∧
      ((∀ e ∈ (s.hq.desc.at q []).head?, s.hq.away.at q false = false ∨ e.node ≠ n.val ∨ s.hq.awayNo.at q 0 ≠ no) →
        Leaves (.tunnelMessageReceived lane n dst (.ack q no w b)) s))) ∧
  (∀ (s : State) (w r : Fin 8), s.running = true →
    (s.sys.perst = true → Leaves (.pcieLinkChange true w r) s) ∧
    (s.sys.perst = false → s.hq.late = [] → (∀ q, s.hq.desc.at q [] = []) → Does (.pcieLinkChange true w r) s fun u =>
      u.linkUp = true ∧ u.hrf Reg.HQ_STAT 1 3 = w ∧ u.hrf Reg.HQ_STAT 4 3 = r ∧ Raises s u [(0x0e03, 0, [w, r])] ∧
      u.out = s.out ∧ KeepsRegs s u [] ∧ KeepsMem s u) ∧
    (s.linkUp = false → Leaves (.pcieLinkChange false w r) s) ∧
    (s.linkUp = true → Does (.pcieLinkChange false w r) s fun u => u.linkUp = false ∧ u.hrf Reg.HQ_FLAGS 16 1 = 1 ∧
      Raises s u [(0x0e02, 0, [s.hrf Reg.HQ_STAT 1 3, s.hrf Reg.HQ_STAT 4 3])] ∧ u.hq.buf = s.hq.buf ∧ KeepsRegs s u [] ∧
      KeepsMem s u) ∧
    (s.lockSeq 8 = none →
      (Does .functionLevelReset s fun u => (∀ q < 32, u.qOn q = false ∧ u.qHead q = 0 ∧ u.qTail q = 0 ∧
          u.hq.buf.at q [] = [] ∧ u.hq.desc.at q [] = [] ∧ u.hrf (Reg.HQ_QCFG q) 4 5 = s.hrf (Reg.HQ_QCFG q) 4 5) ∧
        (∀ q < 32, s.hq.mark.at q [] = [] → u.hrf (Reg.HQ_DROP q) 0 32 =
          min (s.hrf (Reg.HQ_DROP q) 0 32 + (s.hq.buf.at q []).length) 4294967295) ∧
        (∀ i < 136, u.hrg (Reg.HQ_MSIX i) = regReset (Reg.HQ_MSIX i)) ∧ u.hq.reads = [] ∧ u.linkUp = s.linkUp ∧
        u.slot .pcie = {} ∧ u.bit Reg.GLB_RSTCAUSE 3 = true ∧ Raises s u [(0x0e06, 0, [])] ∧
        KeepsRegs s u [Reg.GLB_RSTCAUSE] ∧ OnlyRegsAnd s u fun u => { u with hq := s.hq, keys := s.keys }) ∧
      (s.linkUp = true → Does (.pciePerst true) s fun u => u.sys.perst = true ∧ u.linkUp = false ∧
        (∀ q < 32, u.qOn q = false ∧ u.qHead q = 0 ∧ u.qTail q = 0 ∧ u.hq.buf.at q [] = []) ∧ u.hq.reads = [] ∧
        Raises s u [(0x0e02, 0, [s.hrf Reg.HQ_STAT 1 3, s.hrf Reg.HQ_STAT 4 3])] ∧ KeepsRegs s u [] ∧ KeepsMem s u ∧
        u.outEn = s.outEn ∧ u.pairState = s.pairState)) ∧
    (Does (.pciePerst false) s fun u => u.sys.perst = false ∧ Raises s u [] ∧ ({ u with sys.perst := s.sys.perst } : State) = s))

/-! ### Thermal management, supply and wear (chapter 19) -/

/-- R530, R531, R532, R533: the maximum of the ten sensors is judged by two consecutive maxima against fixed levels, each told
once when entered and by 0x0F08 when left; T_CRIT is a cluster fault of cause 5. Two readings out of range, a code that stands
4,096 times, or a failed self-check break a sensor: it reads 150 °C with event 0x0F06 until a clear that both its self-check and
4,096 good conversions allow. -/
def Obligations.TemperatureSensors : Prop :=
  ∀ (s : State) (codes : List Int) (dev : List (Int × Int)) (p m : Int) (i : Fin 10) (src : Src) (n : Fin 16),
    s.running = true →
    (SteadySensors s codes → Largest codes m →
      ((s.bit Reg.MEM_STAT 0 = false ∨ s.thw.prev = none) → Does (.sensorConversion codes) s fun u =>
        (∀ j < 10, u.reading j = codes.getD j 0) ∧ u.rf Reg.THW_STAT 0 16 = unsigned 16 m ∧
        u.thw.prev = (if s.bit Reg.MEM_STAT 0 = true then some m else s.thw.prev) ∧ Raises s u [] ∧
        KeepsRegs s u sensorRegs ∧ OnlyRegsAnd s u fun u => { u with thw := s.thw }) ∧
      (s.bit Reg.MEM_STAT 0 = true → s.thw.prev = some p →
        (s.thw.levels = 0 → ¬ Both p m (800 ≤ ·) → ¬ Both p m (· < -280) → Does (.sensorConversion codes) s fun u =>
          u.thw.levels = 0 ∧ u.thw.prev = some m ∧ Raises s u [] ∧ KeepsRegs s u sensorRegs ∧ KeepsMem s u) ∧
        (s.thw.levels = 0 → Both p m (800 ≤ ·) → ¬ Both p m (840 ≤ ·) → Does (.sensorConversion codes) s fun u =>
          u.thw.levels = 2 ∧ u.rf Reg.THW_STAT 16 3 = 1 ∧ u.tempOk = true ∧
          Raises s u [(0x0f01, 0, [unsigned 32 m, u.hottest])] ∧ KeepsRegs s u sensorRegs ∧ KeepsMem s u) ∧
        (s.thw.levels = 2 → Both p m (840 ≤ ·) → ¬ Both p m (896 ≤ ·) → Does (.sensorConversion codes) s fun u =>
          u.thw.levels = 6 ∧ u.bit Reg.THW_STAT 19 = true ∧ u.tempOk = false ∧
          Raises s u [(0x0f02, 0, [unsigned 32 m, u.hottest])] ∧ KeepsRegs s u sensorRegs ∧ KeepsMem s u) ∧
        (s.thw.levels = 2 → Both p m (· < 776) → ¬ Both p m (· < -280) → Does (.sensorConversion codes) s fun u =>
          u.thw.levels = 0 ∧ Raises s u [(0x0f08, 0, [1, unsigned 32 m])] ∧ KeepsRegs s u sensorRegs ∧ KeepsMem s u) ∧
        (s.thw.levels = 0 → Both p m (· < -280) → ¬ Both p m (· < -336) → Does (.sensorConversion codes) s fun u =>
          u.thw.levels = 16 ∧ u.tempOk = false ∧ Raises s u [(0x0f04, 0, [unsigned 32 m])] ∧ KeepsRegs s u sensorRegs ∧
          KeepsMem s u) ∧
        (s.thw.levels = 16 → Both p m (· < -336) → s.halted = true → Does (.sensorConversion codes) s fun u =>
          u.thw.levels = 48 ∧ Raises s u [(0x0f05, 0, [unsigned 32 m])] ∧ KeepsRegs s u sensorRegs ∧ KeepsMem s u) ∧
        (s.thw.levels = 6 → Both p m (896 ≤ ·) → s.bit Reg.GPR_PSTAT 0 = false → Does (.sensorConversion codes) s fun u =>
          u.bit Reg.THW_STAT 20 = true ∧ u.bit Reg.GPR_PSTAT 0 = true ∧ u.rf Reg.GPR_CLUINFO 0 8 = 5 ∧ u.halted = true ∧
          KeepsMem s u))) ∧
    (s.clkState ≠ 3 → s.bit Reg.MEM_STAT 0 = false →
      (∀ j < 10, j ≠ i.val → s.sensorBroken j = false ∧ -480 ≤ codes.getD j 0 ∧ codes.getD j 0 ≤ 1280 ∧
        (s.sensor j).same < 4095) →
      (s.sensorBroken i = true → Does (.sensorConversion codes) s fun u => u.rg (Reg.THW_TS i) = s.rg (Reg.THW_TS i) ∧
        Raises s u []) ∧
      (s.sensorBroken i = false → (codes.getD i 0 < -480 ∨ 1280 < codes.getD i 0) →
        ((s.sensor i).out = true → Does (.sensorConversion codes) s fun u => u.sensorBroken i = true ∧ u.reading i = 1200 ∧
          u.rf (Reg.THW_TS i) 17 2 = 1 ∧ u.bit Reg.THW_STAT (22 + i) = true ∧ Raises s u [(0x0f06, 0, [i, 1])]) ∧
        ((s.sensor i).out = false → (s.sensor i).same < 4095 → Does (.sensorConversion codes) s fun u =>
          u.sensorBroken i = false ∧ (u.sensor i).out = true ∧ Raises s u [])) ∧
      (s.sensorBroken i = false → (s.sensor i).code = some (codes.getD i 0) → (s.sensor i).same = 4095 →
        -480 ≤ codes.getD i 0 → codes.getD i 0 ≤ 1280 → Does (.sensorConversion codes) s fun u =>
          u.sensorBroken i = true ∧ u.reading i = 1200 ∧ u.rf (Reg.THW_TS i) 17 2 = 2 ∧ Raises s u [(0x0f06, 0, [i, 2])])) ∧
    ((∀ j < 10, j ≠ i.val → (dev.getD j (0, 0)).1.natAbs ≤ 2000 ∧ (dev.getD j (0, 0)).2.natAbs ≤ 2000) →
      ((dev.getD i (0, 0)).1.natAbs ≤ 2000 → (dev.getD i (0, 0)).2.natAbs ≤ 2000 → Does (.sensorSelfcheck dev) s fun u =>
        (∀ j < 10, u.sensor j = { s.sensor j with check := true }) ∧ Raises s u [] ∧ KeepsRegs s u [] ∧
        OnlyRegsAnd s u fun u => { u with thw := s.thw }) ∧
      ((2000 < (dev.getD i (0, 0)).1.natAbs ∨ 2000 < (dev.getD i (0, 0)).2.natAbs) → s.sensorBroken i = false →
        Does (.sensorSelfcheck dev) s fun u => (u.sensor i).check = false ∧ u.sensorBroken i = true ∧ u.reading i = 1200 ∧
          u.rf (Reg.THW_TS i) 17 2 = 3 ∧ Raises s u [(0x0f06, 0, [i, 3])] ∧
          KeepsRegs s u [Reg.THW_TS i, Reg.THW_STAT, Reg.THW_FLAGS] ∧ OnlyRegsAnd s u fun u => { u with thw := s.thw })) ∧
    (KeyPasses s src Reg.THW_CTRL →
      (10 ≤ n.val → Does (.sensClr src n) s fun u => u.thw = s.thw ∧ Raises s u [(0x0325, 0, [Reg.THW_CTRL])]) ∧
      (n.val < 10 → s.sensorBroken n = true → (s.sensor n).check = true → 4096 ≤ (s.sensor n).good →
        Does (.sensClr src n) s fun u => u.sensorBroken n = false ∧ u.bit Reg.THW_STAT (22 + n) = false ∧ u.slot src = {} ∧
          Raises s u [(0x0f0a, 0, [n])] ∧ KeepsRegs s u [Reg.THW_TS n, Reg.THW_STAT] ∧
          OnlyRegsAnd s u fun u => { u with keys := s.keys }) ∧
      (n.val < 10 → (s.sensorBroken n = false ∨ (s.sensor n).check = false ∨ (s.sensor n).good < 4096) →
        Does (.sensClr src n) s fun u => Raises s u [(0x0f0b, 0, [n])] ∧ KeepsRegs s u [] ∧
          OnlyRegsAnd s u fun u => { u with keys := s.keys }))

/-- R537, R538, R539, R78: the minimum slack of an interval asks for +10 mV below SLACK_LO and for −5 mV behind 64 intervals
above SLACK_HI, a report below SLACK_EMG for +20 mV at once with event 0x0F09, all clamped to 720–880 mV. A failed request is
sent once more; the second failure asks for 880 mV, stops adaptation and raises 0x0F07; a keyed AVS_RESUME resumes. -/
def Obligations.AdaptiveSupply : Prop :=
  ∀ (s : State) (src : Src) (mon : Fin 32) (m n k : Nat) (a : Pmbus) (r : Bool), s.running = true →
    ((s.rf Reg.THW_AVS 24 8 ≤ m ∨ s.avsRuns = false) → Does (.cpmReport mon m) s fun u =>
      u.thw.slack = (if ∃ x, s.thw.slack = some x ∧ x.1 ≤ m then s.thw.slack else some (m, mon.val)) ∧ Raises s u [] ∧
      KeepsRegs s u [] ∧ OnlyRegsAnd s u fun u => { u with thw := s.thw }) ∧
    (m < s.rf Reg.THW_AVS 24 8 → s.avsRuns = true → Does (.cpmReport mon m) s fun u => Requested s u (s.vreq + 20) ∧
      Raises s u [(0x0f09, 0, [m, mon])] ∧ KeepsRegs s u [Reg.THW_AVS_STAT] ∧ KeepsMem s u) ∧
    (s.thw.slack = none → Leaves .avsIntervalEnd s) ∧
    (s.thw.slack = some (m, n) →
      (s.avsRuns = false → Does .avsIntervalEnd s fun u => u.rg Reg.THW_CPM = BitVec.ofNat 32 (min m 255 + n * 256) ∧
        u.thw.slack = none ∧ (s.bit Reg.THW_AVS_STAT 10 = false → u.thw.high = 0) ∧ Raises s u [] ∧ KeepsRegs s u [Reg.THW_CPM] ∧
        OnlyRegsAnd s u fun u => { u with thw := s.thw }) ∧
      (s.avsRuns = true → s.thw.retry = false →
        (m < s.rf Reg.THW_AVS 8 8 → Does .avsIntervalEnd s fun u => Requested s u (s.vreq + 10) ∧ u.thw.high = 0 ∧
          Raises s u [] ∧ KeepsRegs s u [Reg.THW_CPM, Reg.THW_AVS_STAT] ∧ KeepsMem s u) ∧
        (s.rf Reg.THW_AVS 8 8 ≤ m → s.rf Reg.THW_AVS 16 8 < m →
          (s.thw.high < 63 → Does .avsIntervalEnd s fun u => u.thw.high = s.thw.high + 1 ∧ Raises s u [] ∧
            KeepsRegs s u [Reg.THW_CPM]) ∧
          (63 ≤ s.thw.high → Does .avsIntervalEnd s fun u => Requested s u (s.vreq - 5) ∧ u.thw.high = 0 ∧ Raises s u [] ∧
            KeepsRegs s u [Reg.THW_CPM, Reg.THW_AVS_STAT])) ∧
        (s.rf Reg.THW_AVS 8 8 ≤ m → m ≤ s.rf Reg.THW_AVS 16 8 → Does .avsIntervalEnd s fun u => u.thw.high = 0 ∧
          Raises s u [] ∧ KeepsRegs s u [Reg.THW_CPM]))) ∧
    (s.thw.ask = none → Leaves (.pmbusReadback a) s) ∧
    (s.thw.ask = some r →
      (s.answerBad a = none → Does (.pmbusReadback a) s fun u => u.thw = { s.thw with ask := none } ∧
        u.out = .pmbus (s.rf Reg.THW_AVS 1 7) 0x79 none :: .pmbus (s.rf Reg.THW_AVS 1 7) 0x8b none :: s.out ∧ Raises s u [] ∧
        KeepsRegs s u []) ∧
      (s.answerBad a = some k → r = false → Does (.pmbusReadback a) s fun u =>
        u.thw = { s.thw with ask := none, retry := true } ∧ Raises s u [] ∧ KeepsRegs s u []) ∧
      (s.answerBad a = some k → r = true → s.bit Reg.THW_AVS_STAT 11 = true → Does (.pmbusReadback a) s fun u =>
        u.vreq = s.vreq ∧ u.out = .pmbus (s.rf Reg.THW_AVS 1 7) 0x79 none :: .pmbus (s.rf Reg.THW_AVS 1 7) 0x8b none :: s.out ∧
        u.bit Reg.THW_AVS_STAT 12 = true ∧ u.bit Reg.THW_AVS_STAT 10 = false ∧
        Raises s u [(0x0f07, 0, [s.vreq.toNat, k])] ∧ KeepsRegs s u [Reg.THW_AVS_STAT, Reg.THW_FLAGS] ∧ KeepsMem s u) ∧
      (s.answerBad a = some k → r = true → s.bit Reg.THW_AVS_STAT 11 = false → Does (.pmbusReadback a) s fun u => Requested s u 880 ∧
        u.bit Reg.THW_AVS_STAT 12 = true ∧ u.bit Reg.THW_AVS_STAT 10 = false ∧ u.bit Reg.THW_FLAGS 6 = true ∧
        Raises s u [(0x0f07, 0, [s.vreq.toNat, k])] ∧ KeepsRegs s u [Reg.THW_AVS_STAT, Reg.THW_FLAGS] ∧ KeepsMem s u)) ∧
    ((s.thw.retry = false ∨ s.bit Reg.THW_AVS_STAT 11 = true) → Leaves (.pmbusRetry r) s) ∧
    (s.thw.retry = true → s.bit Reg.THW_AVS_STAT 11 = false →
      (Does (.pmbusRetry true) s fun u => Requested s u s.vreq ∧ u.thw.ask = some true ∧ u.thw.retry = false ∧ Raises s u [] ∧
        KeepsRegs s u [Reg.THW_AVS_STAT] ∧ KeepsMem s u) ∧
      (Does (.pmbusRetry false) s fun u => u.vreq = 880 ∧ u.bit Reg.THW_AVS_STAT 12 = true ∧
        u.bit Reg.THW_AVS_STAT 10 = false ∧ Raises s u [(0x0f07, 0, [(clampInt 720 880 s.vreq).toNat, 1])] ∧
        KeepsRegs s u [Reg.THW_AVS_STAT, Reg.THW_FLAGS] ∧ KeepsMem s u)) ∧
    (KeyPasses s src Reg.THW_CTRL →
      (s.bit Reg.THW_AVS_STAT 12 = false → Does (.avsResume src) s fun u => Raises s u [] ∧ KeepsRegs s u [] ∧
        OnlyRegsAnd s u fun u => { u with keys := s.keys }) ∧
      (s.bit Reg.THW_AVS_STAT 12 = true → Does (.avsResume src) s fun u => u.bit Reg.THW_AVS_STAT 12 = false ∧
        u.bit Reg.THW_AVS_STAT 10 = (s.bit Reg.THW_AVS 0 && Config.voutLinear) ∧ u.slot src = {} ∧ Raises s u [] ∧
        (s.bit Reg.THW_AVS 0 = true → s.bit Reg.THW_AVS_STAT 10 = false →
          u.out = .pmbus (s.rf Reg.THW_AVS 1 7) 0x20 none :: s.out) ∧
        KeepsRegs s u [Reg.THW_AVS_STAT] ∧ OnlyRegsAnd s u fun u => { u with keys := s.keys, out := s.out }))

/-- R541, R542, R543, R545, R546, R547: a history sample gives every entity its remaining life from the oldest sample within WIN
once the history spans a quarter of it, else from the restored rate, writes a record each to HQ3, and tells damage that first
reaches DWARN and 1. A capacitor's window sets C and ESR, or a moving average of weight 1/64, and is discarded with event 0x0F12
when out of range. AGE is the mean frequency loss of the ageing monitors in %. R548: the restore window is applied once per
image load, halted, with dry-run off and every value finite and not negative: switch counters into the registers and both banks
of their MINER instance, capacitor averages, rates; event 0x0F13. Otherwise nothing changes and event 0x0F14 gives the reason.
-/
def Obligations.WearAndRestore : Prop :=
  (∀ (s : State) (k : Nat) (c : Fin 48) (d : Dy) (t : Nat) (old : Dy) (e : Word × Word) (l : List (Nat × Nat)), s.running = true →
    (k < 241 →
      (s.damageOf k = none → Does .wearHistorySample s fun u => u.rg (rulReg k) = 0xffffffff) ∧
      (s.damageOf k = some d →
        ((histWithin s k).getLast? = some (t, old) → s.rf Reg.THW_WCFG 0 9 * 86400 ≤ 4 * (s.tim.s - t) →
          Does .wearHistorySample s fun u => u.thw.hist.at k [] = (s.tim.s, d) :: histWithin s k ∧ u.rn (rulReg k) =
            remaining d (some ((Dy.ofInt 3600).mul (d.add old.neg), Dy.ofInt ((s.tim.s : Int) - t)))) ∧
        (((histWithin s k) = [] ∨ ∃ x, (histWithin s k).getLast? = some x ∧
            4 * (s.tim.s - x.1) < s.rf Reg.THW_WCFG 0 9 * 86400) → Does .wearHistorySample s fun u =>
          u.thw.hist.at k [] = (s.tim.s, d) :: histWithin s k ∧
          u.rn (rulReg k) = remaining d ((s.thw.rate.at k none).map fun r => (Dy.ofF32 r, Dy.ofInt 1))) ∧
        (bitOf (s.thw.told.at k 0) 0 = false → (Dy.ofInt (s.rf Reg.THW_WCFG 16 7)).le ((Dy.ofInt 100).mul d) = true →
          Does .wearHistorySample s fun u => u.bit Reg.THW_FLAGS 7 = true ∧ bitOf (u.thw.told.at k 0) 0 = true ∧
            ∃ r ∈ u.evt.batch, r.ev.code = 0x0f10 ∧
              r.ev.data = words [(entityKind k).1, (entityKind k).2, d.f32.toNat]))) ∧
    (s.hq.buf.at 3 [] = [] → Does .wearHistorySample s fun u => (u.hq.buf.at 3 []).length = 241 ∧ KeepsMem s u) ∧
    ((s.bit (Reg.THW_CAP_STAT c) 1 = false ∨ s.pairState ≠ 3) → Leaves (.capEstimateWindow c) s) ∧
    (s.bit (Reg.THW_CAP_STAT c) 1 = true → s.pairState = 3 → e = fitEstimate (s.thw.fit.at c {}) →
      (Plausible (s.wearSec.c0.getD c 0) (s.wearSec.esr0.getD c 0) e.1 e.2 →
        (s.bit (Reg.THW_CAP_STAT c) 0 = false → Does (.capEstimateWindow c) s fun u => u.rg (Reg.THW_CAP_C c) = e.1 ∧
          u.rg (Reg.THW_CAP_ESR c) = e.2 ∧ u.bit (Reg.THW_CAP_STAT c) 0 = true ∧ u.thw.fit.at c {} = {} ∧ Raises s u [] ∧
          KeepsRegs s u [Reg.THW_CAP_C c, Reg.THW_CAP_ESR c, Reg.THW_CAP_STAT c] ∧ KeepsMem s u) ∧
        (s.bit (Reg.THW_CAP_STAT c) 0 = true → Does (.capEstimateWindow c) s fun u => u.rg (Reg.THW_CAP_C c) =
            ((Dy.ofF32 (s.rg (Reg.THW_CAP_C c))).add
              (((Dy.ofF32 e.1).add (Dy.ofF32 (s.rg (Reg.THW_CAP_C c))).neg).mul { m := 1, e := -6 })).f32 ∧ Raises s u [])) ∧
      (¬ Plausible (s.wearSec.c0.getD c 0) (s.wearSec.esr0.getD c 0) e.1 e.2 → Does (.capEstimateWindow c) s fun u =>
        u.bit Reg.THW_FLAGS 9 = true ∧ u.thw.fit.at c {} = {} ∧
        Raises s u (if s.bit Reg.THW_FLAGS 9 = true then [] else [(0x0f12, 0, [c, e.1.toNat, e.2.toNat])]) ∧
        KeepsRegs s u [Reg.THW_FLAGS] ∧ KeepsMem s u)) ∧
    (Does (.ageingMeasurement l) s fun u => u.rg Reg.THW_DEV_AGE =
      dyDiv (l.foldl (fun a x => a.add (dyDiv64 (Dy.ofInt (100 * ((x.2 : Int) - x.1))) (Dy.ofInt x.2))) {}) (Dy.ofInt l.length) ∧
      (s.thw.eye0 = 0 → s.thw.eyes.length < 23 → u.rg Reg.THW_DEV_EYE = 0 ∧ u.thw.eye0 = 0) ∧
      u.thw.eyes.length = min (s.thw.eyes.length + 1) 24 ∧ Raises s u [] ∧
      KeepsRegs s u [Reg.THW_DEV_AGE, Reg.THW_DEV_EYE, Reg.THW_DEV_D] ∧ KeepsMem s u)) ∧
  (∀ (s : State) (src : Src) (g i : Nat) (k : Engine) (st : Nat), KeyPasses s src Reg.THW_CTRL →
    (∀ r, ((s.halted = false ∨ s.bit (Reg.VTX_STAT 0) 5 = true) ∧ r = 1) ∨
        (s.halted = true ∧ s.bit (Reg.VTX_STAT 0) 5 = false ∧ s.bit Reg.THW_STAT 21 = true ∧ r = 2) ∨
        (s.halted = true ∧ s.bit (Reg.VTX_STAT 0) 5 = false ∧ s.bit Reg.THW_STAT 21 = false ∧ s.rrecOk = false ∧ r = 3) →
      Does (.wearRestore src) s fun u => Raises s u [(0x0f14, 0, [r])] ∧ KeepsRegs s u [] ∧ u.slot src = {} ∧
        OnlyRegsAnd s u fun u => { u with keys := s.keys }) ∧
    (s.halted = true → s.bit (Reg.VTX_STAT 0) 5 = false → s.bit Reg.THW_STAT 21 = false → s.rrecOk = true →
      Does (.wearRestore src) s fun u => u.bit Reg.THW_STAT 21 = true ∧ u.slot src = {} ∧
        Raises s u [(0x0f13, 0, [((List.range 192).filter fun g => (s.minerOf g).isSome).length + 49])] ∧
        (g < 192 → s.minerOf g = some (k, st) → u.rg (Reg.THW_SW_ACC_LO g) = s.rrec (4 * g) ∧
          u.rg (Reg.THW_SW_ACC_HI g) = s.rrec (4 * g + 1) ∧ u.rg (Reg.THW_SW_CNT g) = s.rrec (4 * g + 2) ∧
          u.thw.rate.at g none = some (s.rrec (4 * g + 3)) ∧
          ((∀ h, h < 192 → h ≠ g → s.minerOf h = none) → i < 3 →
            u.mem32 (0x814000 + 0x20000 * k.val + st + 4 * i) = s.rrec (4 * g + i) ∧
            u.mem32 (0x81a000 + 0x20000 * k.val + st + 4 * i) = s.rrec (4 * g + i))) ∧
        (i < 48 → fld (s.rrec (768 + 4 * i)) 0 31 ≠ 0 → u.rg (Reg.THW_CAP_C i) = s.rrec (768 + 4 * i)) ∧
        ((∀ h < 192, s.minerOf h = none) → KeepsMem s u)))

/-! ### The Citre image and its groups (chapter 2) -/

/-- R46, R49, R50, R65: a keyed write of CFG_LOAD opens a reception from a source that BOOTSRC admits, ending one in progress
with code 0x13. While the gate outputs are enabled a full image is refused at once with code 0x0F, and a source not admitted
with 0x14. An abort ends a reception with 0x13 and a second without bytes with 0x12; neither has an effect otherwise. -/
def Obligations.ImageReception : Prop :=
  ∀ (s : State) (src : Src) (ring : Bool) (n : Fin 4), n.val = ring.toNat →
    (KeyPasses s src Reg.CFG_LOAD →
      (∀ c, (c = Instr.loadPatch src n ∨ c = .loadFullImage src n ∧ s.halted = true) → s.sourceOk ring = true →
        Does c s fun u => u.cfg.load = some { ring := ring } ∧ u.rf Reg.CFG_STAT 0 3 = 1 ∧ u.slot src = {} ∧
          (∀ l, s.cfg.load = some l → Raises s u [(0x0313, 0, [l.data.length])]) ∧
          (s.cfg.load = none → Raises s u [] ∧ KeepsRegs s u [Reg.CFG_STAT] ∧
            OnlyRegsAnd s u fun u => { u with cfg.load := s.cfg.load, keys := s.keys })) ∧
      (s.cfg.load = none →
        (s.halted = false → Does (.loadFullImage src n) s fun u => LoadRefused s u 0x0f 0 []) ∧
        (∀ m : Fin 4, (1 < m.val ∨ m = n ∧ s.sourceOk ring = false) →
          Does (.loadPatch src m) s fun u => LoadRefused s u 0x14 0 [s.rf Reg.GLB_STRAP 8 2]) ∧
        (Does (.loadAbort src) s fun u => Raises s u [] ∧ ({ u with keys := s.keys } : State) = s)) ∧
      (∀ l, s.cfg.load = some l → Does (.loadAbort src) s fun u => LoadRefused s u 0x13 0 [l.data.length])) ∧
    (s.running = true → ((∀ l, s.cfg.load = some l → l.checking = true) → Leaves .receptionTimeout s) ∧
      ∀ l, s.cfg.load = some l → l.checking = false →
        Does .receptionTimeout s fun u => LoadRefused s u 0x12 0 [l.data.length])

/-- R48, R49: the first check that fails refuses the image with its code. A full image that passes every check, those of the
groups over the whole shadow set among them, goes live as a whole: every group's live copy takes the image's value, no commit
stays pending, the identification is that of HEAD, GLB_STAT.STATE is LOADED, and event 0x0340 tells it. R51, R52: a patch whose
groups include a pending one is refused with 0x21. One that passes its checks while the device runs makes its groups pending
together: the live set stands until the next control period boundary. -/
def Obligations.ImagesGoLive : Prop :=
  (∀ (s : State) (c : ImageContent), s.running = true →
    ((∀ l, s.cfg.load = some l → l.checking = false) → Leaves (.imageCheckDone c) s) ∧
    ∀ l t, s.cfg.load = some l → l.checking = true → t = s.stage l.data c false →
      (∀ code sect data, s.imageError l.data c = some (code, sect, data) →
        Does (.imageCheckDone c) s fun u => LoadRefused s u code sect data) ∧
      (s.imageError l.data c = none → bitOf (imgField l.data 22 2) 0 = false →
        (∀ g f, t.checkAllGroups ((idsOf l.data).contains 0x40) = some (g, f) →
          Does (.imageCheckDone c) s fun u => LoadRefused s u 0x22 0 [g.1, g.2, f.1, f.2]) ∧
        (t.checkAllGroups ((idsOf l.data).contains 0x40) = none → (∀ x, safeOf l.data c = some x → s.safeReason x = 0) →
          Does (.imageCheckDone c) s fun u =>
            u.cfg.inForce = true ∧ u.cfg.load = none ∧ u.cfg.pend = [] ∧ u.cfg.pop = c.pop.toNat ∧ u.sys.armed = false ∧
            u.devState = 6 ∧ u.rf Reg.CFG_STAT 0 3 = 4 ∧ u.rf Reg.CFG_STAT 8 8 = 0x40 ∧
            u.rn Reg.CFG_IMG_ID = imgField l.data 32 4 ∧ u.rn Reg.CFG_IMG_VER = imgField l.data 36 4 ∧
            (∀ g i, i < classSize g → ∀ p ∈ t.membersOf g i, u.rg p.2 = t.rg p.1 ∧ u.rg p.1 = t.rg p.1) ∧
            Told s u 0x0340 0 [imgField l.data 32 4]))) ∧
  (∀ (s : State) (c : ImageContent) (l : Load) (t : State), s.running = true → s.cfg.load = some l → l.checking = true →
    s.imageError l.data c = none → bitOf (imgField l.data 22 2) 0 = true → t = s.stage l.data c true →
    (∀ g, (s.touched c).find? (fun g => s.isPending g.1 g.2) = some g →
      Does (.imageCheckDone c) s fun u => LoadRefused s u 0x21 0 [g.1, g.2]) ∧
    (s.cfg.pend = [] → s.halted = false → t.touched c ≠ [] → safeOf l.data c = none →
      (∀ g f, t.checkAllGroups (s.cfg.metered || (idsOf l.data).contains 0x40) = some (g, f) →
        Does (.imageCheckDone c) s fun u => LoadRefused s u 0x22 0 [g.1, g.2, f.1, f.2]) ∧
      (t.checkAllGroups (s.cfg.metered || (idsOf l.data).contains 0x40) = none → Does (.imageCheckDone c) s fun u =>
        u.cfg.load = none ∧ u.rf Reg.CFG_STAT 0 3 = 3 ∧ (∀ g ∈ t.touched c, u.isPending g.1 g.2 = true) ∧
        (∀ a, imageField a = false → a ∉ [Reg.CFG_STAT, Reg.CFG_PEND, Reg.SLT_STAT] → u.rg a = s.rg a) ∧
        (∀ g i, i < classSize g → ∀ p ∈ s.membersOf g i, u.rg p.2 = s.rg p.2) ∧ Raises s u [] ∧ KeepsMem s u)))

/-- R56, R58, R59, R65: a commit is refused with 0x26 without an image in force, with 0x20 for a group that does not exist, with
0x21 for a pending group; CFG_COMMIT_STAT and one event say so. Otherwise its checks run. ALL covers every group whose shadow
differs from its live copy. R55, R57, R59, R60: a group that fails a check is not committed: code 0x22 with group, check and
member. One that passes becomes pending; at its commit point, at any instant for PERIOD, PROT, RING, TIME and every group while
halted, its members change together, CFG_COMMIT_TS takes TS32 and CFG_COMMIT_STAT shows DONE. No other group's live copy
changes. -/
def Obligations.Commits : Prop :=
  (∀ (s : State) (src : Src) (cls inst : BitVec 8), Reaches s Reg.CFG_COMMIT →
    (s.cfg.inForce = false →
      (Does (.commitGroup src cls inst) s fun u => CommitRefused s u s.atFree 0x26 cls.toNat inst.toNat 0 []) ∧
      (Does (.commitAll src) s fun u => CommitRefused s u s.atFree 0x26 0 0 0 [])) ∧
    (s.cfg.inForce = true →
      (classSize cls.toNat ≤ inst.toNat → Does (.commitGroup src cls inst) s fun u =>
        CommitRefused s u s.atFree 0x20 cls.toNat inst.toNat 0 [cls.toNat, inst.toNat]) ∧
      (inst.toNat < classSize cls.toNat →
        (s.isPending cls.toNat inst.toNat = true → Does (.commitGroup src cls inst) s fun u =>
          CommitRefused s u s.atFree 0x21 cls.toNat inst.toNat 0 [cls.toNat, inst.toNat]) ∧
        (s.isPending cls.toNat inst.toNat = false → Does (.commitGroup src cls inst) s fun u =>
          u.cfg.checking = s.cfg.checking ++ [{ all := false, cls := cls.toNat, inst := inst.toNat, no := s.cfg.commitNo, earliest := commitTime s }] ∧
          u.cfg.commitNo = s.cfg.commitNo + 1 ∧ u.cfg.atBy = (if s.atFree then some s.cfg.commitNo else s.cfg.atBy) ∧
          u.rn Reg.CFG_COMMIT_STAT = cls.toNat * 256 + inst.toNat * 65536 + 268435456 ∧ Raises s u [] ∧
          KeepsRegs s u [Reg.CFG_COMMIT_STAT] ∧
          OnlyRegsAnd s u fun u => { u with cfg.checking := s.cfg.checking, cfg.commitNo := s.cfg.commitNo,
                                            cfg.atBy := s.cfg.atBy, keys := s.keys })) ∧
      (∀ g, (allGroups.filter fun g => s.differs g.1 g.2).find? (fun g => s.isPending g.1 g.2) = some g →
        Does (.commitAll src) s fun u => CommitRefused s u s.atFree 0x21 g.1 g.2 0 [g.1, g.2]) ∧
      ((allGroups.filter fun g => s.differs g.1 g.2).find? (fun g => s.isPending g.1 g.2) = none →
        Does (.commitAll src) s fun u =>
          u.cfg.checking = s.cfg.checking ++ [{ all := true, no := s.cfg.commitNo, earliest := commitTime s }] ∧
          u.cfg.atBy = (if s.atFree then some s.cfg.commitNo else s.cfg.atBy) ∧
          u.rn Reg.CFG_COMMIT_STAT = 268435456 ∧ Raises s u [] ∧ KeepsRegs s u [Reg.CFG_COMMIT_STAT]))) ∧
  (∀ (s : State) (c i : Nat) (r : CommitReq) (l : List CommitReq) (governed : Bool), s.running = true → i < classSize c →
    r.all = false → r.cls = c → r.inst = i → governed = (s.cfg.atBy == some r.no) →
    (s.cfg.checking = [] → Leaves .commitCheckDone s) ∧
    (s.cfg.checking = r :: l →
      (s.isPending c i = true → Does .commitCheckDone s fun u =>
        CommitRefused s u governed 0x21 c i 0 [c, i] ∧ u.cfg.checking = l ∧ u.cfg.pend = s.cfg.pend) ∧
      (s.isPending c i = false → ∀ n m, s.checkGroup [(c, i)] c i = some (n, m) → Does .commitCheckDone s fun u =>
        CommitRefused s u governed 0x22 c i n [c, i, n, m] ∧ u.cfg.checking = l ∧ u.cfg.pend = s.cfg.pend) ∧
      (s.checkGroup [(c, i)] c i = none → s.cfg.pend = [] →
        ((s.immediate c = false ∨ r.earliest.any fun t => (s.tim.ts32 - t).toInt < 0) →
          Does .commitCheckDone s fun u => u.isPending c i = true ∧ u.cfg.checking = l ∧
            u.rn Reg.CFG_COMMIT_STAT = c * 256 + i * 65536 + 2 * 268435456 ∧ u.rn Reg.CFG_PEND = 2 ^ (c - 1) ∧ Raises s u [] ∧
            KeepsRegs s u [Reg.CFG_COMMIT_STAT, Reg.CFG_PEND, Reg.SLT_STAT] ∧ KeepsMem s u) ∧
        (s.immediate c = true → (r.earliest.all fun t => 0 ≤ (s.tim.ts32 - t).toInt) → Does .commitCheckDone s fun u =>
          u.bit Reg.CFG_COMMIT_AT 0 = (s.bit Reg.CFG_COMMIT_AT 0 && !governed) ∧ u.isPending c i = false ∧ u.cfg.checking = l ∧ u.rg Reg.CFG_COMMIT_TS = s.tim.ts32 ∧
          u.rn Reg.CFG_COMMIT_STAT = c * 256 + i * 65536 + 3 * 268435456 ∧ u.rn Reg.CFG_PEND = 0 ∧
          (∀ p ∈ s.membersOf c i, u.rg p.2 = s.rg p.1 ∧ u.rg p.1 = s.rg p.1) ∧
          (∀ d j, (d, j) ≠ (c, i) → j < classSize d → ∀ p ∈ s.membersOf d j, u.rg p.2 = s.rg p.2 ∧ u.rg p.1 = s.rg p.1)))))

/-! ### Registers and keys (chapters 1, 2 and 23) -/

/-- R10, R12, R54, R58: a member of a coherence group takes a write in its shadow, or refuses it as a whole: 0x25 for a value
out of range or a halt-only member, 0x23 while its group is pending. A write to a live copy is refused with 0x24. R8, R10, R54,
R628, R629: a write R8 does not allow completes as an unsupported request. A keyed register written without its key keeps its
value: GLB_KEYREF counts, GLB_KEYADDR holds the address, event 0x1008 tells the first. A writable register takes its writable
bits unless R54 refuses the write; a one clears a flag whose condition no longer stands; a read-only register and a reserved
address take nothing. -/
def Obligations.RegisterWrites : Prop :=
  (∀ (s : State) (src : Src) (a : Nat) (v : Word) (r : Row), Reaches s a →
    (rowOf a = some r → r.acc = .rws →
      (∀ code, s.writeRefusal r a v = some code → Does (.shadowWrite src a v) s fun u =>
        u.slot src = {} ∧ u.rn Reg.CFG_REFUSE_ADDR = a % 4294967296 ∧
        u.rn Reg.CFG_REFUSE_CNT = min (s.rn Reg.CFG_REFUSE_CNT + 1) 4294967295 ∧ Raises s u [(0x0300 + code, 0, [a])] ∧
        KeepsRegs s u [Reg.CFG_REFUSE_CNT, Reg.CFG_REFUSE_ADDR] ∧ OnlyRegsAnd s u fun u => { u with keys := s.keys }) ∧
      (s.writeRefusal r a v = none → Does (.shadowWrite src a v) s fun u =>
        u.slot src = {} ∧ u.rg a = ((v &&& BitVec.ofNat 32 r.mask) ||| (s.rg a &&& ~~~BitVec.ofNat 32 r.mask)) ∧
        Raises s u [] ∧ KeepsRegs s u (if 0x80000 ≤ a ∧ a < 0x80200 then [a, Reg.CFG_PEND, Reg.SLT_STAT] else [a]) ∧
        OnlyRegsAnd s u fun u => { u with keys := s.keys })) ∧
    (isLiveCopy a = true → Does (.liveCopyWrite src a v) s fun u =>
      u.slot src = {} ∧ u.rn Reg.CFG_REFUSE_ADDR = a ∧ Raises s u [(0x0324, 0, [a])] ∧
      KeepsRegs s u [Reg.CFG_REFUSE_CNT, Reg.CFG_REFUSE_ADDR] ∧ OnlyRegsAnd s u fun u => { u with keys := s.keys })) ∧
  (∀ (s : State) (src : Src) (a : Nat) (v : Word) (r : Row), s.onMain = true →
    (badAccess a = true → Does (.registerWrite src a v) s fun u => u = s.emit .unsupported) ∧
    (badAccess a = false → s.writable a = false → Leaves (.registerWrite src a v) s) ∧
    (Reaches s a →
      (badAccess a = false → (keyOf a).isSome = true → s.keyOk src a = false → Does (.registerWrite src a v) s fun u =>
        u.rf Reg.GLB_KEYREF 0 16 = min (s.rf Reg.GLB_KEYREF 0 16 + 1) 65535 ∧ u.rf Reg.GLB_KEYREF 16 2 = srcNum src ∧
        u.rf Reg.GLB_KEYADDR 0 22 = a ∧ u.slot src = {} ∧ Raises s u (if s.keys.told then [] else [(0x1008, 0, [a])]) ∧
        KeepsRegs s u [Reg.GLB_KEYREF, Reg.GLB_KEYADDR] ∧ OnlyRegsAnd s u fun u => { u with keys := s.keys }) ∧
      (PlainRegister a →
        ((rowOf a = none ∨ rowOf a = some r ∧ (r.acc = .ro ∨ r.acc = .rc)) → Does (.registerWrite src a v) s fun u =>
          u.slot src = {} ∧ Raises s u [] ∧ ({ u with keys := s.keys } : State) = s) ∧
        (rowOf a = some r → (r.acc = .rw ∨ r.acc = .rws) →
          (∀ code, s.writeRefusal r a v = some code → Does (.registerWrite src a v) s fun u =>
            u.slot src = {} ∧ u.rn Reg.CFG_REFUSE_ADDR = a ∧ Raises s u [(0x0300 + code, 0, [a])] ∧
            KeepsRegs s u [Reg.CFG_REFUSE_CNT, Reg.CFG_REFUSE_ADDR] ∧ OnlyRegsAnd s u fun u => { u with keys := s.keys }) ∧
          (s.writeRefusal r a v = none → Does (.registerWrite src a v) s fun u =>
            u.slot src = {} ∧ u.peek a = ((v &&& BitVec.ofNat 32 r.mask) ||| (s.peek a &&& ~~~BitVec.ofNat 32 r.mask)) ∧
            KeepsMem s u ∧ ((∀ t : State, t.afterWrite a = t) → Raises s u [] ∧ KeepsRegs s u [a] ∧
              ∀ b, b ≠ a → u.peek b = s.peek b))) ∧
        (rowOf a = some r → r.acc = .w1c → Does (.registerWrite src a v) s fun u =>
          u.slot src = {} ∧ u.peek a = (s.peek a &&& ~~~(v &&& BitVec.ofNat 32 r.mask &&& ~~~s.standing a)) ∧
          Raises s u [] ∧ KeepsRegs s u (a :: (List.range 4).map Reg.MTR_MPO_BKLG) ∧ KeepsMem s u))))

/-- R627, R628, R631: GLB_KEY arms the key slot of its source alone, and 64 FCLK cycles later it is disarmed. EVT_QCODE answers
with the class of a defined code in EVT_QCLASS. R10, R561, R632, R638: a read returns the register's value; one that clears on
reading reads zero behind it. Reading EVT_LAST[0] latches words 1 to 7 until word 7 is read, and a record that came in between
then takes their place. -/
def Obligations.KeysAndReads : Prop :=
  (∀ (s : State) (src other : Src) (v : Word), other ≠ src →
    (Reaches s Reg.GLB_KEY → Does (.glbKey src v) s fun u =>
      u.slot src = { key := some (v.toNat % 65536), age := 0 } ∧ u.slot other = s.slot other ∧ Raises s u [] ∧
      ({ u with keys := s.keys } : State) = s) ∧
    (Does (.keySlotExpiry src) s fun u => u.slot src = {} ∧ u.slot other = s.slot other ∧ Raises s u [] ∧
      ({ u with keys := s.keys } : State) = s ∧ ∀ a, u.keyOk src a = false) ∧
    (Reaches s Reg.EVT_QCODE → Does (.evtQcode src v) s fun u =>
      (u.erg Reg.EVT_QCODE).toNat = v.toNat % 65536 ∧
      (u.erg Reg.EVT_QCLASS).toNat = (if codeDefined (v.toNat % 65536) then eventClass (v.toNat % 65536) + 8 else 0) ∧
      Raises s u [] ∧ KeepsRegs s u [] ∧ KeepsMem s u)) ∧
  (∀ (s : State) (i : Fin 8) (a : Nat) (r : Row), s.onMain = true →
    (s.sys.ready = false → Does (.evtLastRead i) s fun u => u = s.emit (.readValue 0)) ∧
    (s.sys.ready = true → Does (.evtLastRead i) s fun u => u.out = .readValue (s.erg (Reg.EVT_LAST i)) :: s.out ∧
      (i.val = 0 → u.evt.regs = s.evt.regs ∧ u.evt.latched =
        (if s.evt.latched.isSome then s.evt.latched else some ((List.range 8).map fun j => s.erg (Reg.EVT_LAST j)))) ∧
      (0 < i.val → i.val < 7 → u.evt = s.evt) ∧
      (i.val = 7 → u.evt.latched = none ∧ (s.evt.latched = none → u.evt.regs = s.evt.regs) ∧
        ∀ l, s.evt.latched = some l → l.length = 8 → ∀ j < 8, u.erg (Reg.EVT_LAST j) = l.getD j 0) ∧
      ({ u with evt := s.evt, out := s.out } : State) = s) ∧
    (badAccess a = true → Does (.rcRegisterRead a) s fun u => u = s.emit .unsupported) ∧
    (badAccess a = false → s.readable a = false → Does (.rcRegisterRead a) s fun u => u = s.emit (.readValue 0)) ∧
    (PlainRead a → s.readable a = true →
      (rowOf a = some r → r.acc = .rc → Does (.rcRegisterRead a) s fun u =>
        u.out = .readValue (s.rcValue a) :: s.out ∧ u.peek a = 0 ∧ Raises s u [] ∧ KeepsRegs s u [a] ∧ KeepsMem s u) ∧
      (a ≠ Reg.CLK_PHPEAK → arrayIndex (Reg.LAN_SHERR 0) 64 8 a = none → s.rcValue a = s.peek a) ∧
      (rowOf a = some r → r.acc ≠ .rc → r.acc ≠ .wo →
        Does (.rcRegisterRead a) s fun u => u = s.emit (.readValue (s.view a))) ∧
      ((rowOf a = none ∨ rowOf a = some r ∧ r.acc = .wo) → Does (.rcRegisterRead a) s fun u => u = s.emit (.readValue 0))))

/-! ### Resets, start-up, arming and halting (chapter 20) -/

/-- R554, R557, R566, R604: the power-on reset and a supply under its threshold wipe the main domain, while Flint goes on. Its
release latches the straps and starts up, unless PRST_N is low; so does the release of PRST_N. R566, R567, R568, R569: PRST_N
resets the main domain with its cause in GLB_RSTCAUSE; a device in TAKING or ACTIVE holds its fail-safe command at the outputs
for 10 µs, any other has every output low at once. A soft reset loses image and memories but keeps time, straps and the PCI
Express link. -/
def Obligations.ResetsAndStraps : Prop :=
  (∀ (s : State) (straps : BitVec 10) (fuses : Fuses) (rail : Rail),
    (Does (.mainPowerOnReset true straps fuses) s fun u => PoweredOff s u) ∧
    (Does (.supplyUndervoltage rail) s fun u => PoweredOff s u) ∧
    (s.sys.por = false → Leaves (.mainPowerOnReset false straps fuses) s) ∧
    (s.sys.por = true → s.sys.prst = true → Does (.mainPowerOnReset false straps fuses) s fun u =>
      u.onMain = false ∧ u.sys.por = false ∧ u.bit Reg.GLB_RSTCAUSE 0 = true ∧ KeepsRegs s u [Reg.GLB_RSTCAUSE]) ∧
    (s.sys.por = true → s.sys.prst = false → Does (.mainPowerOnReset false straps fuses) s fun u =>
      StartsUp s u straps ∧ u.bit Reg.GLB_RSTCAUSE 0 = true ∧ u.sys.fuses = fuses) ∧
    (s.sys.prst = false → Leaves (.prstNRelease straps) s) ∧
    (s.sys.prst = true →
      (s.sys.por = true → Does (.prstNRelease straps) s fun u => u.onMain = false ∧
        ({ u with sys.prst := s.sys.prst } : State) = s) ∧
      (s.sys.por = false → Does (.prstNRelease straps) s fun u => StartsUp s u straps ∧ u.sys.fuses = s.sys.fuses))) ∧
  (∀ (s : State) (src : Src),
    (s.sys.prst = true → Leaves .prstNReset s) ∧
    (s.onMain = true → s.sys.hold = none →
      (Does .prstNReset s fun u => u.onMain = false ∧ u.sys.prst = true ∧ u.cfg = {} ∧ u.keys = {} ∧
        u.bit Reg.GLB_RSTCAUSE 1 = true ∧ (∀ a, u.byte a = 0) ∧ u.flint = s.flint ∧
        (∀ a, a / 65536 ≠ 0xe → a ≠ Reg.GLB_RSTCAUSE → u.rg a = regReset a) ∧
        (s.pairState < 2 → u.sys.hold = none ∧ u.prot.byp = 0 ∧ ∀ g < 192, u.gate g = false) ∧
        (2 ≤ s.pairState → u.prot.byp = s.outputsOff.bypMask ∧ ∀ g < 192,
          u.gate g = (s.gate g && s.bankOk (g / 24) && decide (s.outputsOff.padCmd g = .on)))) ∧
      (KeyPasses s src Reg.GLB_CTRL → Does (.softReset src) s fun u => u.onMain = true ∧ u.devState = 2 ∧ u.cfg = {} ∧
        (∀ k, u.slot k = {}) ∧ u.bit Reg.GLB_RSTCAUSE 2 = true ∧ (∀ a, u.byte a = 0) ∧ u.flint = s.flint ∧
        u.linkUp = s.linkUp ∧ u.rf Reg.GLB_STRAP 0 10 = s.rf Reg.GLB_STRAP 0 10 ∧ u.tim.s = s.tim.s ∧ u.tim.ns = s.tim.ns ∧
        u.rf Reg.TIM_STAT 0 2 = 3 ∧ u.rg Reg.TIM_CFG = s.rg Reg.TIM_CFG ∧ u.rg Reg.TIM_RATE = s.rg Reg.TIM_RATE ∧
        (∀ p ∈ s.membersOf 9 0, u.rg p.2 = s.rg p.2 ∧ u.rg p.1 = s.rg p.2) ∧
        (s.pairState < 2 → u.prot.byp = 0 ∧ ∀ g < 192, u.gate g = false))) ∧
    (Does .resetPadHoldEnd s fun u => u.sys.hold = none ∧ Raises s u [] ∧ KeepsRegs s u [Reg.GPR_BYPO] ∧ KeepsMem s u ∧
      (s.onMain = false → u.prot.byp = 0 ∧ ∀ g < 192, u.gate g = false)))

/-- R555, R557, R560, R581: a self-test without a failed item makes the device READY with events 0x1003 and 0x1006; a failed
item, the trim, or a bank without supply ends in FAULT with event 0x1001. A bank that loses its supply drives its outputs low, a
cluster fault where it serves a populated cell of a device with enabled outputs. -/
def Obligations.SelfTestAndSupplies : Prop :=
  ∀ (s : State) (items : BitVec 5) (banks : BitVec 8) (trim : Bool) (b : Bank),
    (s.running = true →
      (s.devState ≠ 4 → Leaves (.bistComplete items banks trim) s) ∧
      (s.devState = 4 →
        (items = 0 → trim = false → banks = 0 → Does (.bistComplete items banks trim) s fun u => u.sys.ready = true ∧
          u.devState = 5 ∧ u.bit Reg.GLB_STAT 4 = true ∧ u.rn Reg.GLB_BIST = 0 ∧ u.out = .pin .ready true :: s.out ∧
          (∀ j < 8, u.bankOk j = true) ∧ KeepsRegs s u [Reg.GLB_BIST, Reg.GLB_STAT] ∧ KeepsMem s u ∧
          Raises s u [(0x1003, 0, [(s.now - s.sys.released) * 2 / 625]), (0x1006, 0, [s.rn Reg.GLB_RSTCAUSE])]) ∧
        ((items ≠ 0 ∨ trim = true ∨ banks ≠ 0) → Does (.bistComplete items banks trim) s fun u =>
          u.sys.ready = s.sys.ready ∧ u.devState = 15 ∧ (∀ j < 8, u.bankOk j = !banks.getLsbD j) ∧ u.rf Reg.GLB_BIST 0 6 ≠ 0 ∧ Raises s u [(0x1001, 0, [u.rn Reg.GLB_BIST])] ∧
          KeepsRegs s u [Reg.GLB_BIST, Reg.GLB_STAT] ∧ KeepsMem s u))) ∧
    (Does (.gioSupplyFault b) s fun u => u.bankOk b.val = false ∧ ∀ g < 192, g / 24 = b.val → u.gate g = false) ∧
    ((s.onMain && s.outEn && s.bankUsed b.val) = false → Does (.gioSupplyFault b) s fun u => Raises s u [] ∧
      KeepsRegs s u [Reg.GPR_BYPO] ∧ KeepsMem s u) ∧
    ((s.onMain && s.outEn && s.bankUsed b.val) = true → Does (.gioSupplyFault b) s fun u => u.bit Reg.GPR_PSTAT 0 = true ∧
      Told s u 0x0814 b.val [b.val]) ∧
    (Does (.gioSupplyReturn b) s fun u => u.bankOk b.val = true ∧ Raises s u [] ∧ KeepsRegs s u [Reg.GPR_BYPO] ∧
      KeepsMem s u ∧ ∀ g < 192, u.padCmd g = .off → u.gate g = false)

/-- R399, R563, R564, R565: an ARM whose conditions do not all hold changes nothing but GLB_ARMREF and event 0x1002; GLB_ARM_AT
defers it. Otherwise a device that may be active becomes ACTIVE, role B behind its decision, and any other STANDBY. A HALT takes
outputs, heartbeat and pair state down; a device that drives halts with FORCE only. -/
def Obligations.ArmAndHalt : Prop :=
  ∀ (s : State) (src : Src) (force : Bool),
    (KeyPasses s src Reg.GLB_CTRL →
      (s.armFailures ≠ 0 → Does (.glbArm src) s fun u => u.rn Reg.GLB_ARMREF = s.armFailures ∧ u.slot src = {} ∧
        Raises s u [(0x1002, 0, [s.armFailures])] ∧ KeepsRegs s u [Reg.GLB_ARMREF] ∧
        OnlyRegsAnd s u fun u => { u with keys := s.keys }) ∧
      (s.armFailures = 0 → s.sys.armWait = false →
        (s.bit Reg.GLB_ARM_AT 0 = true → Does (.glbArm src) s fun u => u.bit Reg.GLB_STAT 5 = true ∧ u.devState = s.devState ∧
          Raises s u [] ∧ KeepsRegs s u [Reg.GLB_STAT] ∧ OnlyRegsAnd s u fun u => { u with keys := s.keys }) ∧
        (s.bit Reg.GLB_ARM_AT 0 = false →
          (s.mayBeActive = false → Does (.glbArm src) s fun u => ArmedAs s u 1) ∧
          (s.mayBeActive = true → s.role = false → Does (.glbArm src) s fun u => ArmedAs s u 3) ∧
          (s.mayBeActive = true → s.role = true → Does (.glbArm src) s fun u => u.sys.armWait = true ∧
            u.devState = s.devState ∧ u.pairState = s.pairState ∧ u.outEn = s.outEn ∧
            (s.bit Reg.MEM_STAT 2 = false → Raises s u [])))) ∧
      (2 ≤ s.pairState → force = false → Does (.glbHalt src force) s fun u => u.rn Reg.GLB_ARMREF = 0x200 ∧
        Raises s u [(0x1002, 0, [0x200])] ∧ KeepsRegs s u [Reg.GLB_ARMREF] ∧
        OnlyRegsAnd s u fun u => { u with keys := s.keys }) ∧
      ((s.pairState < 2 ∨ force = true) → Does (.glbHalt src force) s fun u => u.pairState = 0 ∧ u.outEn = false ∧
        u.sys.hbOut = false ∧ u.devState = (if s.devState = 7 then 8 else s.devState) ∧ u.bit Reg.GLB_STAT 5 = false ∧
        Raises s u [(0x1005, 0, [(decide (2 ≤ s.pairState)).toNat])] ∧ KeepsRegs s u haltRegs ∧ KeepsMem s u)) ∧
    (s.running = true → (s.sys.armWait = false → Leaves .armDecision s) ∧
      (s.sys.armWait = true → Does .armDecision s fun u => ArmedAs s u (if s.mayBeActive then 3 else 1)))

/-- R554, R566: while the main domain is in reset, a command of that domain changes nothing. -/
def Obligations.NothingRunsInReset : Prop :=
  ∀ (c : Instr) (s : State), s.onMain = false → outsideMain c = false → Leaves c s

/-! ### Completion whatever else the state holds -/

/-- R57, R152, R156, R165, R166, R171: a control period boundary counts the period and clears NEW; a window of a valid entry
starts its segment; a segment whose window ends is over, and its bank flips exactly where it is complete; an engine goes on to
its next block, or stops in FAULT on a mismatch that remains. R252, R274, R289, R293, R299: a ring-state set of another node
enters or leaves the link map; the sort ends with the result of the closed snapshot; a group boundary counts its period and
takes the closed values, as does a mid-period event with CP set; u takes its level at a transition. R328, R362, R377, R402,
R411: a qualified fault latches its switch; a Flint cycle without FRESET is counted; a compared level shows; a taking device
with a checkpoint is prepared with the newest; a health report carries the next sequence number. R425, R427, R441, R450, R452,
R453: a sample of an enabled point is taken on its side where its inputs are valid, and sets GAP otherwise, whatever commit
waits; a device that is not active, or is saving, does not save; the fill ends with memory filled whatever is held; every error
is recorded with its reader, and every correction counted. R464, R465, R467, R470, R473: a plain transfer request holds its bank
or waits there; a request that turns urgent is so; a class is written; a requester cut off is demoted and told, whatever waits;
a released lock sequence is over. R47, R508, R510, R511, R522, R524, R525: descriptors at the front run whatever waits behind
them; a window of the own node is a register access; a tunnelled write is a register write of the tunnel, and a pair is its key
followed by it; an answer that the register cannot be read completes as unsupported; the link comes up and a function-level
reset ends whatever was under way. R529: a sensor that reads within its range shows its code, whatever the others do. R56, R57,
R60: a group whose checks pass waits for its commit point, or becomes live at once at an instant that is one, whatever other
groups wait. R52: an accepted patch leaves reception, and its groups wait while the device runs and are live behind it while it
is halted. -/
def Obligations.EffectsWhateverWaits : Prop :=
  (∀ (s : State) (e : Fin 64) (en : Engine) (mm : Fin 3) (k j : Nat) (r : SegRun) (g : Segment) (b : Block), s.running = true →
    (Does .controlPeriodBoundary s fun u => (∀ i < 8, ∀ n < 16, u.bit (Reg.ADC_RES i n) 16 = false) ∧
      (s.cfg.pend = [] → u.tim.period = s.tim.period + 1)) ∧
    (k = s.slotEngine e.val → j = s.slotSeg e.val → s.slotValid e.val = true → s.enginesRun = true →
      s.vtx.stopped.at k false = false → s.runOf k = none → (s.segment k j).isSome = true →
      Does (.slotWindowStart e) s fun u => u.runOf k = some { entry := e.val, seg := j, mid := s.slotMid e.val }) ∧
    (k = s.slotEngine e.val → s.runOf k = some r → r.entry = e.val → r.seg < 8 → s.segment k r.seg = some g →
      Does (.windowEnd e) s fun u => u.runOf k = none ∧
        u.liveBank k r.seg = (decide (g.blocks.length ≤ r.blk) != s.liveBank k r.seg)) ∧
    (NextBlock s en.val r b → (b.defer = false ∨ s.bit Reg.THW_STAT 19 = false) →
      (mm.val < 2 → Does (.blockComplete en mm) s fun u =>
        (u.runOf en.val).map (fun x => (x.entry, x.seg, x.blk)) = some (r.entry, r.seg, r.blk + 1)) ∧
      (Does (.blockComplete en 2) s fun u => u.runOf en.val = none ∧ u.rf (Reg.VTX_STAT en.val) 0 2 = 3))) ∧
  (∀ (s : State) (lane far : Lane) (node : Node) (up v : Bool) (cycles x : Nat) (k : Int) (g : Group) (q : LegPair),
    s.running = true →
    (node.val ≠ s.node → s.receives lane.val = true → Does (.ringStateSet lane node far up) s fun u =>
      u.ring.down.contains (node.val, far.val) = !up) ∧
    (s.ring.closed = some k → Does (.strataSortDone cycles) s fun u => u.ring.res.map Res.num = some k ∧
      u.ring.gov = s.ring.gov ∧ KeepsMem s u) ∧
    (s.cfg.inForce = true →
      (Does (.pwmGroupBoundary g false) s fun u => (∀ p < 96, s.groupOfPair p = g.val → (u.pair p).shut = none) ∧
        (s.dueNow 3 g.val = false → u.rf (Reg.PWM_GSTAT g.val) 8 24 = (s.rf (Reg.PWM_GSTAT g.val) 8 24 + 1) % 16777216)) ∧
      (s.midCommit g.val = true → Does (.pwmGroupBoundary g true) s fun u =>
        ∀ p < 96, s.groupOfPair p = g.val → (u.pair p).shut = none)) ∧
    (s.outEn = true → s.pairEnabled q = true → (s.pair q.val).started = true →
      uLevel (s.liveSet q.val) (s.fineLen (s.groupOfPair q.val)) (s.pair q.val).cut x = v → (s.pair q.val).raw = !v →
      Does (.commandTransition q x) s fun u => (u.pair q.val).raw = v)) ∧
  (∀ (s : State) (g : Gate) (hard low level settled : Bool) (n : Fin 4) (c : Ckpt), s.running = true →
    (s.evaluating = true → s.latched g.val = false → Does (.switchFaultQualified g hard) s fun u => u.latched g.val = true) ∧
    (s.flintRuns = true → bitOf s.flint.req 3 = false → Does .flintCycle s fun u =>
      u.rn Reg.FLT_CYCLES = (s.rn Reg.FLT_CYCLES + 1) % 4294967296) ∧
    (s.flintRuns = true → Does (.readbackCompare n low level settled) s fun u =>
      u.bit Reg.FLT_SOUT (8 + n.val + 4 * low.toNat) = level) ∧
    (s.pairState = 2 → s.newestCkpt = some c → Does .takeoverPrepareDone s fun u => u.par.prepared = true ∧
      u.par.resumed = some c) ∧
    (Does .healthReportSend s fun u => u.par.hseq = (s.par.hseq + 1) % 65536 ∧
      u.rf Reg.PAR_HLTH_OWN 16 16 = s.par.hseq % 65536 ∧
      (s.partnerUp = true → Sent u s.partnerLane (.health (u.rg Reg.PAR_HLTH_OWN) s.ownDigest (s.bit (Reg.LAN_LSTAT 3) 1))))) ∧
  (∀ (s : State) (src : Src) (p : Point) (a t t0 : Nat) (reader : Fin 15) (w : Fin 2097152) (l : List (Fin 15 × Fin 2097152)),
    s.running = true → t = s.meterInstant p a →
    (s.bit (Reg.MTR_PCFG p) 0 = true →
      ((∃ i < s.pairsOf p, s.codesOk p i = false) → Does (.meterSample p a) s fun u => (u.point p).gap = true ∧
        (u.point p).eimp = (s.point p).eimp ∧ (u.point p).eexp = (s.point p).eexp) ∧
      ((∀ i < s.pairsOf p, s.codesOk p i = true) → (s.point p).last = some t0 → (s.point p).scales = [] →
        Does (.meterSample p a) s fun u =>
        (u.point p).last = some t ∧
        (u.point p).eimp = (if 0 < (s.pointPower p).m then ((s.point p).eimp + sampleEnergy s p t t0) % 2 ^ 96
          else (s.point p).eimp) ∧
        (u.point p).eexp = (if (s.pointPower p).m < 0 then ((s.point p).eexp + sampleEnergy s p t t0) % 2 ^ 96
          else (s.point p).eexp))) ∧
    (KeyPasses s src Reg.MTR_CTRL → (s.pairState ≠ 3 ∨ s.mtr.save.isSome = true) → Does (.saveNow src) s fun u =>
      u.slot src = {} ∧ ({ u with keys := s.keys } : State) = s) ∧
    (s.bit Reg.MEM_STAT 0 = false → Does .memoryFillDone s fun u => u.bit Reg.MEM_STAT 0 = true ∧
      u.devState = (if s.devState = 3 then 4 else s.devState)) ∧
    (Does (.uncorrectableError reader w) s fun u => u.rn Reg.MEM_UE_ADDR = 8 * w.val ∧ u.rn Reg.MEM_UE_INFO = reader.val ∧
      u.bit Reg.MEM_FLAGS 3 = true ∧ Told s u 0x0c03 0 [8 * w.val, reader.val]) ∧
    (Does (.correctionLogUpdate l) s fun u => u.rn Reg.MEM_CORR_CNT = min (s.rn Reg.MEM_CORR_CNT + l.length) 4294967295)) ∧
  (∀ (s : State) (src : Src) (r : Fin 12) (b : Fin 16) (n a : Nat) (late : Bool) (d : List Nat) (v : Word), s.running = true →
    (Does (.arbRequest r b n false late a d) s fun u => ∃ q ∈ (u.arbBank b.val).holder.toList ++ (u.arbBank b.val).waiting,
      q.r = r.val ∧ q.addr = a ∧ q.data = d) ∧
    (s.reservedBy b.val = none → (s.arbBank b.val).holder.map ArbReq.r ≠ some r.val → Does (.arbUrgent r b) s fun u =>
      ∀ q ∈ (u.arbBank b.val).waiting, q.r = r.val → q.urgent = true) ∧
    (Reaches s (Reg.ARB_CLASS r.val) → Does (.arbClassWrite src r v) s fun u => u.rn (Reg.ARB_CLASS r.val) = fld v 0 2 ∧
      u.slot src = {}) ∧
    (s.arbService = true → s.holds r.val b.val = true →
      (Does (.arbHoldCutoff r b) s fun u => u.demoted r.val = true ∧ Raises s u [(0x0c04, 0, [r.val, 0])]) ∧
      (Does (.arbWithdraw r b) s fun u => u.demoted r.val = true ∧ Raises s u [(0x0c04, 0, [r.val, 1])])) ∧
    (∀ z, s.lockSeq r.val = some z → Does (.lockRelease r) s fun u => u.lockSeq r.val = none ∧ Raises s u [])) ∧
  (∀ (s : State) (lane : Lane) (m n : Node) (off t : Nat) (v w : Word) (rest : List (Nat × Nat × Nat × Nat)) (tag : Nat) (d : Desc)
      (b : List Byte) (x : Load) (wd rt : Fin 8), s.running = true →
    (s.frontDesc 18 = some d → d.node = s.node → s.overLock d = false → s.bit Reg.MEM_STAT 2 = false → 0 < d.len →
      d.len % 8 = 0 → d.dofs % 8 = 0 → (∀ i < d.len, region (d.dofs + i) = 1) →
      (d.op = 3 → b.length = d.len → Does (.memoryWriteTransfer b) s fun u =>
        (∀ i < d.len, u.byte (d.dofs + i) = b.getD i 0) ∧ (∀ a, a < d.dofs ∨ d.dofs + d.len ≤ a → u.byte a = s.byte a) ∧
        Out.hostWrite (s.entryAddr 18 (s.qHead 18) + 0x18) [statusWord 0 0 false] ∈ u.out) ∧
      (d.op = 4 → s.memi.raw = [] → Does (.memoryReadTransfer none) s fun u => KeepsMem s u ∧
        Out.hostWrite d.addr ((List.range (d.len / 4)).map fun i => s.mem32 (d.dofs + 4 * i)) ∈ u.out ∧
        (s.qOn 5 = false →
          Out.hostWrite (s.entryAddr 18 (s.qHead 18) + 0x18) [statusWord 0 0 false] ∈ u.out))) ∧
    (s.frontDesc 16 = some d → d.node = s.node → s.cfg.load = some x → x.checking = false → x.ring = false →
      d.dofs = x.data.length → Does (.imageChunk b) s fun u =>
        u.cfg.load.isSome = true ∧ (∀ y, u.cfg.load = some y → y.checking = false → y.data = x.data ++ b.take d.len) ∧
        Out.hostWrite (s.entryAddr 16 (s.qHead 16) + 0x18) [statusWord 0 0 false] ∈ u.out) ∧
    (n.val = s.node → badAccess off = false →
      Machine.exec (.windowRead n off) s = Machine.exec (.rcRegisterRead off) s ∧
      Machine.exec (.windowWrite n off v) s = Machine.exec (.registerWrite .pcie off v) s) ∧
    (n.val = s.node → s.receives lane.val = true →
      Machine.exec (.tunnelMessageReceived lane m n (.write off v)) s = Machine.exec (.registerWrite .tunnel off v) s ∧
      Does (.tunnelMessageReceived lane m n (.pair w off v)) s fun u =>
        u = hostWrite .tunnel off v (hostWrite .tunnel Reg.GLB_KEY w s)) ∧
    (takeRead n off (some tag) s.hq.reads = some (t, rest) → Does (.tunnelResponse n off (tag, none)) s fun u => u.hq.reads = rest ∧
      u.out = Out.unsupported :: s.out ∧ Raises s u []) ∧
    (s.sys.perst = false → Does (.pcieLinkChange true wd rt) s fun u => u.linkUp = true ∧ u.hrf Reg.HQ_STAT 1 3 = wd.val ∧
      u.hrf Reg.HQ_STAT 4 3 = rt.val ∧ u.hq.late = [] ∧ Told s u 0x0e03 0 [wd.val, rt.val]) ∧
    (Does .functionLevelReset s fun u => (∀ q < 32, u.qOn q = false ∧ u.qHead q = 0 ∧ u.qTail q = 0 ∧
      u.hq.desc.at q [] = []) ∧ u.hq.reads = [] ∧ u.hq.late = [] ∧ u.lockSeq 8 = none ∧ u.bit Reg.GLB_RSTCAUSE 3 = true ∧
      Raises s u [(0x0e06, 0, [])])) ∧
  (∀ (s : State) (codes : List Int) (i : Fin 10), s.running = true → s.clkState ≠ 3 → s.sensorBroken i = false →
    -480 ≤ codes.getD i 0 → codes.getD i 0 ≤ 1280 → (s.sensor i).same < 4095 → Does (.sensorConversion codes) s fun u =>
      u.reading i = codes.getD i 0 ∧ u.sensorBroken i = false) ∧
  (∀ (s : State) (c i : Nat) (r : CommitReq) (l : List CommitReq), s.running = true → i < classSize c →
    r.all = false → r.cls = c → r.inst = i → s.cfg.checking = r :: l → s.isPending c i = false → s.checkGroup [(c, i)] c i = none →
    (s.immediate c = false → Does .commitCheckDone s fun u => u.isPending c i = true ∧ u.cfg.checking = l) ∧
    (s.immediate c = true → (r.earliest.all fun t => 0 ≤ (s.tim.ts32 - t).toInt) →
      Does .commitCheckDone s fun u => u.isPending c i = false ∧
      u.cfg.checking = l ∧ u.rg Reg.CFG_COMMIT_TS = s.tim.ts32 ∧ ∀ p ∈ s.membersOf c i, u.rg p.2 = s.rg p.1)) ∧
  (∀ (s : State) (c : ImageContent) (l : Load) (t : State), s.running = true → s.cfg.load = some l → l.checking = true →
    s.imageError l.data c = none → bitOf (imgField l.data 22 2) 0 = true → t = s.stage l.data c true →
    (s.touched c).find? (fun g => s.isPending g.1 g.2) = none →
    t.checkAllGroups (s.cfg.metered || (idsOf l.data).contains 0x40) = none →
    (∀ x, safeOf l.data c = some x → s.safeReason x = 0) →
    (Does (.imageCheckDone c) s fun u => u.cfg.load = none ∧ u.cfg.inForce = true ∧
      (s.halted = false → ∀ g ∈ t.touched c, u.isPending g.1 g.2 = true) ∧
      (s.halted = true → s.dry = false → ∀ g ∈ t.touched c, u.isPending g.1 g.2 = false ∧
        ∀ p ∈ t.membersOf g.1 g.2, u.rg p.2 = t.rg p.1)))
end

