-- ==== Sys2Proof/Laws/State.lean ====
section
/-! SUPPORT. What each basic update leaves as it is: one lemma per field and update. -/

namespace Sys2Proof.Machine

variable (s : State)

/-! ### wr -/
@[simp] theorem State.wr_mem (a : Nat) (v : Word) : (s.wr a v).mem = s.mem := (rfl)
@[simp] theorem State.wr_memi (a : Nat) (v : Word) : (s.wr a v).memi = s.memi := (rfl)
@[simp] theorem State.wr_arb (a : Nat) (v : Word) : (s.wr a v).arb = s.arb := (rfl)
@[simp] theorem State.wr_lan (a : Nat) (v : Word) : (s.wr a v).lan = s.lan := (rfl)
@[simp] theorem State.wr_sys (a : Nat) (v : Word) : (s.wr a v).sys = s.sys := (rfl)
@[simp] theorem State.wr_keys (a : Nat) (v : Word) : (s.wr a v).keys = s.keys := (rfl)
@[simp] theorem State.wr_tim (a : Nat) (v : Word) : (s.wr a v).tim = s.tim := (rfl)
@[simp] theorem State.wr_clk (a : Nat) (v : Word) : (s.wr a v).clk = s.clk := (rfl)
@[simp] theorem State.wr_cfg (a : Nat) (v : Word) : (s.wr a v).cfg = s.cfg := (rfl)
@[simp] theorem State.wr_meas (a : Nat) (v : Word) : (s.wr a v).meas = s.meas := (rfl)
@[simp] theorem State.wr_vtx (a : Nat) (v : Word) : (s.wr a v).vtx = s.vtx := (rfl)
@[simp] theorem State.wr_inp (a : Nat) (v : Word) : (s.wr a v).inp = s.inp := (rfl)
@[simp] theorem State.wr_ring (a : Nat) (v : Word) : (s.wr a v).ring = s.ring := (rfl)
@[simp] theorem State.wr_par (a : Nat) (v : Word) : (s.wr a v).par = s.par := (rfl)
@[simp] theorem State.wr_mtr (a : Nat) (v : Word) : (s.wr a v).mtr = s.mtr := (rfl)
@[simp] theorem State.wr_thw (a : Nat) (v : Word) : (s.wr a v).thw = s.thw := (rfl)
@[simp] theorem State.wr_flint (a : Nat) (v : Word) : (s.wr a v).flint = s.flint := (rfl)
@[simp] theorem State.wr_tap (a : Nat) (v : Word) : (s.wr a v).tap = s.tap := (rfl)
@[simp] theorem State.wr_pwm (a : Nat) (v : Word) : (s.wr a v).pwm = s.pwm := (rfl)
@[simp] theorem State.wr_prot (a : Nat) (v : Word) : (s.wr a v).prot = s.prot := (rfl)
@[simp] theorem State.wr_evt (a : Nat) (v : Word) : (s.wr a v).evt = s.evt := (rfl)
@[simp] theorem State.wr_hq (a : Nat) (v : Word) : (s.wr a v).hq = s.hq := (rfl)
@[simp] theorem State.wr_out (a : Nat) (v : Word) : (s.wr a v).out = s.out := (rfl)
@[simp] theorem State.wr_now (a : Nat) (v : Word) : (s.wr a v).now = s.now := (rfl)
@[simp] theorem State.wr_free (a : Nat) (v : Word) : (s.wr a v).free = s.free := (rfl)
@[simp] theorem State.wr_pending (a : Nat) (v : Word) : (s.wr a v).pending = s.pending := (rfl)

/-! ### wf -/
@[simp] theorem State.wf_mem (a lo n v : Nat) : (s.wf a lo n v).mem = s.mem := (rfl)
@[simp] theorem State.wf_memi (a lo n v : Nat) : (s.wf a lo n v).memi = s.memi := (rfl)
@[simp] theorem State.wf_arb (a lo n v : Nat) : (s.wf a lo n v).arb = s.arb := (rfl)
@[simp] theorem State.wf_lan (a lo n v : Nat) : (s.wf a lo n v).lan = s.lan := (rfl)
@[simp] theorem State.wf_sys (a lo n v : Nat) : (s.wf a lo n v).sys = s.sys := (rfl)
@[simp] theorem State.wf_keys (a lo n v : Nat) : (s.wf a lo n v).keys = s.keys := (rfl)
@[simp] theorem State.wf_tim (a lo n v : Nat) : (s.wf a lo n v).tim = s.tim := (rfl)
@[simp] theorem State.wf_clk (a lo n v : Nat) : (s.wf a lo n v).clk = s.clk := (rfl)
@[simp] theorem State.wf_cfg (a lo n v : Nat) : (s.wf a lo n v).cfg = s.cfg := (rfl)
@[simp] theorem State.wf_meas (a lo n v : Nat) : (s.wf a lo n v).meas = s.meas := (rfl)
@[simp] theorem State.wf_vtx (a lo n v : Nat) : (s.wf a lo n v).vtx = s.vtx := (rfl)
@[simp] theorem State.wf_inp (a lo n v : Nat) : (s.wf a lo n v).inp = s.inp := (rfl)
@[simp] theorem State.wf_ring (a lo n v : Nat) : (s.wf a lo n v).ring = s.ring := (rfl)
@[simp] theorem State.wf_par (a lo n v : Nat) : (s.wf a lo n v).par = s.par := (rfl)
@[simp] theorem State.wf_mtr (a lo n v : Nat) : (s.wf a lo n v).mtr = s.mtr := (rfl)
@[simp] theorem State.wf_thw (a lo n v : Nat) : (s.wf a lo n v).thw = s.thw := (rfl)
@[simp] theorem State.wf_flint (a lo n v : Nat) : (s.wf a lo n v).flint = s.flint := (rfl)
@[simp] theorem State.wf_tap (a lo n v : Nat) : (s.wf a lo n v).tap = s.tap := (rfl)
@[simp] theorem State.wf_pwm (a lo n v : Nat) : (s.wf a lo n v).pwm = s.pwm := (rfl)
@[simp] theorem State.wf_prot (a lo n v : Nat) : (s.wf a lo n v).prot = s.prot := (rfl)
@[simp] theorem State.wf_evt (a lo n v : Nat) : (s.wf a lo n v).evt = s.evt := (rfl)
@[simp] theorem State.wf_hq (a lo n v : Nat) : (s.wf a lo n v).hq = s.hq := (rfl)
@[simp] theorem State.wf_out (a lo n v : Nat) : (s.wf a lo n v).out = s.out := (rfl)
@[simp] theorem State.wf_now (a lo n v : Nat) : (s.wf a lo n v).now = s.now := (rfl)
@[simp] theorem State.wf_free (a lo n v : Nat) : (s.wf a lo n v).free = s.free := (rfl)
@[simp] theorem State.wf_pending (a lo n v : Nat) : (s.wf a lo n v).pending = s.pending := (rfl)

/-! ### wbit -/
@[simp] theorem State.wbit_mem (a i : Nat) (b : Bool) : (s.wbit a i b).mem = s.mem := (rfl)
@[simp] theorem State.wbit_memi (a i : Nat) (b : Bool) : (s.wbit a i b).memi = s.memi := (rfl)
@[simp] theorem State.wbit_arb (a i : Nat) (b : Bool) : (s.wbit a i b).arb = s.arb := (rfl)
@[simp] theorem State.wbit_lan (a i : Nat) (b : Bool) : (s.wbit a i b).lan = s.lan := (rfl)
@[simp] theorem State.wbit_sys (a i : Nat) (b : Bool) : (s.wbit a i b).sys = s.sys := (rfl)
@[simp] theorem State.wbit_keys (a i : Nat) (b : Bool) : (s.wbit a i b).keys = s.keys := (rfl)
@[simp] theorem State.wbit_tim (a i : Nat) (b : Bool) : (s.wbit a i b).tim = s.tim := (rfl)
@[simp] theorem State.wbit_clk (a i : Nat) (b : Bool) : (s.wbit a i b).clk = s.clk := (rfl)
@[simp] theorem State.wbit_cfg (a i : Nat) (b : Bool) : (s.wbit a i b).cfg = s.cfg := (rfl)
@[simp] theorem State.wbit_meas (a i : Nat) (b : Bool) : (s.wbit a i b).meas = s.meas := (rfl)
@[simp] theorem State.wbit_vtx (a i : Nat) (b : Bool) : (s.wbit a i b).vtx = s.vtx := (rfl)
@[simp] theorem State.wbit_inp (a i : Nat) (b : Bool) : (s.wbit a i b).inp = s.inp := (rfl)
@[simp] theorem State.wbit_ring (a i : Nat) (b : Bool) : (s.wbit a i b).ring = s.ring := (rfl)
@[simp] theorem State.wbit_par (a i : Nat) (b : Bool) : (s.wbit a i b).par = s.par := (rfl)
@[simp] theorem State.wbit_mtr (a i : Nat) (b : Bool) : (s.wbit a i b).mtr = s.mtr := (rfl)
@[simp] theorem State.wbit_thw (a i : Nat) (b : Bool) : (s.wbit a i b).thw = s.thw := (rfl)
@[simp] theorem State.wbit_flint (a i : Nat) (b : Bool) : (s.wbit a i b).flint = s.flint := (rfl)
@[simp] theorem State.wbit_tap (a i : Nat) (b : Bool) : (s.wbit a i b).tap = s.tap := (rfl)
@[simp] theorem State.wbit_pwm (a i : Nat) (b : Bool) : (s.wbit a i b).pwm = s.pwm := (rfl)
@[simp] theorem State.wbit_prot (a i : Nat) (b : Bool) : (s.wbit a i b).prot = s.prot := (rfl)
@[simp] theorem State.wbit_evt (a i : Nat) (b : Bool) : (s.wbit a i b).evt = s.evt := (rfl)
@[simp] theorem State.wbit_hq (a i : Nat) (b : Bool) : (s.wbit a i b).hq = s.hq := (rfl)
@[simp] theorem State.wbit_out (a i : Nat) (b : Bool) : (s.wbit a i b).out = s.out := (rfl)
@[simp] theorem State.wbit_now (a i : Nat) (b : Bool) : (s.wbit a i b).now = s.now := (rfl)
@[simp] theorem State.wbit_free (a i : Nat) (b : Bool) : (s.wbit a i b).free = s.free := (rfl)
@[simp] theorem State.wbit_pending (a i : Nat) (b : Bool) : (s.wbit a i b).pending = s.pending := (rfl)

/-! ### wn -/
@[simp] theorem State.wn_mem (a v : Nat) : (s.wn a v).mem = s.mem := (rfl)
@[simp] theorem State.wn_memi (a v : Nat) : (s.wn a v).memi = s.memi := (rfl)
@[simp] theorem State.wn_arb (a v : Nat) : (s.wn a v).arb = s.arb := (rfl)
@[simp] theorem State.wn_lan (a v : Nat) : (s.wn a v).lan = s.lan := (rfl)
@[simp] theorem State.wn_sys (a v : Nat) : (s.wn a v).sys = s.sys := (rfl)
@[simp] theorem State.wn_keys (a v : Nat) : (s.wn a v).keys = s.keys := (rfl)
@[simp] theorem State.wn_tim (a v : Nat) : (s.wn a v).tim = s.tim := (rfl)
@[simp] theorem State.wn_clk (a v : Nat) : (s.wn a v).clk = s.clk := (rfl)
@[simp] theorem State.wn_cfg (a v : Nat) : (s.wn a v).cfg = s.cfg := (rfl)
@[simp] theorem State.wn_meas (a v : Nat) : (s.wn a v).meas = s.meas := (rfl)
@[simp] theorem State.wn_vtx (a v : Nat) : (s.wn a v).vtx = s.vtx := (rfl)
@[simp] theorem State.wn_inp (a v : Nat) : (s.wn a v).inp = s.inp := (rfl)
@[simp] theorem State.wn_ring (a v : Nat) : (s.wn a v).ring = s.ring := (rfl)
@[simp] theorem State.wn_par (a v : Nat) : (s.wn a v).par = s.par := (rfl)
@[simp] theorem State.wn_mtr (a v : Nat) : (s.wn a v).mtr = s.mtr := (rfl)
@[simp] theorem State.wn_thw (a v : Nat) : (s.wn a v).thw = s.thw := (rfl)
@[simp] theorem State.wn_flint (a v : Nat) : (s.wn a v).flint = s.flint := (rfl)
@[simp] theorem State.wn_tap (a v : Nat) : (s.wn a v).tap = s.tap := (rfl)
@[simp] theorem State.wn_pwm (a v : Nat) : (s.wn a v).pwm = s.pwm := (rfl)
@[simp] theorem State.wn_prot (a v : Nat) : (s.wn a v).prot = s.prot := (rfl)
@[simp] theorem State.wn_evt (a v : Nat) : (s.wn a v).evt = s.evt := (rfl)
@[simp] theorem State.wn_hq (a v : Nat) : (s.wn a v).hq = s.hq := (rfl)
@[simp] theorem State.wn_out (a v : Nat) : (s.wn a v).out = s.out := (rfl)
@[simp] theorem State.wn_now (a v : Nat) : (s.wn a v).now = s.now := (rfl)
@[simp] theorem State.wn_free (a v : Nat) : (s.wn a v).free = s.free := (rfl)
@[simp] theorem State.wn_pending (a v : Nat) : (s.wn a v).pending = s.pending := (rfl)

/-! ### satAdd -/
@[simp] theorem State.satAdd_mem (a lo n k : Nat) : (s.satAdd a lo n k).mem = s.mem := (rfl)
@[simp] theorem State.satAdd_memi (a lo n k : Nat) : (s.satAdd a lo n k).memi = s.memi := (rfl)
@[simp] theorem State.satAdd_arb (a lo n k : Nat) : (s.satAdd a lo n k).arb = s.arb := (rfl)
@[simp] theorem State.satAdd_lan (a lo n k : Nat) : (s.satAdd a lo n k).lan = s.lan := (rfl)
@[simp] theorem State.satAdd_sys (a lo n k : Nat) : (s.satAdd a lo n k).sys = s.sys := (rfl)
@[simp] theorem State.satAdd_keys (a lo n k : Nat) : (s.satAdd a lo n k).keys = s.keys := (rfl)
@[simp] theorem State.satAdd_tim (a lo n k : Nat) : (s.satAdd a lo n k).tim = s.tim := (rfl)
@[simp] theorem State.satAdd_clk (a lo n k : Nat) : (s.satAdd a lo n k).clk = s.clk := (rfl)
@[simp] theorem State.satAdd_cfg (a lo n k : Nat) : (s.satAdd a lo n k).cfg = s.cfg := (rfl)
@[simp] theorem State.satAdd_meas (a lo n k : Nat) : (s.satAdd a lo n k).meas = s.meas := (rfl)
@[simp] theorem State.satAdd_vtx (a lo n k : Nat) : (s.satAdd a lo n k).vtx = s.vtx := (rfl)
@[simp] theorem State.satAdd_inp (a lo n k : Nat) : (s.satAdd a lo n k).inp = s.inp := (rfl)
@[simp] theorem State.satAdd_ring (a lo n k : Nat) : (s.satAdd a lo n k).ring = s.ring := (rfl)
@[simp] theorem State.satAdd_par (a lo n k : Nat) : (s.satAdd a lo n k).par = s.par := (rfl)
@[simp] theorem State.satAdd_mtr (a lo n k : Nat) : (s.satAdd a lo n k).mtr = s.mtr := (rfl)
@[simp] theorem State.satAdd_thw (a lo n k : Nat) : (s.satAdd a lo n k).thw = s.thw := (rfl)
@[simp] theorem State.satAdd_flint (a lo n k : Nat) : (s.satAdd a lo n k).flint = s.flint := (rfl)
@[simp] theorem State.satAdd_tap (a lo n k : Nat) : (s.satAdd a lo n k).tap = s.tap := (rfl)
@[simp] theorem State.satAdd_pwm (a lo n k : Nat) : (s.satAdd a lo n k).pwm = s.pwm := (rfl)
@[simp] theorem State.satAdd_prot (a lo n k : Nat) : (s.satAdd a lo n k).prot = s.prot := (rfl)
@[simp] theorem State.satAdd_evt (a lo n k : Nat) : (s.satAdd a lo n k).evt = s.evt := (rfl)
@[simp] theorem State.satAdd_hq (a lo n k : Nat) : (s.satAdd a lo n k).hq = s.hq := (rfl)
@[simp] theorem State.satAdd_out (a lo n k : Nat) : (s.satAdd a lo n k).out = s.out := (rfl)
@[simp] theorem State.satAdd_now (a lo n k : Nat) : (s.satAdd a lo n k).now = s.now := (rfl)
@[simp] theorem State.satAdd_free (a lo n k : Nat) : (s.satAdd a lo n k).free = s.free := (rfl)
@[simp] theorem State.satAdd_pending (a lo n k : Nat) : (s.satAdd a lo n k).pending = s.pending := (rfl)

/-! ### count -/
@[simp] theorem State.count_mem (a : Nat) : (s.count a).mem = s.mem := (rfl)
@[simp] theorem State.count_memi (a : Nat) : (s.count a).memi = s.memi := (rfl)
@[simp] theorem State.count_arb (a : Nat) : (s.count a).arb = s.arb := (rfl)
@[simp] theorem State.count_lan (a : Nat) : (s.count a).lan = s.lan := (rfl)
@[simp] theorem State.count_sys (a : Nat) : (s.count a).sys = s.sys := (rfl)
@[simp] theorem State.count_keys (a : Nat) : (s.count a).keys = s.keys := (rfl)
@[simp] theorem State.count_tim (a : Nat) : (s.count a).tim = s.tim := (rfl)
@[simp] theorem State.count_clk (a : Nat) : (s.count a).clk = s.clk := (rfl)
@[simp] theorem State.count_cfg (a : Nat) : (s.count a).cfg = s.cfg := (rfl)
@[simp] theorem State.count_meas (a : Nat) : (s.count a).meas = s.meas := (rfl)
@[simp] theorem State.count_vtx (a : Nat) : (s.count a).vtx = s.vtx := (rfl)
@[simp] theorem State.count_inp (a : Nat) : (s.count a).inp = s.inp := (rfl)
@[simp] theorem State.count_ring (a : Nat) : (s.count a).ring = s.ring := (rfl)
@[simp] theorem State.count_par (a : Nat) : (s.count a).par = s.par := (rfl)
@[simp] theorem State.count_mtr (a : Nat) : (s.count a).mtr = s.mtr := (rfl)
@[simp] theorem State.count_thw (a : Nat) : (s.count a).thw = s.thw := (rfl)
@[simp] theorem State.count_flint (a : Nat) : (s.count a).flint = s.flint := (rfl)
@[simp] theorem State.count_tap (a : Nat) : (s.count a).tap = s.tap := (rfl)
@[simp] theorem State.count_pwm (a : Nat) : (s.count a).pwm = s.pwm := (rfl)
@[simp] theorem State.count_prot (a : Nat) : (s.count a).prot = s.prot := (rfl)
@[simp] theorem State.count_evt (a : Nat) : (s.count a).evt = s.evt := (rfl)
@[simp] theorem State.count_hq (a : Nat) : (s.count a).hq = s.hq := (rfl)
@[simp] theorem State.count_out (a : Nat) : (s.count a).out = s.out := (rfl)
@[simp] theorem State.count_now (a : Nat) : (s.count a).now = s.now := (rfl)
@[simp] theorem State.count_free (a : Nat) : (s.count a).free = s.free := (rfl)
@[simp] theorem State.count_pending (a : Nat) : (s.count a).pending = s.pending := (rfl)

/-! ### ewr -/
@[simp] theorem State.ewr_regs (a : Nat) (v : Word) : (s.ewr a v).regs = s.regs := (rfl)
@[simp] theorem State.ewr_mem (a : Nat) (v : Word) : (s.ewr a v).mem = s.mem := (rfl)
@[simp] theorem State.ewr_memi (a : Nat) (v : Word) : (s.ewr a v).memi = s.memi := (rfl)
@[simp] theorem State.ewr_arb (a : Nat) (v : Word) : (s.ewr a v).arb = s.arb := (rfl)
@[simp] theorem State.ewr_lan (a : Nat) (v : Word) : (s.ewr a v).lan = s.lan := (rfl)
@[simp] theorem State.ewr_sys (a : Nat) (v : Word) : (s.ewr a v).sys = s.sys := (rfl)
@[simp] theorem State.ewr_keys (a : Nat) (v : Word) : (s.ewr a v).keys = s.keys := (rfl)
@[simp] theorem State.ewr_tim (a : Nat) (v : Word) : (s.ewr a v).tim = s.tim := (rfl)
@[simp] theorem State.ewr_clk (a : Nat) (v : Word) : (s.ewr a v).clk = s.clk := (rfl)
@[simp] theorem State.ewr_cfg (a : Nat) (v : Word) : (s.ewr a v).cfg = s.cfg := (rfl)
@[simp] theorem State.ewr_meas (a : Nat) (v : Word) : (s.ewr a v).meas = s.meas := (rfl)
@[simp] theorem State.ewr_vtx (a : Nat) (v : Word) : (s.ewr a v).vtx = s.vtx := (rfl)
@[simp] theorem State.ewr_inp (a : Nat) (v : Word) : (s.ewr a v).inp = s.inp := (rfl)
@[simp] theorem State.ewr_ring (a : Nat) (v : Word) : (s.ewr a v).ring = s.ring := (rfl)
@[simp] theorem State.ewr_par (a : Nat) (v : Word) : (s.ewr a v).par = s.par := (rfl)
@[simp] theorem State.ewr_mtr (a : Nat) (v : Word) : (s.ewr a v).mtr = s.mtr := (rfl)
@[simp] theorem State.ewr_thw (a : Nat) (v : Word) : (s.ewr a v).thw = s.thw := (rfl)
@[simp] theorem State.ewr_flint (a : Nat) (v : Word) : (s.ewr a v).flint = s.flint := (rfl)
@[simp] theorem State.ewr_tap (a : Nat) (v : Word) : (s.ewr a v).tap = s.tap := (rfl)
@[simp] theorem State.ewr_pwm (a : Nat) (v : Word) : (s.ewr a v).pwm = s.pwm := (rfl)
@[simp] theorem State.ewr_prot (a : Nat) (v : Word) : (s.ewr a v).prot = s.prot := (rfl)
@[simp] theorem State.ewr_hq (a : Nat) (v : Word) : (s.ewr a v).hq = s.hq := (rfl)
@[simp] theorem State.ewr_out (a : Nat) (v : Word) : (s.ewr a v).out = s.out := (rfl)
@[simp] theorem State.ewr_now (a : Nat) (v : Word) : (s.ewr a v).now = s.now := (rfl)
@[simp] theorem State.ewr_free (a : Nat) (v : Word) : (s.ewr a v).free = s.free := (rfl)
@[simp] theorem State.ewr_pending (a : Nat) (v : Word) : (s.ewr a v).pending = s.pending := (rfl)

/-! ### hwr -/
@[simp] theorem State.hwr_regs (a : Nat) (v : Word) : (s.hwr a v).regs = s.regs := (rfl)
@[simp] theorem State.hwr_mem (a : Nat) (v : Word) : (s.hwr a v).mem = s.mem := (rfl)
@[simp] theorem State.hwr_memi (a : Nat) (v : Word) : (s.hwr a v).memi = s.memi := (rfl)
@[simp] theorem State.hwr_arb (a : Nat) (v : Word) : (s.hwr a v).arb = s.arb := (rfl)
@[simp] theorem State.hwr_lan (a : Nat) (v : Word) : (s.hwr a v).lan = s.lan := (rfl)
@[simp] theorem State.hwr_sys (a : Nat) (v : Word) : (s.hwr a v).sys = s.sys := (rfl)
@[simp] theorem State.hwr_keys (a : Nat) (v : Word) : (s.hwr a v).keys = s.keys := (rfl)
@[simp] theorem State.hwr_tim (a : Nat) (v : Word) : (s.hwr a v).tim = s.tim := (rfl)
@[simp] theorem State.hwr_clk (a : Nat) (v : Word) : (s.hwr a v).clk = s.clk := (rfl)
@[simp] theorem State.hwr_cfg (a : Nat) (v : Word) : (s.hwr a v).cfg = s.cfg := (rfl)
@[simp] theorem State.hwr_meas (a : Nat) (v : Word) : (s.hwr a v).meas = s.meas := (rfl)
@[simp] theorem State.hwr_vtx (a : Nat) (v : Word) : (s.hwr a v).vtx = s.vtx := (rfl)
@[simp] theorem State.hwr_inp (a : Nat) (v : Word) : (s.hwr a v).inp = s.inp := (rfl)
@[simp] theorem State.hwr_ring (a : Nat) (v : Word) : (s.hwr a v).ring = s.ring := (rfl)
@[simp] theorem State.hwr_par (a : Nat) (v : Word) : (s.hwr a v).par = s.par := (rfl)
@[simp] theorem State.hwr_mtr (a : Nat) (v : Word) : (s.hwr a v).mtr = s.mtr := (rfl)
@[simp] theorem State.hwr_thw (a : Nat) (v : Word) : (s.hwr a v).thw = s.thw := (rfl)
@[simp] theorem State.hwr_flint (a : Nat) (v : Word) : (s.hwr a v).flint = s.flint := (rfl)
@[simp] theorem State.hwr_tap (a : Nat) (v : Word) : (s.hwr a v).tap = s.tap := (rfl)
@[simp] theorem State.hwr_pwm (a : Nat) (v : Word) : (s.hwr a v).pwm = s.pwm := (rfl)
@[simp] theorem State.hwr_prot (a : Nat) (v : Word) : (s.hwr a v).prot = s.prot := (rfl)
@[simp] theorem State.hwr_evt (a : Nat) (v : Word) : (s.hwr a v).evt = s.evt := (rfl)
@[simp] theorem State.hwr_out (a : Nat) (v : Word) : (s.hwr a v).out = s.out := (rfl)
@[simp] theorem State.hwr_now (a : Nat) (v : Word) : (s.hwr a v).now = s.now := (rfl)
@[simp] theorem State.hwr_free (a : Nat) (v : Word) : (s.hwr a v).free = s.free := (rfl)
@[simp] theorem State.hwr_pending (a : Nat) (v : Word) : (s.hwr a v).pending = s.pending := (rfl)

/-! ### hwf -/
@[simp] theorem State.hwf_regs (a lo n v : Nat) : (s.hwf a lo n v).regs = s.regs := (rfl)
@[simp] theorem State.hwf_mem (a lo n v : Nat) : (s.hwf a lo n v).mem = s.mem := (rfl)
@[simp] theorem State.hwf_memi (a lo n v : Nat) : (s.hwf a lo n v).memi = s.memi := (rfl)
@[simp] theorem State.hwf_arb (a lo n v : Nat) : (s.hwf a lo n v).arb = s.arb := (rfl)
@[simp] theorem State.hwf_lan (a lo n v : Nat) : (s.hwf a lo n v).lan = s.lan := (rfl)
@[simp] theorem State.hwf_sys (a lo n v : Nat) : (s.hwf a lo n v).sys = s.sys := (rfl)
@[simp] theorem State.hwf_keys (a lo n v : Nat) : (s.hwf a lo n v).keys = s.keys := (rfl)
@[simp] theorem State.hwf_tim (a lo n v : Nat) : (s.hwf a lo n v).tim = s.tim := (rfl)
@[simp] theorem State.hwf_clk (a lo n v : Nat) : (s.hwf a lo n v).clk = s.clk := (rfl)
@[simp] theorem State.hwf_cfg (a lo n v : Nat) : (s.hwf a lo n v).cfg = s.cfg := (rfl)
@[simp] theorem State.hwf_meas (a lo n v : Nat) : (s.hwf a lo n v).meas = s.meas := (rfl)
@[simp] theorem State.hwf_vtx (a lo n v : Nat) : (s.hwf a lo n v).vtx = s.vtx := (rfl)
@[simp] theorem State.hwf_inp (a lo n v : Nat) : (s.hwf a lo n v).inp = s.inp := (rfl)
@[simp] theorem State.hwf_ring (a lo n v : Nat) : (s.hwf a lo n v).ring = s.ring := (rfl)
@[simp] theorem State.hwf_par (a lo n v : Nat) : (s.hwf a lo n v).par = s.par := (rfl)
@[simp] theorem State.hwf_mtr (a lo n v : Nat) : (s.hwf a lo n v).mtr = s.mtr := (rfl)
@[simp] theorem State.hwf_thw (a lo n v : Nat) : (s.hwf a lo n v).thw = s.thw := (rfl)
@[simp] theorem State.hwf_flint (a lo n v : Nat) : (s.hwf a lo n v).flint = s.flint := (rfl)
@[simp] theorem State.hwf_tap (a lo n v : Nat) : (s.hwf a lo n v).tap = s.tap := (rfl)
@[simp] theorem State.hwf_pwm (a lo n v : Nat) : (s.hwf a lo n v).pwm = s.pwm := (rfl)
@[simp] theorem State.hwf_prot (a lo n v : Nat) : (s.hwf a lo n v).prot = s.prot := (rfl)
@[simp] theorem State.hwf_evt (a lo n v : Nat) : (s.hwf a lo n v).evt = s.evt := (rfl)
@[simp] theorem State.hwf_out (a lo n v : Nat) : (s.hwf a lo n v).out = s.out := (rfl)
@[simp] theorem State.hwf_now (a lo n v : Nat) : (s.hwf a lo n v).now = s.now := (rfl)
@[simp] theorem State.hwf_free (a lo n v : Nat) : (s.hwf a lo n v).free = s.free := (rfl)
@[simp] theorem State.hwf_pending (a lo n v : Nat) : (s.hwf a lo n v).pending = s.pending := (rfl)

/-! ### setByte -/
@[simp] theorem State.setByte_regs (a : Nat) (b : Byte) : (s.setByte a b).regs = s.regs := (rfl)
@[simp] theorem State.setByte_arb (a : Nat) (b : Byte) : (s.setByte a b).arb = s.arb := (rfl)
@[simp] theorem State.setByte_lan (a : Nat) (b : Byte) : (s.setByte a b).lan = s.lan := (rfl)
@[simp] theorem State.setByte_sys (a : Nat) (b : Byte) : (s.setByte a b).sys = s.sys := (rfl)
@[simp] theorem State.setByte_keys (a : Nat) (b : Byte) : (s.setByte a b).keys = s.keys := (rfl)
@[simp] theorem State.setByte_tim (a : Nat) (b : Byte) : (s.setByte a b).tim = s.tim := (rfl)
@[simp] theorem State.setByte_clk (a : Nat) (b : Byte) : (s.setByte a b).clk = s.clk := (rfl)
@[simp] theorem State.setByte_cfg (a : Nat) (b : Byte) : (s.setByte a b).cfg = s.cfg := (rfl)
@[simp] theorem State.setByte_meas (a : Nat) (b : Byte) : (s.setByte a b).meas = s.meas := (rfl)
@[simp] theorem State.setByte_vtx (a : Nat) (b : Byte) : (s.setByte a b).vtx = s.vtx := (rfl)
@[simp] theorem State.setByte_inp (a : Nat) (b : Byte) : (s.setByte a b).inp = s.inp := (rfl)
@[simp] theorem State.setByte_ring (a : Nat) (b : Byte) : (s.setByte a b).ring = s.ring := (rfl)
@[simp] theorem State.setByte_par (a : Nat) (b : Byte) : (s.setByte a b).par = s.par := (rfl)
@[simp] theorem State.setByte_mtr (a : Nat) (b : Byte) : (s.setByte a b).mtr = s.mtr := (rfl)
@[simp] theorem State.setByte_thw (a : Nat) (b : Byte) : (s.setByte a b).thw = s.thw := (rfl)
@[simp] theorem State.setByte_flint (a : Nat) (b : Byte) : (s.setByte a b).flint = s.flint := (rfl)
@[simp] theorem State.setByte_tap (a : Nat) (b : Byte) : (s.setByte a b).tap = s.tap := (rfl)
@[simp] theorem State.setByte_pwm (a : Nat) (b : Byte) : (s.setByte a b).pwm = s.pwm := (rfl)
@[simp] theorem State.setByte_prot (a : Nat) (b : Byte) : (s.setByte a b).prot = s.prot := (rfl)
@[simp] theorem State.setByte_evt (a : Nat) (b : Byte) : (s.setByte a b).evt = s.evt := (rfl)
@[simp] theorem State.setByte_hq (a : Nat) (b : Byte) : (s.setByte a b).hq = s.hq := (rfl)
@[simp] theorem State.setByte_out (a : Nat) (b : Byte) : (s.setByte a b).out = s.out := (rfl)
@[simp] theorem State.setByte_now (a : Nat) (b : Byte) : (s.setByte a b).now = s.now := (rfl)
@[simp] theorem State.setByte_free (a : Nat) (b : Byte) : (s.setByte a b).free = s.free := (rfl)
@[simp] theorem State.setByte_pending (a : Nat) (b : Byte) : (s.setByte a b).pending = s.pending := (rfl)

/-! ### emit -/
@[simp] theorem State.emit_regs (o : Out) : (s.emit o).regs = s.regs := (rfl)
@[simp] theorem State.emit_mem (o : Out) : (s.emit o).mem = s.mem := (rfl)
@[simp] theorem State.emit_memi (o : Out) : (s.emit o).memi = s.memi := (rfl)
@[simp] theorem State.emit_arb (o : Out) : (s.emit o).arb = s.arb := (rfl)
@[simp] theorem State.emit_lan (o : Out) : (s.emit o).lan = s.lan := (rfl)
@[simp] theorem State.emit_sys (o : Out) : (s.emit o).sys = s.sys := (rfl)
@[simp] theorem State.emit_keys (o : Out) : (s.emit o).keys = s.keys := (rfl)
@[simp] theorem State.emit_tim (o : Out) : (s.emit o).tim = s.tim := (rfl)
@[simp] theorem State.emit_clk (o : Out) : (s.emit o).clk = s.clk := (rfl)
@[simp] theorem State.emit_cfg (o : Out) : (s.emit o).cfg = s.cfg := (rfl)
@[simp] theorem State.emit_meas (o : Out) : (s.emit o).meas = s.meas := (rfl)
@[simp] theorem State.emit_vtx (o : Out) : (s.emit o).vtx = s.vtx := (rfl)
@[simp] theorem State.emit_inp (o : Out) : (s.emit o).inp = s.inp := (rfl)
@[simp] theorem State.emit_ring (o : Out) : (s.emit o).ring = s.ring := (rfl)
@[simp] theorem State.emit_par (o : Out) : (s.emit o).par = s.par := (rfl)
@[simp] theorem State.emit_mtr (o : Out) : (s.emit o).mtr = s.mtr := (rfl)
@[simp] theorem State.emit_thw (o : Out) : (s.emit o).thw = s.thw := (rfl)
@[simp] theorem State.emit_flint (o : Out) : (s.emit o).flint = s.flint := (rfl)
@[simp] theorem State.emit_tap (o : Out) : (s.emit o).tap = s.tap := (rfl)
@[simp] theorem State.emit_pwm (o : Out) : (s.emit o).pwm = s.pwm := (rfl)
@[simp] theorem State.emit_prot (o : Out) : (s.emit o).prot = s.prot := (rfl)
@[simp] theorem State.emit_evt (o : Out) : (s.emit o).evt = s.evt := (rfl)
@[simp] theorem State.emit_hq (o : Out) : (s.emit o).hq = s.hq := (rfl)
@[simp] theorem State.emit_now (o : Out) : (s.emit o).now = s.now := (rfl)
@[simp] theorem State.emit_free (o : Out) : (s.emit o).free = s.free := (rfl)
@[simp] theorem State.emit_pending (o : Out) : (s.emit o).pending = s.pending := (rfl)

/-! ### draw -/
@[simp] theorem State.draw_regs : (s.draw).regs = s.regs := (rfl)
@[simp] theorem State.draw_mem : (s.draw).mem = s.mem := (rfl)
@[simp] theorem State.draw_memi : (s.draw).memi = s.memi := (rfl)
@[simp] theorem State.draw_arb : (s.draw).arb = s.arb := (rfl)
@[simp] theorem State.draw_lan : (s.draw).lan = s.lan := (rfl)
@[simp] theorem State.draw_sys : (s.draw).sys = s.sys := (rfl)
@[simp] theorem State.draw_keys : (s.draw).keys = s.keys := (rfl)
@[simp] theorem State.draw_tim : (s.draw).tim = s.tim := (rfl)
@[simp] theorem State.draw_clk : (s.draw).clk = s.clk := (rfl)
@[simp] theorem State.draw_cfg : (s.draw).cfg = s.cfg := (rfl)
@[simp] theorem State.draw_meas : (s.draw).meas = s.meas := (rfl)
@[simp] theorem State.draw_vtx : (s.draw).vtx = s.vtx := (rfl)
@[simp] theorem State.draw_inp : (s.draw).inp = s.inp := (rfl)
@[simp] theorem State.draw_ring : (s.draw).ring = s.ring := (rfl)
@[simp] theorem State.draw_par : (s.draw).par = s.par := (rfl)
@[simp] theorem State.draw_mtr : (s.draw).mtr = s.mtr := (rfl)
@[simp] theorem State.draw_thw : (s.draw).thw = s.thw := (rfl)
@[simp] theorem State.draw_flint : (s.draw).flint = s.flint := (rfl)
@[simp] theorem State.draw_tap : (s.draw).tap = s.tap := (rfl)
@[simp] theorem State.draw_pwm : (s.draw).pwm = s.pwm := (rfl)
@[simp] theorem State.draw_prot : (s.draw).prot = s.prot := (rfl)
@[simp] theorem State.draw_evt : (s.draw).evt = s.evt := (rfl)
@[simp] theorem State.draw_hq : (s.draw).hq = s.hq := (rfl)
@[simp] theorem State.draw_out : (s.draw).out = s.out := (rfl)
@[simp] theorem State.draw_now : (s.draw).now = s.now := (rfl)
@[simp] theorem State.draw_pending : (s.draw).pending = s.pending := (rfl)

/-! ### raise -/
@[simp] theorem State.raise_regs (code unit : Nat) (data : List Nat) : (s.raise code unit data).regs = s.regs := (rfl)
@[simp] theorem State.raise_mem (code unit : Nat) (data : List Nat) : (s.raise code unit data).mem = s.mem := (rfl)
@[simp] theorem State.raise_memi (code unit : Nat) (data : List Nat) : (s.raise code unit data).memi = s.memi := (rfl)
@[simp] theorem State.raise_arb (code unit : Nat) (data : List Nat) : (s.raise code unit data).arb = s.arb := (rfl)
@[simp] theorem State.raise_lan (code unit : Nat) (data : List Nat) : (s.raise code unit data).lan = s.lan := (rfl)
@[simp] theorem State.raise_sys (code unit : Nat) (data : List Nat) : (s.raise code unit data).sys = s.sys := (rfl)
@[simp] theorem State.raise_keys (code unit : Nat) (data : List Nat) : (s.raise code unit data).keys = s.keys := (rfl)
@[simp] theorem State.raise_tim (code unit : Nat) (data : List Nat) : (s.raise code unit data).tim = s.tim := (rfl)
@[simp] theorem State.raise_clk (code unit : Nat) (data : List Nat) : (s.raise code unit data).clk = s.clk := (rfl)
@[simp] theorem State.raise_cfg (code unit : Nat) (data : List Nat) : (s.raise code unit data).cfg = s.cfg := (rfl)
@[simp] theorem State.raise_meas (code unit : Nat) (data : List Nat) : (s.raise code unit data).meas = s.meas := (rfl)
@[simp] theorem State.raise_vtx (code unit : Nat) (data : List Nat) : (s.raise code unit data).vtx = s.vtx := (rfl)
@[simp] theorem State.raise_inp (code unit : Nat) (data : List Nat) : (s.raise code unit data).inp = s.inp := (rfl)
@[simp] theorem State.raise_ring (code unit : Nat) (data : List Nat) : (s.raise code unit data).ring = s.ring := (rfl)
@[simp] theorem State.raise_par (code unit : Nat) (data : List Nat) : (s.raise code unit data).par = s.par := (rfl)
@[simp] theorem State.raise_mtr (code unit : Nat) (data : List Nat) : (s.raise code unit data).mtr = s.mtr := (rfl)
@[simp] theorem State.raise_thw (code unit : Nat) (data : List Nat) : (s.raise code unit data).thw = s.thw := (rfl)
@[simp] theorem State.raise_flint (code unit : Nat) (data : List Nat) : (s.raise code unit data).flint = s.flint := (rfl)
@[simp] theorem State.raise_tap (code unit : Nat) (data : List Nat) : (s.raise code unit data).tap = s.tap := (rfl)
@[simp] theorem State.raise_pwm (code unit : Nat) (data : List Nat) : (s.raise code unit data).pwm = s.pwm := (rfl)
@[simp] theorem State.raise_prot (code unit : Nat) (data : List Nat) : (s.raise code unit data).prot = s.prot := (rfl)
@[simp] theorem State.raise_hq (code unit : Nat) (data : List Nat) : (s.raise code unit data).hq = s.hq := (rfl)
@[simp] theorem State.raise_out (code unit : Nat) (data : List Nat) : (s.raise code unit data).out = s.out := (rfl)
@[simp] theorem State.raise_now (code unit : Nat) (data : List Nat) : (s.raise code unit data).now = s.now := (rfl)
@[simp] theorem State.raise_free (code unit : Nat) (data : List Nat) : (s.raise code unit data).free = s.free := (rfl)
@[simp] theorem State.raise_pending (code unit : Nat) (data : List Nat) : (s.raise code unit data).pending = s.pending := (rfl)

/-! ### raise804 -/
@[simp] theorem State.raise804_regs (cause ncell : Nat) : (s.raise804 cause ncell).regs = s.regs := (rfl)
@[simp] theorem State.raise804_mem (cause ncell : Nat) : (s.raise804 cause ncell).mem = s.mem := (rfl)
@[simp] theorem State.raise804_memi (cause ncell : Nat) : (s.raise804 cause ncell).memi = s.memi := (rfl)
@[simp] theorem State.raise804_arb (cause ncell : Nat) : (s.raise804 cause ncell).arb = s.arb := (rfl)
@[simp] theorem State.raise804_lan (cause ncell : Nat) : (s.raise804 cause ncell).lan = s.lan := (rfl)
@[simp] theorem State.raise804_sys (cause ncell : Nat) : (s.raise804 cause ncell).sys = s.sys := (rfl)
@[simp] theorem State.raise804_keys (cause ncell : Nat) : (s.raise804 cause ncell).keys = s.keys := (rfl)
@[simp] theorem State.raise804_tim (cause ncell : Nat) : (s.raise804 cause ncell).tim = s.tim := (rfl)
@[simp] theorem State.raise804_clk (cause ncell : Nat) : (s.raise804 cause ncell).clk = s.clk := (rfl)
@[simp] theorem State.raise804_cfg (cause ncell : Nat) : (s.raise804 cause ncell).cfg = s.cfg := (rfl)
@[simp] theorem State.raise804_meas (cause ncell : Nat) : (s.raise804 cause ncell).meas = s.meas := (rfl)
@[simp] theorem State.raise804_vtx (cause ncell : Nat) : (s.raise804 cause ncell).vtx = s.vtx := (rfl)
@[simp] theorem State.raise804_inp (cause ncell : Nat) : (s.raise804 cause ncell).inp = s.inp := (rfl)
@[simp] theorem State.raise804_ring (cause ncell : Nat) : (s.raise804 cause ncell).ring = s.ring := (rfl)
@[simp] theorem State.raise804_par (cause ncell : Nat) : (s.raise804 cause ncell).par = s.par := (rfl)
@[simp] theorem State.raise804_mtr (cause ncell : Nat) : (s.raise804 cause ncell).mtr = s.mtr := (rfl)
@[simp] theorem State.raise804_thw (cause ncell : Nat) : (s.raise804 cause ncell).thw = s.thw := (rfl)
@[simp] theorem State.raise804_flint (cause ncell : Nat) : (s.raise804 cause ncell).flint = s.flint := (rfl)
@[simp] theorem State.raise804_tap (cause ncell : Nat) : (s.raise804 cause ncell).tap = s.tap := (rfl)
@[simp] theorem State.raise804_pwm (cause ncell : Nat) : (s.raise804 cause ncell).pwm = s.pwm := (rfl)
@[simp] theorem State.raise804_prot (cause ncell : Nat) : (s.raise804 cause ncell).prot = s.prot := (rfl)
@[simp] theorem State.raise804_hq (cause ncell : Nat) : (s.raise804 cause ncell).hq = s.hq := (rfl)
@[simp] theorem State.raise804_out (cause ncell : Nat) : (s.raise804 cause ncell).out = s.out := (rfl)
@[simp] theorem State.raise804_now (cause ncell : Nat) : (s.raise804 cause ncell).now = s.now := (rfl)
@[simp] theorem State.raise804_free (cause ncell : Nat) : (s.raise804 cause ncell).free = s.free := (rfl)
@[simp] theorem State.raise804_pending (cause ncell : Nat) : (s.raise804 cause ncell).pending = s.pending := (rfl)

/-! ### setSlot -/
@[simp] theorem State.setSlot_regs (src : Src) (k : KeySlot) : (s.setSlot src k).regs = s.regs := (rfl)
@[simp] theorem State.setSlot_mem (src : Src) (k : KeySlot) : (s.setSlot src k).mem = s.mem := (rfl)
@[simp] theorem State.setSlot_memi (src : Src) (k : KeySlot) : (s.setSlot src k).memi = s.memi := (rfl)
@[simp] theorem State.setSlot_arb (src : Src) (k : KeySlot) : (s.setSlot src k).arb = s.arb := (rfl)
@[simp] theorem State.setSlot_lan (src : Src) (k : KeySlot) : (s.setSlot src k).lan = s.lan := (rfl)
@[simp] theorem State.setSlot_sys (src : Src) (k : KeySlot) : (s.setSlot src k).sys = s.sys := (rfl)
@[simp] theorem State.setSlot_tim (src : Src) (k : KeySlot) : (s.setSlot src k).tim = s.tim := (rfl)
@[simp] theorem State.setSlot_clk (src : Src) (k : KeySlot) : (s.setSlot src k).clk = s.clk := (rfl)
@[simp] theorem State.setSlot_cfg (src : Src) (k : KeySlot) : (s.setSlot src k).cfg = s.cfg := (rfl)
@[simp] theorem State.setSlot_meas (src : Src) (k : KeySlot) : (s.setSlot src k).meas = s.meas := (rfl)
@[simp] theorem State.setSlot_vtx (src : Src) (k : KeySlot) : (s.setSlot src k).vtx = s.vtx := (rfl)
@[simp] theorem State.setSlot_inp (src : Src) (k : KeySlot) : (s.setSlot src k).inp = s.inp := (rfl)
@[simp] theorem State.setSlot_ring (src : Src) (k : KeySlot) : (s.setSlot src k).ring = s.ring := (rfl)
@[simp] theorem State.setSlot_par (src : Src) (k : KeySlot) : (s.setSlot src k).par = s.par := (rfl)
@[simp] theorem State.setSlot_mtr (src : Src) (k : KeySlot) : (s.setSlot src k).mtr = s.mtr := (rfl)
@[simp] theorem State.setSlot_thw (src : Src) (k : KeySlot) : (s.setSlot src k).thw = s.thw := (rfl)
@[simp] theorem State.setSlot_flint (src : Src) (k : KeySlot) : (s.setSlot src k).flint = s.flint := (rfl)
@[simp] theorem State.setSlot_tap (src : Src) (k : KeySlot) : (s.setSlot src k).tap = s.tap := (rfl)
@[simp] theorem State.setSlot_pwm (src : Src) (k : KeySlot) : (s.setSlot src k).pwm = s.pwm := (rfl)
@[simp] theorem State.setSlot_prot (src : Src) (k : KeySlot) : (s.setSlot src k).prot = s.prot := (rfl)
@[simp] theorem State.setSlot_evt (src : Src) (k : KeySlot) : (s.setSlot src k).evt = s.evt := (rfl)
@[simp] theorem State.setSlot_hq (src : Src) (k : KeySlot) : (s.setSlot src k).hq = s.hq := (rfl)
@[simp] theorem State.setSlot_out (src : Src) (k : KeySlot) : (s.setSlot src k).out = s.out := (rfl)
@[simp] theorem State.setSlot_now (src : Src) (k : KeySlot) : (s.setSlot src k).now = s.now := (rfl)
@[simp] theorem State.setSlot_free (src : Src) (k : KeySlot) : (s.setSlot src k).free = s.free := (rfl)
@[simp] theorem State.setSlot_pending (src : Src) (k : KeySlot) : (s.setSlot src k).pending = s.pending := (rfl)

/-! ### disarm -/
@[simp] theorem State.disarm_regs (src : Src) : (s.disarm src).regs = s.regs := (rfl)
@[simp] theorem State.disarm_mem (src : Src) : (s.disarm src).mem = s.mem := (rfl)
@[simp] theorem State.disarm_memi (src : Src) : (s.disarm src).memi = s.memi := (rfl)
@[simp] theorem State.disarm_arb (src : Src) : (s.disarm src).arb = s.arb := (rfl)
@[simp] theorem State.disarm_lan (src : Src) : (s.disarm src).lan = s.lan := (rfl)
@[simp] theorem State.disarm_sys (src : Src) : (s.disarm src).sys = s.sys := (rfl)
@[simp] theorem State.disarm_tim (src : Src) : (s.disarm src).tim = s.tim := (rfl)
@[simp] theorem State.disarm_clk (src : Src) : (s.disarm src).clk = s.clk := (rfl)
@[simp] theorem State.disarm_cfg (src : Src) : (s.disarm src).cfg = s.cfg := (rfl)
@[simp] theorem State.disarm_meas (src : Src) : (s.disarm src).meas = s.meas := (rfl)
@[simp] theorem State.disarm_vtx (src : Src) : (s.disarm src).vtx = s.vtx := (rfl)
@[simp] theorem State.disarm_inp (src : Src) : (s.disarm src).inp = s.inp := (rfl)
@[simp] theorem State.disarm_ring (src : Src) : (s.disarm src).ring = s.ring := (rfl)
@[simp] theorem State.disarm_par (src : Src) : (s.disarm src).par = s.par := (rfl)
@[simp] theorem State.disarm_mtr (src : Src) : (s.disarm src).mtr = s.mtr := (rfl)
@[simp] theorem State.disarm_thw (src : Src) : (s.disarm src).thw = s.thw := (rfl)
@[simp] theorem State.disarm_flint (src : Src) : (s.disarm src).flint = s.flint := (rfl)
@[simp] theorem State.disarm_tap (src : Src) : (s.disarm src).tap = s.tap := (rfl)
@[simp] theorem State.disarm_pwm (src : Src) : (s.disarm src).pwm = s.pwm := (rfl)
@[simp] theorem State.disarm_prot (src : Src) : (s.disarm src).prot = s.prot := (rfl)
@[simp] theorem State.disarm_evt (src : Src) : (s.disarm src).evt = s.evt := (rfl)
@[simp] theorem State.disarm_hq (src : Src) : (s.disarm src).hq = s.hq := (rfl)
@[simp] theorem State.disarm_out (src : Src) : (s.disarm src).out = s.out := (rfl)
@[simp] theorem State.disarm_now (src : Src) : (s.disarm src).now = s.now := (rfl)
@[simp] theorem State.disarm_free (src : Src) : (s.disarm src).free = s.free := (rfl)
@[simp] theorem State.disarm_pending (src : Src) : (s.disarm src).pending = s.pending := (rfl)

/-! ### What the updates set -/
@[simp] theorem State.wr_regs (a : Nat) (v : Word) : (s.wr a v).regs = Tab.set regReset s.regs a v := (rfl)
@[simp] theorem State.wf_regs (a lo n v : Nat) :
    (s.wf a lo n v).regs = Tab.set regReset s.regs a (setFld (Tab.get regReset s.regs a) lo n v) := (rfl)
@[simp] theorem State.wbit_regs (a i : Nat) (b : Bool) :
    (s.wbit a i b).regs = Tab.set regReset s.regs a (setFld (Tab.get regReset s.regs a) i 1 b.toNat) := (rfl)
@[simp] theorem State.wn_regs (a v : Nat) : (s.wn a v).regs = Tab.set regReset s.regs a (BitVec.ofNat 32 v) := (rfl)
@[simp] theorem State.satAdd_regs (a lo n k : Nat) : (s.satAdd a lo n k).regs = Tab.set regReset s.regs a
    (setFld (Tab.get regReset s.regs a) lo n (min (fld (Tab.get regReset s.regs a) lo n + k) (2 ^ n - 1))) := (rfl)
@[simp] theorem State.count_regs (a : Nat) : (s.count a).regs = Tab.set regReset s.regs a
    (setFld (Tab.get regReset s.regs a) 0 32 (min (fld (Tab.get regReset s.regs a) 0 32 + 1) (2 ^ 32 - 1))) := (rfl)
@[simp] theorem State.emit_out (o : Out) : (s.emit o).out = o :: s.out := (rfl)
@[simp] theorem State.draw_free : s.draw.free = s.free + 1 := (rfl)
@[simp] theorem State.raise_batch (code unit : Nat) (data : List Nat) : (s.raise code unit data).evt.batch =
    s.evt.batch ++ [{ ev := { code, unit, data := words data, ts32 := s.tim.ts32 } }] := (rfl)
@[simp] theorem State.raise_evtRegs (code unit : Nat) (data : List Nat) :
    (s.raise code unit data).evt.regs = s.evt.regs := (rfl)
@[simp] theorem State.raise_latched (code unit : Nat) (data : List Nat) :
    (s.raise code unit data).evt.latched = s.evt.latched := (rfl)
@[simp] theorem State.setSlot_slots (src : Src) (k : KeySlot) :
    (s.setSlot src k).keys.slots = s.keys.slots.put (srcNum src) {} k := (rfl)
@[simp] theorem State.disarm_slots (src : Src) :
    (s.disarm src).keys.slots = s.keys.slots.put (srcNum src) {} {} := (rfl)
@[simp] theorem State.setByte_mem (a : Nat) (b : Byte) : (s.setByte a b).mem = Tab.set (fun _ => 0) s.mem a b := (rfl)

/-! ### Fields of a choice between two states -/
@[simp] theorem State.ite_regs (c : Prop) [Decidable c] (a b : State) :
    (if c then a else b).regs = if c then a.regs else b.regs := by split <;> rfl
@[simp] theorem State.ite_mem (c : Prop) [Decidable c] (a b : State) :
    (if c then a else b).mem = if c then a.mem else b.mem := by split <;> rfl
@[simp] theorem State.ite_memi (c : Prop) [Decidable c] (a b : State) :
    (if c then a else b).memi = if c then a.memi else b.memi := by split <;> rfl
@[simp] theorem State.ite_arb (c : Prop) [Decidable c] (a b : State) :
    (if c then a else b).arb = if c then a.arb else b.arb := by split <;> rfl
@[simp] theorem State.ite_lan (c : Prop) [Decidable c] (a b : State) :
    (if c then a else b).lan = if c then a.lan else b.lan := by split <;> rfl
@[simp] theorem State.ite_sys (c : Prop) [Decidable c] (a b : State) :
    (if c then a else b).sys = if c then a.sys else b.sys := by split <;> rfl
@[simp] theorem State.ite_keys (c : Prop) [Decidable c] (a b : State) :
    (if c then a else b).keys = if c then a.keys else b.keys := by split <;> rfl
@[simp] theorem State.ite_tim (c : Prop) [Decidable c] (a b : State) :
    (if c then a else b).tim = if c then a.tim else b.tim := by split <;> rfl
@[simp] theorem State.ite_clk (c : Prop) [Decidable c] (a b : State) :
    (if c then a else b).clk = if c then a.clk else b.clk := by split <;> rfl
@[simp] theorem State.ite_cfg (c : Prop) [Decidable c] (a b : State) :
    (if c then a else b).cfg = if c then a.cfg else b.cfg := by split <;> rfl
@[simp] theorem State.ite_meas (c : Prop) [Decidable c] (a b : State) :
    (if c then a else b).meas = if c then a.meas else b.meas := by split <;> rfl
@[simp] theorem State.ite_vtx (c : Prop) [Decidable c] (a b : State) :
    (if c then a else b).vtx = if c then a.vtx else b.vtx := by split <;> rfl
@[simp] theorem State.ite_inp (c : Prop) [Decidable c] (a b : State) :
    (if c then a else b).inp = if c then a.inp else b.inp := by split <;> rfl
@[simp] theorem State.ite_ring (c : Prop) [Decidable c] (a b : State) :
    (if c then a else b).ring = if c then a.ring else b.ring := by split <;> rfl
@[simp] theorem State.ite_par (c : Prop) [Decidable c] (a b : State) :
    (if c then a else b).par = if c then a.par else b.par := by split <;> rfl
@[simp] theorem State.ite_mtr (c : Prop) [Decidable c] (a b : State) :
    (if c then a else b).mtr = if c then a.mtr else b.mtr := by split <;> rfl
@[simp] theorem State.ite_thw (c : Prop) [Decidable c] (a b : State) :
    (if c then a else b).thw = if c then a.thw else b.thw := by split <;> rfl
@[simp] theorem State.ite_flint (c : Prop) [Decidable c] (a b : State) :
    (if c then a else b).flint = if c then a.flint else b.flint := by split <;> rfl
@[simp] theorem State.ite_tap (c : Prop) [Decidable c] (a b : State) :
    (if c then a else b).tap = if c then a.tap else b.tap := by split <;> rfl
@[simp] theorem State.ite_pwm (c : Prop) [Decidable c] (a b : State) :
    (if c then a else b).pwm = if c then a.pwm else b.pwm := by split <;> rfl
@[simp] theorem State.ite_prot (c : Prop) [Decidable c] (a b : State) :
    (if c then a else b).prot = if c then a.prot else b.prot := by split <;> rfl
@[simp] theorem State.ite_evt (c : Prop) [Decidable c] (a b : State) :
    (if c then a else b).evt = if c then a.evt else b.evt := by split <;> rfl
@[simp] theorem State.ite_hq (c : Prop) [Decidable c] (a b : State) :
    (if c then a else b).hq = if c then a.hq else b.hq := by split <;> rfl
@[simp] theorem State.ite_out (c : Prop) [Decidable c] (a b : State) :
    (if c then a else b).out = if c then a.out else b.out := by split <;> rfl
@[simp] theorem State.ite_now (c : Prop) [Decidable c] (a b : State) :
    (if c then a else b).now = if c then a.now else b.now := by split <;> rfl
@[simp] theorem State.ite_free (c : Prop) [Decidable c] (a b : State) :
    (if c then a else b).free = if c then a.free else b.free := by split <;> rfl
@[simp] theorem State.ite_pending (c : Prop) [Decidable c] (a b : State) :
    (if c then a else b).pending = if c then a.pending else b.pending := by split <;> rfl

end Sys2Proof.Machine
end

