-- ==== Sys2Proof/Laws/Ops.lean ====
section
/-! SUPPORT. Sparse tables, bit fields, registers and memory: what a read gives behind a write, and that every operation
keeps the canonical form. -/

namespace Sys2Proof.Machine

/-! ### Tables -/

variable {α : Type}

theorem Tab.okFrom_mono [DecidableEq α] (d : Nat → α) {lo lo' : Nat} (h : lo' ≤ lo) :
    ∀ t : Tab α, Tab.okFrom d lo t = true → Tab.okFrom d lo' t = true
  | [], _ => rfl
  | (j, v) :: t, ht => by
    simp only [Tab.okFrom, Bool.and_eq_true, decide_eq_true_eq] at ht ⊢
    exact ⟨⟨le_trans h ht.1.1, ht.1.2⟩, ht.2⟩

/-- A table without key `k` reads the default of `k`. -/
@[simp] theorem Tab.get_erase_same (d : Nat → α) (k : Nat) : ∀ t : Tab α, Tab.get d (t.erase k) k = d k
  | [] => rfl
  | (j, v) :: t => by
    have ih := Tab.get_erase_same d k t
    by_cases h : k = j <;> simp [Tab.erase, Tab.get, h] <;> simpa [h] using ih

/-- Removing a key leaves every other key as it reads. -/
theorem Tab.get_erase_ne (d : Nat → α) {k i : Nat} (hi : i ≠ k) : ∀ t : Tab α, Tab.get d (t.erase k) i = Tab.get d t i
  | [] => rfl
  | (j, v) :: t => by
    have ih := Tab.get_erase_ne d hi t
    by_cases h : k = j
    · have : i ≠ j := h ▸ hi
      simp [Tab.erase, Tab.get, h, this]; simpa [h] using ih
    · by_cases h2 : i = j <;> simp [Tab.erase, Tab.get, h, h2]; simpa using ih

/-- Entering a key leaves every other key as it reads. -/
theorem Tab.get_enter_ne (d : Nat → α) {k i : Nat} (v : α) (hi : i ≠ k) :
    ∀ t : Tab α, Tab.get d (t.enter k v) i = Tab.get d t i
  | [] => by simp [Tab.enter, Tab.get, hi]
  | (j, w) :: t => by
    have ih := Tab.get_enter_ne d v hi t
    by_cases h : k < j
    · simp [Tab.enter, h, Tab.get, hi]
    · simp [Tab.enter, h, Tab.get, ih]

/-- A key entered in a table without it reads its value. -/
theorem Tab.get_enter_same (d : Nat → α) (k : Nat) (v : α) : ∀ t : Tab α, Tab.get d ((t.erase k).enter k v) k = v
  | [] => by simp [Tab.erase, Tab.enter, Tab.get]
  | (j, w) :: t => by
    have ih := Tab.get_enter_same d k v t
    by_cases h : k = j
    · simp only [Tab.erase, h, if_pos]; simpa [h] using ih
    · by_cases h2 : k < j
      · simp [Tab.erase, h, Tab.enter, h2, Tab.get]
      · simp [Tab.erase, h, Tab.enter, h2, Tab.get, ih]

/-- A table reads what was set. -/
@[simp] theorem Tab.get_set_same [DecidableEq α] (d : Nat → α) (t : Tab α) (k : Nat) (v : α) : Tab.get d (Tab.set d t k v) k = v := by
  unfold Tab.set
  by_cases h : v = d k
  · rw [if_pos h, Tab.get_erase_same, h]
  · rw [if_neg h, Tab.get_enter_same]

/-- Setting a key leaves every other key as it reads. -/
theorem Tab.get_set_ne [DecidableEq α] (d : Nat → α) (t : Tab α) {k i : Nat} (v : α) (h : i ≠ k) :
    Tab.get d (Tab.set d t k v) i = Tab.get d t i := by
  unfold Tab.set
  split
  · exact Tab.get_erase_ne d h t
  · rw [Tab.get_enter_ne d v h, Tab.get_erase_ne d h]

/-- What a table reads behind a write. -/
theorem Tab.get_set [DecidableEq α] (d : Nat → α) (t : Tab α) (k i : Nat) (v : α) :
    Tab.get d (Tab.set d t k v) i = if i = k then v else Tab.get d t i := by
  split
  · subst i; simp
  · exact Tab.get_set_ne d t v (by assumption)

@[simp] theorem Tab.get_ite (d : Nat → α) (c : Prop) [Decidable c] (t u : Tab α) (k : Nat) :
    Tab.get d (if c then t else u) k = if c then Tab.get d t k else Tab.get d u k := by split <;> rfl

/-- Removing a key keeps the canonical form. -/
theorem Tab.erase_okFrom [DecidableEq α] (d : Nat → α) (k : Nat) :
    ∀ (lo : Nat) (t : Tab α), Tab.okFrom d lo t = true → Tab.okFrom d lo (t.erase k) = true
  | _, [], _ => rfl
  | lo, (j, v) :: t, ht => by
    simp only [Tab.okFrom, Bool.and_eq_true, decide_eq_true_eq] at ht
    have ih := Tab.erase_okFrom d k (j + 1) t ht.2
    by_cases h : k = j
    · simp only [Tab.erase, h, if_pos]
      exact Tab.okFrom_mono d (by omega) _ (h ▸ ih)
    · simp [Tab.erase, h, Tab.okFrom, ht.1.1, ht.1.2, ih]

/-- Entering a key that is absent, at a value other than its default, keeps the canonical form. -/
theorem Tab.enter_okFrom [DecidableEq α] (d : Nat → α) (k : Nat) (v : α) (hv : v ≠ d k) :
    ∀ (lo : Nat) (t : Tab α), lo ≤ k → Tab.okFrom d lo t = true → Tab.okFrom d lo ((t.erase k).enter k v) = true
  | lo, [], hk, _ => by simp [Tab.erase, Tab.enter, Tab.okFrom, hk, hv]
  | lo, (j, w) :: t, hk, ht => by
    simp only [Tab.okFrom, Bool.and_eq_true, decide_eq_true_eq] at ht
    by_cases h : k = j
    · have ih := Tab.enter_okFrom d k v hv lo t hk (Tab.okFrom_mono d (by omega) _ ht.2)
      simp only [Tab.erase, h, if_pos]; simpa [h] using ih
    · by_cases h2 : k < j
      · have e := Tab.erase_okFrom d k (j + 1) t ht.2
        have : k + 1 ≤ j := h2
        simp [Tab.erase, h, Tab.enter, h2, Tab.okFrom, hk, hv, this, ht.1.2, e]
      · have ih := Tab.enter_okFrom d k v hv (j + 1) t (by omega) ht.2
        simp [Tab.erase, h, Tab.enter, h2, Tab.okFrom, ht.1.1, ht.1.2, ih]

/-- Setting a key keeps the canonical form. -/
theorem Tab.set_ok [DecidableEq α] (d : Nat → α) (t : Tab α) (k : Nat) (v : α) (h : Tab.ok d t = true) :
    Tab.ok d (Tab.set d t k v) = true := by
  unfold Tab.set
  split
  · exact Tab.erase_okFrom d k 0 t h
  · exact Tab.enter_okFrom d k v (by assumption) 0 t (Nat.zero_le k) h

/-- Keeping some entries keeps the canonical form. -/
theorem Tab.filter_okFrom [DecidableEq α] (d : Nat → α) (p : Nat × α → Bool) :
    ∀ (lo : Nat) (t : Tab α), Tab.okFrom d lo t = true → Tab.okFrom d lo (t.filter p) = true
  | _, [], _ => rfl
  | lo, (j, v) :: t, ht => by
    simp only [Tab.okFrom, Bool.and_eq_true, decide_eq_true_eq] at ht
    have ih := Tab.filter_okFrom d p (j + 1) t ht.2
    by_cases hp : p (j, v) = true
    · simp [List.filter, hp, Tab.okFrom, ht.1.1, ht.1.2, ih]
    · simp only [List.filter, hp]
      exact Tab.okFrom_mono d (by omega) _ ih

/-! ### Bit fields -/

/-- A word with a field set, as a sum of what lies below the field, the field, and what lies above it. -/
theorem setFld_toNat (w : Word) (lo n v : Nat) (h : lo + n ≤ 32) :
    (setFld w lo n v).toNat = w.toNat % 2 ^ lo + 2 ^ lo * (v % 2 ^ n + 2 ^ n * (w.toNat / 2 ^ (lo + n))) := by
  have hw := w.isLt
  have h1 : w.toNat = w.toNat % 2 ^ lo + 2 ^ lo * (w.toNat / 2 ^ lo) := (Nat.mod_add_div _ _).symm
  have h2 : w.toNat / 2 ^ lo = fld w lo n + 2 ^ n * (w.toNat / 2 ^ (lo + n)) := by
    unfold fld
    rw [pow_add, ← Nat.div_div_eq_div_mul]
    exact (Nat.mod_add_div _ _).symm
  have h3 : w.toNat = w.toNat % 2 ^ lo + 2 ^ lo * fld w lo n + 2 ^ lo * (2 ^ n * (w.toNat / 2 ^ (lo + n))) := by
    conv_lhs => rw [h1, h2]
    ring
  have e : w.toNat - fld w lo n * 2 ^ lo + v % 2 ^ n * 2 ^ lo
      = w.toNat % 2 ^ lo + 2 ^ lo * (v % 2 ^ n + 2 ^ n * (w.toNat / 2 ^ (lo + n))) := by
    rw [Nat.mul_comm (fld w lo n), Nat.mul_comm (v % 2 ^ n), Nat.mul_add]
    omega
  have hlt : w.toNat % 2 ^ lo + 2 ^ lo * (v % 2 ^ n + 2 ^ n * (w.toNat / 2 ^ (lo + n))) < 2 ^ 32 := by
    have a1 : w.toNat % 2 ^ lo < 2 ^ lo := Nat.mod_lt _ (by positivity)
    have a2 : v % 2 ^ n < 2 ^ n := Nat.mod_lt _ (by positivity)
    have a3 : w.toNat / 2 ^ (lo + n) < 2 ^ (32 - (lo + n)) := by
      rw [Nat.div_lt_iff_lt_mul (by positivity), ← pow_add]
      have : 32 - (lo + n) + (lo + n) = 32 := by omega
      rw [this]; exact hw
    have a4 : v % 2 ^ n + 2 ^ n * (w.toNat / 2 ^ (lo + n)) < 2 ^ n * 2 ^ (32 - (lo + n)) := by
      have : 2 ^ n * (w.toNat / 2 ^ (lo + n) + 1) ≤ 2 ^ n * 2 ^ (32 - (lo + n)) := Nat.mul_le_mul_left _ a3
      rw [Nat.mul_add] at this; omega
    have a5 : 2 ^ lo * (v % 2 ^ n + 2 ^ n * (w.toNat / 2 ^ (lo + n)) + 1) ≤ 2 ^ lo * (2 ^ n * 2 ^ (32 - (lo + n))) :=
      Nat.mul_le_mul_left _ a4
    have a6 : 2 ^ lo * (2 ^ n * 2 ^ (32 - (lo + n))) = 2 ^ 32 := by
      rw [← pow_add, ← pow_add]; congr 1; omega
    rw [a6, Nat.mul_add] at a5; omega
  unfold setFld
  rw [e, BitVec.toNat_ofNat, Nat.mod_eq_of_lt hlt]

/-- A field of a word in which it was set. -/
theorem fld_setFld (w : Word) (lo n v : Nat) (h : lo + n ≤ 32) : fld (setFld w lo n v) lo n = v % 2 ^ n := by
  unfold fld
  rw [setFld_toNat w lo n v h, Nat.add_mul_div_left _ _ (by positivity), Nat.div_eq_of_lt (Nat.mod_lt _ (by positivity)),
    Nat.zero_add, Nat.add_mul_mod_self_left, Nat.mod_mod]

/-- A field above one that was set. -/
theorem fld_setFld_above (w : Word) (lo n v : Nat) {lo' : Nat} (n' : Nat) (h : lo + n ≤ 32) (hd : lo + n ≤ lo') :
    fld (setFld w lo n v) lo' n' = fld w lo' n' := by
  unfold fld
  rw [setFld_toNat w lo n v h]
  obtain ⟨k, rfl⟩ := Nat.exists_eq_add_of_le hd
  congr 1
  rw [pow_add 2 (lo + n) k, ← Nat.div_div_eq_div_mul, ← Nat.div_div_eq_div_mul]
  congr 1
  rw [pow_add 2 lo n, ← Nat.div_div_eq_div_mul, Nat.add_mul_div_left _ _ (by positivity),
    Nat.div_eq_of_lt (Nat.mod_lt _ (by positivity)), Nat.zero_add, Nat.add_mul_div_left _ _ (by positivity),
    Nat.div_eq_of_lt (Nat.mod_lt _ (by positivity)), Nat.zero_add]

/-- A field below one that was set. -/
theorem fld_setFld_below (w : Word) (lo n v : Nat) {lo' n' : Nat} (h : lo + n ≤ 32) (hd : lo' + n' ≤ lo) :
    fld (setFld w lo n v) lo' n' = fld w lo' n' := by
  unfold fld
  rw [setFld_toNat w lo n v h, ← Nat.mod_mul_right_div_self, ← Nat.mod_mul_right_div_self, ← pow_add]
  obtain ⟨k, rfl⟩ := Nat.exists_eq_add_of_le hd
  congr 1
  rw [pow_add 2 (lo' + n') k, Nat.mul_assoc, Nat.add_mul_mod_self_left, Nat.mod_mul_right_mod]

/-- A field apart from the one that was set. -/
theorem fld_setFld_apart (w : Word) (lo n v lo' n' : Nat) (h : lo + n ≤ 32 ∧ (lo + n ≤ lo' ∨ lo' + n' ≤ lo)) :
    fld (setFld w lo n v) lo' n' = fld w lo' n' := by
  rcases h.2 with hd | hd
  · exact fld_setFld_above _ _ _ _ _ h.1 hd
  · exact fld_setFld_below _ _ _ _ h.1 hd

/-! ### Registers -/

variable (s : State)

@[simp] theorem State.rg_wr (a b : Nat) (v : Word) : (s.wr a v).rg b = if b = a then v else s.rg b := by
  unfold State.rg State.wr
  split
  · subst b; simp
  · exact Tab.get_set_ne _ _ _ (by assumption)

theorem State.rg_wf (a lo n v b : Nat) : (s.wf a lo n v).rg b = if b = a then setFld (s.rg a) lo n v else s.rg b :=
  State.rg_wr ..

/-- A field write leaves every other register. -/
theorem State.rg_wf_ne (lo n v : Nat) {a b : Nat} (h : b ≠ a) : (s.wf a lo n v).rg b = s.rg b := by
  rw [State.rg_wf, if_neg h]

theorem State.rg_wbit_ne (i : Nat) (v : Bool) {a b : Nat} (h : b ≠ a) : (s.wbit a i v).rg b = s.rg b :=
  State.rg_wf_ne s _ _ _ h

theorem State.rg_wn (a v b : Nat) : (s.wn a v).rg b = if b = a then BitVec.ofNat 32 v else s.rg b := State.rg_wr ..

theorem State.rg_wn_ne (v : Nat) {a b : Nat} (h : b ≠ a) : (s.wn a v).rg b = s.rg b := by rw [State.rg_wn, if_neg h]

/-- A field reads what was written to it. -/
theorem State.rf_wf_same (a lo n v : Nat) (h : lo + n ≤ 32) : (s.wf a lo n v).rf a lo n = v % 2 ^ n := by
  rw [State.rf, State.rg_wf, if_pos rfl, fld_setFld _ _ _ _ h]

/-- A field of another register is left. -/
theorem State.rf_wf_ne (lo n v lo' n' : Nat) {a b : Nat} (h : b ≠ a) : (s.wf a lo n v).rf b lo' n' = s.rf b lo' n' := by
  rw [State.rf, State.rg_wf_ne s lo n v h]; rfl

/-- A field that does not overlap the one written is left. -/
theorem State.rf_wf_apart (a : Nat) {lo n lo' n' : Nat} (v : Nat) (h : lo + n ≤ 32) (hd : lo + n ≤ lo' ∨ lo' + n' ≤ lo) :
    (s.wf a lo n v).rf a lo' n' = s.rf a lo' n' := by
  rw [State.rf, State.rg_wf, if_pos rfl]
  rcases hd with hd | hd
  · exact fld_setFld_above _ _ _ _ _ h hd
  · exact fld_setFld_below _ _ _ _ h hd

theorem State.rn_wn (a v b : Nat) : (s.wn a v).rn b = if b = a then v % 4294967296 else s.rn b := by
  rw [State.rn, State.rg_wn]; split <;> simp [State.rn]

/-! ### What a lane sends and receives (R484, R490, R495) -/

/-- Nothing leaves a lane that sleeps or is in loop. -/
theorem State.send_silent (n : Nat) (o : Out) (h : s.sends n = false) : s.send n o = s := by simp [State.send, h]

theorem State.send_out (n : Nat) (o : Out) (h : s.sends n = true) : s.send n o = s.emit o := if_pos h

/-- A lane in loop neither sends nor receives. -/
theorem State.looped_sends (n : Nat) (h : s.looped n = true) : s.sends n = false := by simp [State.sends, h]

theorem State.looped_receives (n : Nat) (h : s.looped n = true) : s.receives n = false := by simp [State.receives, h]

/-- A command that a lane would bring that does not receive changes nothing. -/
theorem State.heard_deaf (n : Nat) (f : State → State) (h : s.receives n = false) : s.heard n f = s.main id := by
  simp [State.heard, State.main, h]

theorem State.heard_on (n : Nat) (f : State → State) (h : s.receives n = true) : s.heard n f = s.main f := by
  simp [State.heard, State.main, h]

/-! ### Memory -/

theorem State.byte_setByte (a b : Nat) (v : Byte) : (s.setByte a v).byte b = if b = a then v else s.byte b := by
  unfold State.byte State.setByte
  split
  · subst b; exact Tab.get_set_same (fun _ => (0 : Byte)) s.mem a v
  · exact Tab.get_set_ne (fun _ => (0 : Byte)) s.mem v (by assumption)

/-- Storing a byte keeps the canonical form. -/
theorem State.setByte_wf (a : Nat) (b : Byte) (h : Memory.wf s.mem = true) : Memory.wf (s.setByte a b).mem = true :=
  Tab.set_ok _ _ _ _ h

/-- Storing bytes keeps the canonical form. -/
theorem State.setBytes_wf : ∀ (l : List Byte) (s : State) (a : Nat), Memory.wf s.mem = true →
    Memory.wf (s.setBytes a l).mem = true
  | [], _, _, h => h
  | b :: bs, s, a, h => State.setBytes_wf bs (s.setByte a b) (a + 1) (State.setByte_wf s a b h)

/-- Storing a word keeps the canonical form. -/
theorem State.setMem32_wf (a : Nat) (v : Word) (h : Memory.wf s.mem = true) : Memory.wf (s.setMem32 a v).mem = true :=
  State.setBytes_wf _ s a h

/-- The cells of a block that starts at or behind `lo` are in canonical form, and so is the block in front of cells behind it. -/
theorem blockCells_okFrom : ∀ (l : List Byte) (lo a : Nat) (t : List Host.Cell), lo ≤ a →
    Tab.okFrom (fun _ => (0 : Byte)) (a + l.length) t = true → Tab.okFrom (fun _ => (0 : Byte)) lo (blockCells a l ++ t) = true
  | [], lo, a, t, h, ht => Tab.okFrom_mono _ (by simpa using h) t (by simpa using ht)
  | b :: l, lo, a, t, h, ht => by
    have ht' : Tab.okFrom (fun _ => (0 : Byte)) (a + 1 + l.length) t = true := by
      rw [show a + 1 + l.length = a + (b :: l).length by simp; omega]; exact ht
    unfold blockCells
    split
    · exact blockCells_okFrom l lo (a + 1) t (by omega) ht'
    · rename_i hb
      simp only [List.cons_append, Tab.okFrom, Bool.and_eq_true, decide_eq_true_eq]
      exact ⟨⟨h, by simpa using hb⟩, blockCells_okFrom l (a + 1) (a + 1) t (le_refl _) ht'⟩

/-- Cells below `a`, in canonical form, in front of cells from `a` on. -/
theorem below_okFrom (a : Nat) (t : List Host.Cell) : ∀ (lo : Nat) (m : List Host.Cell), lo ≤ a →
    Tab.okFrom (fun _ => (0 : Byte)) lo m = true → Tab.okFrom (fun _ => (0 : Byte)) a t = true →
    Tab.okFrom (fun _ => (0 : Byte)) lo (m.filter (fun c => decide (c.1 < a)) ++ t) = true
  | lo, [], h, _, ht => Tab.okFrom_mono _ h t ht
  | lo, (j, v) :: m, h, hm, ht => by
    simp only [Tab.okFrom, Bool.and_eq_true, decide_eq_true_eq] at hm
    by_cases hj : j < a
    · simp only [List.filter, hj, decide_true, List.cons_append, Tab.okFrom, Bool.and_eq_true, decide_eq_true_eq]
      exact ⟨hm.1, below_okFrom a t (j + 1) m hj hm.2 ht⟩
    · simp only [List.filter, hj, decide_false]
      exact below_okFrom a t lo m h (Tab.okFrom_mono _ (by omega) _ hm.2) ht

/-- Cells from `e` on, in canonical form. -/
theorem above_okFrom (e : Nat) : ∀ (lo : Nat) (m : List Host.Cell), Tab.okFrom (fun _ => (0 : Byte)) lo m = true →
    Tab.okFrom (fun _ => (0 : Byte)) e (m.filter fun c => decide (e ≤ c.1)) = true
  | _, [], _ => rfl
  | lo, (j, v) :: m, hm => by
    simp only [Tab.okFrom, Bool.and_eq_true, decide_eq_true_eq] at hm
    by_cases hj : e ≤ j
    · have ht := Tab.filter_okFrom _ (fun c => decide (e ≤ c.1)) (j + 1) m hm.2
      simp only [List.filter, hj, decide_true, Tab.okFrom, Bool.and_eq_true]
      exact ⟨⟨trivial, hm.1.2⟩, ht⟩
    · simp only [List.filter, hj, decide_false]
      exact above_okFrom e (j + 1) m hm.2

/-- Storing a block keeps the canonical form. -/
theorem State.storeBlock_wf (a : Nat) (l : List Byte) (h : Memory.wf s.mem = true) :
    Memory.wf (s.storeBlock a l).mem = true := by
  show Tab.okFrom _ 0 (_ ++ blockCells a l ++ _) = true
  rw [List.append_assoc]
  exact below_okFrom a _ 0 s.mem (Nat.zero_le a) h
    (blockCells_okFrom l a a _ (le_refl a) (above_okFrom (a + l.length) 0 s.mem h))

/-- The fill (R452) leaves the canonical form: nothing is listed. -/
theorem Memory.wf_nil : Memory.wf [] = true := rfl

/-- Storing bytes leaves every byte outside them. -/
theorem State.byte_setBytes_out : ∀ (l : List Byte) (s : State) (a b : Nat), (b < a ∨ a + l.length ≤ b) →
    (s.setBytes a l).byte b = s.byte b
  | [], _, _, _, _ => rfl
  | x :: xs, s, a, b, h => by
    rw [State.setBytes, State.byte_setBytes_out xs _ _ _ (by simp at h; omega), State.byte_setByte, if_neg (by simp at h; omega)]

/-- A stored byte reads what was stored. -/
theorem State.byte_setBytes_in (l : List Byte) : ∀ (s : State) (a i : Nat), i < l.length →
    (s.setBytes a l).byte (a + i) = l.getD i 0 := by
  induction l with
  | nil => intro s a i h; simp at h
  | cons x xs ih =>
    intro s a i h
    cases i with
    | zero =>
      rw [State.setBytes, State.byte_setBytes_out xs _ _ _ (by omega), State.byte_setByte]
      simp
    | succ i =>
      have := ih (s.setByte a x) (a + 1) i (by simpa using h)
      rw [State.setBytes, show a + (i + 1) = a + 1 + i by omega, this]
      simp

/-- The memories at reset are in canonical form. -/
theorem State.reset_mem_wf : Memory.wf State.reset.mem = true := rfl

end Sys2Proof.Machine
end

