-- ==== Sys2Proof/Laws/Events.lean ====
section
/-! SUPPORT. What raising and queueing events leaves as it is, and what the shared shapes of a meaning answer. -/

namespace Sys2Proof.Machine

variable (s : State)

/-! ### Registers through other updates -/

@[simp] theorem State.rg_raise (c u : Nat) (d : List Nat) (a : Nat) : (s.raise c u d).rg a = s.rg a := (rfl)
@[simp] theorem State.rg_raise804 (c n a : Nat) : (s.raise804 c n).rg a = s.rg a := (rfl)
@[simp] theorem State.rg_emit (o : Out) (a : Nat) : (s.emit o).rg a = s.rg a := (rfl)
@[simp] theorem State.rg_ewr (b : Nat) (v : Word) (a : Nat) : (s.ewr b v).rg a = s.rg a := (rfl)
@[simp] theorem State.rg_hwr (b : Nat) (v : Word) (a : Nat) : (s.hwr b v).rg a = s.rg a := (rfl)
@[simp] theorem State.rg_draw (a : Nat) : s.draw.rg a = s.rg a := (rfl)
@[simp] theorem State.rg_setSlot (src : Src) (k : KeySlot) (a : Nat) : (s.setSlot src k).rg a = s.rg a := (rfl)
@[simp] theorem State.rg_disarm (src : Src) (a : Nat) : (s.disarm src).rg a = s.rg a := (rfl)
@[simp] theorem State.rg_setByte (b : Nat) (v : Byte) (a : Nat) : (s.setByte b v).rg a = s.rg a := (rfl)

@[simp] theorem State.onMain_wr (a : Nat) (v : Word) : (s.wr a v).onMain = s.onMain := (rfl)
@[simp] theorem State.onMain_raise (c u : Nat) (d : List Nat) : (s.raise c u d).onMain = s.onMain := (rfl)

/-! ### The shapes of a meaning -/

/-- A command of the main domain outside reset. -/
theorem State.main_on (f : State → State) (h : s.running = true) : s.main f = .next (f s).flush := by
  simp [State.main, State.finish, h]

/-- A command of the main domain in reset, or with its root stopped. -/
theorem State.main_off (f : State → State) (h : s.running = false) : s.main f = .next s.flush := by
  simp [State.main, State.finish, h]

/-- A host access outside reset. -/
theorem State.access_on (f : State → State) (h : s.onMain = true) : s.access f = .next (f s).flush := by
  simp [State.access, State.finish, h]

/-- A keyed write whose key passes. -/
theorem State.keyed_pass (src : Src) (a : Nat) (act : State → State) (h1 : s.writable a = true)
    (h2 : s.keyOk src a = true) : s.keyed src a act = act (s.disarm src) := by
  simp [State.keyed, h1, h2]

/-- A keyed write without its key. -/
theorem State.keyed_fail (src : Src) (a : Nat) (act : State → State) (h1 : s.writable a = true)
    (h2 : s.keyOk src a = false) : s.keyed src a act = (s.keyRefused src a).disarm src := by
  simp [State.keyed, h1, h2]

/-- A write without key that reaches its register. -/
theorem State.unkeyed_pass (src : Src) (a : Nat) (act : State → State) (h1 : s.writable a = true) :
    s.unkeyed src a act = act (s.disarm src) := by
  simp [State.unkeyed, h1]

/-- A command of the main domain completes with what it does. -/
theorem Does_main {c : Instr} {P : State → Prop} (f : State → State) (he : exec c s = s.main f) (h : s.running = true)
    (hp : P (f s)) : Safety.Does c s P := ⟨f s, by rw [he, State.main_on s f h], hp⟩

/-! ### Queueing events -/

/-- Two states agree on everything but the EVT block and the host queues. -/
def QueuesOnly (s t : State) : Prop := ∃ e h, t = { s with evt := e, hq := h }

theorem QueuesOnly.refl : QueuesOnly s s := ⟨s.evt, s.hq, rfl⟩

theorem QueuesOnly.trans {s t u : State} (h : QueuesOnly s t) (k : QueuesOnly t u) : QueuesOnly s u := by
  obtain ⟨e, q, rfl⟩ := h
  obtain ⟨e', q', rfl⟩ := k
  exact ⟨e', q', rfl⟩

theorem State.ewr_queuesOnly (a : Nat) (v : Word) : QueuesOnly s (s.ewr a v) := ⟨_, _, rfl⟩

theorem State.hwf_queuesOnly (a lo n v : Nat) : QueuesOnly s (s.hwf a lo n v) := ⟨_, _, rfl⟩

theorem State.dropRecord_queuesOnly (q : Nat) : QueuesOnly s (s.dropRecord q).1 := ⟨_, _, rfl⟩

theorem State.enqueue_queuesOnly (q : Nat) (r : Record) : QueuesOnly s (s.enqueue q r).1 := by
  unfold State.enqueue
  simp only []
  split
  · split
    · exact ⟨_, _, rfl⟩
    · exact QueuesOnly.trans ⟨_, _, rfl⟩ (State.dropRecord_queuesOnly _ q)
  · split
    · exact ⟨_, _, rfl⟩
    · exact State.dropRecord_queuesOnly s q

theorem State.buffer_queuesOnly (q : Nat) (r : Record) : QueuesOnly s (s.buffer q r).1 :=
  QueuesOnly.trans ⟨_, _, rfl⟩ (State.enqueue_queuesOnly _ q _)

theorem State.writeLast_queuesOnly : ∀ (l : List Word) (s : State) (i : Nat), QueuesOnly s (s.writeLast i l)
  | [], s, _ => QueuesOnly.refl s
  | w :: ws, s, i => (State.ewr_queuesOnly s (Reg.EVT_LAST i) w).trans (State.writeLast_queuesOnly ws _ (i + 1))

theorem State.keepLast_queuesOnly (r : Record) : QueuesOnly s (s.keepLast r) := by
  unfold State.keepLast
  split
  · exact QueuesOnly.refl s
  · split
    · exact ⟨_, _, rfl⟩
    · exact (State.writeLast_queuesOnly _ s 0).trans (State.ewr_queuesOnly _ _ _)

theorem State.countEvent_queuesOnly (e : Event) : QueuesOnly s (s.countEvent e) :=
  (((State.ewr_queuesOnly s _ _).trans (State.ewr_queuesOnly _ _ _)).trans (State.ewr_queuesOnly _ _ _)).trans
    (State.ewr_queuesOnly _ _ _)

theorem State.queueOnce_queuesOnly (e : Event) : QueuesOnly s (s.queueOnce e).1 := by
  have h := (State.countEvent_queuesOnly s e).trans
    (State.keepLast_queuesOnly (s.countEvent e) { ev := e, src := (s.countEvent e).ownSrc, seq := (s.countEvent e).hq.seq.at 0 0 })
  unfold State.queueOnce
  simp only []
  split
  · exact h
  · exact h.trans (State.buffer_queuesOnly _ _ _)

theorem State.queueEvent_queuesOnly (e : Event) : QueuesOnly s (s.queueEvent e) := by
  have h := State.queueOnce_queuesOnly s e
  unfold State.queueEvent
  split
  · rename_i t ht; rw [ht] at h; exact h
  · rename_i t ht; rw [ht] at h; exact h.trans (State.queueOnce_queuesOnly _ _)

theorem foldl_queueEvent_queuesOnly : ∀ (l : List Event) (s : State), QueuesOnly s (l.foldl State.queueEvent s)
  | [], s => QueuesOnly.refl s
  | e :: l, s => (State.queueEvent_queuesOnly s e).trans (foldl_queueEvent_queuesOnly l _)

/-- Queueing the events of a tick touches nothing but the EVT block and the host queues. -/
theorem State.flush_queuesOnly : QueuesOnly s s.flush :=
  (foldl_queueEvent_queuesOnly s.ordered s).trans ⟨_, _, rfl⟩

end Sys2Proof.Machine
end

