-- ==== Sys2Proof/WellFormed.lean ====
section
/-! DEFINITION. Which commands are well formed: the bounds of their operands that the types do not give. A meaning is
defined on every command; these are the ones that the rules describe. -/

namespace Sys2Proof

open Machine

/-- A ring lane (R249): L0, L1, L6 or L7. -/
def ringLane (l : Lane) : Bool := l.val ∈ [0, 1, 6, 7]

/-- A partner lane: L2 or L3. -/
def partnerLane (l : Lane) : Bool := l.val ∈ [2, 3]

/-- An address of BAR0 that R8 admits. -/
def barWord (a : Nat) : Bool := a % 4 == 0 && decide (a < 0x400000)

/-- The access code of the register at an address. -/
def accessOf (a : Nat) : Option Access := (rowOf a).map Row.acc

/-- A latch vector (R408): 192 switches, 24 cells with a cause each. -/
def LatchVec.wf (v : LatchVec) : Bool :=
  decide (v.switches < 2 ^ 192) && decide (v.cells < 2 ^ 24) && v.causes.length == 24

/-- The latches of a checkpoint (R405): six words of switches with their records, 24 cell records. -/
def Ckpt.wf (c : Ckpt) : Bool :=
  c.engines.length == 8 && c.pwm.length == 96 && c.swLatch.length == 6 && c.swInfo.length == 192 && c.cellInfo.length == 24

/-- A frame of 212 bytes of payload (R254). -/
def Frame.wf (f : Frame) : Bool := f.payload.length == 212

/-- A descriptor as its fields are wide (R519). -/
def Desc.wf (d : Desc) : Bool :=
  decide (d.addr < 2 ^ 64) && decide (d.len < 2 ^ 32) && decide (d.op < 256) && decide (d.node < 256) &&
    decide (d.dflags < 65536) && decide (d.dofs < 2 ^ 32)

/-- A tunnel message (R509): its register accesses are words of BAR0, its queues exist. -/
def Tun.wf : Tun → Bool
  | .read off _ => barWord off
  | .response off _ _ => barWord off
  | .write off _ => barWord off
  | .pair _ off _ => barWord off
  | .record q _ => decide (q < 6)
  | .desc q _ d data => decide (16 ≤ q ∧ q ≤ 18) && d.wf && decide (data.length ≤ 65536)
  | .ack q _ _ data => decide (16 ≤ q ∧ q ≤ 18) && decide (data.length ≤ 65536)

/-- Fuses (R43 to R45): two key digests of 32 bytes, blank or written, with a revoke fuse each. -/
def Fuses.wf (f : Fuses) : Bool :=
  f.digests.length == 2 && f.digests.all (fun d => d.isEmpty || d.length == 32) && f.revoked.length == 2

/-- The content of an image: its sections set registers that have storage and are no live copies, and cells, graphs and
parameter banks that exist. -/
def ImageContent.wf (c : ImageContent) : Bool :=
  (c.regs.all fun p => barWord p.1 && (accessOf p.1 == some .rw || accessOf p.1 == some .rws)) && decide (c.margin.length ≤ 16) &&
    (c.params.all fun p => decide (p.2.length ≤ 16384)) && (c.graphs.all fun p => decide (p.2.segs.length ≤ 8))

/-- The command is one the rules describe. -/
def Instr.wf : Instr → Bool
  | .mainPowerOnReset _ _ f => f.wf
  | .refFreqInterval _ o => decide (-32768 ≤ o ∧ o ≤ 32767)
  | .lossOfLock e => decide (-32768 ≤ e ∧ e ≤ 32767)
  | .timeTransferSet l _ => ringLane l || partnerLane l
  | .sinc3Result _ bits _ => decide (bits.length ≤ 766)
  | .fastComparatorAssert _ _ bits => decide (bits.1.length ≤ 63)
  | .fastComparatorDeassert _ _ bits => decide (bits.1.length ≤ 63)
  | .adcCalComplete _ _ _ w => w.length == 16
  | .blockLockLost _ signal invalid => (signal || decide (1 ≤ invalid)) && decide (invalid < 2 ^ 32)
  | .periodFrameReceived l f => ringLane l && f.wf
  | .partnerFrameReceived l f => partnerLane l && f.wf
  | .ringStateSet l _ f _ => ringLane l && ringLane f
  | .stackTripReceived l _ _ _ => ringLane l || partnerLane l
  | .discoveryReceived l _ => ringLane l
  | .replicaBiasUpdate _ c _ => decide (c < 1024)
  | .safetyFrame _ _ _ p => decide (p.length ≤ 1500)
  | .checkpointReceived c => c.wf
  | .latchVectorReceived v => v.wf
  | .mfPeriodEnd _ _ l => !l.isEmpty
  | .mtrLoadDone l => l.all fun r => r.length == 256
  | .arbRequest r b n _ _ a d =>
    decide (1 ≤ n ∧ n ≤ longest r.val) && (d.isEmpty || d.length == n) && decide (a / 0x40000 = b.val) && a % 8 == 0
  | .ethFrameReceived _ f => decide (f.length ≤ 2000)
  | .hqDoorbell _ q _ l => decide (16 ≤ q.val) && decide (l.length < 65536) && l.all Desc.wf
  | .imageChunk d => decide (1 ≤ d.length ∧ d.length ≤ 65536)
  | .commandList l => decide (1 ≤ l.length ∧ l.length ≤ 512) && l.all fun e => decide (e.1 < 2 ^ 32)
  | .memoryWriteTransfer d => decide (8 ≤ d.length ∧ d.length ≤ 65536) && d.length % 8 == 0
  | .windowRead _ off => decide (off < 0x400000)
  | .windowWrite _ off _ => decide (off < 0x400000)
  | .tunnelResponse _ off _ => barWord off
  | .tunnelReadTimeout _ off => barWord off
  | .tunnelMessageReceived l _ _ m => ringLane l && m.wf
  | .sensorConversion l => l.length == 10
  | .sensorSelfcheck l => l.length == 10
  | .cpmReport _ n => decide (n < 65536)
  | .ageingMeasurement l => l.length == 16 && l.all fun p => decide (0 < p.2)
  | .imageCheckDone c => c.wf
  | .shadowWrite _ a _ => accessOf a == some .rws
  | .liveCopyWrite _ a _ => isLiveCopy a
  | .rcRegisterRead a => accessOf a == some .rc
  | .lockDeclared codes _ => codes.length == 32
  | .bar2HostWrite off x _ => decide (off < 0x1000000) && (match x with
      | .write b => decide (1 ≤ b.length) && decide (off % 8 + b.length ≤ 8)
      | .read n => decide (1 ≤ n ∧ off % 8 + n ≤ 8))
  | .supplyUndervoltage .. | .prstNReset .. | .resetPadHoldEnd .. | .bistComplete .. | .gioSupplyFault ..
  | .pciePerst .. | .referenceLost .. | .referenceQualified .. | .revertTimer .. | .bandSearchStart ..
  | .bandSearchFailed .. | .flintFsDtTurnOn .. | .phaseWalkStart .. | .walkStep .. | .clkRelock ..
  | .clkSwitch .. | .sclkWindowEnd .. | .sclkStopped .. | .epochMark .. | .timStep .. | .timSnap ..
  | .timRateWrite .. | .timSlewWrite .. | .ptpMessage .. | .timeSourceTimeout .. | .holdoverLimit .. | .tpoArm ..
  | .tpoPulseEdge .. | .tcapEdge .. | .tcapPop .. | .ppsOutPulse .. | .sdLossOfTransition ..
  | .sdCodeViolationFault .. | .sdRateFault .. | .sdChannelRecovered .. | .sdChannelSettled .. | .adcTriggerFire ..
  | .adcTimerTrigger .. | .adcSwTrigger .. | .adcSampleInstant .. | .adcConversionComplete .. | .adcCalCmd ..
  | .adcCalStart .. | .controlPeriodBoundary .. | .checkpointStagingDone .. | .checkpointSent .. | .midPeriodLatch ..
  | .slotWindowStart .. | .blockComplete .. | .windowEnd .. | .vtxDry .. | .gprHold .. | .rngTrip .. | .rngTripclr ..
  | .strataSortDone .. | .discoverySend .. | .pwmLoad .. | .pwmShadowWrite .. | .pendingSetClose ..
  | .pwmGroupBoundary .. | .commandTransition .. | .deadTimeExpiry .. | .adtSample .. | .calMeasurementDone ..
  | .lineAgeExceeded .. | .switchFaultQualified .. | .fsDtTurnOn .. | .tripInputAsserted .. | .tripO1PulseEnd ..
  | .bypFbAccepted .. | .bypassTcloseTimeout .. | .clearSwitch .. | .clearCell .. | .clearCluster .. | .clearTrip ..
  | .flintPowerOnReset .. | .flintCycle .. | .sinLevelAccepted .. | .networkSilence .. | .unpairedFrameTimeout ..
  | .readbackCompare .. | .testPulseStart .. | .flintWatchdogExpiry .. | .vddFlintOutOfWindow ..
  | .flintMemoryError .. | .flintDiagnosticStep .. | .flintInputTest .. | .sgiSet .. | .sgiClr ..
  | .flintRstRequest .. | .freset .. | .heartbeatAlive .. | .dualActiveTimeout .. | .partnerLoss ..
  | .takeoverPrepareDone .. | .healthReportSend .. | .healthReportReceived .. | .selftestStep .. | .parHandover ..
  | .handoverTimeout .. | .armDecision .. | .meterSample .. | .meterIntervalEnd .. | .reportWindowEnd ..
  | .zeroCrossingAbsent .. | .mpoPulseEnd .. | .mpiTransition .. | .checkWindowEnd .. | .saveTimer .. | .saveNow ..
  | .saveComplete .. | .mtrLoad .. | .mtrRestore .. | .mtrSnap .. | .memoryFillDone .. | .uncorrectableError ..
  | .correctionLogUpdate .. | .memLogclr .. | .scrubGo .. | .scrubAbort .. | .scrubDone .. | .memTestEn ..
  | .arbGrantDecision .. | .arbUrgent .. | .arbClassWrite .. | .arbHoldCutoff .. | .arbWithdraw .. | .lockRelease ..
  | .blockLockGained .. | .qlockSet .. | .singleLaneExit .. | .prbsLockChange ..
  | .lanCtlWrite .. | .eyeMeasurement .. | .laneWake .. | .laneSleepTimeout .. | .ethLinkChange ..
  | .hqQueueEnable .. | .hqHeadWrite .. | .memoryReadTransfer .. | .recordWrite .. | .recordRelay ..
  | .interruptModeration .. | .keyPairTimeout .. | .pcieLinkChange .. | .functionLevelReset .. | .sensClr ..
  | .wearRestore .. | .avsResume .. | .avsIntervalEnd .. | .pmbusReadback .. | .pmbusRetry .. | .wearHistorySample ..
  | .capEstimateWindow .. | .loadFullImage .. | .loadPatch .. | .loadAbort .. | .receptionTimeout ..
  | .commitGroup .. | .commitAll .. | .commitCheckDone .. | .glbArm .. | .glbHalt .. | .softReset .. | .glbKey ..
  | .keySlotExpiry .. | .evtQcode .. | .evtLastRead .. | .registerWrite .. | .prstNRelease .. | .gioSupplyReturn ..
  | .referencePresent .. | .heartbeatDead .. | .laneStateSetReceived .. | .handoverMessageReceived ..
  | .flintSelftestComplete .. | .lineMeasurementStart .. | .lanPrbsLoRead .. => true

end Sys2Proof
end

