-- ==== Sys2Proof/Tests/Slice0.lean ====
section
/-! SUPPORT. Tests: ill-formed commands, single steps with values from the worked examples of spec/, and for each statement
states and operands that meet the hypotheses of its clauses (`witness_<Statement>`, numbered where it has several parts). -/

namespace Sys2Proof.Tests

open Sys2Proof.Machine Sys2Proof.Safety

set_option maxRecDepth 4000
set_option Elab.async false

/-- The reset state with the main domain out of reset and READY. -/
def base : State := { State.reset with sys.por := false, sys.ready := true }

/-! ### Ill-formed commands -/

theorem test_wf_refuses : ∀ c ∈ ([
    .mainPowerOnReset false 0 { digests := [[1], []] }, .refFreqInterval false 32768, .lossOfLock (-32769),
    .timeTransferSet 5 ⟨0, 0, 0, 0⟩, .sinc3Result 0 (List.replicate 767 none) (0, true), .lockDeclared [0] 0,
    .fastComparatorAssert 0 true (List.replicate 64 none, true), .fastComparatorDeassert 0 false (List.replicate 64 none, true),
    .ageingMeasurement (List.replicate 16 (0, 0)),
    .adcCalComplete 0 0 0 [], .periodFrameReceived 3 { ttl := 1, payload := List.replicate 212 0 },
    .periodFrameReceived 0 { ttl := 1, payload := List.replicate 211 0 },
    .partnerFrameReceived 1 { ttl := 1, payload := List.replicate 212 0 }, .ringStateSet 0 0 5 false,
    .discoveryReceived 4 ⟨0, false, 0, 0, 0, 0, 0⟩, .replicaBiasUpdate 0 1024 false, .checkpointReceived {},
    .latchVectorReceived ⟨2 ^ 192, 0, List.replicate 24 0, 0, 0⟩, .mfPeriodEnd 0 0 [], .mtrLoadDone [[0]],
    .arbRequest 0 0 17 false false 0 [], .arbRequest 0 1 1 false false 0 [], .ethFrameReceived 0 (List.replicate 2001 0),
    .hqDoorbell .pcie 15 0 [], .imageChunk [], .commandList [], .memoryWriteTransfer (List.replicate 12 0),
    .windowRead 0 0x400000, .windowWrite 0 0x400000 0, .tunnelResponse 0 2 (0, none), .tunnelReadTimeout 0 0x400000,
    .tunnelMessageReceived 2 0 0 (.read 0 0), .tunnelMessageReceived 0 0 0 (.read 2 0),
    .tunnelMessageReceived 0 0 0 (.record 6 ⟨0, 0, [], 0, 0, 0, false⟩), .sensorConversion [0],
    .sensorSelfcheck [], .cpmReport 0 65536, .safetyFrame 0 0 0 (List.replicate 1501 0),
    .imageCheckDone { regs := [(Reg.GLB_ID, 0)] }, .shadowWrite .pcie Reg.TIM_RATE 0, .liveCopyWrite .pcie Reg.SLT_PER 0,
    .rcRegisterRead Reg.GLB_ID, .bar2HostWrite 4 (.write [1, 2, 3, 4, 5]) 0,
    .bar2HostWrite 4 (.read 5) 0, .bar2HostWrite 0x1000000 (.read 4) 0, .blockLockLost 0 false 0, .arbRequest 11 0 5 false false 0 []] : List Instr), c.wf = false := by decide +kernel

theorem test_wf_accepts : ∀ c ∈ ([
    .mainPowerOnReset false 0 {}, .refFreqInterval false 32767, .lossOfLock (-32768), .timeTransferSet 7 ⟨0, 0, 0, 0⟩,
    .periodFrameReceived 6 { ttl := 1, payload := List.replicate 212 0 },
    .partnerFrameReceived 2 { ttl := 1, payload := List.replicate 212 0 }, .replicaBiasUpdate 0 1023 false,
    .arbRequest 0 1 1 false false 0x40000 [], .hqDoorbell .pcie 16 0 [], .shadowWrite .pcie Reg.SLT_PER 0,
    .liveCopyWrite .pcie Reg.SLT_PER_L 0, .rcRegisterRead Reg.GLB_KEYREF, .bar2HostWrite 4 (.write [1, 2, 3, 4]) 0,
    .blockLockLost 0 true 0] :
    List Instr), c.wf = true := by decide +kernel

/-! ### Single steps, with values from the worked examples of spec/ -/

/-- The register `a` behind a command. -/
def after (c : Instr) (s : State) : State :=
  match Machine.exec c s with
  | .next u => u
  | _ => s

/-- A state whose key slot 0 holds the key of a register. -/
def armed (s : State) (a : Nat) : State := s.setSlot .pcie { key := keyOf a }

/-- Chapter 4, behind R95: the mark for TIME_S = 5 has TS32 = 0x2A05_F200. -/
theorem test_step_sets_ts32 :
    (after (.timStep .pcie) (armed (base.wr Reg.TIM_SET_S_LO 5) Reg.TIM_CTRL)).tim.ts32 = 0x2a05f200 := by decide +kernel

/-- The table behind R267, in tenths of a nanosecond. -/
theorem test_ring_latency : ringSum 64 false 50 = 117852 ∧ ringSum 64 true 50 = 88156 ∧ ringSum 48 false 50 = 88764 := by decide

/-- Behind R272: VHV 44,832 gives the keys 0xAF20_00D4 and 0xAF20_03E8. -/
theorem test_rank_key : metric 0 44832 0 false * 65536 + 212 = 0xaf2000d4 ∧ metric 0 44832 0 false * 65536 + 1000 = 0xaf2003e8 := by
  decide

/-- A value between two bounds. -/
def within (lo hi w : Word) : Bool := fLe lo w && fLe w hi

/-- Behind R199, periods 0, 4 and 6: the ramp starts from MEAS, turns from 612.30 by one step of 0.1, and takes a set-point
less than a step away. -/
theorem test_ramp :
    let f (en y enp sp meas : Word) := blockRamp {
      size := 0, extra := [], trans := [], ins := [sp, meas, en]
      pars := [0x451c4000, 0x451c4000, 0x3827c5ac, 0, 0x447a0000], st := [y, enp] }
    (f 1 0 0 0x442f0000 0x44190000).st = [0x44190000, 1] ∧
    ((f 1 0x44191333 1 0x43fa0000 0).flg = rateLim ∧
      (f 1 0x44191333 1 0x43fa0000 0).st.all (fun w => w == 1 || within 0x44190cbc 0x44190cdd w) = true) ∧
    ((f 1 0x4419067a 1 0x4419099a 0).st = [0x4419099a, 1] ∧ (f 1 0x4419067a 1 0x4419099a 0).flg = 0) := by decide +kernel

/-- Behind R202: TH = 0x4A80_0000 interpolates half-way between TAB[74] = 0.5 and TAB[75] = 1.5, times K = 2. -/
theorem test_ctab :
    (blockCtab {
      ins := [0x4a800000, 0x40000000], st := [], size := 0, extra := [], trans := []
      pars := 0 :: List.replicate 74 0 ++ [0x3f000000, 0x3fc00000] ++ List.replicate 180 0 }).outs.map BOut.w = [0x40000000] := by
  decide +kernel

/-- Behind R207, at full load: D = 0.20337 and K = 10,715,364 W. -/
theorem test_dabph :
    (match (blockDabph {
        ins := [0x49d3ea00, 0x442d999a, 0x43d90000], st := [], size := 0, extra := [], trans := []
        pars := [0x3fcccccd, 0x35f19787, 0x46435000, 0x3eb33333, 0] }).outs.map BOut.w with
      | [d, k] => within 0x3e503d9b 0x3e5042d9 d && within 0x4b2380a4 0x4b238126 k
      | _ => false) = true := by decide +kernel

/-- The state of the worked examples of chapter 10: pair 64 of the active device at full load. -/
def pair64 (dtlim mpw adt : Word) (p : Pair) : State :=
  { base with
    regs := [(Reg.PWM_STAT, 256), (Reg.PWM_GPER_L 0, 25000), (Reg.PWM_ON_L 64, 650000), (Reg.PWM_WID_L 64, 800000),
      (Reg.PWM_DT_L 64, 0x17701770), (Reg.PWM_DTLIM_L 64, dtlim), (Reg.PWM_MPW_L 64, mpw), (Reg.PWM_PCFG 64, 8),
      (Reg.PWM_ADT 64, adt)].foldl (fun t p => Tab.set regReset t p.1 p.2) []
    sys.bank := [(5, true)], sys.armed := true, cfg.inForce := true, cfg.pop := 16777215, pwm.pairs := [(64, p)] }

/-- Behind R301: at 32.5 µs (650,000) channel 129 is off, and channel 128 turns on 6,000 fine units later. -/
theorem test_dead_time :
    let u := after (.commandTransition 64 650000) (pair64 0x20000000 0 0 { started := true, low := true })
    (u.pair 64).low = false ∧ (u.pair 64).up = false ∧ (u.pair 64).pend = some true ∧ (u.pair 64).pendAt = 656000 := by
  decide +kernel

/-- Behind R309: a high sample takes ADT_R from 6,000 to 6,100, the 64th low one in a row from 6,300 to 6,200. -/
theorem test_adaptive_dead_time :
    ((after (.adtSample 128 true) (pair64 0x19000bb8 0x2000 0x40640020
      { started := true, up := true, adtR := 6000, cleanR := 5 })).pair 64).adtR = 6100 ∧
    ((after (.adtSample 128 false) (pair64 0x19000bb8 0x2000 0x40640020
      { started := true, up := true, adtR := 6300, cleanR := 63 })).pair 64).adtR = 6200 := by decide +kernel

/-- Behind R531: two readings out of range break sensor 7, which then reads 150 °C. R361: the second maximum at 150 °C crosses
T_CRIT, T_WARN and T_THROT, told as 0x0F03, 0x0804, 0x0F01 and 0x0F02. -/
theorem test_sensor_fails :
    (after (.sensorConversion ((List.replicate 10 200).set 7 2000))
      { base with thw.sensors := [(7, { out := true })] }).reading 7 = 1200 ∧
    (sensorConversion ((List.replicate 10 200).set 7 2000)
      { base with regs := (((base.wn (Reg.THW_TS 7) 0x304b0).wbit Reg.MEM_STAT 0 true).wf Reg.GLB_STAT 0 4 7).regs
                  thw.prev := some 1200 }).evt.batch.map (fun r => (r.ev.code, r.cluster.map Event.code)) =
      [(0x0f03, some 0x0804), (0x0f01, none), (0x0f02, none)] := by decide +kernel
/-- Behind R77: θ = 2.35 ns is 4,700 steps toward zero. -/
theorem test_walk_direction :
    let u := after (.phaseWalkStart 4700) { base with regs := [(Reg.CLK_STAT, 3)], clk.target := some (true, 1) }
    u.rf Reg.CLK_WALK 0 14 = 4700 ∧ u.bit Reg.CLK_WALK 15 = false ∧ u.clkState = 4 ∧ u.clkSel = true := by decide +kernel

/-- Behind R60: group 6 at 16,000 ticks fails check 2 while trigger 9 keeps its delay of 18,750, and passes with 12,000. -/
theorem test_pwmgrp_check :
    let s (dly : Word) : State := { base with
      regs := [(Reg.ADC_TRIG_SRC 9, 7), (Reg.ADC_TRIG_DLY 9, dly), (Reg.PWM_GPER 6, 16000), (Reg.PWM_GPER_L 6, 25000),
        (Reg.GLB_STAT, 7)].foldl (fun t p => Tab.set regReset t p.1 p.2) [] }
    (s 18750).checkGroup [(3, 6)] 3 6 = some (2, 0) ∧ (s 12000).checkGroup [(3, 6)] 3 6 = none := by decide +kernel

/-- Behind R373: with T_DISC of 500 cycles the 500th cycle of disagreement latches a discrepancy. -/
theorem test_discrepancy :
    let s (n : Nat) : State := { base with
      regs := [(Reg.FLT_STAT, 2), (Reg.FLT_SIN, 0x400)], flint.held := false, flint.disagree := [(2, n)]
      flint.safe := some { pairs := List.replicate 3 { role := .func, mask := 1, tDisc := 500 } } }
    (after .flintCycle (s 498)).bit Reg.FLT_DISC 2 = false ∧ (after .flintCycle (s 499)).bit Reg.FLT_DISC 2 = true := by
  decide +kernel

/-- Published check values: the CRCs of "123456789", and SHA-256 of "abc". -/
theorem test_checksums :
    crc32 [0x31, 0x32, 0x33, 0x34, 0x35, 0x36, 0x37, 0x38, 0x39] = 0xcbf43926 ∧
    crc32c [0x31, 0x32, 0x33, 0x34, 0x35, 0x36, 0x37, 0x38, 0x39] = 0xe3069283 ∧
    beNat (sha256 [0x61, 0x62, 0x63]) = 0xba7816bf8f01cfea414140de5dae2223b00361a396177a9cb410ff61f20015ad := by decide +kernel

/-! ### Images -/

/-- A section of R38 with its body. -/
def sectionOf (id : Nat) (body : List Byte) : List Byte :=
  leBytes id 2 ++ leBytes 0x100 2 ++ leBytes body.length 4 ++ leBytes (crc32 body).toNat 4 ++ leBytes 0 4 ++ body

/-- An image of R37 to R39 with these sections behind HEAD, each with a body of one length, and these flags. -/
def image (ids : List Nat) (len flags : Nat) (body : List Byte) : List Byte :=
  let n := ids.length + 1
  let h := (76 + 8 * n + 15) / 16 * 16
  let dir := (List.range ids.length).flatMap fun i => leBytes (ids.getD i 0) 2 ++ leBytes 0 2 ++ leBytes (h + len * i) 4
  let head := leBytes 0x45525443 4 ++ leBytes 0x200 2 ++ leBytes flags 2 ++ leBytes 0x2460 2 ++ [255, 0] ++
    leBytes (h + len * ids.length) 4 ++ leBytes 0x1234 4 ++ leBytes 7 4 ++ List.replicate 32 5 ++ leBytes n 2 ++ leBytes 0 2 ++
    leBytes 1 2 ++ List.replicate 6 0 ++ dir
  sectionOf 1 head ++ List.replicate (h - 76 - 8 * n) 0 ++ ids.flatMap fun id => sectionOf id body

/-- A full image whose SAFE section ends with the CRC-32C of its other bytes, and a patch of a SLOT section. -/
def fullImage : List Byte :=
  image [2, 3, 0x10, 0x20, 0x21, 0x22, 0x30, 0x41, 0x42, 0x43] 32 0
    (List.replicate 12 0 ++ leBytes (crc32c (List.replicate 12 0)).toNat 4)

def patchImage : List Byte := image [0x20] 32 1 (List.replicate 16 0)

/-- Registers with which every group passes its checks. -/
def goodContent : ImageContent :=
  { regs := (Reg.RNG_BUDGET, 150) :: (List.range 12).flatMap fun n => [(Reg.MTR_VSC (n / 3) (n % 3), 0x3f800000),
      (Reg.MTR_ISC (n / 3) (n % 3), 0x3f800000), (Reg.MTR_PSC (n / 3) (n % 3), 0x3f800000)] }

/-- An image whose checks run. -/
def loaded (d : List Byte) : Load := { ring := false, data := d, checking := true }

theorem witness_ImagesGoLive_1 :
    (base.onMain = true ∧ ∀ l ∈ base.cfg.load, l.checking = false) ∧
    (let s : State := { base with cfg.load := some (loaded (List.replicate 76 0)) }
     s.onMain = true ∧ s.cfg.load.isSome = true ∧ ∃ e ∈ s.imageError (List.replicate 76 0) {}, True) ∧
    (let s : State := { base with cfg.load := some (loaded fullImage) }
     s.onMain = true ∧ s.imageError fullImage goodContent = none ∧ bitOf (imgField fullImage 22 2) 0 = false) ∧
    (let s : State := { base with cfg.load := some (loaded fullImage) }
     let m := (idsOf fullImage).contains 0x40
     (∃ e ∈ (s.stage fullImage {} false).checkAllGroups m, True) ∧
       (s.stage fullImage goodContent false).checkAllGroups m = none) ∧
    (∀ x ∈ safeOf fullImage goodContent, base.safeReason x = 0) :=
  by refine ⟨?_, ?_, ?_, ?_, ?_⟩ <;> decide +kernel

/-- A device in state `n` that holds the image of which `patchImage` is a patch. -/
def running (n : Nat) (regs : List (Nat × Word)) : State :=
  { base with regs := (Reg.GLB_STAT, BitVec.ofNat 32 n) :: regs, cfg.inForce := true, cfg.digest := List.replicate 32 5
              cfg.load := some (loaded patchImage) }

/-- A window of the slot table. -/
def slotContent : ImageContent := { regs := [(Reg.SLT_WIN 3, 0)] }

theorem witness_ImagesGoLive_2 :
    (let s := running 7 []
     s.onMain = true ∧ s.halted = false ∧ s.cfg.pend = [] ∧ s.imageError patchImage slotContent = none ∧
       bitOf (imgField patchImage 22 2) 0 = true ∧ safeOf patchImage slotContent = none) ∧
    (let s : State := { running 7 [] with cfg.pend := [(512, some {})] }
     ∃ g ∈ (s.touched slotContent).find? (fun g => s.isPending g.1 g.2), True) ∧
    (let t := (running 7 []).stage patchImage slotContent true
     t.touched slotContent ≠ [] ∧ ∃ e ∈ t.checkAllGroups true, True) ∧
    (let t := (running 7 goodContent.regs).stage patchImage slotContent true
     t.touched slotContent ≠ [] ∧ t.checkAllGroups true = none) :=
  by refine ⟨?_, ?_, ?_, ?_⟩ <;> decide +kernel

theorem witness_EffectsWhateverWaits_9 : ∀ n ∈ [6, 7],
    let s := running n goodContent.regs
    let t := s.stage patchImage slotContent true
    s.onMain = true ∧ s.cfg.load = some (loaded patchImage) ∧ s.imageError patchImage slotContent = none ∧
      bitOf (imgField patchImage 22 2) 0 = true ∧ (s.touched slotContent).find? (fun g => s.isPending g.1 g.2) = none ∧
      t.checkAllGroups true = none ∧ safeOf patchImage slotContent = none ∧ s.halted = decide (n = 6) ∧ s.dry = false ∧
      t.touched slotContent ≠ [] := by decide +kernel

/-- A frame with this destination and EtherType, 60 bytes and its FCS. -/
def frameTo (dst type : Nat) : List Byte :=
  let f := leBytes dst 6 ++ List.replicate 6 0 ++ (leBytes type 2).reverse ++ List.replicate 46 0
  f ++ leBytes (crc32 f).toNat 4

theorem witness_TestPatternsAndEthernet_safety :
    let s : State := { base with flint.safe := some { etherType := 0x88b5 } }
    let f := frameTo 0xffffffffffff 0x88b5
    s.onMain = true ∧ s.looped 4 = false ∧ 64 ≤ f.length ∧ f.length ≤ 1522 ∧
      leNat (f.drop (f.length - 4)) = (crc32 (f.take (f.length - 4))).toNat ∧ s.macFor 0 f = true ∧ s.vlanOk 0 f = true ∧
      s.ethContent 0 f = 2 := by decide +kernel

theorem witness_TimeFollowsRingAndStation_bestPort :
    let s : State := { base with tim.announce := [(0, some [1, 2]), (1, some [1, 2])], regs := [(Reg.TIM_PTP_CFG, 3)] }
    s.onMain = true ∧ s.ptpOn 0 = true ∧ s.ptpOn 1 = true ∧ s.tim.announce.at 0 none = some [1, 2] ∧
      s.tim.announce.at 1 none = some [1, 2] := by decide +kernel

theorem witness_EffectsWhateverWaits_ownWindow :
    base.onMain = true ∧ (0 : Node).val = base.node ∧ badAccess 0 = false ∧ base.looped 0 = false := by decide +kernel

/-! ### Statements about every command, and about arithmetic -/

theorem witness_StepRunsTheFrontCommand :
    ({ base with pending := [.glbKey .pcie 0] } : State).pending = .glbKey .pcie 0 :: [] ∧ base.pending = [] := by decide +kernel

/-- A state whose leg pair 3 waits for its upper switch. -/
def oneSwitch : State := { base with pwm.pairs := [(3, { started := true, pend := some true })], pending := [.deadTimeExpiry 3] }

/-- The step of a state. -/
def stepped (s : State) : Bool :=
  match Machine.step s with
  | .next _ => true
  | _ => false

theorem witness_TimeStaysValid : TimeOk oneSwitch ∧ stepped oneSwitch = true := by decide +kernel

theorem witness_SwitchesStayApart : SwitchesApart oneSwitch ∧ stepped oneSwitch = true := by
  refine ⟨fun q => ?_, by decide +kernel⟩
  match q with
  | 0 | 1 | 2 | 3 => decide +kernel
  | _ + 4 =>
    exact ⟨.inl rfl, (fun h => nomatch (show (none : Option Bool) = some true from h)),
      (fun h => nomatch (show (none : Option Bool) = some false from h))⟩

theorem witness_StackTimeAdvances_1 :
    base.pending = [] ∧ base.cfg.pend = [] ∧ base.onMain = true ∧ base.clk.stopped = false ∧ base.tim.stopped = false ∧
      base.tim.slew = 0 ∧ TimeOk base := by decide +kernel

theorem witness_Decimators_1 :
    0 < 1 ∧ (∀ y ∈ [(1 : Int)], y = 1) ∧ 3 * 1 - 2 ≤ [(1 : Int)].length ∧ 2 * 1 - 1 ≤ [(-1 : Int)].length ∧ (0 : Nat) < 4 ∧
      (∀ y ∈ List.replicate 10 (-1 : Int), y = -1) ∧ 3 * 4 - 2 ≤ (List.replicate 10 (-1 : Int)).length := by decide

theorem witness_MeasurementSetAndStrata_2 : (16777216 : Int).natAbs ≤ 2 ^ 24 ∧ (-16777216 : Int).natAbs ≤ 2 ^ 24 := by decide

theorem witness_NothingRunsInReset : State.reset.onMain = false ∧ outsideMain .avsIntervalEnd = false := by decide +kernel

/-! ### States and operands of the clauses -/

def theArbReq9 : ArbReq :=
  { r := 3, kind := .plain, since := 50, arrived := 50, granted := 200, beats := 1, addr := 80 }

def theArbReq8 : ArbReq :=
  { r := 8, kind := .plain, since := 60, arrived := 60, granted := 150, beats := 4, addr := 144 }

def theArbReq7 : ArbReq :=
  { r := 3, kind := .scrub 3, since := 50, arrived := 50, granted := 190, beats := 20, addr := 80 }

def theArbReq6 : ArbReq :=
  { r := 11, kind := .writeBack, since := 50, arrived := 50, granted := 190, beats := 20, addr := 80 }

def theRecord : Record :=
  { ev := { code := 2051, unit := 3, data := [1, 2, 3], ts32 := 5 }, src := 1, seq := 2, lost := true }

def theArbReq5 : ArbReq :=
  { r := 3, kind := .plain, since := 50, arrived := 50, granted := 199, beats := 1, addr := 80, data := [7, 8] }

def theArbReq4 : ArbReq :=
  { r := 3, kind := .plain, since := 50, arrived := 50, granted := 203, beats := 20, addr := 80, data := [7, 8] }

def theArbReq3 : ArbReq :=
  { r := 3, kind := .plain, since := 50, arrived := 50, granted := 190, beats := 20, addr := 80, data := [7, 8] }

def theArbReq2 : ArbReq :=
  { r := 11, kind := .plain, since := 50, arrived := 50, granted := 190, beats := 20, addr := 80, data := [7, 8] }

def theArbBank : ArbBank :=
  { holder := some theArbReq8 }

def theArbReq : ArbReq :=
  { r := 8, kind := .plain, since := 60, arrived := 60, granted := 150, beats := 4, addr := 144, data := [1,
      0xffffffffffffffff, 5] }

def theWearSec2 : WearSec :=
  { miner := [some (0, 256), none, some (3, 512)], c0 := List.replicate 48 0, esr0 := List.replicate 48 0,
    capOn := List.replicate 48 true }

def theLockSeq4 : LockSeq :=
  { since := 60, first := (0, theArbReq8), banks := [0] }

def theSafe : Safe :=
  { enable := 7, outs := [some 0, some 1, some 2, none], manual := 0, frame := 7,
    pairs := List.replicate 8 { role := .func, mask := 3, tDisc := 3 } }

def theWearSec : WearSec :=
  { miner := [some (0, 256), none, some (3, 512)], c0 := List.replicate 48 0x3f800000, esr0 := List.replicate 48 0x3f800000,
    capOn := List.replicate 48 true }

def theLoad : Load :=
  { ring := false, data := [0, 1, 2, 3, 4, 5, 6, 7, 8, 9, 10, 11, 12, 13, 14, 15, 16, 17, 18, 19, 20, 21, 22, 23, 24, 25, 26,
      27, 80] ++ List.replicate 47 0 }

def theLockSeq3 : LockSeq :=
  { since := 60, first := (0, theArbReq8), banks := [0], writes := [(16, [])] }

def theBlock3 : Block :=
  { code := 0, size := 2, ins := List.replicate 24 (.const 0x3f800000), pars := List.replicate 30 (.const 0x40000000),
    extra := List.range 8, outs := 256, st := 2048 }

def theBlock2 : Block :=
  { code := 1, size := 2, ins := List.replicate 24 (.const 0x3f800000), pars := List.replicate 30 (.const 0x40000000),
    extra := List.range 8, outs := 256, st := 2048 }

def theLockSeq2 : LockSeq :=
  { since := 60, first := (0,
      { r := 10, kind := .plain, since := 60, arrived := 60, granted := 150, beats := 4, addr := 144 }), banks := [0],
    writes := [(16, [5, 6])] }

def theBlock : Block :=
  { code := 0, size := 2, defer := true, ins := List.replicate 24 (.const 0x3f800000),
    pars := List.replicate 30 (.const 0x40000000), extra := List.range 8, outs := 256, st := 2048 }

def theMtrPoint3 : MtrPoint :=
  { last := some 1000, eimp := 0xffffffffffffffffffffffff, eexp := 0xfffffffffffffffffffffffb, wrapI := 65535, wrapE := 3,
    iimp := 7, iexp := 0xffffffffffffffffffffffff, sign := 1, runAt := 800 }

def theLockSeq : LockSeq :=
  { since := 60, first := (0, theArbReq), banks := [0], writes := [(16, [5, 6])] }

def theSegment : Segment :=
  { blocks := [theBlock2], base := 0, len := 0x1000 }

def theMtrPoint2 : MtrPoint :=
  { last := some 1000, eimp := 0xffffffffffffffffffffffff, eexp := 0xfffffffffffffffffffffffb, wrapI := 65535, wrapE := 3,
    iimp := 7, iexp := 0xffffffffffffffffffffffff, ivl := some 15, sign := 1, runAt := 800 }

def theGraph : Graph :=
  { segs := [some theSegment, some { blocks := [], base := 0, len := 4 }], parBase := 0xc000 }

def theMtrPoint : MtrPoint :=
  { iimp := 0x100000000000000000005, iexp := 0x10000000000, ivl := some 10, revs := 2, gap := true, chk := true,
    pairs := [{ sv := { m := 12345, e := 3 }, si := { m := 12345, e := 3 }, svv := { m := 12345, e := 3 }, sii := { m := 12345, e := 3 }, sp := { m := 12345, e := 3 }, cycles := 2, rv := { m := 12345, e := 3 }, ri := { m := 12345, e := 3 }, len := 4000, last := 2000, vi := { m := 12345, e := 3 }, nvi := 1 },
      { sv := { m := 12345, e := 3 }, si := { m := 12345, e := 3 }, svv := { m := 12345, e := 3 }, sii := { m := 12345, e := 3 }, sp := { m := 12345, e := 3 }, rv := { m := 12345, e := 3 }, ri := { m := 12345, e := 3 }, len := 4000, last := 2000, vi := { m := 12345, e := 3 }, nvi := 1 },
      { sv := { m := 12345, e := 3 }, si := { m := 12345, e := 3 }, svv := { m := 12345, e := 3 }, sii := { m := 12345, e := 3 }, sp := { m := 12345, e := 3 }, cycles := 2, rv := { m := 12345, e := 3 }, ri := { m := 12345, e := 3 }, len := 4000, last := 2000, vi := { m := 12345, e := 3 }, nvi := 1 }],
    dt := 77777 }

def theCkpt2 : Ckpt :=
  { ver := 256, seq := 5, length := 256, capK := -3, capTs := 7, engines := List.replicate 8 (3, []),
    pwm := [{ wid := 5, adtR := 3 }, { on := 1, wid := 5, adtR := 3 }, { on := 2, wid := 5, adtR := 3 },
      { on := 3, wid := 5, adtR := 3 }, { on := 4, wid := 5, adtR := 3 }, { on := 5, wid := 5, adtR := 3 },
      { on := 6, wid := 5, adtR := 3 }, { on := 7, wid := 5, adtR := 3 }, { on := 8, wid := 5, adtR := 3 },
      { on := 9, wid := 5, adtR := 3 }, { on := 10, wid := 5, adtR := 3 }, { on := 11, wid := 5, adtR := 3 },
      { on := 12, wid := 5, adtR := 3 }, { on := 13, wid := 5, adtR := 3 }, { on := 14, wid := 5, adtR := 3 },
      { on := 15, wid := 5, adtR := 3 }, { on := 16, wid := 5, adtR := 3 }, { on := 17, wid := 5, adtR := 3 },
      { on := 18, wid := 5, adtR := 3 }, { on := 19, wid := 5, adtR := 3 }, { on := 20, wid := 5, adtR := 3 },
      { on := 21, wid := 5, adtR := 3 }, { on := 22, wid := 5, adtR := 3 }, { on := 23, wid := 5, adtR := 3 },
      { on := 24, wid := 5, adtR := 3 }, { on := 25, wid := 5, adtR := 3 }, { on := 26, wid := 5, adtR := 3 },
      { on := 27, wid := 5, adtR := 3 }, { on := 28, wid := 5, adtR := 3 }, { on := 29, wid := 5, adtR := 3 },
      { on := 30, wid := 5, adtR := 3 }, { on := 31, wid := 5, adtR := 3 }, { on := 32, wid := 5, adtR := 3 },
      { on := 33, wid := 5, adtR := 3 }, { on := 34, wid := 5, adtR := 3 }, { on := 35, wid := 5, adtR := 3 },
      { on := 36, wid := 5, adtR := 3 }, { on := 37, wid := 5, adtR := 3 }, { on := 38, wid := 5, adtR := 3 },
      { on := 39, wid := 5, adtR := 3 }, { on := 40, wid := 5, adtR := 3 }, { on := 41, wid := 5, adtR := 3 },
      { on := 42, wid := 5, adtR := 3 }, { on := 43, wid := 5, adtR := 3 }, { on := 44, wid := 5, adtR := 3 },
      { on := 45, wid := 5, adtR := 3 }, { on := 46, wid := 5, adtR := 3 }, { on := 47, wid := 5, adtR := 3 },
      { on := 48, wid := 5, adtR := 3 }, { on := 49, wid := 5, adtR := 3 }, { on := 50, wid := 5, adtR := 3 },
      { on := 51, wid := 5, adtR := 3 }, { on := 52, wid := 5, adtR := 3 }, { on := 53, wid := 5, adtR := 3 },
      { on := 54, wid := 5, adtR := 3 }, { on := 55, wid := 5, adtR := 3 }, { on := 56, wid := 5, adtR := 3 },
      { on := 57, wid := 5, adtR := 3 }, { on := 58, wid := 5, adtR := 3 }, { on := 59, wid := 5, adtR := 3 },
      { on := 60, wid := 5, adtR := 3 }, { on := 61, wid := 5, adtR := 3 }, { on := 62, wid := 5, adtR := 3 },
      { on := 63, wid := 5, adtR := 3 }, { on := 64, wid := 5, adtR := 3 }, { on := 65, wid := 5, adtR := 3 },
      { on := 66, wid := 5, adtR := 3 }, { on := 67, wid := 5, adtR := 3 }, { on := 68, wid := 5, adtR := 3 },
      { on := 69, wid := 5, adtR := 3 }, { on := 70, wid := 5, adtR := 3 }, { on := 71, wid := 5, adtR := 3 },
      { on := 72, wid := 5, adtR := 3 }, { on := 73, wid := 5, adtR := 3 }, { on := 74, wid := 5, adtR := 3 },
      { on := 75, wid := 5, adtR := 3 }, { on := 76, wid := 5, adtR := 3 }, { on := 77, wid := 5, adtR := 3 },
      { on := 78, wid := 5, adtR := 3 }, { on := 79, wid := 5, adtR := 3 }, { on := 80, wid := 5, adtR := 3 },
      { on := 81, wid := 5, adtR := 3 }, { on := 82, wid := 5, adtR := 3 }, { on := 83, wid := 5, adtR := 3 },
      { on := 84, wid := 5, adtR := 3 }, { on := 85, wid := 5, adtR := 3 }, { on := 86, wid := 5, adtR := 3 },
      { on := 87, wid := 5, adtR := 3 }, { on := 88, wid := 5, adtR := 3 }, { on := 89, wid := 5, adtR := 3 },
      { on := 90, wid := 5, adtR := 3 }, { on := 91, wid := 5, adtR := 3 }, { on := 92, wid := 5, adtR := 3 },
      { on := 93, wid := 5, adtR := 3 }, { on := 94, wid := 5, adtR := 3 }, { on := 95, wid := 5, adtR := 3 }],
    swLatch := List.replicate 6 240, swInfo := List.replicate 192 1, cellFs := 3, cellInfo := List.replicate 24 1 }

def theCkpt : Ckpt :=
  { ver := 256, seq := 4, length := 256, capK := -3, capTs := 7, engines := List.replicate 8 (3, []),
    pwm := [{ wid := 5, adtR := 3 }, { on := 1, wid := 5, adtR := 3 }, { on := 2, wid := 5, adtR := 3 },
      { on := 3, wid := 5, adtR := 3 }, { on := 4, wid := 5, adtR := 3 }, { on := 5, wid := 5, adtR := 3 },
      { on := 6, wid := 5, adtR := 3 }, { on := 7, wid := 5, adtR := 3 }, { on := 8, wid := 5, adtR := 3 },
      { on := 9, wid := 5, adtR := 3 }, { on := 10, wid := 5, adtR := 3 }, { on := 11, wid := 5, adtR := 3 },
      { on := 12, wid := 5, adtR := 3 }, { on := 13, wid := 5, adtR := 3 }, { on := 14, wid := 5, adtR := 3 },
      { on := 15, wid := 5, adtR := 3 }, { on := 16, wid := 5, adtR := 3 }, { on := 17, wid := 5, adtR := 3 },
      { on := 18, wid := 5, adtR := 3 }, { on := 19, wid := 5, adtR := 3 }, { on := 20, wid := 5, adtR := 3 },
      { on := 21, wid := 5, adtR := 3 }, { on := 22, wid := 5, adtR := 3 }, { on := 23, wid := 5, adtR := 3 },
      { on := 24, wid := 5, adtR := 3 }, { on := 25, wid := 5, adtR := 3 }, { on := 26, wid := 5, adtR := 3 },
      { on := 27, wid := 5, adtR := 3 }, { on := 28, wid := 5, adtR := 3 }, { on := 29, wid := 5, adtR := 3 },
      { on := 30, wid := 5, adtR := 3 }, { on := 31, wid := 5, adtR := 3 }, { on := 32, wid := 5, adtR := 3 },
      { on := 33, wid := 5, adtR := 3 }, { on := 34, wid := 5, adtR := 3 }, { on := 35, wid := 5, adtR := 3 },
      { on := 36, wid := 5, adtR := 3 }, { on := 37, wid := 5, adtR := 3 }, { on := 38, wid := 5, adtR := 3 },
      { on := 39, wid := 5, adtR := 3 }, { on := 40, wid := 5, adtR := 3 }, { on := 41, wid := 5, adtR := 3 },
      { on := 42, wid := 5, adtR := 3 }, { on := 43, wid := 5, adtR := 3 }, { on := 44, wid := 5, adtR := 3 },
      { on := 45, wid := 5, adtR := 3 }, { on := 46, wid := 5, adtR := 3 }, { on := 47, wid := 5, adtR := 3 },
      { on := 48, wid := 5, adtR := 3 }, { on := 49, wid := 5, adtR := 3 }, { on := 50, wid := 5, adtR := 3 },
      { on := 51, wid := 5, adtR := 3 }, { on := 52, wid := 5, adtR := 3 }, { on := 53, wid := 5, adtR := 3 },
      { on := 54, wid := 5, adtR := 3 }, { on := 55, wid := 5, adtR := 3 }, { on := 56, wid := 5, adtR := 3 },
      { on := 57, wid := 5, adtR := 3 }, { on := 58, wid := 5, adtR := 3 }, { on := 59, wid := 5, adtR := 3 },
      { on := 60, wid := 5, adtR := 3 }, { on := 61, wid := 5, adtR := 3 }, { on := 62, wid := 5, adtR := 3 },
      { on := 63, wid := 5, adtR := 3 }, { on := 64, wid := 5, adtR := 3 }, { on := 65, wid := 5, adtR := 3 },
      { on := 66, wid := 5, adtR := 3 }, { on := 67, wid := 5, adtR := 3 }, { on := 68, wid := 5, adtR := 3 },
      { on := 69, wid := 5, adtR := 3 }, { on := 70, wid := 5, adtR := 3 }, { on := 71, wid := 5, adtR := 3 },
      { on := 72, wid := 5, adtR := 3 }, { on := 73, wid := 5, adtR := 3 }, { on := 74, wid := 5, adtR := 3 },
      { on := 75, wid := 5, adtR := 3 }, { on := 76, wid := 5, adtR := 3 }, { on := 77, wid := 5, adtR := 3 },
      { on := 78, wid := 5, adtR := 3 }, { on := 79, wid := 5, adtR := 3 }, { on := 80, wid := 5, adtR := 3 },
      { on := 81, wid := 5, adtR := 3 }, { on := 82, wid := 5, adtR := 3 }, { on := 83, wid := 5, adtR := 3 },
      { on := 84, wid := 5, adtR := 3 }, { on := 85, wid := 5, adtR := 3 }, { on := 86, wid := 5, adtR := 3 },
      { on := 87, wid := 5, adtR := 3 }, { on := 88, wid := 5, adtR := 3 }, { on := 89, wid := 5, adtR := 3 },
      { on := 90, wid := 5, adtR := 3 }, { on := 91, wid := 5, adtR := 3 }, { on := 92, wid := 5, adtR := 3 },
      { on := 93, wid := 5, adtR := 3 }, { on := 94, wid := 5, adtR := 3 }, { on := 95, wid := 5, adtR := 3 }],
    swLatch := List.replicate 6 240, swInfo := List.replicate 192 1, cellFs := 3, cellInfo := List.replicate 24 1 }

theorem witness_StackTimeAdvances :
    let s : State := base
    s.running = true ∧ s.tim.stopped = false ∧ s.tim.slew = 0 ∧ TimeOk s ∧ s.tim.ns < 1000000000 ∧ 0 < s.rateAddend ∧
      (∀ q < 6, s.hq.mark.at q [] = []) := by
  decide +kernel

theorem witness_TimeCommands :
    (let s : State := { base with regs := [(Reg.TIM_SET_S_LO, 3), (Reg.TIM_SET_NS, 0x3b9ac9ff)] }; let v : Word := 1
     s.onMain = true ∧ Reaches s Reg.TIM_SNAP ∧ fld v 0 1 = 1 ∧ s.bit Reg.TIM_SERVO 0 = false) ∧
    (let s : State := { base with
       regs := [(Reg.TIM_SET_S_LO, 3), (Reg.TIM_SET_NS, 0x3b9ac9ff), (Reg.TIM_SERVO, 0x320065)] }
     let v : Word := 0
     s.onMain = true ∧ Reaches s Reg.TIM_SNAP ∧ s.bit Reg.TIM_SERVO 0 = true ∧ -rateMax ≤ v.toInt ∧ v.toInt ≤ rateMax) ∧
    (let s : State := { base with
       regs := [(Reg.TIM_SET_S_LO, 3), (Reg.TIM_SET_NS, 0x3b9ac9ff), (Reg.TIM_SERVO, 0x320065)] }
     let v : Word := 0x68db8d
     s.onMain = true ∧ Reaches s Reg.TIM_SNAP ∧ s.bit Reg.TIM_SERVO 0 = true ∧ (v.toInt < -rateMax ∨ rateMax < v.toInt)) ∧
    (let s : State := { base with
       regs := [(Reg.TIM_SET_S_LO, 3), (Reg.TIM_SET_NS, 0x3b9ac9ff)], keys.slots := [(0, { key := some 32277, age := 64 })] }
     let src : Src := .pcie; s.onMain = true ∧ KeyPasses s src Reg.TIM_CTRL ∧ s.halted = true) ∧
    (let s : State := { base with
       regs := [(Reg.GLB_STAT, 7), (Reg.TIM_SET_S_LO, 3), (Reg.TIM_SET_NS, 0x3b9ac9ff)], keys.slots := [(0,
         { key := some 32277, age := 64 })] }
     let src : Src := .pcie; s.onMain = true ∧ KeyPasses s src Reg.TIM_CTRL ∧ s.halted = false) := by
  refine ⟨?_, ?_, ?_, ?_, ?_⟩ <;> decide +kernel

theorem witness_TimeFollowsRingAndStation_1 :
    (let s : State := base; s.running = true ∧ (s.timState = 0 ∨ s.timState = 3) ∧ s.takesStation = true) ∧
    (let s : State := { base with regs := [(Reg.TIM_STAT, 1)] }; s.running = true ∧ (s.timState = 1 ∨ s.timState = 2)) ∧
    (let s : State := { base with regs := [(Reg.GLB_STRAP, 3), (Reg.TIM_STAT, 3)] }
     s.running = true ∧ s.timState = 3 ∧ s.takesStation = false ∧ s.tim.alignFault = false ∧ s.pairState ≠ 3) ∧
    (let s : State := { base with
       regs := [(Reg.GLB_STRAP, 3), (Reg.TIM_STAT, 3), (Reg.PAR_STAT, 11), (Reg.PAR_HLTH_PEER, 0xffff), (Reg.LAN_LSTAT 2,
         7)] }
     s.running = true ∧ s.timState = 3 ∧ s.takesStation = false ∧ s.tim.alignFault = false ∧ HandoverAsked s ∧
       s.bit Reg.PAR_HLTH_PEER 10 = true) := by
  refine ⟨?_, ?_, ?_, ?_⟩ <;> decide +kernel

theorem witness_TimeFollowsRingAndStation_2 :
    (let s : State := { base with
       regs := [(Reg.LAN_LSTAT 0, 55), (Reg.LAN_LSTAT 1, 55), (Reg.LAN_LSTAT 2, 55), (Reg.LAN_LSTAT 3, 55), (Reg.LAN_LSTAT 4,
         55), (Reg.LAN_LSTAT 5, 55), (Reg.LAN_LSTAT 6, 55), (Reg.LAN_LSTAT 7, 55)] }
     let lane : Lane := 0; let t : TimeSet := { t1 := 0, t2 := 1000, t3 := 2000, t4 := 3000 }; let d : Int := 50000
     let l : List Int := [50000]
     s.running = true ∧ s.receives lane.val = true ∧ d = 25 * ((t.t4 - t.t1) - (t.t3 - t.t2)) + s.asym lane.val ∧
       l = (d :: s.tim.delays.at lane.val []).take 16 ∧ s.follows lane.val = false) ∧
    (let s : State := { base with
       regs := [(Reg.GLB_STRAP, 3), (Reg.TIM_STAT, 1), (Reg.TIM_SERVO, 0x320065), (Reg.LAN_LSTAT 0, 55), (Reg.LAN_LSTAT 1,
         55), (Reg.LAN_LSTAT 2, 55), (Reg.LAN_LSTAT 3, 55), (Reg.LAN_LSTAT 4, 55), (Reg.LAN_LSTAT 5, 55), (Reg.LAN_LSTAT 6,
         55), (Reg.LAN_LSTAT 7, 55)] }
     let lane : Lane := 1; let t : TimeSet := { t1 := 0, t2 := 1000000, t3 := 2000, t4 := 3000 }; let d : Int := 25025000
     let l : List Int := [25025000]
     s.running = true ∧ s.receives lane.val = true ∧ d = 25 * ((t.t4 - t.t1) - (t.t3 - t.t2)) + s.asym lane.val ∧
       l = (d :: s.tim.delays.at lane.val []).take 16 ∧ s.follows lane.val = true ∧ s.bit Reg.TIM_SERVO 0 = true ∧
       (let ofs := (50 * (t.t2 - t.t1) - average l) / 50; s.timState = 1 ∧ s.lockThr < ofs.natAbs)) ∧
    (let s : State := { base with
       regs := [(Reg.GLB_STRAP, 3), (Reg.TIM_STAT, 1), (Reg.TIM_SERVO, 0x320065), (Reg.LAN_LSTAT 0, 55), (Reg.LAN_LSTAT 1,
         55), (Reg.LAN_LSTAT 2, 55), (Reg.LAN_LSTAT 3, 55), (Reg.LAN_LSTAT 4, 55), (Reg.LAN_LSTAT 5, 55), (Reg.LAN_LSTAT 6,
         55), (Reg.LAN_LSTAT 7, 55)], tim.good := 15 }
     let lane : Lane := 1; let t : TimeSet := { t1 := 0, t2 := 1000, t3 := 2000, t4 := 3000 }; let d : Int := 50000
     let l : List Int := [50000]
     s.running = true ∧ s.receives lane.val = true ∧ d = 25 * ((t.t4 - t.t1) - (t.t3 - t.t2)) + s.asym lane.val ∧
       l = (d :: s.tim.delays.at lane.val []).take 16 ∧ s.follows lane.val = true ∧ s.bit Reg.TIM_SERVO 0 = true ∧
       (let ofs := (50 * (t.t2 - t.t1) - average l) / 50; s.timState = 1 ∧ s.tim.good = 15 ∧ ofs.natAbs ≤ s.lockThr)) ∧
    (let s : State := { base with
       regs := [(Reg.GLB_STAT, 7), (Reg.GLB_STRAP, 3), (Reg.TIM_STAT, 3), (Reg.TIM_SERVO, 0x320065), (Reg.LAN_LSTAT 0, 55),
         (Reg.LAN_LSTAT 1, 55), (Reg.LAN_LSTAT 2, 55), (Reg.LAN_LSTAT 3, 55), (Reg.LAN_LSTAT 4, 55), (Reg.LAN_LSTAT 5, 55),
         (Reg.LAN_LSTAT 6, 55), (Reg.LAN_LSTAT 7, 55)] }
     let lane : Lane := 1; let t : TimeSet := { t1 := 0, t2 := 1000, t3 := 2000, t4 := 3000 }; let d : Int := 50000
     let l : List Int := [50000]
     s.running = true ∧ s.receives lane.val = true ∧ d = 25 * ((t.t4 - t.t1) - (t.t3 - t.t2)) + s.asym lane.val ∧
       l = (d :: s.tim.delays.at lane.val []).take 16 ∧ s.follows lane.val = true ∧ s.bit Reg.TIM_SERVO 0 = true ∧
       (s.timState = 3 ∧ s.halted = false)) := by
  refine ⟨?_, ?_, ?_, ?_⟩ <;> decide +kernel

theorem witness_TimeFollowsRingAndStation_3 :
    (let s : State := { base with lan.ptp := [(0, [5, 6])] }; let port : Fin 2 := 0; let udp : Bool := false
     let domain : BitVec 8 := 0; let at50 : Nat := 5; let l : List Nat := [6]
     s.running = true ∧ s.lan.ptp.at port.val [] = at50 :: l ∧ s.node = 0 ∧ s.ptpOn port.val = true ∧
       domain.toNat = s.rf Reg.TIM_PTP_CFG 8 8 ∧ udp = s.bit Reg.TIM_PTP_CFG 2) ∧
    (let s : State := { base with regs := [(Reg.TIM_PTP_CFG, 0)] }; let port : Fin 2 := 0
     s.running = true ∧ s.lan.ptp.at port.val [] = []) ∧
    (let s : State := { base with regs := [(Reg.TIM_PTP_CFG, 0)], lan.ptp := [(0, [5, 6])] }; let port : Fin 2 := 0
     let udp : Bool := true; let domain : BitVec 8 := 0; let at50 : Nat := 5; let l : List Nat := [6]
     s.running = true ∧ s.lan.ptp.at port.val [] = at50 :: l ∧
       (domain.toNat ≠ s.rf Reg.TIM_PTP_CFG 8 8 ∨ udp ≠ s.bit Reg.TIM_PTP_CFG 2)) ∧
    (let s : State := { base with
       regs := [(Reg.PAR_STAT, 1), (Reg.LAN_LSTAT 0, 55), (Reg.LAN_LSTAT 1, 55), (Reg.LAN_LSTAT 2, 55), (Reg.LAN_LSTAT 3, 55),
         (Reg.LAN_LSTAT 4, 55), (Reg.LAN_LSTAT 5, 55), (Reg.LAN_LSTAT 6, 55), (Reg.LAN_LSTAT 7, 55)], lan.ptp := [(0, [5,
         6])] }
     let port : Fin 2 := 0; let udp : Bool := false; let domain : BitVec 8 := 0; let at50 : Nat := 5
     let l : List Nat := [6]
     s.running = true ∧ s.lan.ptp.at port.val [] = at50 :: l ∧ s.node = 0 ∧ s.ptpOn port.val = true ∧
       domain.toNat = s.rf Reg.TIM_PTP_CFG 8 8 ∧ udp = s.bit Reg.TIM_PTP_CFG 2 ∧ s.takesStation = false ∧
       s.sends (4 + port.val) = true) := by
  refine ⟨?_, ?_, ?_, ?_⟩ <;> decide +kernel

theorem witness_TimedOutputs_1 :
    (let s : State := { base with regs := [(Reg.TIM_TPO_PER 0, 20), (Reg.TIM_TPO_WID 0, 7)] }; let n : Fin 8 := 0
     let v : Word := 3; let t : Tpo := s.tpoSettings n.val v
     Reaches s (Reg.TIM_TPO_CFG n.val) ∧ s.tim.tpoHigh.at n.val false = false ∧ fld v 8 5 ≤ 19 ∧ fld v 0 1 = 1 ∧
       tpoOk t = true ∧ t.periodic = true ∧ t.start < s.startClock + 4096 ∧ (19 < fld (0x1f00 : Word) 8 5)) ∧
    (let s : State := { base with regs := [(Reg.TIM_TPO_PER 0, 19), (Reg.TIM_TPO_WID 0, 6)] }; let n : Fin 8 := 0
     let v : Word := 0
     Reaches s (Reg.TIM_TPO_CFG n.val) ∧ s.tim.tpoHigh.at n.val false = false ∧ fld v 8 5 ≤ 19 ∧ fld v 0 1 = 0) ∧
    (let s : State := { base with regs := [(Reg.TIM_TPO_PER 0, 19), (Reg.TIM_TPO_WID 0, 6)] }; let n : Fin 8 := 0
     let v : Word := 1; let t : Tpo := s.tpoSettings n.val v
     Reaches s (Reg.TIM_TPO_CFG n.val) ∧ s.tim.tpoHigh.at n.val false = false ∧ fld v 8 5 ≤ 19 ∧ fld v 0 1 = 1 ∧
       tpoOk t = false) ∧
    (let s : State := { base with regs := [(Reg.TIM_TPO_PER 0, 19), (Reg.TIM_TPO_WID 0, 7)] }; let n : Fin 8 := 0
     let v : Word := 1; let t : Tpo := s.tpoSettings n.val v
     Reaches s (Reg.TIM_TPO_CFG n.val) ∧ s.tim.tpoHigh.at n.val false = false ∧ fld v 8 5 ≤ 19 ∧ fld v 0 1 = 1 ∧
       tpoOk t = true ∧ t.periodic = false ∧ t.start < s.startClock + 4096) ∧
    (let s : State := { base with
       regs := [(Reg.TIM_TPO_START_NS 0, 300), (Reg.TIM_TPO_PER 0, 19), (Reg.TIM_TPO_WID 0, 7)] }
     let n : Fin 8 := 0; let v : Word := 1; let t : Tpo := s.tpoSettings n.val v
     Reaches s (Reg.TIM_TPO_CFG n.val) ∧ s.tim.tpoHigh.at n.val false = false ∧ fld v 8 5 ≤ 19 ∧ fld v 0 1 = 1 ∧
       tpoOk t = true ∧ ¬ t.start < s.startClock + 4096) := by
  refine ⟨?_, ?_, ?_, ?_, ?_⟩ <;> decide +kernel

theorem witness_TimedOutputs_2 :
    (let s : State := { base with
       tim.tpo := [(0, some { first := 1, start := 1, per := 200, wid := 30, periodic := true, activeLow := false })] }
     let n : Fin 8 := 0
     let t : Tpo := { first := 1, start := 1, per := 200, wid := 30, periodic := true, activeLow := false }
     s.running = true ∧ s.tim.tpo.at n.val none = some t ∧ s.tim.tpoHigh.at n.val false = false) ∧
    (let s : State := { base with
       tim.tpo := [(0, some { first := 1, start := 1, per := 200, wid := 30, periodic := true, activeLow := false })],
       tim.tpoHigh := [(0, true)] }
     let n : Fin 8 := 0
     let t : Tpo := { first := 1, start := 1, per := 200, wid := 30, periodic := true, activeLow := false }
     s.running = true ∧ s.tim.tpo.at n.val none = some t ∧ s.tim.tpoHigh.at n.val false = true) ∧
    (let s : State := base; let n : Fin 8 := 0; s.running = true ∧ s.tim.tpo.at n.val none = none) := by
  refine ⟨?_, ?_, ?_⟩ <;> decide +kernel

theorem witness_TimedOutputs_3 :
    (let s : State := base; s.running = true ∧ s.tim.ppsOut = false ∧ s.timState < 2) ∧
    (let s : State := { base with tim.ppsOut := true }; s.running = true ∧ s.tim.ppsOut = true) ∧
    (let s : State := { base with regs := [(Reg.TIM_STAT, 2)] }; s.running = true ∧ s.tim.ppsOut = false ∧ 2 ≤ s.timState) := by
  refine ⟨?_, ?_, ?_⟩ <;> decide +kernel

theorem witness_CaptureInputs :
    (let s : State := { base with
       regs := [(Reg.TIM_TCAP_CFG 0, 1)], tim.s := 5, tim.ns := 77, tim.sub := 7, tim.ts32 := 0x2a05f24d, now := 100 }
     let n : Fin 5 := 0; let fine : Fin 64 := 0; let a : Nat := 5; let b : Nat := 77; let c : Nat := 0
     s.running = true ∧ s.bit (Reg.TIM_TCAP_CFG n.val) 0 = true ∧ s.rf (Reg.TIM_TCAP_CFG n.val) 1 2 = 0 ∧
       s.rf Reg.TIM_CFG 0 2 = 0 ∧ (a, b, c) = stampParts (s.edgeStamp fine.val) ∧
       (s.tim.lastEdge.at n.val 0 = 0 ∨ s.tim.lastEdge.at n.val 0 + 512 ≤ s.edgeTime fine.val) ∧
       (n.val = 4 → (phaseOf (s.edgeStamp fine.val)).natAbs ≤ 2000000) ∧ (s.tim.fifo.at n.val []).length < 16 ∧
       s.sys.ready = true ∧ s.tim.fifo.at n.val [] = []) ∧
    (let s : State := { base with
       regs := [(Reg.TIM_TCAP_CFG 4, 1)], tim.s := 5, tim.ns := 0x1dcd6500, tim.ts32 := 0x47d35700, now := 100 }
     let n : Fin 5 := 4; let fine : Fin 64 := 0; let a : Nat := 5; let b : Nat := 0x1dcd6500; let c : Nat := 0
     s.running = true ∧ s.bit (Reg.TIM_TCAP_CFG n.val) 0 = true ∧ s.rf (Reg.TIM_TCAP_CFG n.val) 1 2 = 0 ∧
       s.rf Reg.TIM_CFG 0 2 = 0 ∧ (a, b, c) = stampParts (s.edgeStamp fine.val) ∧
       (s.tim.lastEdge.at n.val 0 = 0 ∨ s.tim.lastEdge.at n.val 0 + 512 ≤ s.edgeTime fine.val) ∧ n.val = 4 ∧
       2000000 < (phaseOf (s.edgeStamp fine.val)).natAbs) ∧
    (let s : State := { base with
       regs := [(Reg.TIM_TCAP_CFG 0, 1)], tim.s := 5, tim.ns := 77, tim.sub := 7, tim.ts32 := 0x2a05f24d, tim.fifo := [(0,
         [(0, 0, 0), (1, 1, 1), (2, 2, 2), (3, 3, 3), (4, 4, 4), (5, 5, 5), (6, 6, 6), (7, 7, 7), (8, 8, 8), (9, 9, 9), (10,
         10, 10), (11, 11, 11), (12, 12, 12), (13, 13, 13), (14, 14, 14), (15, 15, 15)])], now := 100 }
     let n : Fin 5 := 0; let fine : Fin 64 := 0; let a : Nat := 5; let b : Nat := 77; let c : Nat := 0
     s.running = true ∧ s.bit (Reg.TIM_TCAP_CFG n.val) 0 = true ∧ s.rf (Reg.TIM_TCAP_CFG n.val) 1 2 = 0 ∧
       s.rf Reg.TIM_CFG 0 2 = 0 ∧ (a, b, c) = stampParts (s.edgeStamp fine.val) ∧
       (s.tim.lastEdge.at n.val 0 = 0 ∨ s.tim.lastEdge.at n.val 0 + 512 ≤ s.edgeTime fine.val) ∧
       (n.val = 4 → (phaseOf (s.edgeStamp fine.val)).natAbs ≤ 2000000) ∧ 16 ≤ (s.tim.fifo.at n.val []).length ∧
       s.tim.capTold.at n.val false = false ∧ s.sys.ready = true ∧ (s.tim.fifo.at n.val [] ≠ [])) ∧
    (let s : State := { base with
       regs := [(Reg.TIM_TCAP_CFG 0, 1)], tim.s := 5, tim.ns := 77, tim.sub := 7, tim.ts32 := 0x2a05f24d, tim.lastEdge := [(0,
         5950)], now := 100 }
     let n : Fin 5 := 0; let fine : Fin 64 := 0; let a : Nat := 5; let b : Nat := 77; let c : Nat := 0
     s.running = true ∧ s.bit (Reg.TIM_TCAP_CFG n.val) 0 = true ∧ s.rf (Reg.TIM_TCAP_CFG n.val) 1 2 = 0 ∧
       s.rf Reg.TIM_CFG 0 2 = 0 ∧ (a, b, c) = stampParts (s.edgeStamp fine.val) ∧ s.tim.lastEdge.at n.val 0 ≠ 0 ∧
       s.edgeTime fine.val < s.tim.lastEdge.at n.val 0 + 512) := by
  refine ⟨?_, ?_, ?_, ?_⟩ <;> decide +kernel

theorem witness_Decimators :
    (let s : State := { base with meas.fault := [(0, some 5)] }; let c : Chan := 0
     let bits : List (Option Bool) := List.replicate 100 (some true); let r : Nat := 256; let cv : Nat := 0
     s.running = true ∧ r = s.rf (Reg.SDM_CFG c.val) 8 9 ∧
       cv = min (s.rn (Reg.SDM_CV c.val) + (((bits.drop (bits.length - r)).filter Option.isNone).length - s.meas.cvSeen.at c.val 0)) 4294967295 ∧
       s.sdOn c.val = false ∧ s.meas.fault.at c.val none ≠ none) ∧
    (let s : State := { base with regs := [(Reg.SDM_CFG 0, 0x10015)] }; let c : Chan := 0
     let bits : List (Option Bool) := List.replicate 100 (some true); let qual : Bool := false; let r : Nat := 256
     let cv : Nat := 0
     s.running = true ∧ r = s.rf (Reg.SDM_CFG c.val) 8 9 ∧
       cv = min (s.rn (Reg.SDM_CV c.val) + (((bits.drop (bits.length - r)).filter Option.isNone).length - s.meas.cvSeen.at c.val 0)) 4294967295 ∧
       s.sdOn c.val = true ∧ (s.sdFaulted c.val = false ∨ qual = true) ∧ s.meas.fault.at c.val none = none) ∧
    (let s : State := { base with regs := [(Reg.SDM_CFG 0, 0x10015)], meas.fault := [(0, some 5)] }; let c : Chan := 0
     let bits : List (Option Bool) := List.replicate 100 (some true); let r : Nat := 256; let cv : Nat := 0
     s.running = true ∧ r = s.rf (Reg.SDM_CFG c.val) 8 9 ∧
       cv = min (s.rn (Reg.SDM_CV c.val) + (((bits.drop (bits.length - r)).filter Option.isNone).length - s.meas.cvSeen.at c.val 0)) 4294967295 ∧
       s.sdOn c.val = true ∧ s.sdFaulted c.val = true) := by
  refine ⟨?_, ?_, ?_⟩ <;> decide +kernel

theorem witness_ChannelFaultsAndComparators_1 :
    (let s : State := base; let c : Chan := 0
     s.running = true ∧ s.sdOn c.val = false ∧ s.meas.fault.at c.val none = none) ∧
    (let s : State := { base with regs := [(Reg.SDM_CFG 0, 0x10015)], meas.fault := [(0, some 5)], now := 1000 }
     let c : Chan := 0; let n : Nat := 7; let rate : BitVec 16 := 99
     s.running = true ∧ s.sdOn c.val = true ∧ s.sdFaulted c.val = true ∧ s.rf (Reg.GPR_SDACT c.val) 4 2 = 0 ∧
       (∃ p ∈ [(Instr.sdLossOfTransition (c, false), 1), (Instr.sdCodeViolationFault (c, n, false), 2), (Instr.sdRateFault (c,
         rate, false), 3)], s.sdFaulted c.val = true ∧ p.2 ≠ 3) ∧ (∃ t ∈ s.meas.fault.at c.val none, True)) ∧
    (let s : State := { base with regs := [(Reg.SDM_CFG 0, 0x10015)] }; let c : Chan := 0
     s.running = true ∧ s.sdOn c.val = true ∧ s.sdFaulted c.val = false ∧ s.rf (Reg.GPR_SDACT c.val) 4 2 = 0) := by
  refine ⟨?_, ?_, ?_⟩ <;> decide +kernel

theorem witness_ChannelFaultsAndComparators_2 :
    (let s : State := { base with regs := [(Reg.SDM_CFG 0, 0x10015), (Reg.SDM_CMP_CFG 0, 1), (Reg.SDM_RES 0, 0x2000000)] }
     let c : Chan := 0; let hi : Bool := true; let settled : Bool := false; let bits : List (Option Bool) := []
     let v : Int := 0
     s.running = true ∧ v = sinc2Code (s.osr2 c.val) (s.sdValues c.val bits) ∧
       (s.cmpSettle c.val settled).cmpLive c.val hi = true ∧ s.rf (Reg.GPR_SDACT c.val) (if hi then 0 else 2) 2 = 0 ∧
       s.cmpOn c.val hi = true ∧ (if hi then v < s.cmpHi c.val - s.cmpHys c.val else s.cmpLo c.val + s.cmpHys c.val < v) ∧
       settled = false) ∧
    (let s : State := { base with regs := [(Reg.SDM_CFG 0, 0x10015), (Reg.SDM_CMP 0, 0), (Reg.SDM_CMP_CFG 0, 1)] }
     let c : Chan := 0; let hi : Bool := true; let settled : Bool := false
     let bits : List (Option Bool) := List.replicate 63 (some true); let v : Int := 32767
     s.running = true ∧ v = sinc2Code (s.osr2 c.val) (s.sdValues c.val bits) ∧
       (s.cmpSettle c.val settled).cmpLive c.val hi = true ∧ s.rf (Reg.GPR_SDACT c.val) (if hi then 0 else 2) 2 = 0 ∧
       s.cmpOn c.val hi = false ∧ (if hi then s.cmpHi c.val < v else v < s.cmpLo c.val)) ∧
    (let s : State := { base with regs := [(Reg.SDM_CFG 0, 0x10015), (Reg.SDM_CMP_CFG 0, 1), (Reg.SDM_RES 0, 0x2000000)] }
     let c : Chan := 0; let hi : Bool := true; let settled : Bool := false
     let bits : List (Option Bool) := List.replicate 63 (some true); let v : Int := 32767
     s.running = true ∧ v = sinc2Code (s.osr2 c.val) (s.sdValues c.val bits) ∧
       (s.cmpSettle c.val settled).cmpLive c.val hi = true ∧ s.rf (Reg.GPR_SDACT c.val) (if hi then 0 else 2) 2 = 0 ∧
       s.cmpOn c.val hi = true ∧ (if hi then s.cmpHi c.val - s.cmpHys c.val ≤ v else v ≤ s.cmpLo c.val + s.cmpHys c.val) ∧
       settled = false) := by
  refine ⟨?_, ?_, ?_⟩ <;> decide +kernel

theorem witness_Triggers :
    (let s : State := { base with regs := [(Reg.ADC_TRIG_SRC 0, 31)] }; let t : Fin 16 := 0; let k : Conv := 0
     let v : Word := 1
     s.running = true ∧ PlainAdc s ∧ FreeConverter s k.val t.val ∧ s.meas.delays.at t.val 0 = 0 ∧
       s.rf (Reg.ADC_TRIG_SRC t.val) 0 6 ≠ 0x20 ∧ Reaches s Reg.ADC_SW_TRIG ∧ s.rf (Reg.ADC_TRIG_SRC t.val) 0 6 = 0x1f ∧
       (∀ j < 16, fld v j 1 = if j = t.val then 1 else 0) ∧ s.rf (Reg.ADC_TRIG_DLY_L t.val) 0 16 = 0) ∧
    (let s : State := { base with regs := [(Reg.ADC_TRIG_SRC 0, 32)], meas.delays := [(0, 1)] }; let t : Fin 16 := 0
     let k : Conv := 0
     s.running = true ∧ PlainAdc s ∧ FreeConverter s k.val t.val ∧ 0 < s.meas.delays.at t.val 0 ∧
       s.rf (Reg.ADC_TRIG_SRC t.val) 0 6 = 0x20 ∧ s.rf (Reg.ADC_TRIG_DLY_L t.val) 0 16 = 0) ∧
    (let s : State := { base with regs := [(Reg.ADC_TRIG_SRC 0, 32), (Reg.ADC_TRIG_DLY_L 0, 5)] }; let t : Fin 16 := 0
     let k : Conv := 0
     s.running = true ∧ PlainAdc s ∧ FreeConverter s k.val t.val ∧ s.rf (Reg.ADC_TRIG_SRC t.val) 0 6 = 0x20 ∧
       s.rf (Reg.ADC_TRIG_DLY_L t.val) 0 16 ≠ 0 ∧ s.meas.delays.at t.val 0 < 4) := by
  refine ⟨?_, ?_, ?_⟩ <;> decide +kernel

theorem witness_ConversionsAndCalibration_1 :
    (let s : State := { base with
       regs := [(Reg.ADC_KSTAT 0, 1)], meas.conv := [(0,
         { reg := some { slot := 15, trig := 10, sampled := some 20, resampled := true }, left := 1 })], now := 500 }
     let k : Conv := 0; let j : Job := { slot := 15, trig := 10, sampled := some 20, resampled := true }
     let w : Nat := 20; let e : Nat := 0
     s.running = true ∧ e = k.val / 2 * 2 ∧ s.ilv k.val = false ∧ (s.adc k.val).inj = [] ∧ s.setOf k.val = none ∧
       (s.adc k.val).reg = some j ∧ s.bit (Reg.ADC_KSTAT k.val) 0 = true ∧ j.sampled = some w ∧ j.trig ≤ w ∧
       w - j.trig ≤ 8191 ∧ j.slot < 16 ∧ (s.adc k.val).left = 1) ∧
    (let s : State := { base with
       meas.conv := [(0, { reg := some { slot := 3, trig := 10 }, inj := [{ slot := 3, trig := 10 }] })], now := 500 }
     let k : Conv := 0; let j : Job := { slot := 3, trig := 10 }; let rest : List Job := []; let e : Nat := 0
     s.running = true ∧ e = k.val / 2 * 2 ∧ s.ilv k.val = false ∧ (s.adc k.val).inj = j :: rest ∧ j.sampled = none) ∧
    (let s : State := { base with
       regs := [(Reg.ADC_CFG 0, 260)], meas.conv := [(0, { stream := some { left := some 3, slot := 15, trig := 7 } })],
       now := 500 }
     let k : Conv := 0; let e : Nat := 0; let x : Stream := { left := some 3, slot := 15, trig := 7 }
     s.running = true ∧ e = k.val / 2 * 2 ∧ s.ilv k.val = true ∧ (s.adc e).stream = some x ∧ x.odd = (k.val % 2 == 1) ∧
       x.left ≠ some 0 ∧ (if x.odd then x.oddJob else x.evenJob) = none) := by
  refine ⟨?_, ?_, ?_⟩ <;> decide +kernel

theorem witness_ConversionsAndCalibration_2 :
    (let s : State := { base with meas.conv := [(0, { left := 1, inj := [{ slot := 3, trig := 10 }] })] }
     let k : Conv := 0; let v : Word := 1
     s.running = true ∧ Reaches s Reg.ADC_CAL_CMD ∧ (∀ j < 8, fld v j 1 = if j = k.val then 1 else 0) ∧ (∀ j < 8,
         s.ilv j = false) ∧ s.setOf k.val = none ∧ s.calibrating k.val = false ∧ (s.adc (k.val / 2 * 2)).stream = none ∧
       (s.adc k.val).inj ≠ []) ∧
    (let s : State := { base with regs := [(Reg.ADC_STAT, 256)], meas.conv := [(0, { left := 1 })] }; let k : Conv := 0
     s.running = true ∧ s.bit Reg.ADC_STAT (8 + k.val) = true) ∧
    (let s : State := { base with regs := [(Reg.ADC_STAT, 0x10000)], meas.conv := [(0, { left := 1 })] }
     let k : Conv := 0; s.running = true ∧ s.bit Reg.ADC_STAT (16 + k.val) = true ∧ (s.adc k.val).inj = []) := by
  refine ⟨?_, ?_, ?_⟩ <;> decide +kernel

theorem witness_LoopFindsAndWalks_1 :
    (let s : State := { base with
       tim.stopped := true, clk.searchDue := true, clk.searching := true, clk.failed := true, clk.locked := true }
     let codes : List (BitVec 10) := [400, 437, 474, 511, 548, 585, 622, 659, 696, 733, 770, 807, 844, 881, 918, 955, 992, 5,
         42, 79, 116, 153, 190, 227, 264, 301, 338, 375, 412, 449, 486, 523]
     let best : Nat := 3
     s.running = true ∧ best = bestBand (codes.map BitVec.toNat) ∧ codes.length = 32 ∧ s.clk.searching = true ∧
       s.integrity = false ∧ s.clk.failed = true) ∧
    (let s : State := { base with regs := [(Reg.CLK_STAT, 64)] }; let codes : List (BitVec 10) := List.replicate 32 5
     let best : Nat := 0
     s.running = true ∧ best = bestBand (codes.map BitVec.toNat) ∧ codes.length = 32 ∧ s.integrity = true) ∧
    (let s : State := { base with
       regs := [(Reg.CLK_REFA, 0x20000)], tim.stopped := true, clk.searchDue := true, clk.searching := true,
       clk.locked := true }
     let codes : List (BitVec 10) := [400, 437, 474, 511, 548, 585, 622, 659, 696, 733, 770, 807, 844, 881, 918, 955, 992, 5,
         42, 79, 116, 153, 190, 227, 264, 301, 338, 375, 412, 449, 486, 523]
     let best : Nat := 3
     s.running = true ∧ best = bestBand (codes.map BitVec.toNat) ∧ codes.length = 32 ∧ s.integrity = false ∧
       s.clk.searchDue = true ∧ s.clk.failed = false ∧ (s.refQualified false = true ∨ s.refQualified true = true)) := by
  refine ⟨?_, ?_, ?_⟩ <;> decide +kernel

theorem witness_LoopFindsAndWalks_2 :
    (let s : State := { base with regs := [(Reg.CLK_STAT, 4)] }
     s.running = true ∧ s.integrity = false ∧ s.clkState = 4 ∧ s.rf Reg.CLK_WALK 0 14 < 12800) ∧
    (let s : State := { base with regs := [(Reg.CLK_STAT, 3)], clk.target := some (true, 0) }; let theta : Fin 12800 := 1
     let r : Bool := true; let cause : Nat := 0
     s.running = true ∧ s.integrity = false ∧ s.clkState = 3 ∧ s.clk.target = some (r, cause) ∧ theta.val ≠ 0) := by
  refine ⟨?_, ?_⟩ <;> decide +kernel

theorem witness_ReferenceMonitorAndSwitch_1 :
    (let s : State := { base with regs := [(Reg.CLK_REFA, 0x30000)], clk.locked := true, clk.freq := [(0, none)] }
     let b : Bool := false; let offset : Int := 0
     s.running = true ∧ s.injecting b = false ∧ s.clk.target = none ∧ s.refPresent b = true ∧ s.clkState ≠ 3 ∧
       -32768 ≤ offset ∧ offset ≤ 32767 ∧ offset.natAbs ≤ s.freqLimit ∧
       s.stepped b (s.clk.freq.at b.toNat none) offset = false) ∧
    (let s : State := { base with regs := [(Reg.CLK_STAT, 3)], clk.locked := true, clk.freq := [(0, some 21)] }
     let b : Bool := false; let offset : Int := 0
     s.running = true ∧ s.injecting b = false ∧ s.clk.target = none ∧ (∃ last ∈ s.clk.freq.at b.toNat none, s.clkSel = b ∧
       2 ≤ s.clkState ∧ 20 < (offset - last).natAbs)) ∧
    (let s : State := { base with regs := [(Reg.CLK_REFA, 0x30000)], clk.locked := true, clk.freq := [(0, none)] }
     let b : Bool := false; let offset : Int := 2001
     s.running = true ∧ s.injecting b = false ∧ s.clk.target = none ∧ s.freqLimit < offset.natAbs ∧ s.refQualified b = true ∧
       s.stepped b (s.clk.freq.at b.toNat none) offset = false) ∧
    (let s : State := { base with
       regs := [(Reg.CLK_STAT, 3), (Reg.CLK_REFA, 0x30000)], clk.locked := true, clk.freq := [(0, none)] }
     let b : Bool := false
     s.running = true ∧ s.injecting b = false ∧ s.clk.target = none ∧ s.refPresent b = true ∧ s.clkState = 3 ∧
       s.integrity = false) := by
  refine ⟨?_, ?_, ?_, ?_⟩ <;> decide +kernel

theorem witness_ReferenceMonitorAndSwitch_2 :
    (let s : State := { base with regs := [(Reg.CLK_CFG, 0)], keys.slots := [(1, { key := some 51106, age := 64 })] }
     let src : Src := .tunnel
     s.running = true ∧ s.bit Reg.CLK_CFG 1 = false ∧ KeyPasses s src Reg.CLK_CTRL ∧ s.refQualified (!s.clkSel) = false ∧
       s.halted = true ∧ s.integrity = false ∧ s.clk.failed = false) ∧
    (let s : State := { base with
       regs := [(Reg.GLB_STAT, 7), (Reg.CLK_STAT, 10), (Reg.CLK_CFG, 0), (Reg.CLK_REFA, 0x30000)], keys.slots := [(1,
         { key := some 51106, age := 64 })] }
     let src : Src := .tunnel
     s.running = true ∧ KeyPasses s src Reg.CLK_CTRL ∧ s.refQualified (!s.clkSel) = true ∧ (s.clkState = 2 ∨ s.clkState = 4) ∧
       s.integrity = false ∧ s.halted = false) ∧
    (let s : State := { base with regs := [(Reg.CLK_STAT, 64)], keys.slots := [(0, { key := some 51106, age := 64 })] }
     let src : Src := .pcie
     s.running = true ∧ KeyPasses s src Reg.CLK_CTRL ∧ s.halted = true ∧ (s.integrity = true ∨ s.clk.failed = true)) ∧
    (let s : State := { base with
       regs := [(Reg.GLB_STAT, 7), (Reg.CLK_STAT, 10), (Reg.CLK_CFG, 2), (Reg.CLK_REFA, 0x30000)] }
     s.running = true ∧ s.bit Reg.CLK_CFG 1 = true ∧ s.refQualified (s.bit Reg.CLK_CFG 0) = true ∧
       (s.clkState = 2 ∨ s.clkState = 4) ∧ s.integrity = false ∧ s.clkSel = !s.bit Reg.CLK_CFG 0) ∧
    (let s : State := { base with
       regs := [(Reg.GLB_STAT, 7), (Reg.CLK_STAT, 11), (Reg.CLK_CFG, 0), (Reg.CLK_REFA, 0x30000)], keys.slots := [(1,
         { key := some 51106, age := 64 })] }
     let src : Src := .tunnel
     s.running = true ∧ KeyPasses s src Reg.CLK_CTRL ∧ s.refQualified (!s.clkSel) = true ∧ s.clkState = 3 ∧
       s.integrity = false ∧ s.clk.target.map Prod.fst ≠ some (!s.clkSel)) := by
  refine ⟨?_, ?_, ?_, ?_, ?_⟩ <;> decide +kernel

theorem witness_CoastingAndIntegrity_1 :
    (let s : State := { base with
       regs := [(Reg.CLK_STAT, 2), (Reg.CLK_CFG, 0)], clk.locked := true, clk.freq := [(0, some (-21))] }
     let b : Bool := false; let offset : Int := 0; let last : Int := -21
     s.running = true ∧ s.injecting b = true ∧ s.clk.target = none ∧ s.bit Reg.CLK_CFG 2 = false ∧
       s.clk.freq.at b.toNat none = some last ∧ 20 < (offset - last).natAbs) ∧
    (let s : State := { base with
       regs := [(Reg.CLK_STAT, 2), (Reg.CLK_CFG, 4), (Reg.PAR_STAT, 11), (Reg.PAR_HLTH_PEER, 0x900), (Reg.LAN_LSTAT 2, 7)],
       clk.locked := true, clk.freq := [(0, some (-21))] }
     let b : Bool := false
     s.running = true ∧ s.injecting b = true ∧ s.clk.target = none ∧ s.bit Reg.CLK_CFG 2 = true ∧ HandoverAsked s ∧
       s.bit Reg.PAR_HLTH_PEER 8 = true ∧ s.bit Reg.PAR_HLTH_PEER 9 = false) := by
  refine ⟨?_, ?_⟩ <;> decide +kernel

theorem witness_CoastingAndIntegrity_2 :
    (let s : State := { base with regs := [(Reg.CLK_STAT, 66)] }; let count : Nat := 0; let t : Nat := 0
     let run : Nat := 0; let held : List Raised := []
     s.onMain = true ∧ t = s.rf Reg.FLT_STAT 4 4 ∧ run = (if s.devState = 7 then 8 else s.devState) ∧
       held = (if s.clk.stopFresh = false ∧ 0 < count then s.clk.held.toList.map (fun e =>
       { ev := e }) else []) ∧ s.integrity = true ∧ s.clk.stopped = false ∧ s.clk.freqTold = false ∧
       (count < 180 ∨ 211 < count)) ∧
    (let s : State := { base with
       regs := [(Reg.GLB_STAT, 7), (Reg.CLK_STAT, 2), (Reg.CLK_REFA, 0x30000)], clk.locked := true }
     let count : Nat := 0; let t : Nat := 0; let run : Nat := 8; let held : List Raised := []
     s.onMain = true ∧ t = s.rf Reg.FLT_STAT 4 4 ∧ run = (if s.devState = 7 then 8 else s.devState) ∧
       held = (if s.clk.stopFresh = false ∧ 0 < count then s.clk.held.toList.map (fun e =>
       { ev := e }) else []) ∧ s.clk.stopped = false ∧ s.injecting s.clkSel = true ∧ s.refQualified s.clkSel = true ∧
       s.integrity = false ∧ s.clk.freqTold = false ∧ (count < 180 ∨ 211 < count)) ∧
    (let s : State := { base with regs := [(Reg.CLK_STAT, 66)] }; let count : Nat := 200; let t : Nat := 0
     let run : Nat := 0; let held : List Raised := []
     s.onMain = true ∧ t = s.rf Reg.FLT_STAT 4 4 ∧ run = (if s.devState = 7 then 8 else s.devState) ∧
       held = (if s.clk.stopFresh = false ∧ 0 < count then s.clk.held.toList.map (fun e =>
       { ev := e }) else []) ∧ 180 ≤ count ∧ count ≤ 211) ∧
    (let s : State := { base with
       regs := [(Reg.GLB_STAT, 7), (Reg.CLK_REFA, 0x30000)], clk.locked := true, clk.releasing := true, clk.goodWindows := 1,
       clk.stopped := true, clk.held := some { code := 274 } }
     let count : Nat := 0; let t : Nat := 0; let run : Nat := 8; let held : List Raised := []
     s.onMain = true ∧ t = s.rf Reg.FLT_STAT 4 4 ∧ run = (if s.devState = 7 then 8 else s.devState) ∧
       held = (if s.clk.stopFresh = false ∧ 0 < count then s.clk.held.toList.map (fun e =>
       { ev := e }) else []) ∧ s.clk.stopped = true) := by
  refine ⟨?_, ?_, ?_, ?_⟩ <;> decide +kernel

theorem witness_PatternsAndTripInputs_1 :
    (let s : State := { base with
       regs := [(Reg.PWM_PCFG 0, 8), (Reg.PWM_PCFG 1, 8), (Reg.GPR_PSTAT, 2)], sys.bank := [(0, true), (1, true), (2, true),
         (3, true), (4, true), (5, true), (6, true), (7, true)], sys.armed := true, cfg.inForce := true, cfg.pop := 16777215 }
     let g : Gate := 1
     s.onMain = true ∧ s.padCmd g.val = .on ∧ s.clk.override = false ∧
       s.gate (if g.val % 2 = 0 then g.val + 1 else g.val - 1) = false) ∧
    (let s : State := { base with
       regs := [(Reg.PWM_PCFG 0, 8), (Reg.PWM_PCFG 1, 8), (Reg.GPR_PSTAT, 2)], sys.bank := [(0, true), (1, true), (2, true),
         (3, true), (4, true), (5, true), (6, true), (7, true)], sys.armed := true, clk.override := true, cfg.inForce := true,
       cfg.pop := 16777215 }
     let g : Gate := 1
     s.onMain = true ∧ s.padCmd g.val = .on ∧ s.clk.override = true ∧
       s.gate (if g.val % 2 = 0 then g.val + 1 else g.val - 1) = false) ∧
    (let s : State := { base with
       regs := [(Reg.PWM_PCFG 0, 8), (Reg.PWM_PCFG 1, 8), (Reg.GPR_PSTAT, 2)], sys.bank := [(0, true), (1, true), (2, true),
         (3, true), (4, true), (5, true), (6, true), (7, true)], sys.armed := true, cfg.inForce := true, cfg.pop := 16777215,
       prot.gate := [(0, true)] }
     let g : Gate := 1
     s.onMain = true ∧ s.padCmd g.val = .on ∧ s.gate (if g.val % 2 = 0 then g.val + 1 else g.val - 1) = true) := by
  refine ⟨?_, ?_, ?_⟩ <;> decide +kernel

theorem witness_PatternsAndTripInputs_2 :
    (let s : State := { base with
       regs := [(Reg.GPR_TRIPI, 256)], sys.tripO := 3, keys.slots := [(0, { key := some 35883, age := 64 })],
       tap.trst := true, tap.control := true }
     let src : Src := .pcie; let n : Fin 4 := 0
     s.running = true ∧ s.bit Reg.GPR_TRIPI n.val = false ∧ KeyPasses s src Reg.GPR_CLR ∧
       s.bit Reg.GPR_TRIPI (8 + n.val) = true ∧ (s.compat = false ∨ bitOf s.sys.tripO 1 = false) ∧ (∃ level : Bool,
         (level = false ∨ s.bit Reg.GPR_TRIPI n.val = false))) ∧
    (let s : State := { base with
       regs := [(Reg.GPR_TRIPI, 1)], sys.tripO := 3, keys.slots := [(0, { key := some 35883, age := 64 })], tap.trst := true,
       tap.control := true }
     let n : Fin 4 := 0; s.running = true ∧ s.bit Reg.GPR_TRIPI n.val = true ∧ s.bit Reg.GPR_TRIPI (8 + n.val) = false) ∧
    (let s : State := { base with
       regs := [(Reg.GLB_STRAP, 128)], sys.tripO := 3, keys.slots := [(0, { key := some 35883, age := 64 })],
       tap.trst := true, tap.control := true }
     s.running = true ∧ s.compat = true ∧ bitOf s.sys.tripO 1 = true) ∧
    (let s : State := { base with
       regs := [(Reg.GPR_TRIPI, 257)], sys.tripO := 3, keys.slots := [(0, { key := some 35883, age := 64 })],
       tap.trst := true, tap.control := true }
     let src : Src := .pcie; let n : Fin 4 := 0
     s.running = true ∧ KeyPasses s src Reg.GPR_CLR ∧ s.bit Reg.GPR_TRIPI (8 + n.val) = true ∧
       s.bit Reg.GPR_TRIPI n.val = true) := by
  refine ⟨?_, ?_, ?_, ?_⟩ <;> decide +kernel

theorem witness_Windows_1 :
    (let s : State := { base with regs := [(Reg.SLT_CTL_L 0, 0x1000000)], cfg.graphs := [(0, theGraph)] }
     let e : Fin 64 := 0; let k : Nat := 0; let j : Nat := 0
     s.running = true ∧ k = s.slotEngine e.val ∧ j = s.slotSeg e.val ∧ (s.slotValid e.val = false ∨ s.enginesRun = false)) ∧
    (let s : State := { base with
       regs := [(Reg.GLB_STAT, 7), (Reg.SLT_CTL_L 0, 0x1000000), (Reg.PAR_STAT, 3)], cfg.graphs := [(0, theGraph)] }
     let e : Fin 64 := 0; let k : Nat := 0; let j : Nat := 0
     s.running = true ∧ k = s.slotEngine e.val ∧ j = s.slotSeg e.val ∧ s.slotValid e.val = true ∧ s.enginesRun = true ∧
       s.vtx.stopped.at k false = false ∧ s.runOf k = none ∧ (s.segment k j).isSome = true) := by
  refine ⟨?_, ?_⟩ <;> decide +kernel

theorem witness_Windows_2 :
    (let s : State := { base with
       regs := [(Reg.SLT_CTL_L 0, 0x1000000)], cfg.graphs := [(0, theGraph)], vtx.run := [(0,
         some { entry := 0, seg := 0 })] }
     let e : Fin 64 := 0; let k : Nat := 0; let n : Nat := 1; let r : SegRun := { entry := 0, seg := 0 }
     let g : Segment := theSegment
     s.running = true ∧ k = s.slotEngine e.val ∧ s.runOf k = some r ∧ r.entry = e.val ∧ r.seg < 8 ∧ r.queue = [] ∧
       s.segment k r.seg = some g ∧ r.cycles + 16 < 4294967296 ∧ n = s.overConsec k + 1 ∧ r.blk < g.blocks.length ∧
       s.vtx.overs.at k false = false ∧ n < s.rf (Reg.VTX_CFG k) 0 4) ∧
    (let s : State := { base with
       regs := [(Reg.VTX_CFG 0, 1), (Reg.SLT_CTL_L 0, 0x1000000)], cfg.graphs := [(0, theGraph)], vtx.run := [(0,
         some { entry := 0, seg := 0 })] }
     let e : Fin 64 := 0; let k : Nat := 0; let n : Nat := 1; let r : SegRun := { entry := 0, seg := 0 }
     let g : Segment := theSegment
     s.running = true ∧ k = s.slotEngine e.val ∧ s.runOf k = some r ∧ r.entry = e.val ∧ r.seg < 8 ∧ r.queue = [] ∧
       s.segment k r.seg = some g ∧ r.cycles + 16 < 4294967296 ∧ n = s.overConsec k + 1 ∧ r.blk < g.blocks.length ∧
       s.vtx.overs.at k false = false ∧ n = s.rf (Reg.VTX_CFG k) 0 4 ∧ s.bit Reg.GPR_PSTAT 0 = false) ∧
    (let s : State := { base with
       regs := [(Reg.VTX_CFG 0, 1), (Reg.SLT_CTL_L 0, 0x1000000)], cfg.graphs := [(0, theGraph)], vtx.run := [(0,
         some { entry := 0, seg := 0, blk := 1 })] }
     let e : Fin 64 := 0; let k : Nat := 0; let n : Nat := 1; let r : SegRun := { entry := 0, seg := 0, blk := 1 }
     let g : Segment := theSegment
     s.running = true ∧ k = s.slotEngine e.val ∧ s.runOf k = some r ∧ r.entry = e.val ∧ r.seg < 8 ∧ r.queue = [] ∧
       s.segment k r.seg = some g ∧ r.cycles + 16 < 4294967296 ∧ n = s.overConsec k + 1 ∧ g.blocks.length ≤ r.blk) := by
  refine ⟨?_, ?_, ?_⟩ <;> decide +kernel

theorem witness_BlockExecutes :
    (let s : State := { base with
       mem := [(8454403, 64), (8454406, 128), (8454407, 127), (8454408, 120), (8454409, 86), (8454410, 52), (8454411, 18)],
       cfg.graphs := [(0,
         { segs := [some { blocks := [theBlock3], base := 0, len := 0x1000 }, some { blocks := [], base := 0, len := 4 }], parBase := 0xc000 })],
       vtx.run := [(0, some { entry := 3, seg := 0 })] }
     let k : Engine := 0; let mismatch : Fin 3 := 0; let r : SegRun := { entry := 3, seg := 0 }
     let b : Block := theBlock3; let res : BRes := {}
     s.running = true ∧ NextBlock s k.val r b ∧ res = blockResult s k.val r b ∧ FitsBank b res ∧
       (b.defer = false ∨ s.bit Reg.THW_STAT 19 = false) ∧ mismatch.val < 2 ∧ s.memi.raw = []) ∧
    (let s : State := { base with
       regs := [(Reg.THW_STAT, 0x80000)], mem := [(8454403, 64), (8454406, 128), (8454407, 127), (8454408, 120), (8454409,
         86), (8454410, 52), (8454411, 18)], cfg.graphs := [(0,
         { segs := [some { blocks := [theBlock], base := 0, len := 0x1000 }, some { blocks := [], base := 0, len := 4 }], parBase := 0xc000 })],
       vtx.run := [(0, some { entry := 3, seg := 0 })], vtx.deferTold := [(0, true)] }
     let k : Engine := 0; let r : SegRun := { entry := 3, seg := 0 }; let b : Block := theBlock; let res : BRes := {}
     s.running = true ∧ NextBlock s k.val r b ∧ res = blockResult s k.val r b ∧ FitsBank b res ∧ b.defer = true ∧
       s.bit Reg.THW_STAT 19 = true ∧ s.vtx.deferTold.at k.val false = true) := by
  refine ⟨?_, ?_⟩ <;> decide +kernel

theorem witness_EngineFaultsAndHold_1 :
    let s : State := { base with cfg.graphs := [(0, theGraph)], vtx.run := [(0, some { entry := 3, seg := 0 })] }
    let k : Engine := 0; let r : SegRun := { entry := 3, seg := 0 }; let b : Block := theBlock2
    let mismatch : Fin 3 := 2
    s.running = true ∧ NextBlock s k.val r b ∧ (b.defer = false ∨ s.bit Reg.THW_STAT 19 = false) ∧
      s.bit Reg.GPR_PSTAT 0 = false ∧ (mismatch = 2 ∨ (s.readBlock k.val r b).2.isSome = true ∧ s.halted = false) := by
  decide +kernel

theorem witness_EngineFaultsAndHold_2 :
    (let s : State := { base with keys.slots := [(0, { key := some 15712, age := 64 })] }; let src : Src := .pcie
     let v : Word := 0
     s.onMain = true ∧ KeyPasses s src Reg.VTX_CTRL ∧ s.halted = true ∧ s.dry = false ∧ Reaches s Reg.GPR_CTL ∧ fld v 0 1 = 0) ∧
    (let s : State := base; let v : Word := 1
     s.onMain = true ∧ Reaches s Reg.GPR_CTL ∧ fld v 0 1 = 1 ∧ s.inp.held = none) ∧
    (let s : State := { base with regs := [(Reg.GLB_STAT, 7)], keys.slots := [(0, { key := some 15712, age := 64 })] }
     let src : Src := .pcie; s.onMain = true ∧ KeyPasses s src Reg.VTX_CTRL ∧ s.halted = false) ∧
    (let s : State := { base with regs := [(Reg.VTX_STAT 0, 32)], keys.slots := [(0, { key := some 15712, age := 64 })] }
     let src : Src := .pcie; s.onMain = true ∧ KeyPasses s src Reg.VTX_CTRL ∧ s.halted = true ∧ s.dry = true) := by
  refine ⟨?_, ?_, ?_, ?_⟩ <;> decide +kernel

theorem witness_MeasurementSetAndStrata :
    (let s : State := { base with
       regs := [(Reg.ADC_TRIG_SRC 0, 17), (Reg.ADC_TRIG_SRC 1, 17), (Reg.ADC_TRIG_SRC 2, 17), (Reg.ADC_TRIG_SRC 3, 17),
         (Reg.ADC_TRIG_SRC 4, 17), (Reg.ADC_TRIG_SRC 5, 17), (Reg.ADC_TRIG_SRC 6, 17), (Reg.ADC_TRIG_SRC 7, 17),
         (Reg.ADC_TRIG_SRC 8, 17), (Reg.ADC_TRIG_SRC 9, 17), (Reg.ADC_TRIG_SRC 10, 17), (Reg.ADC_TRIG_SRC 11, 17),
         (Reg.ADC_TRIG_SRC 12, 17), (Reg.ADC_TRIG_SRC 13, 17), (Reg.ADC_TRIG_SRC 14, 17), (Reg.ADC_TRIG_SRC 15, 17)] }
     s.running = true ∧ (∀ t < 16, s.rf (Reg.ADC_TRIG_SRC t) 0 6 ≠ 0x12) ∧ s.bit Reg.SLT_PCFG_L 0 = false) ∧
    (let s : State := { base with
       regs := [(Reg.ADC_TRIG_SRC 0, 17), (Reg.ADC_TRIG_SRC 1, 17), (Reg.ADC_TRIG_SRC 2, 17), (Reg.ADC_TRIG_SRC 3, 17),
         (Reg.ADC_TRIG_SRC 4, 17), (Reg.ADC_TRIG_SRC 5, 17), (Reg.ADC_TRIG_SRC 6, 17), (Reg.ADC_TRIG_SRC 7, 17),
         (Reg.ADC_TRIG_SRC 8, 17), (Reg.ADC_TRIG_SRC 9, 17), (Reg.ADC_TRIG_SRC 10, 17), (Reg.ADC_TRIG_SRC 11, 17),
         (Reg.ADC_TRIG_SRC 12, 17), (Reg.ADC_TRIG_SRC 13, 17), (Reg.ADC_TRIG_SRC 14, 17), (Reg.ADC_TRIG_SRC 15, 17),
         (Reg.SLT_PCFG_L, 1)] }
     s.running = true ∧ (∀ t < 16, s.rf (Reg.ADC_TRIG_SRC t) 0 6 ≠ 0x12) ∧ s.bit Reg.SLT_PCFG_L 0 = true) := by
  refine ⟨?_, ?_⟩ <;> decide +kernel

theorem witness_PeriodBoundary :
    (let s : State := { base with
       regs := [(Reg.ADC_TRIG_SRC 0, 18), (Reg.ADC_TRIG_SRC 1, 18), (Reg.ADC_TRIG_SRC 2, 18), (Reg.ADC_TRIG_SRC 3, 18),
         (Reg.ADC_TRIG_SRC 4, 18), (Reg.ADC_TRIG_SRC 5, 18), (Reg.ADC_TRIG_SRC 6, 18), (Reg.ADC_TRIG_SRC 7, 18),
         (Reg.ADC_TRIG_SRC 8, 18), (Reg.ADC_TRIG_SRC 9, 18), (Reg.ADC_TRIG_SRC 10, 18), (Reg.ADC_TRIG_SRC 11, 18),
         (Reg.ADC_TRIG_SRC 12, 18), (Reg.ADC_TRIG_SRC 13, 18), (Reg.ADC_TRIG_SRC 14, 18), (Reg.ADC_TRIG_SRC 15, 18),
         (Reg.RNG_MEMB_LO, 15), (Reg.RNG_CFG_L, 4)], cfg.inForce := true, ring.fill := some 0, ring.closed := some (-1),
       ring.complete := true }
     s.running = true ∧ QuietBoundary s ∧ s.cfg.inForce = true ∧ s.ring.fill = some s.tim.period ∧
       (let need := nodesOf (s.membOf s.tim.period); s.ring.closed = some (s.tim.period - 1) ∧ s.ring.complete = true ∧
       s.ring.gap = false ∧ need.all (fun n => !(s.entryHeld s.tim.period n && s.headerFlag s.tim.period n 0)) = true)) ∧
    (let s : State := { base with
       regs := [(Reg.ADC_TRIG_SRC 0, 18), (Reg.ADC_TRIG_SRC 1, 18), (Reg.ADC_TRIG_SRC 2, 18), (Reg.ADC_TRIG_SRC 3, 18),
         (Reg.ADC_TRIG_SRC 4, 18), (Reg.ADC_TRIG_SRC 5, 18), (Reg.ADC_TRIG_SRC 6, 18), (Reg.ADC_TRIG_SRC 7, 18),
         (Reg.ADC_TRIG_SRC 8, 18), (Reg.ADC_TRIG_SRC 9, 18), (Reg.ADC_TRIG_SRC 10, 18), (Reg.ADC_TRIG_SRC 11, 18),
         (Reg.ADC_TRIG_SRC 12, 18), (Reg.ADC_TRIG_SRC 13, 18), (Reg.ADC_TRIG_SRC 14, 18), (Reg.ADC_TRIG_SRC 15, 18),
         (Reg.RNG_MEMB_LO, 15), (Reg.RNG_CFG_L, 4)], ring.fill := some 0 }
     s.running = true ∧ QuietBoundary s ∧ s.cfg.inForce = false ∧ s.vtx.numeric = [] ∧ s.timState = 0 ∧ s.cfg.routes = []) ∧
    (let s : State := { base with
       regs := [(Reg.ADC_TRIG_SRC 0, 18), (Reg.ADC_TRIG_SRC 1, 18), (Reg.ADC_TRIG_SRC 2, 18), (Reg.ADC_TRIG_SRC 3, 18),
         (Reg.ADC_TRIG_SRC 4, 18), (Reg.ADC_TRIG_SRC 5, 18), (Reg.ADC_TRIG_SRC 6, 18), (Reg.ADC_TRIG_SRC 7, 18),
         (Reg.ADC_TRIG_SRC 8, 18), (Reg.ADC_TRIG_SRC 9, 18), (Reg.ADC_TRIG_SRC 10, 18), (Reg.ADC_TRIG_SRC 11, 18),
         (Reg.ADC_TRIG_SRC 12, 18), (Reg.ADC_TRIG_SRC 13, 18), (Reg.ADC_TRIG_SRC 14, 18), (Reg.ADC_TRIG_SRC 15, 18),
         (Reg.RNG_MEMB_LO, 15), (Reg.RNG_CFG_L, 4)], mem := [(0x400000, 8), (4194305, 9), (4194306, 10), (4194307, 11),
         (4194308, 12), (4194309, 13), (4194310, 14), (4194311, 15), (4194312, 16), (4194313, 17), (4194314, 18), (4194315,
         19), (4194316, 20), (4194317, 21), (4194318, 22), (4194319, 23), (4194320, 24), (4194321, 25), (4194322, 26),
         (4194323, 27), (4194324, 28), (4194325, 29), (4194326, 30), (4194327, 31), (4194328, 32), (4194329, 33), (4194330,
         34), (4194331, 35), (4194332, 36), (4194333, 37), (4194334, 38), (4194335, 39), (4194336, 40), (4194337, 41),
         (4194338, 42), (4194339, 43), (4194340, 44), (4194341, 45), (4194342, 46), (4194343, 47), (4194344, 48), (4194345,
         49), (4194346, 50), (4194347, 51), (4194348, 52), (4194349, 53), (4194350, 54), (4194351, 55), (4194352, 56),
         (4194353, 57), (4194354, 58), (4194355, 59), (4194356, 60), (4194357, 61), (4194358, 62), (4194359, 63), (4194360,
         64), (4194361, 65), (4194362, 66), (4194363, 67), (4194364, 68), (4194365, 69), (4194366, 70), (4194367, 71),
         (4194368, 72), (4194369, 73), (4194370, 74), (4194371, 75), (4194372, 76), (4194373, 77), (4194374, 78), (4194375,
         79), (4194376, 80), (4194377, 81), (4194378, 82), (4194379, 83), (4194380, 84), (4194381, 85), (4194382, 86),
         (4194383, 87), (4194384, 88), (4194385, 89), (4194386, 90), (4194387, 91), (4194388, 92), (4194389, 93), (4194390,
         94), (4194391, 95), (4194392, 96), (4194393, 97), (4194394, 98), (4194395, 99), (4194396, 100), (4194397, 101),
         (4194398, 102), (4194399, 103), (4194400, 104), (4194401, 105), (4194402, 106), (4194403, 107), (4194404, 108),
         (4194405, 109), (4194406, 110), (4194407, 111), (4194408, 112), (4194409, 113), (4194410, 114), (4194411, 115),
         (4194412, 116), (4194413, 117), (4194414, 118), (4194415, 119), (4194416, 120), (4194417, 121), (4194418, 122),
         (4194419, 123), (4194420, 124), (4194421, 125), (4194422, 126), (4194423, 127), (4194424, 128), (4194425, 129),
         (4194426, 130), (4194427, 131), (4194428, 132), (4194429, 133), (4194430, 134), (4194431, 135), (4194432, 136),
         (4194433, 137), (4194434, 138), (4194435, 139), (4194436, 140), (4194437, 141), (4194438, 142), (4194439, 143),
         (4194440, 144), (4194441, 145), (4194442, 146), (4194443, 147), (4194444, 148), (4194445, 149), (4194446, 150),
         (4194447, 151), (4194448, 152), (4194449, 153), (4194450, 154), (4194451, 155), (4194452, 156), (4194453, 157),
         (4194454, 158), (4194455, 159), (4194456, 160), (4194457, 161), (4194458, 162), (4194459, 163), (4194460, 164),
         (4194461, 165), (4194462, 166), (4194463, 167), (4194464, 168), (4194465, 169), (4194466, 170), (4194467, 171),
         (4194468, 172), (4194469, 173), (4194470, 174), (4194471, 175), (4194472, 176), (4194473, 177), (4194474, 178),
         (4194475, 179), (4194476, 180), (4194477, 181), (4194478, 182), (4194479, 183), (4194480, 184), (4194481, 185),
         (4194482, 186), (4194483, 187), (4194484, 188), (4194485, 189), (4194486, 190), (4194487, 191), (4194488, 192),
         (4194489, 193), (4194490, 194), (4194491, 195), (4194492, 196), (4194493, 197), (4194494, 198), (4194495, 199),
         (4194496, 8), (4194497, 9), (4194498, 10), (4194499, 11), (4194500, 12), (4194501, 13), (4194502, 14), (4194503, 15),
         (4194504, 16), (4194505, 17), (4194506, 18), (4194507, 19), (4194508, 20), (4194509, 21), (4194510, 22), (4194511,
         23), (4194512, 24), (4194513, 25), (4194514, 26), (4194515, 27), (4194516, 28), (4194517, 29), (4194518, 30),
         (4194519, 31), (4194520, 32), (4194521, 33), (4194522, 34), (4194523, 35), (4194524, 36), (4194525, 37), (4194526,
         38), (4194527, 39), (4194528, 40), (4194529, 41), (4194530, 42), (4194531, 43), (4194532, 44), (4194533, 45),
         (4194534, 46), (4194535, 47), (4194536, 48), (4194537, 49), (4194538, 50), (4194539, 51), (4194540, 52), (4194541,
         53), (4194542, 54), (4194543, 55), (4194544, 56), (4194545, 57), (4194546, 58), (4194547, 59), (4194548, 60),
         (4194549, 61), (4194550, 62), (4194551, 63), (4194552, 64), (4194553, 65), (4194554, 66), (4194555, 67), (4194556,
         68), (4194557, 69), (4194558, 70), (4194559, 71), (0x400100, 72), (4194561, 73), (4194562, 74), (4194563, 75),
         (4194564, 76), (4194565, 77), (4194566, 78), (4194567, 79), (4194568, 80), (4194569, 81), (4194570, 82), (4194571,
         83), (4194572, 84), (4194573, 85), (4194574, 86), (4194575, 87), (4194576, 88), (4194577, 89), (4194578, 90),
         (4194579, 91), (4194580, 92), (4194581, 93), (4194582, 94), (4194583, 95), (4194584, 96), (4194585, 97), (4194586,
         98), (4194587, 99), (4194588, 100), (4194589, 101), (4194590, 102), (4194591, 103), (4194592, 104), (4194593, 105),
         (4194594, 106), (4194595, 107), (4194596, 108), (4194597, 109), (4194598, 110), (4194599, 111), (4194600, 112),
         (4194601, 113), (4194602, 114), (4194603, 115), (4194604, 116), (4194605, 117), (4194606, 118), (4194607, 119),
         (4194608, 120), (4194609, 121), (4194610, 122), (4194611, 123), (4194612, 124), (4194613, 125), (4194614, 126),
         (4194615, 127), (4194616, 128), (4194617, 129), (4194618, 130), (4194619, 131), (4194620, 132), (4194621, 133),
         (4194622, 134), (4194623, 135), (4194624, 136), (4194625, 137), (4194626, 138), (4194627, 139), (4194628, 140),
         (4194629, 141), (4194630, 142), (4194631, 143), (4194632, 144), (4194633, 145), (4194634, 146), (4194635, 147),
         (4194636, 148), (4194637, 149), (4194638, 150), (4194639, 151), (4194640, 152), (4194641, 153), (4194642, 154),
         (4194643, 155), (4194644, 156), (4194645, 157), (4194646, 158), (4194647, 159), (4194648, 160), (4194649, 161),
         (4194650, 162), (4194651, 163), (4194652, 164), (4194653, 165), (4194654, 166), (4194655, 167), (4194656, 168),
         (4194657, 169), (4194658, 170), (4194659, 171), (4194660, 172), (4194661, 173), (4194662, 174), (4194663, 175),
         (4194664, 176), (4194665, 177), (4194666, 178), (4194667, 179), (4194668, 180), (4194669, 181), (4194670, 182),
         (4194671, 183), (4194672, 184), (4194673, 185), (4194674, 186), (4194675, 187), (4194676, 188), (4194677, 189),
         (4194678, 190), (4194679, 191), (4194680, 192), (4194681, 193), (4194682, 194), (4194683, 195), (4194684, 196),
         (4194685, 197), (4194686, 198), (4194687, 199), (4194688, 8), (4194689, 9), (4194690, 10), (4194691, 11), (4194692,
         12), (4194693, 13), (4194694, 14), (4194695, 15), (4194696, 16), (4194697, 17), (4194698, 18), (4194699, 19),
         (4194700, 20), (4194701, 21), (4194702, 22), (4194703, 23), (4194704, 24), (4194705, 25), (4194706, 26), (4194707,
         27), (4194708, 28), (4194709, 29), (4194710, 30), (4194711, 31), (4194712, 32), (4194713, 33), (4194714, 34),
         (4194715, 35), (4194716, 36), (4194717, 37), (4194718, 38), (4194719, 39), (4194720, 40), (4194721, 41), (4194722,
         42), (4194723, 43), (4194724, 44), (4194725, 45), (4194726, 46), (4194727, 47), (4194728, 48), (4194729, 49),
         (4194730, 50), (4194731, 51), (4194732, 52), (4194733, 53), (4194734, 54), (4194735, 55), (4194736, 56), (4194737,
         57), (4194738, 58), (4194739, 59), (4194740, 60), (4194741, 61), (4194742, 62), (4194743, 63), (4194744, 64),
         (4194745, 65), (4194746, 66), (4194747, 67), (4194748, 68), (4194749, 69), (4194750, 70), (4194751, 71), (4194752,
         72), (4194753, 73), (4194754, 74), (4194755, 75), (4194756, 76), (4194757, 77), (4194758, 78), (4194759, 79),
         (4194760, 80), (4194761, 81), (4194762, 82), (4194763, 83), (4194764, 84), (4194765, 85), (4194766, 86), (4194767,
         87), (4194768, 88), (4194769, 89), (4194770, 90), (4194771, 91), (4194772, 92), (4194773, 93), (4194774, 94),
         (4194775, 95), (4194776, 96), (4194777, 97), (4194778, 98), (4194779, 99), (4194780, 100), (4194781, 101), (4194782,
         102), (4194783, 103), (4194784, 104), (4194785, 105), (4194786, 106), (4194787, 107), (4194788, 108), (4194789, 109),
         (4194790, 110), (4194791, 111), (4194792, 112), (4194793, 113), (4194794, 114), (4194795, 115), (4194796, 116),
         (4194797, 117), (4194798, 118), (4194799, 119), (4194800, 120), (4194801, 121), (4194802, 122), (4194803, 123),
         (4194804, 124), (4194805, 125), (4194806, 126), (4194807, 127), (4194808, 128), (4194809, 129), (4194810, 130),
         (4194811, 131), (4194812, 132), (4194813, 133), (4194814, 134), (4194815, 135), (0x400200, 136), (4194817, 137),
         (4194818, 138), (4194819, 139), (4194820, 140), (4194821, 141), (4194822, 142), (4194823, 143), (4194824, 144),
         (4194825, 145), (4194826, 146), (4194827, 147), (4194828, 148), (4194829, 149), (4194830, 150), (4194831, 151),
         (4194832, 152), (4194833, 153), (4194834, 154), (4194835, 155), (4194836, 156), (4194837, 157), (4194838, 158),
         (4194839, 159), (4194840, 160), (4194841, 161), (4194842, 162), (4194843, 163), (4194844, 164), (4194845, 165),
         (4194846, 166), (4194847, 167), (4194848, 168), (4194849, 169), (4194850, 170), (4194851, 171), (4194852, 172),
         (4194853, 173), (4194854, 174), (4194855, 175), (4194856, 176), (4194857, 177), (4194858, 178), (4194859, 179),
         (4194860, 180), (4194861, 181), (4194862, 182), (4194863, 183), (4194864, 184), (4194865, 185), (4194866, 186),
         (4194867, 187), (4194868, 188), (4194869, 189), (4194870, 190), (4194871, 191), (4194872, 192), (4194873, 193),
         (4194874, 194), (4194875, 195), (4194876, 196), (4194877, 197), (4194878, 198), (4194879, 199), (4194880, 8),
         (4194881, 9), (4194882, 10), (4194883, 11), (4194884, 12), (4194885, 13), (4194886, 14), (4194887, 15), (4194888,
         16), (4194889, 17), (4194890, 18), (4194891, 19), (4194892, 20), (4194893, 21), (4194894, 22), (4194895, 23),
         (4194896, 24), (4194897, 25), (4194898, 26), (4194899, 27), (4194900, 28), (4194901, 29), (4194902, 30), (4194903,
         31), (4194904, 32), (4194905, 33), (4194906, 34), (4194907, 35), (4194908, 36), (4194909, 37), (4194910, 38),
         (4194911, 39), (4194912, 40), (4194913, 41), (4194914, 42), (4194915, 43), (4194916, 44), (4194917, 45), (4194918,
         46), (4194919, 47), (4194920, 48), (4194921, 49), (4194922, 50), (4194923, 51), (4194924, 52), (4194925, 53),
         (4194926, 54), (4194927, 55), (4194928, 56), (4194929, 57), (4194930, 58), (4194931, 59), (4194932, 60), (4194933,
         61), (4194934, 62), (4194935, 63), (4194936, 64), (4194937, 65), (4194938, 66), (4194939, 67), (4194940, 68),
         (4194941, 69), (4194942, 70), (4194943, 71), (4194944, 72), (4194945, 73), (4194946, 74), (4194947, 75), (4194948,
         76), (4194949, 77), (4194950, 78), (4194951, 79), (4194952, 80), (4194953, 81), (4194954, 82), (4194955, 83),
         (4194956, 84), (4194957, 85), (4194958, 86), (4194959, 87), (4194960, 88), (4194961, 89), (4194962, 90), (4194963,
         91), (4194964, 92), (4194965, 93), (4194966, 94), (4194967, 95), (4194968, 96), (4194969, 97), (4194970, 98),
         (4194971, 99), (4194972, 100), (4194973, 101), (4194974, 102), (4194975, 103), (4194976, 104), (4194977, 105),
         (4194978, 106), (4194979, 107), (4194980, 108), (4194981, 109), (4194982, 110), (4194983, 111), (4194984, 112),
         (4194985, 113), (4194986, 114), (4194987, 115), (4194988, 116), (4194989, 117), (4194990, 118), (4194991, 119),
         (4194992, 120), (4194993, 121), (4194994, 122), (4194995, 123), (4194996, 124), (4194997, 125), (4194998, 126),
         (4194999, 127), (4195000, 128), (4195001, 129), (4195002, 130), (4195003, 131), (4195004, 132), (4195005, 133),
         (4195006, 134), (4195007, 135), (4195008, 136), (4195009, 137), (4195010, 138), (4195011, 139), (4195012, 140),
         (4195013, 141), (4195014, 142), (4195015, 143), (4195016, 144), (4195017, 145), (4195018, 146), (4195019, 147),
         (4195020, 148), (4195021, 149), (4195022, 150), (4195023, 151), (4195024, 152), (4195025, 153), (4195026, 154),
         (4195027, 155), (4195028, 156), (4195029, 157), (4195030, 158), (4195031, 159), (4195032, 160), (4195033, 161),
         (4195034, 162), (4195035, 163), (4195036, 164), (4195037, 165), (4195038, 166), (4195039, 167), (4195040, 168),
         (4195041, 169), (4195042, 170), (4195043, 171), (4195044, 172), (4195045, 173), (4195046, 174), (4195047, 175),
         (4195048, 176), (4195049, 177), (4195050, 178), (4195051, 179), (4195052, 180), (4195053, 181), (4195054, 182),
         (4195055, 183), (4195056, 184), (4195057, 185), (4195058, 186), (4195059, 187), (4195060, 188), (4195061, 189),
         (4195062, 190), (4195063, 191), (4195064, 192), (4195065, 193), (4195066, 194), (4195067, 195), (4195068, 196),
         (4195069, 197), (4195070, 198), (4195071, 199), (0x403000, 161), (4206601, 1), (4206602, 2), (4206603, 3), (4206604,
         4), (4206605, 5), (4206606, 6), (4206607, 7), (4206608, 161), (4206609, 1), (4206612, 1), (4206617, 1), (4206618, 2),
         (4206619, 3), (4206620, 4), (4206621, 5), (4206622, 6), (4206623, 7), (4206624, 161), (4206625, 2), (4206633, 1),
         (4206634, 2), (4206635, 3), (4206636, 4), (4206637, 5), (4206638, 6), (4206639, 7), (4206640, 161), (4206641, 3),
         (4206649, 1), (4206650, 2), (4206651, 3), (4206652, 4), (4206653, 5), (4206654, 6), (4206655, 7), (0x403400, 15)],
       cfg.inForce := true, ring.fill := some 0, ring.closed := some (-1), ring.complete := true }
     s.running = true ∧ QuietBoundary s ∧ s.cfg.inForce = true ∧ s.ring.fill = some s.tim.period ∧
       (let need := nodesOf (s.membOf s.tim.period); s.ring.closed = some (s.tim.period - 1) ∧ s.ring.complete = true ∧
       s.ring.gap = false ∧ need.any (fun n => s.entryHeld s.tim.period n && s.headerFlag s.tim.period n 0) = true)) := by
  refine ⟨?_, ?_, ?_⟩ <;> decide +kernel

theorem witness_RingLinksTripsAndDiscovery_1 :
    (let s : State := { base with regs := [(Reg.RNG_CFG_L, 2)], tim.follow := 0, cfg.inForce := true }
     let far : Lane := 0; let node : Node := 0; let p : Nat := 0
     s.running = true ∧ s.cfg.inForce = true ∧ p = (if far.val < 2 then 0 else 1) ∧ node.val = s.node) ∧
    (let s : State := { base with
       regs := [(Reg.RNG_CFG_L, 2), (Reg.LAN_LSTAT 0, 55), (Reg.LAN_LSTAT 1, 55), (Reg.LAN_LSTAT 2, 55), (Reg.LAN_LSTAT 3,
         55), (Reg.LAN_LSTAT 4, 55), (Reg.LAN_LSTAT 5, 55), (Reg.LAN_LSTAT 6, 55), (Reg.LAN_LSTAT 7, 55)],
       cfg.inForce := true }
     let lane : Lane := 0; let far : Lane := 0; let node : Node := 1; let p : Nat := 0
     s.running = true ∧ s.cfg.inForce = true ∧ p = (if far.val < 2 then 0 else 1) ∧ node.val ≠ s.node ∧
       s.receives lane.val = true ∧ s.ring.sets = [] ∧ (∃ up : Bool, let l := (if up then s.ring.down.filter (· != (node.val,
         far.val)) else s.ring.down ++ [(node.val, far.val)]); s.ring.down.contains (node.val, far.val) = up ∧ (
       { s with
       ring.down := l } : State).timeDirection.1 = s.tim.follow)) := by
  refine ⟨?_, ?_⟩ <;> decide +kernel

theorem witness_RingLinksTripsAndDiscovery_2 :
    (let s : State := { base with
       regs := [(Reg.RNG_STAT, 0x10100)], keys.slots := [(0, { key := some 27470, age := 64 })] }
     let src : Src := .pcie; let d1 : BitVec 8 := 0; let d2 : BitVec 8 := 0
     let t : TripSet := { node := 0, role := false, cause := 0, seq := 0 }; let w : Nat := 0
     s.running = true ∧ t =
       { node := Fin.ofNat 64 d1.toNat, role := bitOf d1.toNat 6, cause := Fin.ofNat 16 d2.toNat,
         seq := Fin.ofNat 16 (d2.toNat / 16) } ∧ w = t.node.val + t.role.toNat * 64 + t.cause.val * 128 + t.seq.val * 2048 ∧
       s.bit Reg.RNG_TRIPCFG 3 = false ∧ KeyPasses s src Reg.RNG_CTRL ∧ s.tripCausePresent = none ∧
       s.bit Reg.RNG_STAT 8 = true ∧ (∃ d3 ∈ [(0 : BitVec 8)], d3 ≠ d1 ^^^ d2 ^^^ 0xa5)) ∧
    (let s : State := { base with
       regs := [(Reg.GPR_PSTAT, 1)], keys.slots := [(0, { key := some 27470, age := 64 })], ring.originated := 2 }
     let src : Src := .pcie; let d1 : BitVec 8 := 0; let d2 : BitVec 8 := 0
     let t : TripSet := { node := 0, role := false, cause := 0, seq := 0 }; let w : Nat := 0
     s.running = true ∧ t =
       { node := Fin.ofNat 64 d1.toNat, role := bitOf d1.toNat 6, cause := Fin.ofNat 16 d2.toNat,
         seq := Fin.ofNat 16 (d2.toNat / 16) } ∧ w = t.node.val + t.role.toNat * 64 + t.cause.val * 128 + t.seq.val * 2048 ∧
       s.bit Reg.RNG_TRIPCFG 3 = false ∧ KeyPasses s src Reg.RNG_CTRL ∧ (∃ c ∈ s.tripCausePresent, True)) ∧
    (let s : State := { base with
       regs := [(Reg.LAN_LSTAT 0, 55), (Reg.LAN_LSTAT 1, 55), (Reg.LAN_LSTAT 2, 55), (Reg.LAN_LSTAT 3, 55), (Reg.LAN_LSTAT 4,
         55), (Reg.LAN_LSTAT 5, 55), (Reg.LAN_LSTAT 6, 55), (Reg.LAN_LSTAT 7, 55)] }
     let lane : Lane := 1; let d1 : BitVec 8 := 0; let d2 : BitVec 8 := 0
     let t : TripSet := { node := 0, role := false, cause := 0, seq := 0 }; let w : Nat := 0
     s.running = true ∧ t =
       { node := Fin.ofNat 64 d1.toNat, role := bitOf d1.toNat 6, cause := Fin.ofNat 16 d2.toNat,
         seq := Fin.ofNat 16 (d2.toNat / 16) } ∧ w = t.node.val + t.role.toNat * 64 + t.cause.val * 128 + t.seq.val * 2048 ∧
       s.bit Reg.RNG_TRIPCFG 3 = false ∧ s.ring.trips = [] ∧ s.receives lane.val = true) ∧
    (let s : State := { base with
       regs := [(Reg.RNG_TRIPCFG, 8), (Reg.LAN_LSTAT 0, 55), (Reg.LAN_LSTAT 1, 55), (Reg.LAN_LSTAT 2, 55), (Reg.LAN_LSTAT 3,
         55), (Reg.LAN_LSTAT 4, 55), (Reg.LAN_LSTAT 5, 55), (Reg.LAN_LSTAT 6, 55), (Reg.LAN_LSTAT 7, 55)] }
     let lane : Lane := 1; let d1 : BitVec 8 := 0; let d2 : BitVec 8 := 0
     let t : TripSet := { node := 0, role := false, cause := 0, seq := 0 }; let w : Nat := 0
     s.running = true ∧ t =
       { node := Fin.ofNat 64 d1.toNat, role := bitOf d1.toNat 6, cause := Fin.ofNat 16 d2.toNat,
         seq := Fin.ofNat 16 (d2.toNat / 16) } ∧ w = t.node.val + t.role.toNat * 64 + t.cause.val * 128 + t.seq.val * 2048 ∧
       s.bit Reg.RNG_TRIPCFG 3 = true ∧ s.ring.trips = [] ∧ s.receives lane.val = true) ∧
    (let s : State := { base with
       regs := [(Reg.LAN_LSTAT 0, 55), (Reg.LAN_LSTAT 1, 55), (Reg.LAN_LSTAT 2, 55), (Reg.LAN_LSTAT 3, 55), (Reg.LAN_LSTAT 4,
         55), (Reg.LAN_LSTAT 5, 55), (Reg.LAN_LSTAT 6, 55), (Reg.LAN_LSTAT 7, 55)],
       ring.trips := [({ node := 0, role := false, cause := 0, seq := 0 }, 0)], now := 312499 }
     let d1 : BitVec 8 := 0; let d2 : BitVec 8 := 0; let t : TripSet := { node := 0, role := false, cause := 0, seq := 0 }
     let w : Nat := 0
     s.running = true ∧ t =
       { node := Fin.ofNat 64 d1.toNat, role := bitOf d1.toNat 6, cause := Fin.ofNat 16 d2.toNat,
         seq := Fin.ofNat 16 (d2.toNat / 16) } ∧ w = t.node.val + t.role.toNat * 64 + t.cause.val * 128 + t.seq.val * 2048 ∧
       (∃ y ∈ s.ring.trips, y.1 = t ∧ s.now < y.2 + 312500)) := by
  refine ⟨?_, ?_, ?_, ?_, ?_⟩ <;> decide +kernel

theorem witness_RingLinksTripsAndDiscovery_3 :
    (let s : State := base
     let d : Disc := { node := 0, role := true, state := 7, rcd := 0, img := 0x1234, ttl := 63, sender := 4 }
     let a : Nat := 256; s.running = true ∧ a = Reg.GLB_DISC d.node.val ∧ s.sys.ready = true) ∧
    (let s : State := { base with sys.ready := false }
     let d : Disc := { node := 0, role := true, state := 7, rcd := 0, img := 0x1234, ttl := 63, sender := 4 }
     let a : Nat := 256; s.running = true ∧ a = Reg.GLB_DISC d.node.val ∧ s.sys.ready = false) ∧
    (let s : State := { base with
       regs := [(Reg.LAN_LSTAT 0, 55), (Reg.LAN_LSTAT 1, 55), (Reg.LAN_LSTAT 2, 55), (Reg.LAN_LSTAT 3, 55), (Reg.LAN_LSTAT 4,
         55), (Reg.LAN_LSTAT 5, 55), (Reg.LAN_LSTAT 6, 55), (Reg.LAN_LSTAT 7, 55)] }
     let lane : Lane := 1
     let d : Disc := { node := 3, role := true, state := 7, rcd := 0, img := 0x1234, ttl := 63, sender := 4 }
     let a : Nat := 268
     s.running = true ∧ a = Reg.GLB_DISC d.node.val ∧ s.receives lane.val = true ∧ s.ring.disc.at d.node.val none = none ∧
       d.node.val ≠ s.node ∧ (d.node.val ≠ 0 ∨ s.cfg.inForce = false)) ∧
    (let s : State := { base with
       regs := [(Reg.LAN_LSTAT 0, 55), (Reg.LAN_LSTAT 1, 55), (Reg.LAN_LSTAT 2, 55), (Reg.LAN_LSTAT 3, 55), (Reg.LAN_LSTAT 4,
         55), (Reg.LAN_LSTAT 5, 55), (Reg.LAN_LSTAT 6, 55), (Reg.LAN_LSTAT 7, 55)] }
     let lane : Lane := 1
     let d : Disc := { node := 0, role := false, state := 7, rcd := 0, img := 0x1234, ttl := 63, sender := 4 }
     let a : Nat := 256
     s.running = true ∧ a = Reg.GLB_DISC d.node.val ∧ s.receives lane.val = true ∧ d.node.val = s.node ∧ d.role = s.role ∧
       s.bit a 5 = false) ∧
    (let s : State := { base with
       regs := [(Reg.GLB_STRAP, 3), (Reg.LAN_LSTAT 0, 55), (Reg.LAN_LSTAT 1, 55), (Reg.LAN_LSTAT 2, 55), (Reg.LAN_LSTAT 3,
         55), (Reg.LAN_LSTAT 4, 55), (Reg.LAN_LSTAT 5, 55), (Reg.LAN_LSTAT 6, 55), (Reg.LAN_LSTAT 7, 55)],
       cfg.inForce := true }
     let lane : Lane := 1
     let d : Disc := { node := 0, role := true, state := 7, rcd := 5, img := 0x1234, ttl := 63, sender := 4 }
     let a : Nat := 256
     s.running = true ∧ a = Reg.GLB_DISC d.node.val ∧ s.receives lane.val = true ∧ d.node.val = 0 ∧ s.node ≠ 0 ∧
       s.cfg.inForce = true ∧ d.role ≠ s.role ∧ d.rcd ≠ s.rg Reg.RNG_RCD ∧ s.ring.toldRcd = false) := by
  refine ⟨?_, ?_, ?_, ?_, ?_⟩ <;> decide +kernel

theorem witness_ChannelValuesAndCommit_1 :
    (let s : State := base; let q : LegPair := 0; let wid : Bool := true; let a : Nat := 593924
     s.running = true ∧ a = (if wid then Reg.PWM_WID q.val else Reg.PWM_ON q.val) ∧ Reaches s a ∧ Reaches s Reg.PWM_LOAD ∧
       s.cfg.inForce = false) ∧
    (let s : State := { base with cfg.inForce := true }; let q : LegPair := 0; let wid : Bool := true
     let a : Nat := 593924
     s.running = true ∧ a = (if wid then Reg.PWM_WID q.val else Reg.PWM_ON q.val) ∧ Reaches s Reg.PWM_LOAD ∧
       s.cfg.inForce = true) := by
  refine ⟨?_, ?_⟩ <;> decide +kernel

theorem witness_ChannelValuesAndCommit_2_a :
    let s : State := { base with regs := [(Reg.PWM_GPER_L 0, 1)], cfg.inForce := true }; let g : Group := 0
    let mid : Bool := true; let np : Nat := 64
    (s.running = true ∧ np = s.npOf g.val ∧ 0 < np ∧ mid = true ∧ s.midCommit g.val = false) ∧ QuietGroup s g.val :=
  ⟨by decide +kernel, ⟨by decide +kernel, by decide +kernel, by decide +kernel, fun _ => rfl, by decide +kernel⟩⟩

theorem witness_ChannelValuesAndCommit_2_b :
    let s : State := { base with regs := [(Reg.PWM_GPER_L 0, 1)], cfg.inForce := true }; let g : Group := 0
    let mid : Bool := false; let np : Nat := 64
    (s.running = true ∧ np = s.npOf g.val ∧ 0 < np ∧ (mid = true → s.midCommit g.val = true)) ∧ QuietGroup s g.val :=
  ⟨by decide +kernel, ⟨by decide +kernel, by decide +kernel, by decide +kernel, fun _ => rfl, by decide +kernel⟩⟩

theorem witness_DeadTimeAndMinimumPulse :
    (let s : State := base; let q : LegPair := 95; let dt : Nat := 0; let v : Bool := true
     s.running = true ∧ dt = s.deadTime q.val v ∧ (s.outEn = false ∨ s.pairEnabled q.val = false) ∧
       (s.pair q.val).pend = none) ∧
    (let s : State := { base with
       regs := [(Reg.PWM_STAT, 256), (Reg.PWM_GPER_L 0, 0xbb8), (Reg.PWM_ON_L 0, 0x3e8), (Reg.PWM_WID_L 0, 1),
         (Reg.PWM_DT_L 0, 0x500040), (Reg.PWM_PCFG 0, 8)], sys.bank := [(0, true), (1, true), (2, true), (3, true), (4, true),
         (5, true), (6, true), (7, true)], sys.armed := true, cfg.inForce := true, cfg.pop := 16777215, pwm.pairs := [(0,
         { started := true, pend := some true })] }
     let q : LegPair := 0; let x : Nat := 1000; let dt : Nat := 64; let v : Bool := true
     s.running = true ∧ dt = s.deadTime q.val v ∧ PlainTransition s q.val x v ∧ 0 < dt ∧ (∃ e ∈ s.endOf q.val x, x < e ∧
       e < s.minPulse q.val + dt + x ∧ s.stretchMode q.val = false ∧ (s.pair q.val).toldDrop = false) ∧
       (∃ up ∈ (s.pair q.val).pend, True)) ∧
    (let s : State := { base with
       regs := [(Reg.PWM_STAT, 256), (Reg.PWM_GPER_L 0, 0xbb8), (Reg.PWM_ON_L 0, 0x3e8), (Reg.PWM_WID_L 0, 1),
         (Reg.PWM_DT_L 0, 0x500040), (Reg.PWM_MPW_L 0, 0x1000), (Reg.PWM_PCFG 0, 8)], sys.bank := [(0, true), (1, true), (2,
         true), (3, true), (4, true), (5, true), (6, true), (7, true)], sys.armed := true, cfg.inForce := true,
       cfg.pop := 16777215, pwm.pairs := [(0, { started := true, low := true })] }
     let q : LegPair := 0; let x : Nat := 1000; let dt : Nat := 64; let v : Bool := true
     s.running = true ∧ dt = s.deadTime q.val v ∧ PlainTransition s q.val x v ∧ 0 < dt ∧ (∃ e ∈ s.endOf q.val x, x < e ∧
       e < s.minPulse q.val + dt + x ∧ s.stretchMode q.val = true ∧ (s.pair q.val).toldStretch = false)) ∧
    (let s : State := { base with
       regs := [(Reg.PWM_STAT, 256), (Reg.PWM_GPER_L 0, 0xbb8), (Reg.PWM_ON_L 0, 0x3e8), (Reg.PWM_WID_L 0, 1),
         (Reg.PWM_DT_L 0, 0x500040), (Reg.PWM_PCFG 0, 8)], sys.bank := [(0, true), (1, true), (2, true), (3, true), (4, true),
         (5, true), (6, true), (7, true)], sys.armed := true, cfg.inForce := true, cfg.pop := 16777215, pwm.pairs := [(0,
         { started := true, raw := true, level := true, up := true })] }
     let q : LegPair := 0; let x : Nat := 1001; let dt : Nat := 80; let v : Bool := false
     s.running = true ∧ dt = s.deadTime q.val v ∧ PlainTransition s q.val x v ∧ 0 < dt ∧ (∀ e ∈ s.endOf q.val x,
         s.minPulse q.val + dt + x ≤ e)) := by
  refine ⟨?_, ?_, ?_, ?_⟩ <;> decide +kernel

theorem witness_AdaptedTiming_1 :
    (let s : State := { base with
       regs := [(Reg.PWM_STAT, 256), (Reg.PWM_GPER_L 0, 0xbb8), (Reg.PWM_DTLIM_L 0, 0x1000010), (Reg.PWM_MPW_L 0, 0x2005),
         (Reg.PWM_PCFG 0, 8), (Reg.PWM_ADT 0, 0x1010000)], sys.bank := [(0, true), (1, true), (2, true), (3, true), (4, true),
         (5, true), (6, true), (7, true)], sys.armed := true, cfg.inForce := true, cfg.pop := 16777215, pwm.pairs := [(0,
         { started := true, up := true, low := true, adtR := 32, adtF := 32 })] }
     let g : Gate := 0; let q : Nat := 0; let old : Nat := 32; let clean : Nat := 0; let step : Nat := 1
     s.running = true ∧ q = g.val / 2 ∧ old = (if g.val % 2 = 0 then (s.pair q).adtR else (s.pair q).adtF) ∧
       step = s.rf (Reg.PWM_ADT q) 16 8 ∧ clean = (if g.val % 2 = 0 then (s.pair q).cleanR else (s.pair q).cleanF) ∧
       s.adaptive q = true ∧ s.padCmd g.val = .gen true ∧ old + step < (s.adtBounds q).2 ∧
       s.rf (Reg.PWM_ADT q) 24 8 ≤ clean + 1 ∧ (s.adtBounds q).1 + step ≤ old) ∧
    (let s : State := { base with
       regs := [(Reg.PWM_STAT, 256), (Reg.PWM_GPER_L 0, 0xbb8), (Reg.PWM_DTLIM_L 0, 0x1000010), (Reg.PWM_MPW_L 0, 5),
         (Reg.PWM_PCFG 0, 8), (Reg.PWM_ADT 0, 0x1010000)], sys.bank := [(0, true), (1, true), (2, true), (3, true), (4, true),
         (5, true), (6, true), (7, true)], sys.armed := true, cfg.inForce := true, cfg.pop := 16777215, pwm.pairs := [(0,
         { started := true, up := true, low := true, adtR := 16, adtF := 16 })] }
     let g : Gate := 0; let q : Nat := 0; let old : Nat := 16; let clean : Nat := 0; let step : Nat := 1
     s.running = true ∧ q = g.val / 2 ∧ old = (if g.val % 2 = 0 then (s.pair q).adtR else (s.pair q).adtF) ∧
       step = s.rf (Reg.PWM_ADT q) 16 8 ∧ clean = (if g.val % 2 = 0 then (s.pair q).cleanR else (s.pair q).cleanF) ∧
       (s.adaptive q = false ∨ s.padCmd g.val ≠ .gen true)) ∧
    (let s : State := { base with
       regs := [(Reg.PWM_STAT, 256), (Reg.PWM_GPER_L 0, 0xbb8), (Reg.PWM_DTLIM_L 0, 0x1000010), (Reg.PWM_MPW_L 0, 0x2005),
         (Reg.PWM_PCFG 0, 8), (Reg.PWM_ADT 0, 0x2010000)], sys.bank := [(0, true), (1, true), (2, true), (3, true), (4, true),
         (5, true), (6, true), (7, true)], sys.armed := true, cfg.inForce := true, cfg.pop := 16777215, pwm.pairs := [(0,
         { started := true, up := true, low := true, adtR := 16, adtF := 16 })] }
     let g : Gate := 0; let q : Nat := 0; let old : Nat := 16; let clean : Nat := 0; let step : Nat := 1
     s.running = true ∧ q = g.val / 2 ∧ old = (if g.val % 2 = 0 then (s.pair q).adtR else (s.pair q).adtF) ∧
       step = s.rf (Reg.PWM_ADT q) 16 8 ∧ clean = (if g.val % 2 = 0 then (s.pair q).cleanR else (s.pair q).cleanF) ∧
       s.adaptive q = true ∧ s.padCmd g.val = .gen true ∧ clean + 1 < s.rf (Reg.PWM_ADT q) 24 8) ∧
    (let s : State := { base with
       regs := [(Reg.PWM_STAT, 256), (Reg.PWM_GPER_L 0, 0xbb8), (Reg.PWM_DTLIM_L 0, 0x1000010), (Reg.PWM_MPW_L 0, 0x2005),
         (Reg.PWM_PCFG 0, 8), (Reg.PWM_ADT 0, 0x1010000)], sys.bank := [(0, true), (1, true), (2, true), (3, true), (4, true),
         (5, true), (6, true), (7, true)], sys.armed := true, cfg.inForce := true, cfg.pop := 16777215, pwm.pairs := [(0,
         { started := true, up := true, low := true, adtR := 255, adtF := 255 })] }
     let g : Gate := 0; let q : Nat := 0; let old : Nat := 255; let clean : Nat := 0; let step : Nat := 1
     s.running = true ∧ q = g.val / 2 ∧ old = (if g.val % 2 = 0 then (s.pair q).adtR else (s.pair q).adtF) ∧
       step = s.rf (Reg.PWM_ADT q) 16 8 ∧ clean = (if g.val % 2 = 0 then (s.pair q).cleanR else (s.pair q).cleanF) ∧
       s.adaptive q = true ∧ s.padCmd g.val = .gen true ∧ (s.adtBounds q).2 ≤ old + step ∧
       s.pwm.toldAdt.at (2 * q + g.val % 2) false = false) := by
  refine ⟨?_, ?_, ?_, ?_⟩ <;> decide +kernel

theorem witness_AdaptedTiming_2 :
    (let s : State := base; let loop : Fin 9 := 0; let line : Fin 200 := 0
     s.running = true ∧ s.pwm.out.at loop.val false = false ∧ s.pairState ≠ 3 ∧ s.pwm.measuring.at line.val none = none ∧
       s.lineTicks line.val ≤ 312500 * s.rf Reg.PWM_CALCFG 0 16) ∧
    (let s : State := { base with pwm.measuring := [(0, some 0)], pwm.out := [(8, true)], now := 0x517da02c0 }
     let line : Fin 200 := 0; let fine : Fin 64 := 0
     s.running = true ∧ s.pwm.measuring.at line.val none = some fine.val ∧
       312500 * s.rf Reg.PWM_CALCFG 0 16 < s.lineTicks line.val ∧ s.pwm.toldStale.at line.val false = false) := by
  refine ⟨?_, ?_⟩ <;> decide +kernel

theorem witness_SwitchFaults :
    (let s : State := base; let g : Gate := 191; let hard : Bool := true; let c : Nat := 23
     let e : Nat × Nat × List Nat := (2050, 191, [191])
     s.running = true ∧ c = g.val / 8 ∧ e = (if s.gate g.val then (0x0801, g.val, [g.val, hard.toNat,
         s.compat.toNat]) else (0x0802, g.val, [g.val])) ∧ (s.evaluating = false ∨ s.latched g.val = true)) ∧
    (let s : State := { base with
       regs := [(Reg.GLB_STAT, 7), (Reg.GPR_ESC_L, 0x101f4), (Reg.PAR_STAT, 3)], sys.armed := true, sys.hbOut := true,
       cfg.pop := 16777215, now := 1000 }
     let g : Gate := 0; let hard : Bool := true; let c : Nat := 0; let e : Nat × Nat × List Nat := (2050, 0, [0])
     s.running = true ∧ c = g.val / 8 ∧ e = (if s.gate g.val then (0x0801, g.val, [g.val, hard.toNat,
         s.compat.toNat]) else (0x0802, g.val, [g.val])) ∧ s.evaluating = true ∧ s.latched g.val = false ∧
       s.prot.swAt.at c none = none) ∧
    (let s : State := { base with
       regs := [(Reg.GLB_STAT, 7), (Reg.GPR_ESC_L, 0x101f4), (Reg.PAR_STAT, 3)], sys.armed := true, sys.hbOut := true,
       cfg.pop := 16777215, prot.swAt := [(0, some (500, 3))], now := 1000 }
     let g : Gate := 0; let hard : Bool := true; let c : Nat := 0; let e : Nat × Nat × List Nat := (2050, 0, [0])
     s.running = true ∧ c = g.val / 8 ∧ e = (if s.gate g.val then (0x0801, g.val, [g.val, hard.toNat,
         s.compat.toNat]) else (0x0802, g.val, [g.val])) ∧ s.evaluating = true ∧ s.latched g.val = false ∧
       (∃ y ∈ s.prot.swAt.at c none, let t := y.1; s.now ≤ t + s.rf Reg.GPR_ESC_L 0 16 ∧ s.cellFs c = false ∧
       s.rf Reg.GPR_ESC_L 16 5 ≤ s.cellsInWindow c + 1 ∧ s.bit Reg.GPR_PSTAT 0 = false ∧ s.bit Reg.RNG_TRIPCFG 0 = false ∧
       s.evt.batch = [])) ∧
    (let s : State := { base with
       regs := [(Reg.GLB_STAT, 7), (Reg.GPR_ESC_L, 0x201f4), (Reg.PAR_STAT, 3)], sys.armed := true, sys.hbOut := true,
       cfg.pop := 16777215, prot.swAt := [(0, some (500, 3))], now := 1000 }
     let g : Gate := 0; let hard : Bool := true; let c : Nat := 0; let e : Nat × Nat × List Nat := (2050, 0, [0])
     s.running = true ∧ c = g.val / 8 ∧ e = (if s.gate g.val then (0x0801, g.val, [g.val, hard.toNat,
         s.compat.toNat]) else (0x0802, g.val, [g.val])) ∧ s.evaluating = true ∧ s.latched g.val = false ∧
       (∃ y ∈ s.prot.swAt.at c none, let t := y.1; s.now ≤ t + s.rf Reg.GPR_ESC_L 0 16 ∧ s.cellFs c = false ∧
       s.cellsInWindow c + 1 < s.rf Reg.GPR_ESC_L 16 5)) := by
  refine ⟨?_, ?_, ?_, ?_⟩ <;> decide +kernel

theorem witness_BypassAndClears_1 :
    (let s : State := { base with regs := [(Reg.GPR_ESC_L, 0x10139)] }; let c : Cell := 0
     s.running = true ∧ (s.populated c.val = false ∨ s.bypClosed c.val = bitOf s.prot.byp c.val) ∧ s.populated c.val = false) ∧
    (let s : State := { base with
       regs := [(Reg.GPR_ESC_L, 0x10139)], sys.bank := [(0, true), (1, true), (2, true), (3, true), (4, true), (5, true), (6,
         true), (7, true)], sys.armed := true, cfg.pop := 16777215, prot.byp := 8388609, prot.closedSince := 8388609 }
     let c : Cell := 0
     s.running = true ∧ s.populated c.val = true ∧ bitOf s.prot.byp c.val = true ∧ s.bypClosed c.val = false ∧
       bitOf s.prot.closedSince c.val = true) ∧
    (let s : State := { base with
       regs := [(Reg.GPR_ESC_L, 0x10139), (Reg.GPR_BYPFB, 0xffffff), (Reg.GPR_BYPCFG 0, 0xa0fa1)], sys.bank := [(0, true), (1,
         true), (2, true), (3, true), (4, true), (5, true), (6, true), (7, true)], sys.armed := true, cfg.pop := 16777215 }
     let c : Cell := 0; let closed : Bool := true
     s.running = true ∧ s.populated c.val = true ∧ bitOf s.prot.byp c.val = false ∧ s.heldType c.val = true ∧
       s.bypClosed c.val = true ∧ (closed = false ∨ s.switching c.val = false)) ∧
    (let s : State := { base with
       regs := [(Reg.PWM_STAT, 256), (Reg.PWM_PCFG 0, 8), (Reg.GPR_ESC_L, 0x20139)], sys.bank := [(0, true), (1, true), (2,
         true), (3, true), (4, true), (5, true), (6, true), (7, true)], sys.armed := true, cfg.pop := 16777215,
       pwm.pairs := [(0, { started := true, up := true })] }
     let c : Cell := 0
     s.running = true ∧ s.populated c.val = true ∧ bitOf s.prot.byp c.val = false ∧ s.switching c.val = true ∧
       s.cellFs c.val = false ∧ s.cellsInWindow c.val + 1 < s.rf Reg.GPR_ESC_L 16 5) := by
  refine ⟨?_, ?_, ?_, ?_⟩ <;> decide +kernel

theorem witness_BypassAndClears_2 :
    (let s : State := { base with
       regs := [(Reg.GLB_STAT, 7)], keys.slots := [(1, { key := some 35883, age := 64 })], cfg.pop := 16777215 }
     let src : Src := .tunnel; let g : BitVec 8 := 0; let c : BitVec 8 := 24
     KeyPasses s src Reg.GPR_CLR ∧ g.toNat < 192 ∧ s.latched g.toNat = false ∧ 24 ≤ c.toNat ∧ s.halted = false) ∧
    (let s : State := { base with
       regs := [(Reg.GLB_STAT, 7), (Reg.GPR_SWLAT 0, 0xffffffff), (Reg.GPR_SWLAT 5, 0xffffffff), (Reg.GPR_CELLFS, 0xffffff)],
       keys.slots := [(1, { key := some 35883, age := 64 })], cfg.pop := 16777215 }
     let src : Src := .tunnel; let g : BitVec 8 := 0; let c : BitVec 8 := 0; let d : BitVec 8 := 255
     KeyPasses s src Reg.GPR_CLR ∧ g.toNat < 192 ∧ s.latched g.toNat = true ∧ c.toNat < 24 ∧ s.cellFs c.toNat = true ∧
       s.cellMeasBad c.toNat = false ∧ s.bypClosed c.toNat = false ∧ bitOf s.prot.fsreq c.toNat = false ∧ (∃ i < 8,
         s.latched (8 * c.toNat + i) = true ∧ bitOf d.toNat i = true)) ∧
    (let s : State := { base with
       regs := [(Reg.GPR_CELLFS, 0x800000), (Reg.GPR_BYPFB, 0xffffff)], keys.slots := [(0, { key := some 35883, age := 64 })],
       cfg.pop := 16777215 }
     let src : Src := .pcie; let c : BitVec 8 := 23
     KeyPasses s src Reg.GPR_CLR ∧ c.toNat < 24 ∧ s.cellFs c.toNat = true ∧ s.cellMeasBad c.toNat = false ∧
       s.bypClosed c.toNat = true ∧ s.heldType c.toNat = false ∧ s.halted = true ∧ (∀ i < 8,
         bitOf s.prot.causes i = true → s.causePresent i = false) ∧ s.bit Reg.GPR_PSTAT 0 = false) ∧
    (let s : State := { base with
       regs := [(Reg.GLB_STAT, 7)], keys.slots := [(1, { key := some 35883, age := 64 })], cfg.pop := 16777215 }
     let src : Src := .tunnel; let g : BitVec 8 := 192; KeyPasses s src Reg.GPR_CLR ∧ 192 ≤ g.toNat) ∧
    (let s : State := { base with
       regs := [(Reg.GLB_STAT, 6), (Reg.GPR_PSTAT, 1)], keys.slots := [(1, { key := some 35883, age := 64 })],
       cfg.pop := 16777215, prot.causes := 2 }
     let src : Src := .tunnel
     KeyPasses s src Reg.GPR_CLR ∧ s.halted = true ∧ (∀ i < 8, bitOf s.prot.causes i = true → s.causePresent i = false) ∧
       s.bit Reg.GPR_PSTAT 0 = true ∧ bitOf s.thw.levels 3 = false) ∧
    (let s : State := { base with
       regs := [(Reg.GLB_STAT, 7), (Reg.GPR_CELLFS, 0xffffff)], keys.slots := [(1, { key := some 35883, age := 64 })],
       cfg.pop := 16777215, prot.fsreq := 8388609 }
     let src : Src := .tunnel; let c : BitVec 8 := 0
     KeyPasses s src Reg.GPR_CLR ∧ c.toNat < 24 ∧ s.cellFs c.toNat = true ∧ s.cellMeasBad c.toNat = false ∧
       s.bypClosed c.toNat = false ∧ bitOf s.prot.fsreq c.toNat = true) := by
  refine ⟨?_, ?_, ?_, ?_, ?_, ?_⟩ <;> decide +kernel

theorem witness_FunctionsAndInputs_1 :
    (let s : State := { base with
       regs := [(Reg.FLT_STAT, 2)], flint.sgiOn := true, flint.held := false,
       flint.safe := some { enable := 2, manual := 0 } }
     s.onMain = true ∧ s.flintRuns = true ∧ (∃ d ∈ s.flint.safe, d.pairs = [] ∧ d.frame = 0 ∧ d.manual = 0 ∧ d.enable = 2 ∧
       s.flint.req = 0 ∧ s.flint.rst = false ∧ s.flint.pulse = [] ∧ s.flint.selftest = false ∧ s.rn Reg.FLT_DISC = 0 ∧
       s.rf Reg.FLT_STAT 0 2 ≠ 3 ∧ s.flint.kept = [] ∧ (∀ n < 4, s.readbackFault n = false) ∧ (∀ f < 3, s.func f = 0))) ∧
    (let s : State := { base with regs := [(Reg.FLT_STAT, 2)], flint.sgiOn := true, flint.safe := some { enable := 2 } }
     s.onMain = true ∧ s.flintRuns = false) ∧
    (let s : State := { base with
       regs := [(Reg.FLT_STAT, 2)], flint.sgiOn := true, flint.held := false, flint.safe := some { enable := 2 },
       flint.req := 1 }
     s.onMain = true ∧ s.flintRuns = true ∧ s.flint.req = 1) ∧
    (let s : State := { base with
       regs := [(Reg.FLT_STAT, 2)], flint.sgiOn := true, flint.held := false, flint.safe := some { enable := 2 },
       flint.req := 2 }
     s.onMain = true ∧ s.flintRuns = true ∧ s.flint.req = 2) := by
  refine ⟨?_, ?_, ?_, ?_⟩ <;> decide +kernel

theorem witness_FunctionsAndInputs_2 :
    (let s : State := { base with
       regs := [(Reg.FLT_STAT, 2), (Reg.FLT_SIN, 255)], flint.sgiOn := true, flint.held := false, flint.safe := some theSafe,
       flint.disagree := [(0, 2), (7, 2)] }
     let n : Fin 8 := 0
     s.onMain = true ∧ s.flint.held = false ∧ s.flintRuns = true ∧ (s.sin n.val).role ≠ .unused ∧ s.flint.req = 0 ∧
       s.sinA n.val ≠ s.sinB n.val ∧ s.flint.disagree.at n.val 0 + 1 = (s.sin n.val).tDisc) ∧
    (let s : State := { base with
       regs := [(Reg.FLT_STAT, 2)], flint.sgiOn := true, flint.safe := some { enable := 2 }, flint.disagree := [(0, 0), (7,
         0)] }
     s.onMain = true ∧ s.flint.held = true) := by
  refine ⟨?_, ?_⟩ <;> decide +kernel

theorem witness_SafetyFramesAndOutputs :
    (let s : State := { base with
       regs := [(Reg.FLT_STAT, 2)], flint.sgiOn := true, flint.held := false, flint.safe := some theSafe }
     let n : Fin 4 := 0; let low : Bool := true; let f : Nat := 0
     s.onMain = true ∧ s.flintRuns = true ∧ s.ownerOf n.val = some f ∧ f < 3 ∧ s.flint.pulse.at n.val none = none ∧
       s.flint.bad.at (2 * n.val + low.toNat) 0 < 7 ∧ s.func f ≠ 1) ∧
    (let s : State := { base with
       regs := [(Reg.FLT_STAT, 2)], flint.sgiOn := true, flint.held := false, flint.safe := some theSafe, flint.bad := [(0,
         7), (1, 7)], flint.next := [(0, true)] }
     let n : Fin 4 := 0; let low : Bool := true; let f : Nat := 0
     s.onMain = true ∧ s.flintRuns = true ∧ s.ownerOf n.val = some f ∧ f < 3 ∧ s.flint.pulse.at n.val none = none ∧
       s.flint.bad.at (2 * n.val + low.toNat) 0 = 7) ∧
    (let s : State := { base with
       regs := [(Reg.FLT_STAT, 2), (Reg.FLT_FUNC, 1)], flint.sgiOn := true, flint.held := false, flint.safe := some theSafe,
       flint.bad := [(0, 0), (1, 0)], flint.next := [(0, true)] }
     let n : Fin 4 := 0; let low : Bool := true; let f : Nat := 0
     s.onMain = true ∧ s.flintRuns = true ∧ s.ownerOf n.val = some f ∧ f < 3 ∧ s.flint.pulse.at n.val none = none ∧
       s.func f = 1 ∧ s.readbackFault n.val = false ∧ s.flint.next.at n.val false = low) := by
  refine ⟨?_, ?_, ?_⟩ <;> decide +kernel

theorem witness_FlintResetsAndRequests_1 :
    let s : State := { base with
      regs := [(Reg.FLT_STAT, 2)], flint.sgiOn := true, flint.held := false, flint.selftest := true,
      flint.safe := some { enable := 2, manual := 0 } }
    s.onMain = true ∧ s.flint.held = false ∧ s.flint.selftest = true ∧ s.flintRuns = true := by
  decide +kernel

theorem witness_FlintResetsAndRequests_2 :
    (let s : State := { base with flint.held := false, flint.safe := some {}, flint.req := 8 }
     s.flint.held = false ∧ s.flint.req < 16 ∧ s.onMain = true ∧ s.flintRuns = true ∧ s.flint.req = 8 ∧ (∀ f < 3,
         s.func f ≠ 1)) ∧
    (let s : State := { base with
       regs := [(Reg.FLT_STAT, 8)], flint.held := false, flint.safe := some {}, flint.req := 8 }
     s.flint.held = false ∧ s.flint.req < 16 ∧ s.bit Reg.FLT_STAT 3 = true ∧ s.flint.req = 8) ∧
    (let s : State := { base with
       regs := [(Reg.FLT_STAT, 8)], keys.slots := [(0, { key := some 23281, age := 64 })], flint.held := false,
       flint.safe := some {} }
     let src : Src := .pcie; s.flint.held = false ∧ s.flint.req < 16 ∧ KeyPasses s src Reg.GLB_FLTREQ) ∧
    (let s : State := { base with
       regs := [(Reg.FLT_STAT, 2), (Reg.FLT_FUNC, 1)], flint.sgiOn := true, flint.held := false,
       flint.safe := some { enable := 2, manual := 0 }, flint.req := 8 }
     s.flint.held = false ∧ s.flint.req < 16 ∧ s.onMain = true ∧ s.flintRuns = true ∧ s.flint.req = 8 ∧ (∃ f < 3,
         s.func f = 1)) := by
  refine ⟨?_, ?_, ?_, ?_⟩ <;> decide +kernel

theorem witness_PartnerLossAndDualActive :
    (let s : State := base
     s.running = true ∧ s.pairState ≠ 2 ∧ (s.pairState ≠ 3 ∨ s.bit Reg.PAR_STAT 2 = false) ∧ s.pairState ≠ 1) ∧
    (let s : State := { base with regs := [(Reg.PAR_STAT, 2)] }; s.running = true ∧ s.pairState = 2) ∧
    (let s : State := { base with regs := [(Reg.PAR_STAT, 7)] }
     s.running = true ∧ s.pairState = 3 ∧ s.bit Reg.PAR_STAT 2 = true ∧ s.role = false) ∧
    (let s : State := { base with regs := [(Reg.GLB_STRAP, 64), (Reg.PAR_STAT, 7)] }
     s.running = true ∧ s.pairState = 3 ∧ s.bit Reg.PAR_STAT 2 = true ∧ s.role = true) ∧
    (let s : State := { base with regs := [(Reg.PAR_STAT, 1)], par.arriving := some 5 }
     s.running = true ∧ s.pairState = 1 ∧ s.par.arriving.isSome = true) ∧
    (let s : State := { base with
       regs := [(Reg.SLT_PER_L, 0x7a12), (Reg.PAR_STAT, 1), (Reg.PAR_CFG, 0x60ff000a), (Reg.PAR_CKPT_STAT, 1)],
       cfg.inForce := true, par.geode := [(0, some { ver := 256, seq := 4, length := 256, capTs := 7, cellFs := 3 })] }
     s.running = true ∧ s.pairState = 1 ∧ s.par.arriving = none ∧ bitOf s.healthBits 11 = false ∧
       s.bit Reg.PAR_STAT 4 = false ∧ s.ckptOk = true) ∧
    (let s : State := { base with
       regs := [(Reg.CLK_STAT, 2), (Reg.RNG_STAT, 0x10020), (Reg.FLT_FUNC, 1), (Reg.PAR_STAT, 1), (Reg.PAR_CFG, 0x60ff000a),
         (Reg.PAR_CKPT_STAT, 1)], cfg.inForce := true, par.geode := [(0, some theCkpt)], par.peerDigest := some (0, 0) }
     s.running = true ∧ s.pairState = 1 ∧ s.par.arriving = none ∧ bitOf s.healthBits 11 = true) := by
  refine ⟨?_, ?_, ?_, ?_, ?_, ?_, ?_⟩ <;> decide +kernel

theorem witness_Checkpoints :
    (let s : State := { base with regs := [(Reg.PAR_STAT, 1), (Reg.PAR_CKPT_SIZE, 100)] }
     let c : Ckpt := { ver := 256, seq := 4, length := 100, crc := 0x7fd6bf0b }; let b : Nat := 0
     s.running = true ∧ b = c.seq.toNat % 2 ∧ s.par.capture = none ∧ (s.pairState ≠ 1 ∨ s.receives 3 = false) ∧
       s.pairState ≠ 2) ∧
    (let s : State := { base with
       regs := [(Reg.PAR_STAT, 1), (Reg.PAR_CKPT_SIZE, 100), (Reg.LAN_LSTAT 0, 55), (Reg.LAN_LSTAT 1, 55), (Reg.LAN_LSTAT 2,
         55), (Reg.LAN_LSTAT 3, 55), (Reg.LAN_LSTAT 4, 55), (Reg.LAN_LSTAT 5, 55), (Reg.LAN_LSTAT 6, 55), (Reg.LAN_LSTAT 7,
         55)] }
     let c : Ckpt := { ver := 256, seq := 4, length := 100, crc := 0x7fd6bf0b }; let b : Nat := 0
     s.running = true ∧ b = c.seq.toNat % 2 ∧ s.pairState = 1 ∧ s.receives 3 = true ∧ c.part = false ∧ s.ckptBad c = none ∧
       (s.pairState = 1 ∨ s.pairState = 2) ∧ s.receives s.partnerLane = true) ∧
    (let s : State := { base with
       regs := [(Reg.PAR_STAT, 2), (Reg.PAR_CKPT_STAT, 3), (Reg.PAR_CKPT_SIZE, 100)], par.geode := [(0,
         some { ver := 256, seq := 2, length := 100, crc := 0x7fd6bf0b }), (1,
         some { ver := 256, seq := 3, length := 100, crc := 0x7fd6bf0b })] }
     let c : Ckpt := { ver := 256, seq := 4, length := 100, crc := 0x7fd6bf0b }
     let o : Ckpt := { ver := 256, seq := 2, length := 100, crc := 0x7fd6bf0b }; let b : Nat := 0
     s.running = true ∧ b = c.seq.toNat % 2 ∧ s.pairState = 2 ∧ s.newestCkpt = some o ∧ s.prot.vecRx = none) ∧
    (let s : State := { base with regs := [(Reg.PAR_CKPT_SIZE, 256)], par.capture := some theCkpt }
     let c : Ckpt := theCkpt; let b : Nat := 0
     s.running = true ∧ b = c.seq.toNat % 2 ∧ s.par.capture = some c ∧ (s.pairState = 0 ∨ s.pairState = 3)) ∧
    (let s : State := { base with
       regs := [(Reg.PAR_STAT, 1), (Reg.PAR_CKPT_SIZE, 256), (Reg.LAN_LSTAT 0, 55), (Reg.LAN_LSTAT 1, 55), (Reg.LAN_LSTAT 2,
         55), (Reg.LAN_LSTAT 3, 55), (Reg.LAN_LSTAT 4, 55), (Reg.LAN_LSTAT 5, 55), (Reg.LAN_LSTAT 6, 55), (Reg.LAN_LSTAT 7,
         55)] }
     let c : Ckpt := theCkpt; let b : Nat := 0
     s.running = true ∧ b = c.seq.toNat % 2 ∧ s.pairState = 1 ∧ s.receives 3 = true ∧ c.part = false ∧ (∃ r ∈ s.ckptBad c,
         True)) ∧
    (let s : State := { base with
       regs := [(Reg.PAR_STAT, 1), (Reg.PAR_CKPT_SIZE, 256), (Reg.LAN_LSTAT 0, 55), (Reg.LAN_LSTAT 1, 55), (Reg.LAN_LSTAT 2,
         55), (Reg.LAN_LSTAT 3, 55), (Reg.LAN_LSTAT 4, 55), (Reg.LAN_LSTAT 5, 55), (Reg.LAN_LSTAT 6, 55), (Reg.LAN_LSTAT 7,
         55)] }
     let c : Ckpt :=
       { part := true, ver := 256, seq := 9, length := 256, capK := -3, capTs := 7, engines := List.replicate 8 (3, []),
         pwm := [{ wid := 5, adtR := 3 }, { on := 1, wid := 5, adtR := 3 }, { on := 2, wid := 5, adtR := 3 },
           { on := 3, wid := 5, adtR := 3 }, { on := 4, wid := 5, adtR := 3 }, { on := 5, wid := 5, adtR := 3 },
           { on := 6, wid := 5, adtR := 3 }, { on := 7, wid := 5, adtR := 3 }, { on := 8, wid := 5, adtR := 3 },
           { on := 9, wid := 5, adtR := 3 }, { on := 10, wid := 5, adtR := 3 }, { on := 11, wid := 5, adtR := 3 },
           { on := 12, wid := 5, adtR := 3 }, { on := 13, wid := 5, adtR := 3 }, { on := 14, wid := 5, adtR := 3 },
           { on := 15, wid := 5, adtR := 3 }, { on := 16, wid := 5, adtR := 3 }, { on := 17, wid := 5, adtR := 3 },
           { on := 18, wid := 5, adtR := 3 }, { on := 19, wid := 5, adtR := 3 }, { on := 20, wid := 5, adtR := 3 },
           { on := 21, wid := 5, adtR := 3 }, { on := 22, wid := 5, adtR := 3 }, { on := 23, wid := 5, adtR := 3 },
           { on := 24, wid := 5, adtR := 3 }, { on := 25, wid := 5, adtR := 3 }, { on := 26, wid := 5, adtR := 3 },
           { on := 27, wid := 5, adtR := 3 }, { on := 28, wid := 5, adtR := 3 }, { on := 29, wid := 5, adtR := 3 },
           { on := 30, wid := 5, adtR := 3 }, { on := 31, wid := 5, adtR := 3 }, { on := 32, wid := 5, adtR := 3 },
           { on := 33, wid := 5, adtR := 3 }, { on := 34, wid := 5, adtR := 3 }, { on := 35, wid := 5, adtR := 3 },
           { on := 36, wid := 5, adtR := 3 }, { on := 37, wid := 5, adtR := 3 }, { on := 38, wid := 5, adtR := 3 },
           { on := 39, wid := 5, adtR := 3 }, { on := 40, wid := 5, adtR := 3 }, { on := 41, wid := 5, adtR := 3 },
           { on := 42, wid := 5, adtR := 3 }, { on := 43, wid := 5, adtR := 3 }, { on := 44, wid := 5, adtR := 3 },
           { on := 45, wid := 5, adtR := 3 }, { on := 46, wid := 5, adtR := 3 }, { on := 47, wid := 5, adtR := 3 },
           { on := 48, wid := 5, adtR := 3 }, { on := 49, wid := 5, adtR := 3 }, { on := 50, wid := 5, adtR := 3 },
           { on := 51, wid := 5, adtR := 3 }, { on := 52, wid := 5, adtR := 3 }, { on := 53, wid := 5, adtR := 3 },
           { on := 54, wid := 5, adtR := 3 }, { on := 55, wid := 5, adtR := 3 }, { on := 56, wid := 5, adtR := 3 },
           { on := 57, wid := 5, adtR := 3 }, { on := 58, wid := 5, adtR := 3 }, { on := 59, wid := 5, adtR := 3 },
           { on := 60, wid := 5, adtR := 3 }, { on := 61, wid := 5, adtR := 3 }, { on := 62, wid := 5, adtR := 3 },
           { on := 63, wid := 5, adtR := 3 }, { on := 64, wid := 5, adtR := 3 }, { on := 65, wid := 5, adtR := 3 },
           { on := 66, wid := 5, adtR := 3 }, { on := 67, wid := 5, adtR := 3 }, { on := 68, wid := 5, adtR := 3 },
           { on := 69, wid := 5, adtR := 3 }, { on := 70, wid := 5, adtR := 3 }, { on := 71, wid := 5, adtR := 3 },
           { on := 72, wid := 5, adtR := 3 }, { on := 73, wid := 5, adtR := 3 }, { on := 74, wid := 5, adtR := 3 },
           { on := 75, wid := 5, adtR := 3 }, { on := 76, wid := 5, adtR := 3 }, { on := 77, wid := 5, adtR := 3 },
           { on := 78, wid := 5, adtR := 3 }, { on := 79, wid := 5, adtR := 3 }, { on := 80, wid := 5, adtR := 3 },
           { on := 81, wid := 5, adtR := 3 }, { on := 82, wid := 5, adtR := 3 }, { on := 83, wid := 5, adtR := 3 },
           { on := 84, wid := 5, adtR := 3 }, { on := 85, wid := 5, adtR := 3 }, { on := 86, wid := 5, adtR := 3 },
           { on := 87, wid := 5, adtR := 3 }, { on := 88, wid := 5, adtR := 3 }, { on := 89, wid := 5, adtR := 3 },
           { on := 90, wid := 5, adtR := 3 }, { on := 91, wid := 5, adtR := 3 }, { on := 92, wid := 5, adtR := 3 },
           { on := 93, wid := 5, adtR := 3 }, { on := 94, wid := 5, adtR := 3 }, { on := 95, wid := 5, adtR := 3 }],
         swLatch := List.replicate 6 240, swInfo := List.replicate 192 1, cellFs := 3, cellInfo := List.replicate 24 1 }
     let b : Nat := 1; s.running = true ∧ b = c.seq.toNat % 2 ∧ s.pairState = 1 ∧ s.receives 3 = true ∧ c.part = true) := by
  refine ⟨?_, ?_, ?_, ?_, ?_, ?_⟩ <;> decide +kernel

theorem witness_HealthAndHandover :
    (let s : State := { base with
       regs := [(Reg.LAN_LSTAT 0, 55), (Reg.LAN_LSTAT 1, 55), (Reg.LAN_LSTAT 2, 55), (Reg.LAN_LSTAT 3, 55), (Reg.LAN_LSTAT 4,
         55), (Reg.LAN_LSTAT 5, 55), (Reg.LAN_LSTAT 6, 55), (Reg.LAN_LSTAT 7, 55)], keys.slots := [(2,
         { key := some 42199, age := 64 })] }
     let src : Src := .list
     s.running = true ∧ s.receives s.partnerLane = true ∧ s.pairState ≠ 1 ∧ s.pairState = 0 ∧ KeyPasses s src Reg.PAR_CTRL ∧
       s.bit Reg.PAR_STAT 6 = false ∧ s.par.loaded = false ∧ (∃ r < 6, ((s.pairState ≠ 3 ∧ r = 4) ∨ (s.pairState = 3 ∧
       s.partnerUp = false ∧ r = 1) ∨ (s.pairState = 3 ∧ s.partnerUp = true ∧ s.bit Reg.PAR_HLTH_PEER 11 = false ∧ r = 2)))) ∧
    (let s : State := { base with
       regs := [(Reg.PAR_STAT, 1), (Reg.LAN_LSTAT 0, 55), (Reg.LAN_LSTAT 1, 55), (Reg.LAN_LSTAT 2, 55), (Reg.LAN_LSTAT 3, 55),
         (Reg.LAN_LSTAT 4, 55), (Reg.LAN_LSTAT 5, 55), (Reg.LAN_LSTAT 6, 55), (Reg.LAN_LSTAT 7, 55)], par.hoPeriod := some 3,
       par.loaded := true, par.hseq := 65535, par.stBad := 8 }
     let item : Fin 5 := 0
     s.running = true ∧ s.receives s.partnerLane = true ∧ s.pairState = 1 ∧ (item.val = 3 → s.bit Reg.PAR_STAT 2 = true ∧
       s.sys.hbOut = false) ∧ bitOf s.par.stBad item.val = false ∧ (item.val = 2 → s.par.laneLost = 0) ∧ s.par.loaded = true) ∧
    (let s : State := { base with
       regs := [(Reg.PAR_STAT, 67), (Reg.LAN_LSTAT 0, 55), (Reg.LAN_LSTAT 1, 55), (Reg.LAN_LSTAT 2, 55), (Reg.LAN_LSTAT 3,
         55), (Reg.LAN_LSTAT 4, 55), (Reg.LAN_LSTAT 5, 55), (Reg.LAN_LSTAT 6, 55), (Reg.LAN_LSTAT 7, 55)] }
     let w : Word := 0x1800
     s.running = true ∧ s.receives s.partnerLane = true ∧ s.pairState = 3 ∧ fld w 0 1 = 0 ∧ fld w 12 1 = 1 ∧
       s.bit Reg.PAR_STAT 6 = true ∧ s.par.finalDue = false ∧ s.par.hoPeriod = none) ∧
    (let s : State := { base with
       regs := [(Reg.PAR_STAT, 3), (Reg.LAN_LSTAT 0, 55), (Reg.LAN_LSTAT 1, 55), (Reg.LAN_LSTAT 2, 55), (Reg.LAN_LSTAT 3, 55),
         (Reg.LAN_LSTAT 4, 55), (Reg.LAN_LSTAT 5, 55), (Reg.LAN_LSTAT 6, 55), (Reg.LAN_LSTAT 7, 55)] }
     let w : Word := 0x801
     s.running = true ∧ s.receives s.partnerLane = true ∧ s.pairState = 3 ∧ fld w 0 1 = 1 ∧ s.par.dual = false ∧
       s.role = false ∧ s.bit Reg.PAR_STAT 6 = false) ∧
    (let s : State := { base with
       regs := [(Reg.PAR_STAT, 11), (Reg.PAR_HLTH_PEER, 0x800), (Reg.LAN_LSTAT 0, 55), (Reg.LAN_LSTAT 1, 55),
         (Reg.LAN_LSTAT 2, 55), (Reg.LAN_LSTAT 3, 55), (Reg.LAN_LSTAT 4, 55), (Reg.LAN_LSTAT 5, 55), (Reg.LAN_LSTAT 6, 55),
         (Reg.LAN_LSTAT 7, 55)], keys.slots := [(2, { key := some 42199, age := 64 })] }
     let src : Src := .list
     s.running = true ∧ s.receives s.partnerLane = true ∧ KeyPasses s src Reg.PAR_CTRL ∧ HandoverAsked s) := by
  refine ⟨?_, ?_, ?_, ?_, ?_⟩ <;> decide +kernel

theorem witness_EnergyAndIntervals_1 :
    (let s : State := { base with
       regs := [(Reg.SDM_RES 0, 0x10003e8), (Reg.SDM_RES 1, 0x1fffff0), (Reg.SDM_RES 2, 0x10003e8), (Reg.SDM_RES 3,
         0x1fffff0), (Reg.SDM_RES 4, 0x10003e8), (Reg.SDM_RES 5, 0x1fffff0), (Reg.MTR_PCFG 0, 0x4020005), (Reg.MTR_PWIN 0,
         0x640005), (Reg.MTR_REV 0, 0x640003), (Reg.MTR_ISRC 0, 0x50301), (Reg.MTR_PSC_L 0 0, 0x3a800000), (Reg.MTR_PSC_L 0 1,
         0x3a800000), (Reg.MTR_PSC_L 0 2, 0x3a800000)], mtr.points := [(0, theMtrPoint2)] }
     let k : Point := 0; let a : Nat := 0x45d964b800; let t : Nat := 0x45d964b780; let t0 : Nat := 1000
     s.running = true ∧ t = s.meterInstant k a ∧ Samples s k t0 ∧ InOpenInterval s k t ∧ (s.point k).scales = [] ∧ (∀ n < 4,
         s.bit (Reg.MTR_MPO_CFG n) 0 = false) ∧ (s.pointPower k).m < 0 ∧ (s.point k).run = 0 ∧ (s.point k).sign ≠ -1 ∧
       1 < s.rf (Reg.MTR_REV k) 0 16 ∧ Reaches s Reg.MTR_SNAP) ∧
    (let s : State := { base with
       regs := [(Reg.SDM_RES 0, 0x10003e8), (Reg.SDM_RES 1, 0x10007d0), (Reg.SDM_RES 2, 0x10003e8), (Reg.SDM_RES 3,
         0x10007d0), (Reg.SDM_RES 4, 0x10003e8), (Reg.SDM_RES 5, 0x10007d0), (Reg.MTR_PCFG 0, 0x4020005), (Reg.MTR_PWIN 0,
         0x640005), (Reg.MTR_REV 0, 0x640001), (Reg.MTR_ISRC 0, 0x50301), (Reg.MTR_PSC_L 0 0, 0x3a800000), (Reg.MTR_PSC_L 0 1,
         0x3a800000), (Reg.MTR_PSC_L 0 2, 0x3a800000)], mtr.points := [(0,
         { last := some 1000, eimp := 0xffffffffffffffffffffffff, eexp := 0xfffffffffffffffffffffffb, wrapI := 65535, wrapE := 3, iimp := 7, iexp := 0xffffffffffffffffffffffff, ivl := some 15, sign := 1, run := 2, runAt := 800, snap := true })] }
     let k : Point := 0; let a : Nat := 0x45d964b800; let t : Nat := 0x45d964b780; let t0 : Nat := 1000
     s.running = true ∧ t = s.meterInstant k a ∧ Samples s k t0 ∧ InOpenInterval s k t ∧ (s.point k).scales = [] ∧ (∀ n < 4,
         s.bit (Reg.MTR_MPO_CFG n) 0 = false) ∧ 0 < (s.pointPower k).m ∧ s.bit (Reg.MTR_PCFG k) 0 = true ∧ s.cfg.pend = [] ∧
       (s.point k).snap = true) ∧
    (let s : State := { base with
       regs := [(Reg.SDM_RES 0, 0x3e8), (Reg.SDM_RES 1, 0x10007d0), (Reg.SDM_RES 2, 0x10003e8), (Reg.SDM_RES 3, 0x10007d0),
         (Reg.SDM_RES 4, 0x10003e8), (Reg.SDM_RES 5, 0x10007d0), (Reg.MTR_PCFG 0, 0x4020005), (Reg.MTR_PWIN 0, 0x640005),
         (Reg.MTR_REV 0, 0x640001), (Reg.MTR_ISRC 0, 0x50301), (Reg.MTR_PSC_L 0 0, 0x3a800000), (Reg.MTR_PSC_L 0 1,
         0x3a800000), (Reg.MTR_PSC_L 0 2, 0x3a800000)], mtr.points := [(0, theMtrPoint2)] }
     let k : Point := 0; let a : Nat := 0x45d964b800; let t : Nat := 0x45d964b780
     s.running = true ∧ t = s.meterInstant k a ∧ s.bit (Reg.MTR_PCFG k) 0 = true ∧ s.cfg.pend = [] ∧
       (s.point k).snap = false ∧ InOpenInterval s k t ∧ (s.point k).scales = [] ∧ (∃ p < s.pairsOf k, s.codesOk k p = false)) ∧
    (let s : State := { base with
       regs := [(Reg.SDM_RES 0, 0x10003e8), (Reg.SDM_RES 1, 0x10007d0), (Reg.SDM_RES 2, 0x10003e8), (Reg.SDM_RES 3,
         0x10007d0), (Reg.SDM_RES 4, 0x10003e8), (Reg.SDM_RES 5, 0x10007d0), (Reg.MTR_PCFG 0, 0x4020004), (Reg.MTR_PWIN 0,
         0x640005), (Reg.MTR_REV 0, 0x640001), (Reg.MTR_ISRC 0, 0x50301), (Reg.MTR_PSC_L 0 0, 0x3a800000), (Reg.MTR_PSC_L 0 1,
         0x3a800000), (Reg.MTR_PSC_L 0 2, 0x3a800000)], mtr.points := [(0, theMtrPoint2)] }
     let k : Point := 0; let a : Nat := 0x45d964b800; let t : Nat := 0x45d964b780
     s.running = true ∧ t = s.meterInstant k a ∧ s.bit (Reg.MTR_PCFG k) 0 = false) ∧
    (let s : State := { base with
       regs := [(Reg.SDM_RES 0, 0x1000000), (Reg.SDM_RES 1, 0x1000000), (Reg.SDM_RES 2, 0x1000000), (Reg.SDM_RES 3,
         0x1000000), (Reg.SDM_RES 4, 0x1000000), (Reg.SDM_RES 5, 0x1000000), (Reg.MTR_PCFG 0, 0x4020005), (Reg.MTR_PWIN 0,
         0x640005), (Reg.MTR_REV 0, 0x640001), (Reg.MTR_ISRC 0, 0x50301), (Reg.MTR_PSC_L 0 0, 0x3a800000), (Reg.MTR_PSC_L 0 1,
         0x3a800000), (Reg.MTR_PSC_L 0 2, 0x3a800000)], mtr.points := [(0, theMtrPoint2)] }
     let k : Point := 0; let a : Nat := 0x45d964b800; let t : Nat := 0x45d964b780; let t0 : Nat := 1000
     s.running = true ∧ t = s.meterInstant k a ∧ Samples s k t0 ∧ InOpenInterval s k t ∧ (s.point k).scales = [] ∧ (∀ n < 4,
         s.bit (Reg.MTR_MPO_CFG n) 0 = false) ∧ (s.pointPower k).m = 0) ∧
    (let s : State := { base with
       regs := [(Reg.SDM_RES 0, 0x10003e8), (Reg.SDM_RES 1, 0x1fffff0), (Reg.SDM_RES 2, 0x10003e8), (Reg.SDM_RES 3,
         0x1fffff0), (Reg.SDM_RES 4, 0x10003e8), (Reg.SDM_RES 5, 0x1fffff0), (Reg.MTR_PCFG 0, 0x4020005), (Reg.MTR_PWIN 0,
         0x640005), (Reg.MTR_REV 0, 0x640003), (Reg.MTR_ISRC 0, 0x50301), (Reg.MTR_PSC_L 0 0, 0x3a800000), (Reg.MTR_PSC_L 0 1,
         0x3a800000), (Reg.MTR_PSC_L 0 2, 0x3a800000)], mtr.points := [(0,
         { last := some 1000, eimp := 0xffffffffffffffffffffffff, eexp := 0xfffffffffffffffffffffffb, wrapI := 65535, wrapE := 3, iimp := 7, iexp := 0xffffffffffffffffffffffff, ivl := some 15, sign := 1, runSign := -1, run := 2, runAt := 800 })] }
     let k : Point := 0; let a : Nat := 0x45d964b800; let t : Nat := 0x45d964b780; let t0 : Nat := 1000
     s.running = true ∧ t = s.meterInstant k a ∧ Samples s k t0 ∧ InOpenInterval s k t ∧ (s.point k).scales = [] ∧ (∀ n < 4,
         s.bit (Reg.MTR_MPO_CFG n) 0 = false) ∧ (s.pointPower k).m < 0 ∧ (s.point k).sign = 1 ∧ 0 < (s.point k).run ∧
       (s.point k).runSign = -1 ∧ (s.point k).run + 1 = s.rf (Reg.MTR_REV k) 0 16) ∧
    (let s : State := { base with
       regs := [(Reg.SDM_RES 0, 0x10003e8), (Reg.SDM_RES 1, 0x1fffff0), (Reg.SDM_RES 2, 0x10003e8), (Reg.SDM_RES 3,
         0x1fffff0), (Reg.SDM_RES 4, 0x10003e8), (Reg.SDM_RES 5, 0x1fffff0), (Reg.MTR_PCFG 0, 0x4020005), (Reg.MTR_PWIN 0,
         0x640005), (Reg.MTR_REV 0, 0x640003), (Reg.MTR_ISRC 0, 0x50301), (Reg.MTR_PSC_L 0 0, 0x3a800000), (Reg.MTR_PSC_L 0 1,
         0x3a800000), (Reg.MTR_PSC_L 0 2, 0x3a800000)], mtr.points := [(0,
         { last := some 1000, eimp := 0xffffffffffffffffffffffff, eexp := 0xfffffffffffffffffffffffb, wrapI := 65535, wrapE := 3, iimp := 7, iexp := 0xffffffffffffffffffffffff, ivl := some 15, sign := 1, runSign := -1, run := 1, runAt := 800 })] }
     let k : Point := 0; let a : Nat := 0x45d964b800; let t : Nat := 0x45d964b780; let t0 : Nat := 1000
     s.running = true ∧ t = s.meterInstant k a ∧ Samples s k t0 ∧ InOpenInterval s k t ∧ (s.point k).scales = [] ∧ (∀ n < 4,
         s.bit (Reg.MTR_MPO_CFG n) 0 = false) ∧ (s.pointPower k).m < 0 ∧ (s.point k).sign = 1 ∧ 0 < (s.point k).run ∧
       (s.point k).runSign = -1 ∧ (s.point k).run + 1 < s.rf (Reg.MTR_REV k) 0 16) ∧
    (let s : State := { base with
       regs := [(Reg.SDM_RES 0, 0x10003e8), (Reg.SDM_RES 1, 0x10007d0), (Reg.SDM_RES 2, 0x10003e8), (Reg.SDM_RES 3,
         0x10007d0), (Reg.SDM_RES 4, 0x10003e8), (Reg.SDM_RES 5, 0x10007d0), (Reg.MTR_PCFG 0, 0x4020005), (Reg.MTR_PWIN 0,
         0x640005), (Reg.MTR_REV 0, 0x640001), (Reg.MTR_ISRC 0, 0x50301), (Reg.MTR_PSC_L 0 0, 0x3a800000), (Reg.MTR_PSC_L 0 1,
         0x3a800000), (Reg.MTR_PSC_L 0 2, 0x3a800000)], mtr.points := [(0,
         { last := some 1000, eimp := 0xffffffffffffffffffffffff, eexp := 0xfffffffffffffffffffffffb, wrapI := 65535, wrapE := 3, iimp := 7, iexp := 0xffffffffffffffffffffffff, ivl := some 15, sign := 1, run := 2, runAt := 800, scales := [(0x45d964b780, [0x3b000000, 0x3b000000, 0x3b000000])] })] }
     let k : Point := 0; let a : Nat := 0x45d964b800; let t : Nat := 0x45d964b780; let t0 : Nat := 1000
     let l : List Word := [0x3b000000, 0x3b000000, 0x3b000000]
     s.running = true ∧ t = s.meterInstant k a ∧ Samples s k t0 ∧ InOpenInterval s k t ∧ (∀ n < 4,
         s.bit (Reg.MTR_MPO_CFG n) 0 = false) ∧ 0 < ((s.setScales k l).pointPower k).m ∧ (∃ x ∈ (s.point k).scales, t ≤ x.1 ∧
       (s.point k).scales = [(x.1, l)])) := by
  refine ⟨?_, ?_, ?_, ?_, ?_, ?_, ?_, ?_⟩ <;> decide +kernel

theorem witness_EnergyAndIntervals_2 :
    (let s : State := { base with
       regs := [(Reg.SDM_RES 1, 0x1000000), (Reg.SDM_RES 2, 0x1000000), (Reg.SDM_RES 3, 0x1000000), (Reg.SDM_RES 4,
         0x1000000), (Reg.SDM_RES 5, 0x1000000), (Reg.MTR_PCFG 0, 0x4020005), (Reg.MTR_PWIN 0, 0x640005), (Reg.MTR_ISRC 0,
         0x50301)], mtr.points := [(0, theMtrPoint)] }
     let k : Point := 0; let a : Nat := 0x482d709c00; let b : Nat := 15
     s.running = true ∧ s.bit (Reg.MTR_PCFG k) 0 = true ∧ b = s.intervalAt k (s.meterInstant k a / 20000000000) ∧ (∃ i < b,
         (s.point k).ivl = some i) ∧ bufEntries (s.hq.buf.at 2 []) ≤ 253 ∧ (∃ p < s.pairsOf k, s.codesOk k p = false) ∧
       s.cfg.pend = [] ∧ (s.point k).scales = [] ∧ (s.point k).snap = false ∧
       (s.bit (Reg.MTR_PCFG k) 1 = false ∨ (s.point k).absent = true)) ∧
    (let s : State := { base with
       regs := [(Reg.SDM_RES 0, 0x1000000), (Reg.SDM_RES 1, 0x1000000), (Reg.SDM_RES 2, 0x1000000), (Reg.SDM_RES 3,
         0x1000000), (Reg.SDM_RES 4, 0x1000000), (Reg.SDM_RES 5, 0x1000000), (Reg.MTR_PCFG 0, 0x4020007), (Reg.MTR_PWIN 0,
         0x640005), (Reg.MTR_ISRC 0, 0x50301)], mtr.points := [(0, theMtrPoint)] }
     let k : Point := 0; let b : Nat := 0
     s.running = true ∧ s.bit (Reg.MTR_PCFG k) 0 = true ∧ b = s.intervalAt k s.tim.s ∧
       (s.point k).ivl.any (fun i => decide (b ≤ i)) = true ∧ s.bit (Reg.MTR_PCFG k) 1 = true ∧ (s.point k).absent = false) ∧
    (let s : State := { base with
       regs := [(Reg.SDM_RES 0, 0x1000000), (Reg.SDM_RES 1, 0x1000000), (Reg.SDM_RES 2, 0x1000000), (Reg.SDM_RES 3,
         0x1000000), (Reg.SDM_RES 4, 0x1000000), (Reg.SDM_RES 5, 0x1000000), (Reg.MTR_PCFG 0, 0x4020004), (Reg.MTR_PWIN 0,
         0x640005), (Reg.MTR_ISRC 0, 0x50301)], mtr.points := [(0, theMtrPoint)] }
     let k : Point := 0; s.running = true ∧ s.bit (Reg.MTR_PCFG k) 0 = false) ∧
    (let s : State := { base with
       regs := [(Reg.SDM_RES 0, 0x1000000), (Reg.SDM_RES 1, 0x1000000), (Reg.SDM_RES 2, 0x1000000), (Reg.SDM_RES 3,
         0x1000000), (Reg.SDM_RES 4, 0x1000000), (Reg.SDM_RES 5, 0x1000000), (Reg.MTR_PCFG 0, 0x4020005), (Reg.MTR_PWIN 0,
         0x640005), (Reg.MTR_ISRC 0, 0x50301)], tim.s := 17, mtr.points := [(0, theMtrPoint)] }
     let k : Point := 0; let b : Nat := 15
     s.running = true ∧ s.bit (Reg.MTR_PCFG k) 0 = true ∧ b = s.intervalAt k s.tim.s ∧
       (s.point k).ivl.any (fun i => decide (b ≤ i)) = false ∧ (s.point k).due = false ∧ s.sampleDue k = true) ∧
    (let s : State := { base with
       regs := [(Reg.SDM_RES 0, 0x1000000), (Reg.SDM_RES 1, 0x1000000), (Reg.SDM_RES 2, 0x1000000), (Reg.SDM_RES 3,
         0x1000000), (Reg.SDM_RES 4, 0x1000000), (Reg.SDM_RES 5, 0x1000000), (Reg.MTR_PCFG 0, 0x4020001), (Reg.MTR_PWIN 0,
         0x640005), (Reg.MTR_ISRC 0, 0x50301)], tim.s := 17, mtr.points := [(0, theMtrPoint)] }
     let k : Point := 0; let b : Nat := 15
     s.running = true ∧ s.bit (Reg.MTR_PCFG k) 0 = true ∧ b = s.intervalAt k s.tim.s ∧
       (s.point k).ivl.any (fun i => decide (b ≤ i)) = false ∧ (s.point k).due = false ∧ s.sampleDue k = false ∧
       bufEntries (s.hq.buf.at 2 []) ≤ 253) := by
  refine ⟨?_, ?_, ?_, ?_, ?_⟩ <;> decide +kernel

theorem witness_PulsesAndLinkQuantities_1 :
    (let s : State := { base with
       regs := [(Reg.SDM_CFG 1, 0x714), (Reg.SDM_RES 0, 0x10186a0), (Reg.SDM_RES 1, 0x1030d40), (Reg.SDM_RES 2, 0x10186a0),
         (Reg.SDM_RES 3, 0x1030d40), (Reg.SDM_RES 4, 0x10186a0), (Reg.SDM_RES 5, 0x1030d40), (Reg.MTR_PCFG 0, 0x4020005),
         (Reg.MTR_ISRC 0, 0x50301), (Reg.MTR_PSC_L 0 0, 0x3a800000), (Reg.MTR_PSC_L 0 1, 0x3a800000), (Reg.MTR_PSC_L 0 2,
         0x3a800000), (Reg.MTR_MPO_CFG 0, 0x501), (Reg.MTR_MPO_W 0, 1)], mtr.points := [(0,
         { last := some 1000, ivl := some 0x1000 })], mtr.mpo := [(0, { acc := 5 })] }
     let k : Point := 0; let n : Fin 4 := 0; let a : Nat := 0x1312d00; let t : Nat := 19999872; let t0 : Nat := 1000
     let m : Nat := 19530
     s.running = true ∧ t = s.meterInstant k a ∧ Samples s k t0 ∧ InOpenInterval s k t ∧ (s.point k).scales = [] ∧
       PulsesOnly s n ∧ 0 < (s.pointPower k).m ∧ s.bit (Reg.MTR_MPO_CFG n) 0 = true ∧ s.rf (Reg.MTR_MPO_CFG n) 1 2 = k ∧
       s.bit (Reg.MTR_MPO_CFG n) 3 = false ∧ 0 < s.rn (Reg.MTR_MPO_W n) ∧
       m = ((s.mpo n).acc + sampleEnergy s k t t0) / (s.rn (Reg.MTR_MPO_W n) * 2 ^ 40) ∧ (s.mpo n).pulse = none) ∧
    (let s : State := { base with
       regs := [(Reg.SDM_CFG 1, 0x714), (Reg.SDM_RES 0, 0x10186a0), (Reg.SDM_RES 1, 0x1030d40), (Reg.SDM_RES 2, 0x10186a0),
         (Reg.SDM_RES 3, 0x1030d40), (Reg.SDM_RES 4, 0x10186a0), (Reg.SDM_RES 5, 0x1030d40), (Reg.MTR_PCFG 0, 0x4020005),
         (Reg.MTR_ISRC 0, 0x50301), (Reg.MTR_PSC_L 0 0, 0x3a800000), (Reg.MTR_PSC_L 0 1, 0x3a800000), (Reg.MTR_PSC_L 0 2,
         0x3a800000), (Reg.MTR_MPO_CFG 0, 0x501), (Reg.MTR_MPO_W 0, 1)], mtr.points := [(0,
         { last := some 1000, ivl := some 0x1000 })], mtr.mpo := [(0,
         { backlog := 3, count := 4294967295, pulse := some (5, false) })] }
     let k : Point := 0; let n : Fin 4 := 0; let a : Nat := 0x1312d00; let t : Nat := 19999872
     s.running = true ∧ t = s.meterInstant k a ∧ (∃ y ∈ (s.mpo n).pulse, True)) ∧
    (let s : State := { base with
       regs := [(Reg.SDM_CFG 1, 0x714), (Reg.SDM_RES 0, 0x10186a0), (Reg.SDM_RES 1, 0x1030d40), (Reg.SDM_RES 2, 0x10186a0),
         (Reg.SDM_RES 3, 0x1030d40), (Reg.SDM_RES 4, 0x10186a0), (Reg.SDM_RES 5, 0x1030d40), (Reg.MTR_PCFG 0, 0x4020005),
         (Reg.MTR_ISRC 0, 0x50301), (Reg.MTR_PSC_L 0 0, 0x3a800000), (Reg.MTR_PSC_L 0 1, 0x3a800000), (Reg.MTR_PSC_L 0 2,
         0x3a800000), (Reg.MTR_MPO_CFG 0, 0x501), (Reg.MTR_MPO_W 0, 1)], mtr.points := [(0,
         { last := some 1000, ivl := some 0x1000 })], mtr.mpo := [(0,
         { acc := 0x20000000000, backlog := 65534, count := 4294967295, pulse := some (5, true) })] }
     let k : Point := 0; let n : Fin 4 := 0; let a : Nat := 0x1312d00; let t : Nat := 19999872
     s.running = true ∧ t = s.meterInstant k a ∧ (∃ y ∈ (s.mpo n).pulse, True)) := by
  refine ⟨?_, ?_, ?_⟩ <;> decide +kernel

theorem witness_PulsesAndLinkQuantities_2 :
    (let s : State := { base with
       regs := [(Reg.MTR_MPI_CFG 0, 0), (Reg.MTR_MPI_W 0, 0), (Reg.MTR_MPI_CHK 0, 15)], mtr.points := [(0,
         { eimp := 0x1000000000000000, eexp := 0x4000000000000 }), (3, { eimp := 0x200000000000 })], mtr.mpi := [(0,
         { count := 5, base := 3, baseE := 100 })] }
     let n : Fin 4 := 0; let level : Bool := false
     s.running = true ∧ (s.bit (Reg.MTR_MPI_CFG n) 0 = false ∨ level = s.bit (Reg.MTR_MPI_CFG n) 1) ∧
       s.bit (Reg.MTR_MPI_CFG n) 5 = false) ∧
    (let s : State := { base with
       regs := [(Reg.MTR_MPI_CFG 0, 3), (Reg.MTR_MPI_W 0, 0), (Reg.MTR_MPI_CHK 0, 15)], mtr.points := [(0,
         { eimp := 0x1000000000000000, eexp := 0x4000000000000 }), (3, { eimp := 0x200000000000 })], mtr.mpi := [(0,
         { count := 5, base := 3, baseE := 100 })] }
     let n : Fin 4 := 0; let level : Bool := false
     s.running = true ∧ s.bit (Reg.MTR_MPI_CFG n) 0 = true ∧ level = !s.bit (Reg.MTR_MPI_CFG n) 1) ∧
    (let s : State := { base with
       regs := [(Reg.MTR_MPI_CFG 0, 33), (Reg.MTR_MPI_W 0, 0), (Reg.MTR_MPI_CHK 0, 15)], mtr.points := [(0,
         { eimp := 0x1000000000000000, eexp := 0x4000000000000 }), (3, { eimp := 0x200000000000 })], mtr.mpi := [(0,
         { count := 5, base := 3, baseE := 100 })] }
     let n : Fin 4 := 0; let ext : Nat := 0; let int : Nat := 268435356
     s.running = true ∧ s.bit (Reg.MTR_MPI_CFG n) 5 = true ∧
       ext = ((s.mpi n).count + 4294967296 - (s.mpi n).base) % 4294967296 * s.rn (Reg.MTR_MPI_W n) ∧
       int = (s.mpiEnergy n + 2 ^ 64 - (s.mpi n).baseE) % 2 ^ 64) := by
  refine ⟨?_, ?_, ?_⟩ <;> decide +kernel

theorem witness_PulsesAndLinkQuantities_3 :
    (let s : State := base; let c : Cell := 0; s.running = true ∧ s.populated c = false) ∧
    (let s : State := { base with
       cfg.pop := 16777215, cfg.routes := [{ engine := 0, off := 0, src := .sd 0 0x3a800000 },
         { engine := 0, off := 4, src := .sd 2 0x3a800000 }] }
     let c : Cell := 0; s.running = true ∧ s.populated c = true ∧ s.bit (Reg.SDM_RES (3 * c + 2)) 24 = false) ∧
    (let s : State := { base with
       regs := [(Reg.SDM_RES 2, 0x1000000)], cfg.pop := 16777215,
       cfg.routes := [{ engine := 0, off := 0, src := .sd 0 0x3a800000 },
         { engine := 0, off := 4, src := .sd 2 0x3a800000 }] }
     let c : Cell := 0; s.running = true ∧ s.populated c = true ∧ s.bit (Reg.SDM_RES (3 * c + 2)) 24 = true) := by
  refine ⟨?_, ?_, ?_⟩ <;> decide +kernel

theorem witness_SaveAndRestore :
    (let s : State := { base with
       regs := [(Reg.PAR_STAT, 1)], keys.slots := [(0, { key := some 40531, age := 64 })], mtr.slot := 0x1000 }
     let src : Src := .pcie
     s.running = true ∧ (s.pairState ≠ 3 ∨ s.mtr.save.isSome = true) ∧ s.mtr.save = none ∧ KeyPasses s src Reg.MTR_CTRL ∧
       s.mtr.loading = false ∧ s.bit Reg.MTR_STAT 9 = false ∧ recordOk s.restoreBytes = false) ∧
    (let s : State := { base with regs := [(Reg.PAR_STAT, 3)], mtr.slot := 0x1000 }
     s.running = true ∧ s.pairState = 3 ∧ s.mtr.save = none) ∧
    (let s : State := { base with regs := [(Reg.PAR_STAT, 1)], mtr.slot := 0x1000, mtr.loading := true }
     let l : List (List Byte) := []; s.running = true ∧ s.mtr.loading = true ∧ newestRecord l = none) ∧
    (let s : State := { base with
       regs := [(Reg.PAR_STAT, 1)], mtr.slot := 0x1000, mtr.save := some (15, (List.range 64).map (BitVec.ofNat 32)) }
     let slot : Nat := 15; let w : List Word := (List.range 64).map (BitVec.ofNat 32)
     s.running = true ∧ s.mtr.save = some (slot, w)) ∧
    (let s : State := { base with
       regs := [(Reg.PAR_STAT, 1), (Reg.MTR_STAT, 512)], keys.slots := [(0, { key := some 40531, age := 64 })],
       mtr.slot := 0x1000 }
     let src : Src := .pcie; s.running = true ∧ KeyPasses s src Reg.MTR_CTRL ∧ s.bit Reg.MTR_STAT 9 = true) ∧
    (let s : State := { base with
       regs := [(Reg.PAR_STAT, 1), (Reg.MTR_RREC 0, 0x5352544d), (Reg.MTR_RREC 1, 256), (Reg.MTR_RREC 2, 9), (Reg.MTR_RREC 3,
         0x3020100), (Reg.MTR_RREC 4, 0x7060504), (Reg.MTR_RREC 5, 0xb0a0908), (Reg.MTR_RREC 6, 0xf0e0d0c), (Reg.MTR_RREC 7,
         0x13121110), (Reg.MTR_RREC 8, 0x17161514), (Reg.MTR_RREC 9, 0x1b1a1918), (Reg.MTR_RREC 10, 0x1f1e1d1c),
         (Reg.MTR_RREC 11, 0x23222120), (Reg.MTR_RREC 12, 0x27262524), (Reg.MTR_RREC 13, 0x2b2a2928), (Reg.MTR_RREC 14,
         0x2f2e2d2c), (Reg.MTR_RREC 15, 0x33323130), (Reg.MTR_RREC 16, 0x37363534), (Reg.MTR_RREC 17, 0x3b3a3938),
         (Reg.MTR_RREC 18, 0x3f3e3d3c), (Reg.MTR_RREC 19, 0x43424140), (Reg.MTR_RREC 20, 0x47464544), (Reg.MTR_RREC 21,
         0x4b4a4948), (Reg.MTR_RREC 22, 0x4f4e4d4c), (Reg.MTR_RREC 23, 0x53525150), (Reg.MTR_RREC 24, 0x57565554),
         (Reg.MTR_RREC 25, 0x5b5a5958), (Reg.MTR_RREC 26, 0x5f5e5d5c), (Reg.MTR_RREC 27, 0x63626160), (Reg.MTR_RREC 28,
         0x67666564), (Reg.MTR_RREC 29, 0x6b6a6968), (Reg.MTR_RREC 30, 0x6f6e6d6c), (Reg.MTR_RREC 31, 0x73727170),
         (Reg.MTR_RREC 32, 0x77767574), (Reg.MTR_RREC 33, 0x7b7a7978), (Reg.MTR_RREC 34, 0x7f7e7d7c), (Reg.MTR_RREC 35,
         0x83828180), (Reg.MTR_RREC 36, 0x87868584), (Reg.MTR_RREC 37, 0x8b8a8988), (Reg.MTR_RREC 38, 0x8f8e8d8c),
         (Reg.MTR_RREC 39, 0x93929190), (Reg.MTR_RREC 40, 0x97969594), (Reg.MTR_RREC 41, 0x9b9a9998), (Reg.MTR_RREC 42,
         0x9f9e9d9c), (Reg.MTR_RREC 43, 0xa3a2a1a0), (Reg.MTR_RREC 44, 0xa7a6a5a4), (Reg.MTR_RREC 45, 0xabaaa9a8),
         (Reg.MTR_RREC 46, 0xafaeadac), (Reg.MTR_RREC 47, 0xb3b2b1b0), (Reg.MTR_RREC 48, 0xb7b6b5b4), (Reg.MTR_RREC 49,
         0xbbbab9b8), (Reg.MTR_RREC 50, 0xbfbebdbc), (Reg.MTR_RREC 51, 0xc3c2c1c0), (Reg.MTR_RREC 52, 0xc7c6c5c4),
         (Reg.MTR_RREC 53, 0xcbcac9c8), (Reg.MTR_RREC 54, 0xcfcecdcc), (Reg.MTR_RREC 55, 0xd3d2d1d0), (Reg.MTR_RREC 56,
         0xd7d6d5d4), (Reg.MTR_RREC 57, 0xdbdad9d8), (Reg.MTR_RREC 58, 0xdfdedddc), (Reg.MTR_RREC 59, 0xe3e2e1e0),
         (Reg.MTR_RREC 60, 0xe7e6e5e4), (Reg.MTR_RREC 61, 0xebeae9e8), (Reg.MTR_RREC 62, 0xefeeedec), (Reg.MTR_RREC 63,
         0x4a4b904a)], keys.slots := [(0, { key := some 40531, age := 64 })], mtr.slot := 0x1000 }
     let src : Src := .pcie
     s.running = true ∧ KeyPasses s src Reg.MTR_CTRL ∧ s.bit Reg.MTR_STAT 9 = false ∧ recordOk s.restoreBytes = true) ∧
    (let s : State := { base with regs := [(Reg.PAR_STAT, 1)], mtr.slot := 0x1000, mtr.loading := true }
     let l : List (List Byte) := [[77, 84, 82, 83, 0, 1, 0, 0, 5, 0, 0, 0, 0, 1, 2, 3, 4, 5, 6, 7, 8, 9, 10, 11, 12, 13, 14,
         15, 16, 17, 18, 19, 20, 21, 22, 23, 24, 25, 26, 27, 28, 29, 30, 31, 32, 33, 34, 35, 36, 37, 38, 39, 40, 41, 42, 43,
         44, 45, 46, 47, 48, 49, 50, 51, 52, 53, 54, 55, 56, 57, 58, 59, 60, 61, 62, 63, 64, 65, 66, 67, 68, 69, 70, 71, 72,
         73, 74, 75, 76, 77, 78, 79, 80, 81, 82, 83, 84, 85, 86, 87, 88, 89, 90, 91, 92, 93, 94, 95, 96, 97, 98, 99, 100, 101,
         102, 103, 104, 105, 106, 107, 108, 109, 110, 111, 112, 113, 114, 115, 116, 117, 118, 119, 120, 121, 122, 123, 124,
         125, 126, 127, 128, 129, 130, 131, 132, 133, 134, 135, 136, 137, 138, 139, 140, 141, 142, 143, 144, 145, 146, 147,
         148, 149, 150, 151, 152, 153, 154, 155, 156, 157, 158, 159, 160, 161, 162, 163, 164, 165, 166, 167, 168, 169, 170,
         171, 172, 173, 174, 175, 176, 177, 178, 179, 180, 181, 182, 183, 184, 185, 186, 187, 188, 189, 190, 191, 192, 193,
         194, 195, 196, 197, 198, 199, 200, 201, 202, 203, 204, 205, 206, 207, 208, 209, 210, 211, 212, 213, 214, 215, 216,
         217, 218, 219, 220, 221, 222, 223, 224, 225, 226, 227, 228, 229, 230, 231, 232, 233, 234, 235, 236, 237, 238, 239,
         27, 167, 249, 48], [77, 84, 82, 83, 0, 1, 0, 0, 7, 0, 0, 0, 0, 1, 2, 3, 4, 5, 6, 7, 8, 9, 10, 11, 12, 13, 14, 15, 16,
         17, 18, 19, 20, 21, 22, 23, 24, 25, 26, 27, 28, 29, 30, 31, 32, 33, 34, 35, 36, 37, 38, 39, 40, 41, 42, 43, 44, 45,
         46, 47, 48, 49, 50, 51, 52, 53, 54, 55, 56, 57, 58, 59, 60, 61, 62, 63, 64, 65, 66, 67, 68, 69, 70, 71, 72, 73, 74,
         75, 76, 77, 78, 79, 80, 81, 82, 83, 84, 85, 86, 87, 88, 89, 90, 91, 92, 93, 94, 95, 96, 97, 98, 99, 100, 101, 102,
         103, 104, 105, 106, 107, 108, 109, 110, 111, 112, 113, 114, 115, 116, 117, 118, 119, 120, 121, 122, 123, 124, 125,
         126, 127, 128, 129, 130, 131, 132, 133, 134, 135, 136, 137, 138, 139, 140, 141, 142, 143, 144, 145, 146, 147, 148,
         149, 150, 151, 152, 153, 154, 155, 156, 157, 158, 159, 160, 161, 162, 163, 164, 165, 166, 167, 168, 169, 170, 171,
         172, 173, 174, 175, 176, 177, 178, 179, 180, 181, 182, 183, 184, 185, 186, 187, 188, 189, 190, 191, 192, 193, 194,
         195, 196, 197, 198, 199, 200, 201, 202, 203, 204, 205, 206, 207, 208, 209, 210, 211, 212, 213, 214, 215, 216, 217,
         218, 219, 220, 221, 222, 223, 224, 225, 226, 227, 228, 229, 230, 231, 232, 233, 234, 235, 236, 237, 238, 239, 99, 47,
         89, 127]]
     s.running = true ∧ s.mtr.loading = true ∧ (∃ r ∈ newestRecord l, True)) := by
  refine ⟨?_, ?_, ?_, ?_, ?_, ?_, ?_⟩ <;> decide +kernel

theorem witness_MemoryFillAndHostWrites :
    (let s : State := { base with
       regs := [(Reg.GLB_STAT, 3), (Reg.MEM_STAT, 1)], mem := [(1, 1), (2, 2), (3, 3), (4, 4), (5, 5), (6, 6), (7, 7), (8, 8),
         (9, 9), (10, 10), (11, 11), (12, 12), (13, 13), (14, 14), (15, 15), (16, 16), (17, 17), (18, 18), (19, 19), (20, 20),
         (21, 21), (22, 22), (23, 23), (24, 24), (25, 25), (26, 26), (27, 27), (28, 28), (29, 29), (30, 30), (31, 31), (32,
         32), (33, 33), (34, 34), (35, 35), (36, 36), (37, 37), (38, 38), (39, 39)], keys.slots := [(0,
         { key := some 59332, age := 64 })] }
     let off : Nat := 0; let err : Fin 3 := 0; let src : Src := .pcie; let en : Bool := true
     s.running = true ∧ s.bit Reg.MEM_STAT 0 = true ∧ region off ≠ 0 ∧ s.bit Reg.MEM_STAT 2 = false ∧ s.memi.raw = [] ∧
       err.val = 0 ∧ KeyPasses s src Reg.MEM_TEST ∧ s.bit Reg.MEM_STAT 2 = !en ∧ (en = true → s.halted = true)) ∧
    (let s : State := { base with
       regs := [(Reg.GLB_STAT, 7), (Reg.MEM_STAT, 4)], mem := [(1, 1), (2, 2), (3, 3), (4, 4), (5, 5), (6, 6), (7, 7), (8, 8),
         (9, 9), (10, 10), (11, 11), (12, 12), (13, 13), (14, 14), (15, 15), (16, 16), (17, 17), (18, 18), (19, 19), (20, 20),
         (21, 21), (22, 22), (23, 23), (24, 24), (25, 25), (26, 26), (27, 27), (28, 28), (29, 29), (30, 30), (31, 31), (32,
         32), (33, 33), (34, 34), (35, 35), (36, 36), (37, 37), (38, 38), (39, 39)], keys.slots := [(0,
         { key := some 59332, age := 64 })] }
     s.running = true ∧ s.bit Reg.MEM_STAT 0 = false ∧ s.memi.held = []) ∧
    (let s : State := { base with
       regs := [(Reg.GLB_STAT, 7), (Reg.MEM_STAT, 1)], mem := [(1, 1), (2, 2), (3, 3), (4, 4), (5, 5), (6, 6), (7, 7), (8, 8),
         (9, 9), (10, 10), (11, 11), (12, 12), (13, 13), (14, 14), (15, 15), (16, 16), (17, 17), (18, 18), (19, 19), (20, 20),
         (21, 21), (22, 22), (23, 23), (24, 24), (25, 25), (26, 26), (27, 27), (28, 28), (29, 29), (30, 30), (31, 31), (32,
         32), (33, 33), (34, 34), (35, 35), (36, 36), (37, 37), (38, 38), (39, 39)], keys.slots := [(0,
         { key := some 59332, age := 64 })] }
     let off : Nat := 0; let l : List Byte := [1, 2, 3]; let err : Fin 3 := 2
     s.running = true ∧ s.bit Reg.MEM_STAT 0 = true ∧ 0 < l.length ∧ (region off = 1 ∨ ((region off = 2 ∨ region off = 4) ∧
       s.halted = true)) ∧ s.bit Reg.MEM_STAT 2 = false ∧ err.val = 2 ∧ ¬ (off % 8 = 0 ∧ l.length = 8) ∧ region off ≠ 0 ∧
       s.memi.raw = []) ∧
    (let s : State := { base with
       regs := [(Reg.GLB_STAT, 7), (Reg.MEM_STAT, 5)], mem := [(1, 1), (2, 2), (3, 3), (4, 4), (5, 5), (6, 6), (7, 7), (8, 8),
         (9, 9), (10, 10), (11, 11), (12, 12), (13, 13), (14, 14), (15, 15), (16, 16), (17, 17), (18, 18), (19, 19), (20, 20),
         (21, 21), (22, 22), (23, 23), (24, 24), (25, 25), (26, 26), (27, 27), (28, 28), (29, 29), (30, 30), (31, 31), (32,
         32), (33, 33), (34, 34), (35, 35), (36, 36), (37, 37), (38, 38), (39, 39)], keys.slots := [(0,
         { key := some 59332, age := 64 })] }
     let off : Nat := 0x900000; let l : List Byte := [1, 2, 3]
     s.running = true ∧ s.bit Reg.MEM_STAT 0 = true ∧ 0 < l.length ∧ region off = 0) ∧
    (let s : State := { base with
       regs := [(Reg.GLB_STAT, 7), (Reg.MEM_STAT, 1)], mem := [(1, 1), (2, 2), (3, 3), (4, 4), (5, 5), (6, 6), (7, 7), (8, 8),
         (9, 9), (10, 10), (11, 11), (12, 12), (13, 13), (14, 14), (15, 15), (16, 16), (17, 17), (18, 18), (19, 19), (20, 20),
         (21, 21), (22, 22), (23, 23), (24, 24), (25, 25), (26, 26), (27, 27), (28, 28), (29, 29), (30, 30), (31, 31), (32,
         32), (33, 33), (34, 34), (35, 35), (36, 36), (37, 37), (38, 38), (39, 39)], keys.slots := [(0,
         { key := some 59332, age := 64 })] }
     let off : Nat := 0; let l : List Byte := [1, 2, 3]; let err : Fin 3 := 0
     s.running = true ∧ s.bit Reg.MEM_STAT 0 = true ∧ 0 < l.length ∧ (region off = 1 ∨ ((region off = 2 ∨ region off = 4) ∧
       s.halted = true)) ∧ s.bit Reg.MEM_STAT 2 = false ∧ ((off % 8 = 0 ∧ l.length = 8) ∨ (err.val < 2 ∧ s.memi.raw = []))) ∧
    (let s : State := { base with
       regs := [(Reg.GLB_STAT, 7), (Reg.MEM_STAT, 5)], mem := [(1, 1), (2, 2), (3, 3), (4, 4), (5, 5), (6, 6), (7, 7), (8, 8),
         (9, 9), (10, 10), (11, 11), (12, 12), (13, 13), (14, 14), (15, 15), (16, 16), (17, 17), (18, 18), (19, 19), (20, 20),
         (21, 21), (22, 22), (23, 23), (24, 24), (25, 25), (26, 26), (27, 27), (28, 28), (29, 29), (30, 30), (31, 31), (32,
         32), (33, 33), (34, 34), (35, 35), (36, 36), (37, 37), (38, 38), (39, 39)], keys.slots := [(0,
         { key := some 59332, age := 64 })] }
     let off : Nat := 0x300000; let l : List Byte := [1, 2, 3]
     s.running = true ∧ s.bit Reg.MEM_STAT 0 = true ∧ 0 < l.length ∧ (region off = 3 ∨ (2 ≤ region off ∧ s.halted = false))) := by
  refine ⟨?_, ?_, ?_, ?_, ?_, ?_⟩ <;> decide +kernel

theorem witness_ErrorsAndScrubbing_1 :
    (let s : State := { base with memi.serial := 7 }; let reader : Fin 15 := 0; let w : Fin 2097152 := 0
     let v : Word := 0; let i : Nat := 0
     s.running = true ∧ reader.val < 8 ∧ s.bit Reg.GPR_PSTAT 0 = false ∧ (reader.val ≠ 9 ∨ s.scrubbing = false) ∧
       s.memi.queue.length ≤ 8 ∧ s.memi.log.length = 16 ∧ s.memi.queue = [] ∧ entryOf s.memi.log w = none ∧
       victim s.memi.log = some i ∧ s.rf Reg.MEM_CFG 0 4 ≠ 1 ∧ Reaches s Reg.MEM_LOGCLR ∧ fld v 0 1 = 0) ∧
    (let s : State := { base with memi.serial := 7 }; let v : Word := 1
     s.running = true ∧ Reaches s Reg.MEM_LOGCLR ∧ fld v 0 1 = 1 ∧ s.memi.log.length = 16) ∧
    (let s : State := { base with memi.serial := 7 }; let reader : Fin 15 := 8
     s.running = true ∧ 8 ≤ reader.val ∧ reader.val ≠ 12) ∧
    (let s : State := { base with
       memi.log := [some { addr := 0, count := 3 }] ++ List.replicate 15 none, memi.serial := 7 }
     let reader : Fin 15 := 0; let w : Fin 2097152 := 0; let i : Nat := 0; let e : LogEntry := { addr := 0, count := 3 }
     s.running = true ∧ (reader.val ≠ 9 ∨ s.scrubbing = false) ∧ s.memi.log.length = 16 ∧ s.memi.queue = [] ∧
       entryOf s.memi.log w = some (i, e) ∧ e.count < 15 ∧ e.rewritten = false ∧ e.count + 1 ≠ s.rf Reg.MEM_CFG 0 4) ∧
    (let s : State := { base with
       regs := [(Reg.MEM_CFG, 4)], memi.log := [some { addr := 0, count := 3 }] ++ List.replicate 15 none, memi.serial := 7 }
     let reader : Fin 15 := 0; let w : Fin 2097152 := 0; let i : Nat := 0; let e : LogEntry := { addr := 0, count := 3 }
     s.running = true ∧ (reader.val ≠ 9 ∨ s.scrubbing = false) ∧ s.memi.log.length = 16 ∧ s.memi.queue = [] ∧
       entryOf s.memi.log w = some (i, e) ∧ e.count < 15 ∧ e.rewritten = false ∧ e.count + 1 = s.rf Reg.MEM_CFG 0 4) ∧
    (let s : State := { base with
       memi.log := [some { addr := 0, count := 3, rewritten := true }] ++ List.replicate 15 none, memi.serial := 7 }
     let reader : Fin 15 := 0; let w : Fin 2097152 := 0; let i : Nat := 0
     let e : LogEntry := { addr := 0, count := 3, rewritten := true }
     s.running = true ∧ (reader.val ≠ 9 ∨ s.scrubbing = false) ∧ s.memi.log.length = 16 ∧ s.memi.queue = [] ∧
       entryOf s.memi.log w = some (i, e) ∧ e.rewritten = true ∧ e.pers = false ∧ min (e.count + 1) 15 ≠ s.rf Reg.MEM_CFG 0 4) ∧
    (let s : State := { base with
       memi.log := [some { addr := 100, count := 3, pers := true }, some { addr := 101, count := 3, pers := true },
         some { addr := 102, count := 3, pers := true }, some { addr := 103, count := 3, pers := true },
         some { addr := 104, count := 3, pers := true }, some { addr := 105, count := 3, pers := true },
         some { addr := 106, count := 3, pers := true }, some { addr := 107, count := 3, pers := true },
         some { addr := 108, count := 3, pers := true }, some { addr := 109, count := 3, pers := true },
         some { addr := 110, count := 3, pers := true }, some { addr := 111, count := 3, pers := true },
         some { addr := 112, count := 3, pers := true }, some { addr := 113, count := 3, pers := true },
         some { addr := 114, count := 3, pers := true }, some { addr := 115, count := 3, pers := true }], memi.serial := 7 }
     let reader : Fin 15 := 0; let w : Fin 2097152 := 0
     s.running = true ∧ (reader.val ≠ 9 ∨ s.scrubbing = false) ∧ s.memi.log.length = 16 ∧ s.memi.queue = [] ∧
       entryOf s.memi.log w = none ∧ victim s.memi.log = none ∧ s.bit Reg.MEM_FLAGS 4 = false) := by
  refine ⟨?_, ?_, ?_, ?_, ?_, ?_, ?_⟩ <;> decide +kernel

theorem witness_ErrorsAndScrubbing_2 :
    (let s : State := { base with
       regs := [(Reg.GLB_STAT, 6), (Reg.MEM_STAT, 7)], keys.slots := [(2, { key := some 59332, age := 64 })] }
     let src : Src := .list; let en : Bool := true; let last : Fin 2097152 := 0; let l : List Byte := [1, 2, 3]
     s.running = true ∧ Reaches s Reg.MEM_SCRUB_CTL ∧ s.scrubbing = true ∧ s.memi.raw = [] ∧ s.memi.scrubNext ≤ last.val ∧
       KeyPasses s src Reg.MEM_TEST ∧ (en = false ∨ s.halted = true) ∧ s.bit Reg.MEM_STAT 2 = en ∧
       s.bit Reg.MEM_STAT 0 = true ∧ s.bit Reg.MEM_STAT 2 = true ∧ s.halted = true ∧ region (8 * last.val) ∈ [1, 2, 4] ∧
       0 < l.length ∧ l.length ≠ 8) ∧
    (let s : State := { base with
       regs := [(Reg.GLB_STAT, 6), (Reg.MEM_STAT, 5)], keys.slots := [(2, { key := some 59332, age := 64 })] }
     s.running = true ∧ Reaches s Reg.MEM_SCRUB_CTL ∧ s.scrubbing = false ∧ s.rn Reg.MEM_SCRUB_START ≤ s.rn Reg.MEM_SCRUB_END) ∧
    (let s : State := { base with
       regs := [(Reg.GLB_STAT, 7), (Reg.MEM_STAT, 7)], keys.slots := [(2, { key := some 59332, age := 64 })] }
     let src : Src := .list; let en : Bool := true
     s.running = true ∧ KeyPasses s src Reg.MEM_TEST ∧ en = true ∧ s.halted = false) ∧
    (let s : State := { base with
       regs := [(Reg.GLB_STAT, 6), (Reg.MEM_STAT, 7)], keys.slots := [(2, { key := some 59332, age := 64 })] }
     let src : Src := .list; let en : Bool := false
     s.running = true ∧ KeyPasses s src Reg.MEM_TEST ∧ (en = false ∨ s.halted = true) ∧ s.bit Reg.MEM_STAT 2 = !en) ∧
    (let s : State := { base with
       regs := [(Reg.GLB_STAT, 6), (Reg.MEM_STAT, 7)], keys.slots := [(2, { key := some 59332, age := 64 })] }
     let last : Fin 2097152 := 0; let l : List Byte := [1, 2, 3, 4, 5, 6, 7, 8]
     s.running = true ∧ s.bit Reg.MEM_STAT 0 = true ∧ s.bit Reg.MEM_STAT 2 = true ∧ s.halted = true ∧
       region (8 * last.val) ∈ [1, 2, 4] ∧ l.length = 8) ∧
    (let s : State := { base with
       regs := [(Reg.GLB_STAT, 6), (Reg.MEM_STAT, 5), (Reg.MEM_SCRUB_START, 8)], keys.slots := [(2,
         { key := some 59332, age := 64 })] }
     s.running = true ∧ Reaches s Reg.MEM_SCRUB_CTL ∧ s.scrubbing = false ∧ s.rn Reg.MEM_SCRUB_END < s.rn Reg.MEM_SCRUB_START) := by
  refine ⟨?_, ?_, ?_, ?_, ?_, ?_⟩ <;> decide +kernel

theorem witness_Arbiter_1_a :
    let s : State := { base with regs := [(Reg.ARB_CUT, 1)], now := 100 }; let r : Fin 12 := 0; let b : Fin 16 := 0
    let n : Nat := 3; let a : Nat := 16; let t : Nat := 200; let late : Bool := false; let d : List Nat := []
    let q : ArbReq := { r := 0, kind := .plain, since := 200, arrived := 200, beats := 3, addr := 16 }
    (s.running = true ∧ s.reservedBy b = none ∧ t = s.fclk late ∧ q =
      { r := r, since := t, beats := n, addr := a, data := d } ∧ s.arbBank b = {} ∧ Reaches s (Reg.ARB_CLASS r)) ∧ (∀ c,
          c ≠ b.val → s.arbBank c = {}) :=
  ⟨by decide +kernel, fun _ _ => rfl⟩

theorem witness_Arbiter_1_b :
    let s : State := { base with
      arb.banks := [(0,
        { holder := some theArbReq2, waiting := [{ r := 0, kind := .plain, since := 60, arrived := 60, beats := 4, addr := 144 }] })],
      arb.oldClass := [(0, some (201, 2))], now := 100 }
    let r : Fin 12 := 0; let b : Fin 16 := 0; let t : Nat := 200; let late : Bool := false
    let q : ArbReq := { r := 0, kind := .plain, since := 60, arrived := 60, beats := 4, addr := 144 }
    let h : ArbReq := theArbReq2; let v : Word := 3
    (s.running = true ∧ s.reservedBy b = none ∧ t = s.fclk late ∧ (s.arbBank b).holder = some h ∧ h.kind = .plain ∧
      h.data ≠ [] ∧ s.demoted r = false ∧ s.arbBank b =
      { holder := some h, waiting := [q] } ∧ q.r = r ∧ h.granted ≤ s.fclk true ∧ s.urg (s.fclk true) h = false ∧
      s.fclk true - h.granted + 1 < h.beats ∧ Reaches s (Reg.ARB_CLASS r) ∧ h.r ≠ r ∧ s.urg (s.fclk true + 1) h = false ∧
      q.urgent = false ∧ s.arbClass (s.fclk true + 1) h.r < fld v 0 2 ∧ h.granted ≤ s.fclk true + 1 ∧
      s.fclk true + 1 - h.granted + 1 < h.beats) ∧ (∀ c, c ≠ b.val → s.arbBank c = {}) :=
  ⟨by decide +kernel, fun c h => match c, h with | 0, h => absurd rfl h | _ + 1, _ => rfl⟩

theorem witness_Arbiter_1 :
    (let s : State := { base with arb.banks := [(0, { holder := some theArbReq6 })], now := 100 }; let r : Fin 12 := 0
     let b : Fin 16 := 0; let n : Nat := 3; let a : Nat := 16; let t : Nat := 200; let late : Bool := false
     let d : List Nat := []
     let q : ArbReq := { r := 0, kind := .plain, since := 200, arrived := 200, beats := 3, addr := 16 }
     let h : ArbReq := theArbReq6
     s.running = true ∧ s.reservedBy b = none ∧ t = s.fclk late ∧ q =
       { r := r, since := t, beats := n, addr := a, data := d } ∧ s.arbBank b =
       { holder := some h } ∧ h.granted ≤ t ∧ s.rank t h < s.rank t q ∧ t - h.granted + 1 < h.beats ∧
       (s.arbBank b).holder = some h ∧ h.kind = .writeBack) ∧
    (let s : State := { base with
       regs := [(Reg.ARB_CUT, 1)], arb.banks := [(0, { holder := some theArbReq9 })], now := 100 }
     let r : Fin 12 := 0; let b : Fin 16 := 0; let n : Nat := 3; let a : Nat := 16; let t : Nat := 200
     let late : Bool := false; let d : List Nat := []
     let q : ArbReq := { r := 0, kind := .plain, since := 200, arrived := 200, beats := 3, addr := 16 }
     let h : ArbReq := theArbReq9
     s.running = true ∧ s.reservedBy b = none ∧ t = s.fclk late ∧ q =
       { r := r, since := t, beats := n, addr := a, data := d } ∧ s.arbBank b =
       { holder := some h } ∧ h.granted ≤ t ∧ s.rank t q ≤ s.rank t h ∧ (s.arbBank b).holder = some h ∧ h.kind = .plain ∧
       h.data = [] ∧ s.memi.raw = [] ∧ t = h.granted + h.beats - 1 ∧ 0 < h.beats ∧ 0 < h.granted) ∧
    (let s : State := { base with
       regs := [(Reg.ARB_CUT, 1)], arb.banks := [(0, { holder := some theArbReq7 })], now := 100 }
     let r : Fin 12 := 0; let b : Fin 16 := 0; let t : Nat := 200; let late : Bool := false; let h : ArbReq := theArbReq7
     s.running = true ∧ s.reservedBy b = none ∧ t = s.fclk late ∧ (s.arbBank b).holder = some h ∧ (∃ k ∈ [3],
         h.kind = .scrub k ∧ 0 < k ∧ s.memi.raw = [])) ∧
    (let s : State := { base with
       regs := [(Reg.ARB_CUT, 1)], arb.banks := [(0, { holder := some theArbReq4 })], arb.oldClass := [(0, some (201, 2))],
       now := 100 }
     let r : Fin 12 := 0; let b : Fin 16 := 0; let n : Nat := 3; let a : Nat := 16; let t : Nat := 200
     let late : Bool := false; let d : List Nat := []
     let q : ArbReq := { r := 0, kind := .plain, since := 200, arrived := 200, beats := 3, addr := 16 }
     let h : ArbReq := theArbReq4
     s.running = true ∧ s.reservedBy b = none ∧ t = s.fclk late ∧ q =
       { r := r, since := t, beats := n, addr := a, data := d } ∧ s.arbBank b =
       { holder := some h } ∧ t < h.granted) ∧
    (let s : State := { base with
       arb.banks := [(0,
         { holder := some theArbReq5, waiting := [{ r := 0, kind := .plain, since := 60, arrived := 60, beats := 4, addr := 144 }] })],
       now := 100 }
     let r : Fin 12 := 0; let b : Fin 16 := 0; let t : Nat := 200; let late : Bool := false
     let q : ArbReq := { r := 0, kind := .plain, since := 60, arrived := 60, beats := 4, addr := 144 }
     let h : ArbReq := theArbReq5
     s.running = true ∧ s.reservedBy b = none ∧ t = s.fclk late ∧ s.demoted r = false ∧ s.arbBank b =
       { holder := some h, waiting := [q] } ∧ q.r = r ∧ h.granted ≤ s.fclk true ∧ s.urg (s.fclk true) h = false ∧
       h.beats ≤ s.fclk true - h.granted + 1) ∧
    (let s : State := { base with
       regs := [(Reg.ARB_CUT, 1)], arb.banks := [(0,
         { holder := some theArbReq3, waiting := [{ r := 0, kind := .plain, since := 60, arrived := 60, beats := 4, addr := 144 }] })],
       arb.oldClass := [(0, some (201, 2))], now := 100 }
     let r : Fin 12 := 0; let b : Fin 16 := 0; let t : Nat := 200; let late : Bool := false
     let q : ArbReq := { r := 0, kind := .plain, since := 60, arrived := 60, beats := 4, addr := 144 }
     let h : ArbReq := theArbReq3
     s.running = true ∧ s.reservedBy b = none ∧ t = s.fclk late ∧ s.demoted r = true ∧ s.arbBank b =
       { holder := some h, waiting := [q] } ∧ q.r = r ∧ h.granted ≤ s.fclk true ∧ s.rank (s.fclk true)
       { q with
       urgent := true } ≤ s.rank (s.fclk true) h) := by
  refine ⟨?_, ?_, ?_, ?_, ?_, ?_⟩ <;> decide +kernel

theorem witness_Arbiter_2_a :
    let s : State := { base with regs := [(Reg.ARB_STAT, 0)], arb.banks := [(0, theArbBank)], now := 100 }
    let r : Fin 12 := 8; let b : Fin 16 := 0; let t : Nat := 200; let late : Bool := false; let q : ArbReq := theArbReq8
    (s.running = true ∧ t = s.fclk late ∧ s.arbBank b =
      { holder := some q } ∧ q.r = r ∧ q.kind = .plain ∧ s.lockSeq r = none ∧ s.reservedBy b = none ∧ s.arbService = true) ∧
      (∀ c, c ≠ b.val → s.arbBank c = {}) :=
  ⟨by decide +kernel, fun c h => match c, h with | 0, h => absurd rfl h | _ + 1, _ => rfl⟩

theorem witness_Arbiter_2_b :
    let s : State := { base with arb.banks := [(0, theArbBank)], now := 100 }; let r : Fin 12 := 8; let b : Fin 16 := 0
    let t : Nat := 200; let late : Bool := false; let q : ArbReq := theArbReq8
    (s.running = true ∧ t = s.fclk late ∧ s.arbBank b =
      { holder := some q } ∧ q.r = r ∧ q.kind = .plain ∧ s.lockSeq r = none ∧ s.reservedBy b = none ∧ s.arbService = false) ∧
      (∀ c, c ≠ b.val → s.arbBank c = {}) :=
  ⟨by decide +kernel, fun c h => match c, h with | 0, h => absurd rfl h | _ + 1, _ => rfl⟩

theorem witness_Arbiter_2 :
    (let s : State := { base with now := 100 }; let r : Fin 12 := 8; let b : Fin 16 := 0; let n : Nat := 3
     let a : Nat := 16; let t : Nat := 200; let late : Bool := false; let d : List Nat := []
     let q : ArbReq := { r := 8, kind := .plain, since := 200, arrived := 200, beats := 3, lock := true, addr := 16 }
     s.running = true ∧ t = s.fclk late ∧ (r.val = 8 ∨ r.val = 10) ∧ s.bit Reg.ARB_LOCKEN r = true ∧ s.lockSeq r = none ∧
       s.arbBank b = {} ∧ s.reservedBy b = none ∧ q =
       { r := r, since := t, beats := n, lock := true, addr := a, data := d } ∧ (s.arbService = false ∨ (s.holds r b = false ∧
       s.arb.wounded.at r none = none)) ∧ s.holds r b = false) ∧
    (let s : State := { base with regs := [(Reg.ARB_STAT, 0)], arb.wounded := [(8, some (200, [0], 0))], now := 100 }
     let r : Fin 12 := 8; let b : Fin 16 := 0; let t : Nat := 200; let late : Bool := false
     s.running = true ∧ t = s.fclk late ∧ s.arbService = true ∧ s.holds r b = false ∧ (∃ x ∈ s.arb.wounded.at r none,
         x.1 / 2 = s.now ∧ b.val ∈ x.2.1)) ∧
    (let s : State := { base with arb.seqs := [(8, some theLockSeq4)], now := 100 }; let r : Fin 12 := 8
     let t : Nat := 200; let late : Bool := false; let z : LockSeq := theLockSeq4
     s.running = true ∧ t = s.fclk late ∧ s.lockSeq r = some z ∧ z.writes = []) ∧
    (let s : State := { base with arb.seqs := [(8, some theLockSeq3)], now := 100 }; let r : Fin 12 := 8
     let a : Nat := 16; let t : Nat := 200; let late : Bool := false; let d : List Nat := []
     let z : LockSeq := theLockSeq3; s.running = true ∧ t = s.fclk late ∧ s.lockSeq r = some z ∧ z.writes = [(a, d)]) ∧
    (let s : State := { base with regs := [(0x120060, 3)], arb.seqs := [(10, some theLockSeq2)], now := 100 }
     let r : Fin 12 := 8; let b : Fin 16 := 0; let n : Nat := 3; let a : Nat := 16; let t : Nat := 200; let p : Nat := 10
     let late : Bool := false; let d : List Nat := []
     let q : ArbReq := { r := 8, kind := .plain, since := 200, arrived := 200, beats := 3, addr := 16 }
     let f : ArbReq := { r := 10, kind := .plain, since := 60, arrived := 60, beats := 4, addr := 144 }
     let z : LockSeq := theLockSeq2
     s.running = true ∧ t = s.fclk late ∧ p < 12 ∧ s.lockSeq p = some z ∧ z.banks = [b.val] ∧ z.first.1 = b.val ∧ (∀ x < 12,
         x ≠ p → s.lockSeq x = none) ∧ p ≠ r.val ∧ s.arbBank b = {} ∧ q =
       { r := r, since := t, beats := n, addr := a, data := d } ∧ f =
       { z.first.2 with
       since := z.since, granted := 0, made := false } ∧ s.seqKey t p z < s.key t q ∧ s.key (t + 1) f < s.key (t + 1) q) ∧
    (let s : State := { base with
       arb.banks := [(0, { holder := some theArbReq })], arb.seqs := [(8, some theLockSeq)], now := 100 }
     let r : Fin 12 := 8; let b : Fin 16 := 0; let t : Nat := 200; let late : Bool := false
     let d : List Nat := [1, 0xffffffffffffffff, 5]; let q : ArbReq := theArbReq; let z : LockSeq := theLockSeq
     s.running = true ∧ t = s.fclk late ∧ s.lockSeq r = some z ∧ s.reservedBy b = some r.val ∧ s.arbBank b =
       { holder := some q } ∧ q.r = r ∧ q.kind = .plain ∧ d ≠ [] ∧ q.data = d) := by
  refine ⟨?_, ?_, ?_, ?_, ?_, ?_⟩ <;> decide +kernel

theorem witness_LaneLocksAndSleep_1 :
    (let s : State := base; let n : Lane := 0
     s.running = true ∧ s.awake n false = false ∧ s.looped n = false ∧ s.bit (Reg.LAN_LSTAT n) 0 = false ∧
       (s.bit (Reg.LAN_LSTAT n) 0 = false ∨ s.bit (Reg.LAN_LSTAT n) 1 = true)) ∧
    (let s : State := { base with regs := [(Reg.LAN_CTL 2, 16)] }; let n : Lane := 2
     s.running = true ∧ (s.awake n false = true ∨ s.looped n = true) ∧ s.looped n = true) ∧
    (let s : State := { base with regs := [(Reg.LAN_LSTAT 0, 1)] }; let n : Lane := 0; let signal : Bool := true
     s.running = true ∧ s.bit (Reg.LAN_LSTAT n) 0 = true ∧ (signal && s.looped n) = false ∧ s.bit (Reg.LAN_LSTAT n) 1 = false) ∧
    (let s : State := { base with regs := [(Reg.LAN_LSTAT 0, 3)] }; let n : Lane := 0; let signal : Bool := true
     s.running = true ∧ s.bit (Reg.LAN_LSTAT n) 0 = true ∧ (signal && s.looped n) = false ∧ s.bit (Reg.LAN_LSTAT n) 1 = true) := by
  refine ⟨?_, ?_, ?_, ?_⟩ <;> decide +kernel

theorem witness_LaneLocksAndSleep_2 :
    (let s : State := base; let n : Lane := 2
     s.running = true ∧ s.receives 2 = false ∧ s.receives 3 = false ∧
       (s.bit Reg.LAN_STAT 26 = false ∨ s.bit (Reg.LAN_LSTAT 2) 1 = false ∨ s.lan.peerL2 = false) ∧ s.laneUse n true = 0 ∧
       s.looped n = false ∧ (s.laneUse n false ≠ 2 ∨ s.pairState < 2 ∨ s.bit Reg.LAN_STAT 26 = true)) ∧
    (let s : State := { base with regs := [(Reg.PAR_STAT, 2), (Reg.LAN_CFG 2, 0x64000a)] }; let n : Lane := 2
     s.running = true ∧ s.laneUse n true = 2 ∧ s.laneUse n false = 2 ∧ 2 ≤ s.pairState ∧ s.bit Reg.LAN_STAT 26 = false) ∧
    (let s : State := { base with regs := [(Reg.LAN_CTL 2, 16)] }; let n : Lane := 2
     s.running = true ∧ s.looped n = true) ∧
    (let s : State := { base with regs := [(Reg.LAN_CFG 2, 0x640005)] }; let n : Lane := 2
     s.running = true ∧ (s.laneUse n true = 1 ∨ s.laneUse n true = 3)) ∧
    (let s : State := { base with
       regs := [(Reg.LAN_STAT, 0x4000000), (Reg.LAN_LSTAT 0, 3), (Reg.LAN_LSTAT 2, 3)], lan.peerL2 := true }
     s.running = true ∧ s.bit Reg.LAN_STAT 26 = true ∧ s.bit (Reg.LAN_LSTAT 2) 1 = true ∧ s.lan.peerL2 = true) ∧
    (let s : State := { base with
       regs := [(Reg.LAN_LSTAT 0, 55), (Reg.LAN_LSTAT 1, 55), (Reg.LAN_LSTAT 2, 55), (Reg.LAN_LSTAT 3, 55), (Reg.LAN_LSTAT 4,
         55), (Reg.LAN_LSTAT 5, 55), (Reg.LAN_LSTAT 6, 55), (Reg.LAN_LSTAT 7, 55)] }
     s.running = true ∧ s.bit Reg.LAN_STAT 26 = false ∧ (s.receives 2 = true ∨ s.receives 3 = true)) ∧
    (let s : State := { base with
       regs := [(Reg.LAN_STAT, 0x4000000), (Reg.LAN_LSTAT 0, 55), (Reg.LAN_LSTAT 1, 55), (Reg.LAN_LSTAT 2, 55),
         (Reg.LAN_LSTAT 3, 55), (Reg.LAN_LSTAT 4, 55), (Reg.LAN_LSTAT 5, 55), (Reg.LAN_LSTAT 6, 55), (Reg.LAN_LSTAT 7, 55)] }
     let l2 : Bool := false
     s.running = true ∧ (l2 = true ∨ s.bit Reg.LAN_STAT 26 = true) ∧ (s.receives 2 = true ∨ s.receives 3 = true)) := by
  refine ⟨?_, ?_, ?_, ?_, ?_, ?_, ?_⟩ <;> decide +kernel

theorem witness_TestPatternsAndEthernet_1 :
    (let s : State := { base with regs := [(Reg.GLB_STAT, 7)] }; let n : Lane := 2; let v : Word := 0
     s.running = true ∧ (s.bit (Reg.LAN_CTL n) 1 = false ∨ (s.prbs n).since.isSome = true) ∧ (s.prbs n).since = none ∧
       s.sys.ready = true ∧ Reaches s (Reg.LAN_CTL n) ∧ (s.laneFree n = true ∨ (fld v 0 2 = 0 ∧ fld v 4 2 = 0)) ∧
       s.receives n = false ∧ s.awake n false = false) ∧
    (let s : State := { base with
       lan.prbs := [(0, { since := some 5, bits := 0xfffffffffffd, errs := 77 })], lan.hour := [(4, some 1)], tim.s := 3601,
       now := 1000 }
     let n : Lane := 0; let t : Nat := 5; s.running = true ∧ (s.prbs n).since = some t ∧ s.sys.ready = true) ∧
    (let s : State := { base with regs := [(Reg.GLB_STAT, 7)] }; let n : Lane := 2; let v : Word := 1
     s.running = true ∧ Reaches s (Reg.LAN_CTL n) ∧ s.laneFree n = false ∧ (fld v 0 2 ≠ 0 ∨ fld v 4 2 ≠ 0)) ∧
    (let s : State := { base with
       lan.prbs := [(0, { bits := 0xfffffffffffd, errs := 77 })], lan.hour := [(4, some 1)], sys.ready := false,
       tim.s := 3601, now := 1000 }
     s.running = true ∧ s.sys.ready = false) ∧
    (let s : State := { base with
       regs := [(Reg.PAR_STAT, 3), (Reg.LAN_LSTAT 0, 255), (0x130200, 0x640000), (0x130240, 0x640000), (0x130280, 0x640000),
         (0x1302c0, 0x640000)] }
     let n : Lane := 0; s.running = true ∧ s.awake n false = true) ∧
    (let s : State := { base with
       regs := [(Reg.LAN_LSTAT 0, 7), (Reg.LAN_CTL 0, 2)], lan.prbs := [(0, { bits := 0xfffffffffffd, errs := 77 })],
       lan.hour := [(4, some 1)], tim.s := 3601, now := 1000 }
     let n : Lane := 0; s.running = true ∧ s.bit (Reg.LAN_CTL n) 1 = true ∧ (s.prbs n).since = none) := by
  refine ⟨?_, ?_, ?_, ?_, ?_, ?_⟩ <;> decide +kernel

theorem witness_TestPatternsAndEthernet_2 :
    (let s : State := { base with
       regs := [(Reg.LAN_LSTAT 4, 32), (Reg.LAN_ETH_CFG 0, 0), (Reg.LAN_ETH_MAC_LO 0, 0x33221100), (Reg.LAN_ETH_MAC_HI 0,
         0x5544), (Reg.LAN_ETH_IPV4 0, 0xa000001)], lan.echo := [(0, 5, 9)], tim.s := 5 }
     let silent : State := { base with
       regs := [(Reg.LAN_LSTAT 4, 32), (Reg.LAN_ETH_CFG 0, 0), (Reg.LAN_ETH_MAC_LO 0, 0x33221100), (Reg.LAN_ETH_MAC_HI 0,
         0x5544), (Reg.LAN_ETH_IPV4 0, 0xa000001)], lan.echo := [(0, 5, 9)], tim.s := 5 }
     let p : Fin 2 := 0; let f : List Byte := []; let c : Nat := 0; let giga : Bool := false
     s.running = true ∧ c = s.ethContent p f ∧ silent =
       { s with
       tim.announce := s.tim.announce.put p none none } ∧ giga = s.bit (Reg.LAN_ETH_CFG p) 0 ∧ s.receives (4 + p) = false) ∧
    (let s : State := { base with
       regs := [(Reg.LAN_LSTAT 4, 32), (Reg.LAN_ETH_CFG 0, 0), (Reg.LAN_ETH_STAT 0, 1), (Reg.LAN_ETH_MAC_LO 0, 0x33221100),
         (Reg.LAN_ETH_MAC_HI 0, 0x5544), (Reg.LAN_ETH_IPV4 0, 0xa000001)], lan.echo := [(0, 5, 9)], tim.s := 5 }
     let silent : State := { base with
       regs := [(Reg.LAN_LSTAT 4, 32), (Reg.LAN_ETH_CFG 0, 0), (Reg.LAN_ETH_STAT 0, 1), (Reg.LAN_ETH_MAC_LO 0, 0x33221100),
         (Reg.LAN_ETH_MAC_HI 0, 0x5544), (Reg.LAN_ETH_IPV4 0, 0xa000001)], lan.echo := [(0, 5, 9)], tim.s := 5 }
     let p : Fin 2 := 0; let f : List Byte := List.replicate 1600 0; let c : Nat := 0; let giga : Bool := false
     s.running = true ∧ c = s.ethContent p f ∧ silent =
       { s with
       tim.announce := s.tim.announce.put p none none } ∧ giga = s.bit (Reg.LAN_ETH_CFG p) 0 ∧ s.receives (4 + p) = true ∧
       (f.length < 64 ∨ 1522 < f.length)) ∧
    (let s : State := { base with
       regs := [(Reg.LAN_LSTAT 4, 32), (Reg.LAN_ETH_CFG 0, 0), (Reg.LAN_ETH_STAT 0, 1), (Reg.LAN_ETH_MAC_LO 0, 0x33221100),
         (Reg.LAN_ETH_MAC_HI 0, 0x5544), (Reg.LAN_ETH_IPV4 0, 0xa000001)], lan.echo := [(0, 4, 10)], tim.s := 5 }
     let silent : State := { base with
       regs := [(Reg.LAN_LSTAT 4, 32), (Reg.LAN_ETH_CFG 0, 0), (Reg.LAN_ETH_STAT 0, 1), (Reg.LAN_ETH_MAC_LO 0, 0x33221100),
         (Reg.LAN_ETH_MAC_HI 0, 0x5544), (Reg.LAN_ETH_IPV4 0, 0xa000001)], lan.echo := [(0, 4, 10)], tim.s := 5 }
     let p : Fin 2 := 0
     let f : List Byte := [1, 17, 34, 51, 68, 85, 0, 0, 0, 0, 0, 1, 8, 0, 69] ++ List.replicate 8 0 ++ [1, 0, 0, 0, 0, 0, 5,
         10, 0, 0, 1, 8] ++ List.replicate 25 0 ++ [217, 24, 167, 85]
     let c : Nat := 4; let giga : Bool := false
     s.running = true ∧ c = s.ethContent p f ∧ silent =
       { s with
       tim.announce := s.tim.announce.put p none none } ∧ giga = s.bit (Reg.LAN_ETH_CFG p) 0 ∧ s.receives (4 + p) = true ∧
       64 ≤ f.length ∧ f.length ≤ 1522 ∧ leNat (f.drop (f.length - 4)) = (crc32 (f.take (f.length - 4))).toNat ∧
       (s.macFor p f = false ∨ s.vlanOk p f = false ∨ c = 0)) ∧
    (let s : State := { base with
       regs := [(Reg.LAN_LSTAT 4, 32), (Reg.LAN_ETH_CFG 0, 0), (Reg.LAN_ETH_STAT 0, 1), (Reg.LAN_ETH_MAC_LO 0, 0x33221100),
         (Reg.LAN_ETH_MAC_HI 0, 0x5544), (Reg.LAN_ETH_IPV4 0, 0xa000001)], lan.echo := [(0, 5, 10)], tim.s := 5 }
     let silent : State := { base with
       regs := [(Reg.LAN_LSTAT 4, 32), (Reg.LAN_ETH_CFG 0, 0), (Reg.LAN_ETH_STAT 0, 1), (Reg.LAN_ETH_MAC_LO 0, 0x33221100),
         (Reg.LAN_ETH_MAC_HI 0, 0x5544), (Reg.LAN_ETH_IPV4 0, 0xa000001)], lan.echo := [(0, 5, 10)], tim.s := 5 }
     let p : Fin 2 := 0
     let f : List Byte := List.replicate 6 255 ++ [0, 0, 0, 0, 0, 1, 8, 6, 0, 1, 8, 0, 6, 4, 0, 1, 0, 0, 0, 0, 0, 1, 0, 0, 0,
         2] ++ List.replicate 6 0 ++ [10, 0, 0, 1] ++ List.replicate 18 0 ++ [133, 21, 233, 230]
     let c : Nat := 3; let giga : Bool := false
     s.running = true ∧ c = s.ethContent p f ∧ silent =
       { s with
       tim.announce := s.tim.announce.put p none none } ∧ giga = s.bit (Reg.LAN_ETH_CFG p) 0 ∧ s.receives (4 + p) = true ∧
       64 ≤ f.length ∧ f.length ≤ 1522 ∧ leNat (f.drop (f.length - 4)) = (crc32 (f.take (f.length - 4))).toNat ∧
       s.macFor p f = true ∧ s.vlanOk p f = true ∧ c ≠ 0 ∧ c ≠ 2) ∧
    (let s : State := { base with
       regs := [(Reg.LAN_LSTAT 4, 33), (Reg.LAN_ETH_CFG 0, 0), (Reg.LAN_ETH_STAT 0, 1), (Reg.LAN_ETH_MAC_LO 0, 0x33221100),
         (Reg.LAN_ETH_MAC_HI 0, 0x5544), (Reg.LAN_ETH_IPV4 0, 0xa000001)], lan.echo := [(0, 5, 9)], tim.s := 5 }
     let silent : State := { base with
       regs := [(Reg.LAN_LSTAT 4, 33), (Reg.LAN_ETH_CFG 0, 0), (Reg.LAN_ETH_STAT 0, 1), (Reg.LAN_ETH_MAC_LO 0, 0x33221100),
         (Reg.LAN_ETH_MAC_HI 0, 0x5544), (Reg.LAN_ETH_IPV4 0, 0xa000001)], lan.echo := [(0, 5, 9)], tim.s := 5 }
     let p : Fin 2 := 0
     let f : List Byte := [255, 255, 255, 0, 255, 255, 0, 0, 0, 0, 0, 1, 8, 6, 0, 1, 8, 0, 6, 4, 0, 1, 0, 0, 0, 0, 0, 1, 0, 0,
         0, 2] ++ List.replicate 6 0 ++ [10, 0, 0, 1] ++ List.replicate 18 0 ++ [133, 21, 233, 230]
     let c : Nat := 3; let giga : Bool := false
     s.running = true ∧ c = s.ethContent p f ∧ silent =
       { s with
       tim.announce := s.tim.announce.put p none none } ∧ giga = s.bit (Reg.LAN_ETH_CFG p) 0 ∧ s.receives (4 + p) = true ∧
       64 ≤ f.length ∧ f.length ≤ 1522 ∧ leNat (f.drop (f.length - 4)) ≠ (crc32 (f.take (f.length - 4))).toNat) := by
  refine ⟨?_, ?_, ?_, ?_, ?_⟩ <;> decide +kernel

theorem witness_QueuesTowardTheHost_1 :
    (let s : State := base; let q : Queue := 0; let v : Word := 5; let size : Nat := 0; let n : Nat := 5
     s.onMain = true ∧ Reaches s (Reg.HQ_QCFG q) ∧ size = fld v 4 5 ∧ (size < 4 ∨ 16 < size ∨ (s.qOn q = true ∧
       size ≠ s.hrf (Reg.HQ_QCFG q) 4 5)) ∧ Reaches s (Reg.HQ_HEAD q) ∧ q.val < 16 ∧ n = fld v 0 16 ∧
       (s.qSize q ≤ n ∨ s.qUsed q < (n + s.qSize q - s.qHead q) % s.qSize q) ∧ Reaches s (Reg.HQ_TAIL q)) ∧
    (let s : State := { base with hq.regs := [(Reg.HQ_STAT, 1)] }; let q : Queue := 16
     s.onMain = true ∧ Reaches s (Reg.HQ_HEAD q) ∧ 16 ≤ q.val ∧ Reaches s (Reg.HQ_TAIL q) ∧ s.qOn q = false) ∧
    (let s : State := { base with hq.regs := [(Reg.HQ_STAT, 1)] }; let q : Queue := 0; let v : Word := 0; let n : Nat := 0
     s.onMain = true ∧ Reaches s (Reg.HQ_HEAD q) ∧ q.val < 16 ∧ n = fld v 0 16 ∧ n < s.qSize q ∧
       (n + s.qSize q - s.qHead q) % s.qSize q ≤ s.qUsed q) ∧
    (let s : State := { base with hq.regs := [(Reg.HQ_STAT, 1)] }; let q : Queue := 0; let v : Word := 65
     let size : Nat := 4
     s.onMain = true ∧ Reaches s (Reg.HQ_QCFG q) ∧ size = fld v 4 5 ∧ 4 ≤ size ∧ size ≤ 16 ∧ s.qOn q = false ∧ fld v 0 1 = 1) ∧
    (let s : State := { base with hq.regs := [(Reg.HQ_QCFG 16, 65)], hq.away := [(17, true)] }; let q : Queue := 16
     let v : Word := 0; let l : List Desc := [{ len := 8, op := 1 }]; let size : Nat := 0
     s.onMain = true ∧ Reaches s (Reg.HQ_TAIL q) ∧ 16 ≤ q.val ∧ q.val ≤ 18 ∧ s.qOn q = true ∧
       size = (v.toNat % s.qSize q + s.qSize q - s.qTail q % s.qSize q) % s.qSize q ∧
       (s.linkUp = false ∨ s.hq.away.at q false = true ∨ ∃ e ∈ (s.hq.desc.at q [] ++ l.take size).head?, descBad q e = false)) ∧
    (let s : State := { base with hq.regs := [(Reg.HQ_STAT, 1), (Reg.HQ_QCFG 16, 65)] }; let q : Queue := 16
     let v : Word := 257; let l : List Desc := [{ len := 8, op := 1, node := 64 }]
     let d : Desc := { len := 8, op := 1, node := 64 }; let size : Nat := 1
     s.onMain = true ∧ Reaches s (Reg.HQ_TAIL q) ∧ 16 ≤ q.val ∧ q.val ≤ 18 ∧ s.qOn q = true ∧
       size = (v.toNat % s.qSize q + s.qSize q - s.qTail q % s.qSize q) % s.qSize q ∧ s.linkUp = true ∧
       s.hq.away.at q false = false ∧ s.hq.desc.at q [] = [] ∧ size = 1 ∧ l = [d] ∧ descBad q d = true) ∧
    (let s : State := { base with
       hq.regs := [(Reg.HQ_STAT, 1)], hq.desc := [(17, [{ len := 8 }]), (18, [{ len := 8 }, { len := 8 }])] }
     let q : Queue := 0; let v : Word := 64; let size : Nat := 4
     s.onMain = true ∧ Reaches s (Reg.HQ_QCFG q) ∧ size = fld v 4 5 ∧ 4 ≤ size ∧ size ≤ 16 ∧
       (s.qOn q = true → size = s.hrf (Reg.HQ_QCFG q) 4 5) ∧ fld v 0 1 = 0) := by
  refine ⟨?_, ?_, ?_, ?_, ?_, ?_, ?_⟩ <;> decide +kernel

theorem witness_QueuesTowardTheHost_2 :
    (let s : State := { base with
       regs := [(Reg.GLB_STRAP, 2), (Reg.RNG_CFG_L, 4)], hq.regs := [(Reg.HQ_STAT, 1), (Reg.HQ_MSIX 3, 0), (0x14121c, 0)] }
     let q : Queue := 0
     s.running = true ∧ (6 ≤ q.val ∨ s.qOn q = false ∨ s.linkUp = false ∨ s.hrf Reg.HQ_CFG 0 1 = 1 ∨ s.nextRecord q = none) ∧
       (6 ≤ q.val ∨ s.hrf Reg.HQ_CFG 0 1 = 0 ∨ s.tunnelLane 0 = none ∨ s.nextRecord q = none) ∧ s.hq.unsig.at q 0 = 0) ∧
    (let s : State := { base with
       regs := [(Reg.GLB_STRAP, 2), (Reg.RNG_CFG_L, 4)], hq.regs := [(Reg.HQ_STAT, 1), (Reg.HQ_MSIX 3, 0), (0x14121c, 0)],
       hq.unsig := [(0, 2)] }
     let q : Queue := 0; s.running = true ∧ 0 < s.hq.unsig.at q 0) ∧
    (let s : State := { base with
       regs := [(Reg.GLB_STRAP, 2), (Reg.RNG_CFG_L, 4)], hq.regs := [(Reg.HQ_STAT, 1), (Reg.HQ_QCFG 0, 65), (Reg.HQ_MSIX 3,
         0), (0x14121c, 0)], hq.buf := [(0, [theRecord, theRecord])] }
     let q : Queue := 0; let r : Record := theRecord
     s.running = true ∧ q.val < 6 ∧ s.qOn q = true ∧ s.linkUp = true ∧ s.hrf Reg.HQ_CFG 0 1 = 0 ∧ s.nextRecord q = some r ∧
       s.qUsed q + r.entries < s.qSize q) ∧
    (let s : State := { base with
       regs := [(Reg.GLB_STRAP, 2), (Reg.RNG_LINK, 85), (Reg.RNG_CFG_L, 4)], hq.regs := [(Reg.HQ_STAT, 1), (Reg.HQ_CFG, 1),
         (Reg.HQ_MSIX 3, 0), (0x14121c, 0)], hq.buf := [(0, [theRecord, theRecord])] }
     let q : Queue := 0; let r : Record := theRecord; let n : Nat := 1
     s.running = true ∧ q.val < 6 ∧ (q.val = 5 → s.hq.result = none) ∧ s.hrf Reg.HQ_CFG 0 1 = 1 ∧ s.tunnelLane 0 = some n ∧
       s.laneUp n = true ∧ s.nextRecord q = some r) ∧
    (let s : State := { base with
       regs := [(Reg.GLB_STRAP, 2), (Reg.RNG_CFG_L, 4)], hq.regs := [(Reg.HQ_STAT, 1), (Reg.HQ_QCFG 0, 65), (Reg.HQ_TAIL 0,
         15), (Reg.HQ_MSIX 3, 0), (0x14121c, 0)], hq.buf := [(0, [theRecord, theRecord])] }
     let q : Queue := 0; let r : Record := theRecord
     s.running = true ∧ q.val < 6 ∧ s.qOn q = true ∧ s.linkUp = true ∧ s.hrf Reg.HQ_CFG 0 1 = 0 ∧ s.nextRecord q = some r ∧
       s.qSize q ≤ s.qUsed q + r.entries) := by
  refine ⟨?_, ?_, ?_, ?_, ?_⟩ <;> decide +kernel

theorem witness_DescriptorsRun :
    (let s : State := { base with
       regs := [(Reg.RNG_LINK, 85), (Reg.RNG_CFG_L, 4)], mem := [(513, 1), (514, 2), (515, 3), (516, 4), (517, 5), (518, 6),
         (519, 7), (520, 8), (521, 9), (522, 10), (523, 11), (524, 12), (525, 13), (526, 14), (527, 15), (528, 16), (529, 17),
         (530, 18), (531, 19), (532, 20), (533, 21), (534, 22), (535, 23), (536, 24), (537, 25), (538, 26), (539, 27), (540,
         28), (541, 29), (542, 30), (543, 31), (544, 32), (545, 33), (546, 34), (547, 35), (548, 36), (549, 37), (550, 38),
         (551, 39)] }
     let h : Nat := 24
     s.running = true ∧ h = s.entryAddr 18 (s.qHead 18) + 0x18 ∧ s.frontDesc 17 = none ∧ (∀ e ∈ s.frontDesc 18, e.op ≠ 3) ∧
       (∀ e ∈ s.frontDesc 18, e.op ≠ 4) ∧ s.frontDesc 16 = none) ∧
    (let s : State := { base with
       regs := [(Reg.RNG_LINK, 85), (Reg.RNG_CFG_L, 4)], mem := [(513, 1), (514, 2), (515, 3), (516, 4), (517, 5), (518, 6),
         (519, 7), (520, 8), (521, 9), (522, 10), (523, 11), (524, 12), (525, 13), (526, 14), (527, 15), (528, 16), (529, 17),
         (530, 18), (531, 19), (532, 20), (533, 21), (534, 22), (535, 23), (536, 24), (537, 25), (538, 26), (539, 27), (540,
         28), (541, 29), (542, 30), (543, 31), (544, 32), (545, 33), (546, 34), (547, 35), (548, 36), (549, 37), (550, 38),
         (551, 39)], hq.regs := [(Reg.HQ_STAT, 1), (Reg.HQ_QCFG 16, 65), (Reg.HQ_HEAD 16, 15), (Reg.HQ_QCFG 17, 65),
         (Reg.HQ_HEAD 17, 15), (Reg.HQ_QCFG 18, 65), (Reg.HQ_HEAD 18, 15)], hq.desc := [(16,
         [{ len := 4, op := 1, dofs := 76, tag := 9 }]), (17, [{ len := 24, op := 2, tag := 3 }]), (18,
         [{ addr := 0x1000, len := 16, op := 4, dofs := 512, tag := 7 }])] }
     let d : Desc := { addr := 0x1000, len := 16, op := 4, dofs := 512, tag := 7 }; let h : Nat := 504
     s.running = true ∧ h = s.entryAddr 18 (s.qHead 18) + 0x18 ∧ s.frontDesc 18 = some d ∧ d.node = s.node ∧
       s.hq.desc.at 18 [] = [d] ∧ d.op = 4 ∧ s.overLock d = false ∧ s.transferBad d.dofs d.len false = false ∧
       s.bit Reg.MEM_STAT 2 = false ∧ 0 < d.len ∧ d.len % 8 = 0 ∧ bufEntries (s.hq.buf.at 5 []) < 256 ∧ s.memi.raw = [] ∧
       s.qOn 5 = false) ∧
    (let s : State := { base with
       regs := [(Reg.RNG_LINK, 85), (Reg.RNG_CFG_L, 4)], mem := [(513, 1), (514, 2), (515, 3), (516, 4), (517, 5), (518, 6),
         (519, 7), (520, 8), (521, 9), (522, 10), (523, 11), (524, 12), (525, 13), (526, 14), (527, 15), (528, 16), (529, 17),
         (530, 18), (531, 19), (532, 20), (533, 21), (534, 22), (535, 23), (536, 24), (537, 25), (538, 26), (539, 27), (540,
         28), (541, 29), (542, 30), (543, 31), (544, 32), (545, 33), (546, 34), (547, 35), (548, 36), (549, 37), (550, 38),
         (551, 39)], hq.regs := [(Reg.HQ_STAT, 1), (Reg.HQ_QCFG 16, 65), (Reg.HQ_HEAD 16, 15), (Reg.HQ_QCFG 17, 65),
         (Reg.HQ_HEAD 17, 15), (Reg.HQ_QCFG 18, 65), (Reg.HQ_HEAD 18, 15)], hq.desc := [(16,
         [{ len := 4, op := 1, dofs := 76, tag := 9 }]), (17, [{ len := 24, op := 2, tag := 3 }]), (18,
         [{ len := 16, op := 3, dofs := 256, tag := 7 }])] }
     let d : Desc := { len := 24, op := 2, tag := 3 }; let h : Nat := 504
     s.running = true ∧ h = s.entryAddr 18 (s.qHead 18) + 0x18 ∧ s.frontDesc 17 = some d ∧ d.node = s.node) ∧
    (let s : State := { base with
       regs := [(Reg.RNG_LINK, 85), (Reg.RNG_CFG_L, 4)], mem := [(513, 1), (514, 2), (515, 3), (516, 4), (517, 5), (518, 6),
         (519, 7), (520, 8), (521, 9), (522, 10), (523, 11), (524, 12), (525, 13), (526, 14), (527, 15), (528, 16), (529, 17),
         (530, 18), (531, 19), (532, 20), (533, 21), (534, 22), (535, 23), (536, 24), (537, 25), (538, 26), (539, 27), (540,
         28), (541, 29), (542, 30), (543, 31), (544, 32), (545, 33), (546, 34), (547, 35), (548, 36), (549, 37), (550, 38),
         (551, 39)], hq.regs := [(Reg.HQ_STAT, 1), (Reg.HQ_QCFG 16, 65), (Reg.HQ_HEAD 16, 15), (Reg.HQ_QCFG 17, 65),
         (Reg.HQ_HEAD 17, 15), (Reg.HQ_QCFG 18, 65), (Reg.HQ_HEAD 18, 15)], hq.desc := [(16,
         [{ len := 4, op := 1, dofs := 76, tag := 9 }]), (17, [{ len := 24, op := 2, tag := 3 }]), (18,
         [{ len := 16, op := 3, dofs := 256, tag := 7 }])] }
     let d : Desc := { len := 4, op := 1, dofs := 76, tag := 9 }; let h : Nat := 504
     s.running = true ∧ h = s.entryAddr 18 (s.qHead 18) + 0x18 ∧ s.frontDesc 16 = some d ∧ d.node = s.node ∧
       s.hq.desc.at 16 [] = [d] ∧ d.dofs ≠ (match s.cfg.load with | some x => x.data.length | none => d.dofs + 1)) ∧
    (let s : State := { base with
       regs := [(Reg.RNG_LINK, 85), (Reg.RNG_CFG_L, 4)], mem := [(513, 1), (514, 2), (515, 3), (516, 4), (517, 5), (518, 6),
         (519, 7), (520, 8), (521, 9), (522, 10), (523, 11), (524, 12), (525, 13), (526, 14), (527, 15), (528, 16), (529, 17),
         (530, 18), (531, 19), (532, 20), (533, 21), (534, 22), (535, 23), (536, 24), (537, 25), (538, 26), (539, 27), (540,
         28), (541, 29), (542, 30), (543, 31), (544, 32), (545, 33), (546, 34), (547, 35), (548, 36), (549, 37), (550, 38),
         (551, 39)], hq.regs := [(Reg.HQ_STAT, 1), (Reg.HQ_QCFG 16, 65), (Reg.HQ_HEAD 16, 15), (Reg.HQ_QCFG 17, 65),
         (Reg.HQ_HEAD 17, 15), (Reg.HQ_QCFG 18, 65), (Reg.HQ_HEAD 18, 15)], hq.desc := [(16,
         [{ len := 4, op := 1, dofs := 76, tag := 9 }]), (17, [{ len := 24, op := 2, tag := 3 }]), (18,
         [{ len := 16, op := 3, dofs := 256, tag := 7 }])] }
     let d : Desc := { len := 16, op := 3, dofs := 256, tag := 7 }
     let b : List Byte := (List.range 16).map (BitVec.ofNat 8); let h : Nat := 504
     s.running = true ∧ h = s.entryAddr 18 (s.qHead 18) + 0x18 ∧ s.frontDesc 18 = some d ∧ d.node = s.node ∧
       s.hq.desc.at 18 [] = [d] ∧ d.op = 3 ∧ s.overLock d = false ∧ (∀ x < d.len, region (d.dofs + x) = 1) ∧
       s.bit Reg.MEM_STAT 2 = false ∧ b.length = d.len ∧ d.len % 8 = 0 ∧ d.dofs % 8 = 0) ∧
    (let s : State := { base with
       regs := [(Reg.RNG_LINK, 85), (Reg.RNG_CFG_L, 4)], mem := [(513, 1), (514, 2), (515, 3), (516, 4), (517, 5), (518, 6),
         (519, 7), (520, 8), (521, 9), (522, 10), (523, 11), (524, 12), (525, 13), (526, 14), (527, 15), (528, 16), (529, 17),
         (530, 18), (531, 19), (532, 20), (533, 21), (534, 22), (535, 23), (536, 24), (537, 25), (538, 26), (539, 27), (540,
         28), (541, 29), (542, 30), (543, 31), (544, 32), (545, 33), (546, 34), (547, 35), (548, 36), (549, 37), (550, 38),
         (551, 39)], cfg.load := some { ring := false }, hq.regs := [(Reg.HQ_STAT, 1), (Reg.HQ_QCFG 16, 65), (Reg.HQ_HEAD 16,
         15), (Reg.HQ_QCFG 17, 65), (Reg.HQ_HEAD 17, 15), (Reg.HQ_QCFG 18, 65), (Reg.HQ_HEAD 18, 15)], hq.desc := [(16,
         [{ len := 80, op := 1, tag := 9 }]), (17, [{ len := 24, op := 2, tag := 3 }]), (18,
         [{ len := 16, op := 3, dofs := 256, tag := 7 }])] }
     let d : Desc := { len := 80, op := 1, tag := 9 }; let b : List Byte := (List.range 16).map (BitVec.ofNat 8)
     let h : Nat := 504
     s.running = true ∧ h = s.entryAddr 18 (s.qHead 18) + 0x18 ∧ s.frontDesc 16 = some d ∧ d.node = s.node ∧
       s.hq.desc.at 16 [] = [d] ∧ (∃ x ∈ s.cfg.load, x.checking = false ∧ x.ring = false ∧ d.dofs = x.data.length ∧
       (imageNeed (x.data ++ b.take d.len) = none ∨ ∃ m ∈ imageNeed (x.data ++ b.take d.len),
         (x.data ++ b.take d.len).length < m))) ∧
    (let s : State := { base with
       regs := [(Reg.RNG_LINK, 85), (Reg.RNG_CFG_L, 4)], mem := [(513, 1), (514, 2), (515, 3), (516, 4), (517, 5), (518, 6),
         (519, 7), (520, 8), (521, 9), (522, 10), (523, 11), (524, 12), (525, 13), (526, 14), (527, 15), (528, 16), (529, 17),
         (530, 18), (531, 19), (532, 20), (533, 21), (534, 22), (535, 23), (536, 24), (537, 25), (538, 26), (539, 27), (540,
         28), (541, 29), (542, 30), (543, 31), (544, 32), (545, 33), (546, 34), (547, 35), (548, 36), (549, 37), (550, 38),
         (551, 39)], hq.regs := [(Reg.HQ_STAT, 1), (Reg.HQ_QCFG 16, 65), (Reg.HQ_HEAD 16, 15), (Reg.HQ_QCFG 17, 65),
         (Reg.HQ_HEAD 17, 15), (Reg.HQ_QCFG 18, 65), (Reg.HQ_HEAD 18, 15)], hq.desc := [(16,
         [{ len := 4, op := 1, dofs := 76, tag := 9 }]), (17, [{ len := 24, op := 2, node := 2, tag := 3 }]), (18,
         [{ len := 16, op := 3, node := 2, dofs := 256, tag := 7 }])] }
     let d : Desc := { len := 24, op := 2, node := 2, tag := 3 }; let n : Nat := 1; let h : Nat := 504
     s.running = true ∧ h = s.entryAddr 18 (s.qHead 18) + 0x18 ∧ s.frontDesc 17 = some d ∧ d.node ≠ s.node ∧
       s.tunnelLane d.node = some n ∧ s.laneUp n = true) ∧
    (let s : State := { base with
       regs := [(Reg.RNG_LINK, 85), (Reg.RNG_CFG_L, 4), (Reg.ARB_HOLD, 1)], mem := [(513, 1), (514, 2), (515, 3), (516, 4),
         (517, 5), (518, 6), (519, 7), (520, 8), (521, 9), (522, 10), (523, 11), (524, 12), (525, 13), (526, 14), (527, 15),
         (528, 16), (529, 17), (530, 18), (531, 19), (532, 20), (533, 21), (534, 22), (535, 23), (536, 24), (537, 25), (538,
         26), (539, 27), (540, 28), (541, 29), (542, 30), (543, 31), (544, 32), (545, 33), (546, 34), (547, 35), (548, 36),
         (549, 37), (550, 38), (551, 39)], hq.regs := [(Reg.HQ_STAT, 1), (Reg.HQ_QCFG 16, 65), (Reg.HQ_HEAD 16, 15),
         (Reg.HQ_QCFG 17, 65), (Reg.HQ_HEAD 17, 15), (Reg.HQ_QCFG 18, 65), (Reg.HQ_HEAD 18, 15)], hq.desc := [(16,
         [{ len := 4, op := 1, dofs := 76, tag := 9 }]), (17, [{ len := 24, op := 2, tag := 3 }]), (18,
         [{ len := 16, op := 3, dflags := 4, dofs := 256, tag := 7 }])] }
     let d : Desc := { len := 16, op := 3, dflags := 4, dofs := 256, tag := 7 }; let h : Nat := 504
     s.running = true ∧ h = s.entryAddr 18 (s.qHead 18) + 0x18 ∧ s.frontDesc 18 = some d ∧ d.node = s.node ∧
       s.hq.desc.at 18 [] = [d] ∧ d.op = 3 ∧ s.overLock d = true) ∧
    (let s : State := { base with
       regs := [(Reg.RNG_LINK, 85), (Reg.RNG_CFG_L, 4)], mem := [(513, 1), (514, 2), (515, 3), (516, 4), (517, 5), (518, 6),
         (519, 7), (520, 8), (521, 9), (522, 10), (523, 11), (524, 12), (525, 13), (526, 14), (527, 15), (528, 16), (529, 17),
         (530, 18), (531, 19), (532, 20), (533, 21), (534, 22), (535, 23), (536, 24), (537, 25), (538, 26), (539, 27), (540,
         28), (541, 29), (542, 30), (543, 31), (544, 32), (545, 33), (546, 34), (547, 35), (548, 36), (549, 37), (550, 38),
         (551, 39)], cfg.load := some theLoad, hq.regs := [(Reg.HQ_STAT, 1), (Reg.HQ_QCFG 16, 65), (Reg.HQ_HEAD 16, 15),
         (Reg.HQ_QCFG 17, 65), (Reg.HQ_HEAD 17, 15), (Reg.HQ_QCFG 18, 65), (Reg.HQ_HEAD 18, 15)], hq.desc := [(16,
         [{ len := 4, op := 1, dofs := 76, tag := 9 }]), (17, [{ len := 24, op := 2, tag := 3 }]), (18,
         [{ len := 16, op := 3, dofs := 256, tag := 7 }])] }
     let d : Desc := { len := 4, op := 1, dofs := 76, tag := 9 }; let h : Nat := 504
     s.running = true ∧ h = s.entryAddr 18 (s.qHead 18) + 0x18 ∧ s.frontDesc 16 = some d ∧ d.node = s.node ∧
       s.hq.desc.at 16 [] = [d] ∧ (∃ x ∈ s.cfg.load, x.checking = false ∧ x.ring = false ∧ d.dofs = x.data.length)) := by
  refine ⟨?_, ?_, ?_, ?_, ?_, ?_, ?_, ?_, ?_⟩ <;> decide +kernel

theorem witness_NodeWindowsAndHostLink_1 :
    (let s : State := base; let n : Node := 2; let dst : Node := 3; let lane : Lane := 0; let off : Nat := 0
     let tag : Nat := 0
     s.running = true ∧ n.val ≠ s.node ∧ s.windowBad n off = true ∧ s.hq.keyHold.at n none = none ∧
       takeRead n off (some tag) s.hq.reads = none ∧ takeRead n off none s.hq.reads = none ∧ dst.val ≠ s.node ∧
       s.laneUp (onward lane) = false) ∧
    (let s : State := { base with
       regs := [(Reg.RNG_STAT, 0x10001), (Reg.RNG_LINK, 85), (Reg.RNG_CFG_L, 4), (Reg.LAN_LSTAT 0, 55), (Reg.LAN_LSTAT 1,
         55)] }
     let n : Node := 2; let dst : Node := 0; let off : Nat := 36; let k : Nat := 1; let tag : Nat := 7; let no : Nat := 4
     let q : Nat := 17
     s.running = true ∧ n.val ≠ s.node ∧ s.windowBad n off = false ∧ s.tunnelLane n = some k ∧ s.laneUp k = true ∧
       s.sends k = true ∧ s.hq.keyHold.at n none = none ∧ off = Reg.GLB_KEY ∧ dst.val = s.node ∧
       takeRead n off (some tag) s.hq.reads = none ∧ (∀ e ∈ (s.hq.desc.at q []).head?,
         s.hq.away.at q false = false ∨ e.node ≠ n.val ∨ s.hq.awayNo.at q 0 ≠ no)) ∧
    (let s : State := { base with
       regs := [(Reg.RNG_STAT, 0x10001), (Reg.RNG_LINK, 85), (Reg.RNG_CFG_L, 4), (Reg.LAN_LSTAT 0, 55), (Reg.LAN_LSTAT 1,
         55)], hq.keyHold := [(2, some 85)] }
     let n : Node := 2; let off : Nat := 0x20000; let k : Nat := 1; let w : Word := 85
     s.running = true ∧ n.val ≠ s.node ∧ s.windowBad n off = false ∧ s.tunnelLane n = some k ∧ s.laneUp k = true ∧
       s.sends k = true ∧ s.hq.keyHold.at n none = some w ∧ off ≠ Reg.GLB_KEY) ∧
    (let s : State := { base with
       regs := [(Reg.RNG_STAT, 0x10001), (Reg.RNG_LINK, 85), (Reg.RNG_CFG_L, 4)], hq.reads := [(9, 4, 1, 3), (0, 0x20000, 5,
         7), (0, 0x20000, 6, 8)], now := 10000 }
     let n : Node := 0; let off : Nat := 0x20000; let t : Nat := 5
     let rest : List (Nat × Nat × Nat × Nat) := [(9, 4, 1, 3), (0, 0x20000, 6, 8)]; let tag : Nat := 7
     s.running = true ∧ takeRead n off (some tag) s.hq.reads = some (t, rest) ∧ takeRead n off none s.hq.reads = some (t,
         rest)) ∧
    (let s : State := { base with regs := [(Reg.RNG_STAT, 0x10001), (Reg.RNG_LINK, 85), (Reg.RNG_CFG_L, 4)] }
     let n : Node := 0; let off : Nat := 3; s.running = true ∧ n.val = s.node ∧ badAccess off = true) ∧
    (let s : State := { base with
       regs := [(Reg.RNG_STAT, 0x10001), (Reg.RNG_LINK, 85), (Reg.RNG_CFG_L, 4), (Reg.LAN_LSTAT 0, 55), (Reg.LAN_LSTAT 1,
         55)] }
     let n : Node := 2; let dst : Node := 0; let lane : Lane := 1; let off : Nat := 3; let k : Nat := 1
     s.running = true ∧ dst.val = s.node ∧ badAccess off = true ∧ s.receives lane.val = true ∧ s.sends k = true ∧
       s.tunnelLane n = some k ∧ s.laneUp k = true) ∧
    (let s : State := { base with
       regs := [(Reg.RNG_STAT, 0x10001), (Reg.RNG_LINK, 85), (Reg.RNG_CFG_L, 4), (Reg.LAN_LSTAT 0, 55), (Reg.LAN_LSTAT 1,
         55)] }
     let dst : Node := 3; let lane : Lane := 1
     s.running = true ∧ dst.val ≠ s.node ∧ s.receives lane.val = true ∧ s.sends (onward lane) = true ∧
       s.laneUp (onward lane) = true) ∧
    (let s : State := { base with
       regs := [(Reg.RNG_STAT, 0x10001), (Reg.RNG_LINK, 85), (Reg.RNG_CFG_L, 4), (Reg.LAN_LSTAT 0, 55), (Reg.LAN_LSTAT 1,
         55)] }
     let n : Node := 2; let off : Nat := 0x20000; let k : Nat := 1
     s.running = true ∧ n.val ≠ s.node ∧ s.windowBad n off = false ∧ s.tunnelLane n = some k ∧ s.laneUp k = true ∧
       s.sends k = true ∧ s.hq.keyHold.at n none = none ∧ off ≠ Reg.GLB_KEY) := by
  refine ⟨?_, ?_, ?_, ?_, ?_, ?_, ?_, ?_⟩ <;> first | decide +kernel | exact ⟨rfl, rfl, rfl⟩

theorem witness_NodeWindowsAndHostLink_2_a :
    let s : State := { base with sys.perst := false, hq.regs := [(Reg.HQ_STAT, 1)] }
    (s.running = true ∧ s.sys.perst = false ∧ s.hq.late = [] ∧ s.linkUp = true ∧ s.lockSeq 8 = none) ∧ (∀ q,
        s.hq.desc.at q [] = []) :=
  ⟨by decide +kernel, fun _ => rfl⟩

theorem witness_NodeWindowsAndHostLink_2 :
    let s : State := base; s.running = true ∧ s.sys.perst = true ∧ s.linkUp = false ∧ s.lockSeq 8 = none := by
  decide +kernel

theorem witness_TemperatureSensors :
    (let s : State := { base with thw.sensors := [(9, { code := some 100 })] }
     let codes : List Int := List.replicate 9 100 ++ [1300]; let dev : List (Int × Int) := []; let i : Fin 10 := 9
     s.running = true ∧ s.clkState ≠ 3 ∧ s.bit Reg.MEM_STAT 0 = false ∧ (∀ j < 10, j ≠ i.val → s.sensorBroken j = false ∧
       -480 ≤ codes.getD j 0 ∧ codes.getD j 0 ≤ 1280 ∧ (s.sensor j).same < 4095) ∧ s.sensorBroken i = false ∧
       (codes.getD i 0 < -480 ∨ 1280 < codes.getD i 0) ∧ (s.sensor i).out = false ∧ (s.sensor i).same < 4095 ∧ (∀ j < 10,
         j ≠ i.val → (dev.getD j (0, 0)).1.natAbs ≤ 2000 ∧ (dev.getD j (0, 0)).2.natAbs ≤ 2000) ∧ (dev.getD i (0,
         0)).1.natAbs ≤ 2000 ∧ (dev.getD i (0, 0)).2.natAbs ≤ 2000) ∧
    (let s : State := { base with regs := [(Reg.CLK_STAT, 2)], thw.prev := some 1280 }
     let codes : List Int := [1280] ++ List.replicate 9 50
     let dev : List (Int × Int) := [(2560, 1280)] ++ List.replicate 9 (0, 0); let m : Int := 1280; let i : Fin 10 := 0
     s.running = true ∧ SteadySensors s codes ∧ Largest codes m ∧ (s.bit Reg.MEM_STAT 0 = false ∨ s.thw.prev = none) ∧
       (∀ j < 10, j ≠ i.val → (dev.getD j (0, 0)).1.natAbs ≤ 2000 ∧ (dev.getD j (0, 0)).2.natAbs ≤ 2000) ∧
       (2000 < (dev.getD i (0, 0)).1.natAbs ∨ 2000 < (dev.getD i (0, 0)).2.natAbs) ∧ s.sensorBroken i = false) ∧
    (let s : State := { base with thw.sensors := [(9, { code := some 100, same := 4095 })] }
     let codes : List Int := List.replicate 10 100; let i : Fin 10 := 9
     s.running = true ∧ s.clkState ≠ 3 ∧ s.bit Reg.MEM_STAT 0 = false ∧ (∀ j < 10, j ≠ i.val → s.sensorBroken j = false ∧
       -480 ≤ codes.getD j 0 ∧ codes.getD j 0 ≤ 1280 ∧ (s.sensor j).same < 4095) ∧ s.sensorBroken i = false ∧
       (s.sensor i).code = some (codes.getD i 0) ∧ (s.sensor i).same = 4095 ∧ -480 ≤ codes.getD i 0 ∧ codes.getD i 0 ≤ 1280) ∧
    (let s : State := { base with regs := [(Reg.CLK_STAT, 2), (Reg.MEM_STAT, 1)], thw.prev := some 100 }
     let codes : List Int := [100] ++ List.replicate 9 50; let p : Int := 100; let m : Int := 100
     s.running = true ∧ SteadySensors s codes ∧ Largest codes m ∧ s.bit Reg.MEM_STAT 0 = true ∧ s.thw.prev = some p ∧
       s.thw.levels = 0 ∧ ¬ Both p m (800 ≤ ·) ∧ ¬ Both p m (· < -280)) ∧
    (let s : State := { base with regs := [(Reg.CLK_STAT, 2), (Reg.MEM_STAT, 1)], thw.prev := some 800 }
     let codes : List Int := [800] ++ List.replicate 9 50; let p : Int := 800; let m : Int := 800
     s.running = true ∧ SteadySensors s codes ∧ Largest codes m ∧ s.bit Reg.MEM_STAT 0 = true ∧ s.thw.prev = some p ∧
       s.thw.levels = 0 ∧ Both p m (800 ≤ ·) ∧ ¬ Both p m (840 ≤ ·)) ∧
    (let s : State := { base with regs := [(Reg.CLK_STAT, 2), (Reg.MEM_STAT, 1)], thw.prev := some (-281) }
     let codes : List Int := List.replicate 10 (-281); let p : Int := -281; let m : Int := -281
     s.running = true ∧ SteadySensors s codes ∧ Largest codes m ∧ s.bit Reg.MEM_STAT 0 = true ∧ s.thw.prev = some p ∧
       s.thw.levels = 0 ∧ Both p m (· < -280) ∧ ¬ Both p m (· < -336)) ∧
    (let s : State := { base with regs := [(Reg.CLK_STAT, 2), (Reg.MEM_STAT, 1)], thw.prev := some 100, thw.levels := 2 }
     let codes : List Int := [100] ++ List.replicate 9 50; let p : Int := 100; let m : Int := 100
     s.running = true ∧ SteadySensors s codes ∧ Largest codes m ∧ s.bit Reg.MEM_STAT 0 = true ∧ s.thw.prev = some p ∧
       s.thw.levels = 2 ∧ Both p m (· < 776) ∧ ¬ Both p m (· < -280)) ∧
    (let s : State := { base with regs := [(Reg.CLK_STAT, 2), (Reg.MEM_STAT, 1)], thw.prev := some 840, thw.levels := 2 }
     let codes : List Int := [840] ++ List.replicate 9 50; let p : Int := 840; let m : Int := 840
     s.running = true ∧ SteadySensors s codes ∧ Largest codes m ∧ s.bit Reg.MEM_STAT 0 = true ∧ s.thw.prev = some p ∧
       s.thw.levels = 2 ∧ Both p m (840 ≤ ·) ∧ ¬ Both p m (896 ≤ ·)) ∧
    (let s : State := { base with regs := [(Reg.CLK_STAT, 2), (Reg.MEM_STAT, 1)], thw.prev := some 896, thw.levels := 6 }
     let codes : List Int := [896] ++ List.replicate 9 50; let p : Int := 896; let m : Int := 896
     s.running = true ∧ SteadySensors s codes ∧ Largest codes m ∧ s.bit Reg.MEM_STAT 0 = true ∧ s.thw.prev = some p ∧
       s.thw.levels = 6 ∧ Both p m (896 ≤ ·) ∧ s.bit Reg.GPR_PSTAT 0 = false) ∧
    (let s : State := { base with
       regs := [(Reg.CLK_STAT, 2), (Reg.MEM_STAT, 1)], thw.prev := some (-337), thw.levels := 16 }
     let codes : List Int := List.replicate 10 (-337); let p : Int := -337; let m : Int := -337
     s.running = true ∧ SteadySensors s codes ∧ Largest codes m ∧ s.bit Reg.MEM_STAT 0 = true ∧ s.thw.prev = some p ∧
       s.thw.levels = 16 ∧ Both p m (· < -336) ∧ s.halted = true) ∧
    (let s : State := { base with
       regs := [(Reg.THW_STAT, 0x400000), (Reg.THW_TS 0, 0x10000)], keys.slots := [(0, { key := some 61625, age := 64 })],
       thw.sensors := [(0, { good := 0x1000, check := true }), (1, { good := 0x1000, check := true }), (2,
         { good := 0x1000, check := true }), (3, { good := 0x1000, check := true }), (4, { good := 0x1000, check := true }),
         (5, { good := 0x1000, check := true }), (6, { good := 0x1000, check := true }), (7,
         { good := 0x1000, check := true }), (8, { good := 0x1000, check := true }), (9, { good := 0x1000, check := true })] }
     let codes : List Int := []; let i : Fin 10 := 0; let src : Src := .pcie; let n : Fin 16 := 0
     s.running = true ∧ s.clkState ≠ 3 ∧ s.bit Reg.MEM_STAT 0 = false ∧ (∀ j < 10, j ≠ i.val → s.sensorBroken j = false ∧
       -480 ≤ codes.getD j 0 ∧ codes.getD j 0 ≤ 1280 ∧ (s.sensor j).same < 4095) ∧ s.sensorBroken i = true ∧
       KeyPasses s src Reg.THW_CTRL ∧ n.val < 10 ∧ s.sensorBroken n = true ∧ (s.sensor n).check = true ∧
       4096 ≤ (s.sensor n).good) ∧
    (let s : State := { base with
       keys.slots := [(0, { key := some 61625, age := 64 })], thw.sensors := [(0, { good := 0x1000, check := true }), (1,
         { good := 0x1000, check := true }), (2, { good := 0x1000, check := true }), (3, { good := 0x1000, check := true }),
         (4, { good := 0x1000, check := true }), (5, { good := 0x1000, check := true }), (6,
         { good := 0x1000, check := true }), (7, { good := 0x1000, check := true }), (8, { good := 0x1000, check := true }),
         (9, { good := 0x1000, check := true })] }
     let src : Src := .pcie; let n : Fin 16 := 0
     s.running = true ∧ KeyPasses s src Reg.THW_CTRL ∧ n.val < 10 ∧
       (s.sensorBroken n = false ∨ (s.sensor n).check = false ∨ (s.sensor n).good < 4096)) ∧
    (let s : State := { base with
       keys.slots := [(0, { key := some 61625, age := 64 })], thw.sensors := [(0, { good := 0x1000, check := true }), (1,
         { good := 0x1000, check := true }), (2, { good := 0x1000, check := true }), (3, { good := 0x1000, check := true }),
         (4, { good := 0x1000, check := true }), (5, { good := 0x1000, check := true }), (6,
         { good := 0x1000, check := true }), (7, { good := 0x1000, check := true }), (8, { good := 0x1000, check := true }),
         (9, { good := 0x1000, check := true })] }
     let src : Src := .pcie; let n : Fin 16 := 10; s.running = true ∧ KeyPasses s src Reg.THW_CTRL ∧ 10 ≤ n.val) ∧
    (let s : State := { base with
       regs := [(Reg.CLK_STAT, 2)], thw.sensors := [(0,
         { code := some 5, out := true, same := 7, good := 4095, check := true }), (1,
         { code := some 5, out := true, same := 7, good := 4095, check := true }), (2,
         { code := some 5, out := true, same := 7, good := 4095, check := true }), (3,
         { code := some 5, out := true, same := 7, good := 4095, check := true }), (4,
         { code := some 5, out := true, same := 7, good := 4095, check := true }), (5,
         { code := some 5, out := true, same := 7, good := 4095, check := true }), (6,
         { code := some 5, out := true, same := 7, good := 4095, check := true }), (7,
         { code := some 5, out := true, same := 7, good := 4095, check := true }), (8,
         { code := some 5, out := true, same := 7, good := 4095, check := true }), (9,
         { code := some 5, out := true, same := 7, good := 4095, check := true })], thw.prev := some 1281 }
     let codes : List Int := [1281] ++ List.replicate 9 50; let i : Fin 10 := 0
     s.running = true ∧ s.clkState ≠ 3 ∧ s.bit Reg.MEM_STAT 0 = false ∧ (∀ j < 10, j ≠ i.val → s.sensorBroken j = false ∧
       -480 ≤ codes.getD j 0 ∧ codes.getD j 0 ≤ 1280 ∧ (s.sensor j).same < 4095) ∧ s.sensorBroken i = false ∧
       (codes.getD i 0 < -480 ∨ 1280 < codes.getD i 0) ∧ (s.sensor i).out = true) := by
  refine ⟨?_, ?_, ?_, ?_, ?_, ?_, ?_, ?_, ?_, ?_, ?_, ?_, ?_, ?_⟩ <;> decide +kernel

theorem witness_AdaptiveSupply :
    (let s : State := { base with regs := [(Reg.THW_AVS, 0xa281400), (Reg.THW_AVS_STAT, 720)], thw.retry := true }
     let m : Nat := 9
     s.running = true ∧ (s.rf Reg.THW_AVS 24 8 ≤ m ∨ s.avsRuns = false) ∧ s.thw.slack = none ∧ s.thw.ask = none ∧
       s.thw.retry = true ∧ s.bit Reg.THW_AVS_STAT 11 = false) ∧
    (let s : State := { base with
       regs := [(Reg.THW_AVS, 0xa281400), (Reg.THW_AVS_STAT, 0x6d0)], thw.slack := some (9, 3), thw.ask := some false }
     let m : Nat := 9; let n : Nat := 3; let k : Nat := 1; let a : Pmbus := .nack; let r : Bool := false
     s.running = true ∧ m < s.rf Reg.THW_AVS 24 8 ∧ s.avsRuns = true ∧ s.thw.slack = some (m, n) ∧ s.thw.retry = false ∧
       m < s.rf Reg.THW_AVS 8 8 ∧ s.thw.ask = some r ∧ s.answerBad a = some k ∧ r = false ∧
       (s.thw.retry = false ∨ s.bit Reg.THW_AVS_STAT 11 = true)) ∧
    (let s : State := { base with
       regs := [(Reg.THW_AVS, 0xa281400), (Reg.THW_AVS_STAT, 720)], keys.slots := [(2, { key := some 61625, age := 64 })],
       thw.slack := some (9, 3), thw.ask := some true, thw.retry := true }
     let src : Src := .list; let m : Nat := 9; let n : Nat := 3; let k : Nat := 1; let a : Pmbus := .nack
     let r : Bool := true
     s.running = true ∧ s.thw.slack = some (m, n) ∧ s.avsRuns = false ∧ s.thw.ask = some r ∧ s.answerBad a = some k ∧
       r = true ∧ s.bit Reg.THW_AVS_STAT 11 = false ∧ KeyPasses s src Reg.THW_CTRL ∧ s.bit Reg.THW_AVS_STAT 12 = false) ∧
    (let s : State := { base with
       regs := [(Reg.THW_AVS, 0xa281400), (Reg.THW_AVS_STAT, 0x6d0)], thw.slack := some (20, 3), thw.ask := some false }
     let m : Nat := 20; let n : Nat := 3
     s.running = true ∧ s.thw.slack = some (m, n) ∧ s.avsRuns = true ∧ s.thw.retry = false ∧ s.rf Reg.THW_AVS 8 8 ≤ m ∧
       m ≤ s.rf Reg.THW_AVS 16 8) ∧
    (let s : State := { base with
       regs := [(Reg.THW_AVS, 0xa281400), (Reg.THW_AVS_STAT, 0x6d0)], thw.slack := some (41, 3), thw.ask := some false }
     let m : Nat := 41; let n : Nat := 3
     s.running = true ∧ s.thw.slack = some (m, n) ∧ s.avsRuns = true ∧ s.thw.retry = false ∧ s.rf Reg.THW_AVS 8 8 ≤ m ∧
       s.rf Reg.THW_AVS 16 8 < m ∧ s.thw.high < 63) ∧
    (let s : State := { base with
       regs := [(Reg.THW_AVS, 0xa281400)], thw.slack := some (9, 3), thw.ask := some true, thw.retry := true }
     let a : Pmbus := .read 0xc3500 false; let r : Bool := true
     s.running = true ∧ s.thw.ask = some r ∧ s.answerBad a = none) ∧
    (let s : State := { base with
       regs := [(Reg.THW_AVS, 0xa281400), (Reg.THW_AVS_STAT, 0xad0)], thw.slack := some (9, 3), thw.ask := some true,
       thw.retry := true }
     let k : Nat := 1; let a : Pmbus := .nack; let r : Bool := true
     s.running = true ∧ s.thw.ask = some r ∧ s.answerBad a = some k ∧ r = true ∧ s.bit Reg.THW_AVS_STAT 11 = true) ∧
    (let s : State := { base with
       regs := [(Reg.THW_AVS, 0xa281400), (Reg.THW_AVS_STAT, 0x6d0)], thw.slack := some (41, 3), thw.high := 63,
       thw.ask := some false }
     let m : Nat := 41; let n : Nat := 3
     s.running = true ∧ s.thw.slack = some (m, n) ∧ s.avsRuns = true ∧ s.thw.retry = false ∧ s.rf Reg.THW_AVS 8 8 ≤ m ∧
       s.rf Reg.THW_AVS 16 8 < m ∧ 63 ≤ s.thw.high) ∧
    (let s : State := { base with
       regs := [(Reg.THW_AVS, 0xa281400), (Reg.THW_AVS_STAT, 0x12d0)], keys.slots := [(2, { key := some 61625, age := 64 })],
       thw.slack := some (9, 3), thw.ask := some true, thw.retry := true }
     let src : Src := .list; s.running = true ∧ KeyPasses s src Reg.THW_CTRL ∧ s.bit Reg.THW_AVS_STAT 12 = true) := by
  refine ⟨?_, ?_, ?_, ?_, ?_, ?_, ?_, ?_, ?_⟩ <;> decide +kernel

theorem witness_WearAndRestore_1 :
    (let s : State := { base with
       regs := [(Reg.PAR_STAT, 3), (Reg.THW_WCFG, 0x500004), (Reg.THW_CAP_STAT 0, 1)], tim.s := 100001,
       cfg.wear := some theWearSec, thw.fit := [(0, {})], thw.hist := [(192, [])], thw.rate := [(192, some 0x3a000000)] }
     let k : Nat := 192; let c : Fin 48 := 0; let d : Dy := { m := 0xa00000, e := -19 }
     s.running = true ∧ k < 241 ∧ s.damageOf k = some d ∧ ((histWithin s k) = [] ∨ ∃ x ∈ (histWithin s k).getLast?,
         4 * (s.tim.s - x.1) < s.rf Reg.THW_WCFG 0 9 * 86400) ∧ bitOf (s.thw.told.at k 0) 0 = false ∧
       (Dy.ofInt (s.rf Reg.THW_WCFG 16 7)).le ((Dy.ofInt 100).mul d) = true ∧ s.hq.buf.at 3 [] = [] ∧
       (s.bit (Reg.THW_CAP_STAT c) 1 = false ∨ s.pairState ≠ 3)) ∧
    (let s : State := { base with
       regs := [(Reg.PAR_STAT, 3), (Reg.THW_WCFG, 0x500004)], tim.s := 100001, cfg.wear := some theWearSec, thw.fit := [(0,
         {})], thw.hist := [(192, [])], thw.rate := [(192, some 0x3a000000)] }
     let k : Nat := 192; s.running = true ∧ k < 241 ∧ s.damageOf k = none) ∧
    (let s : State := { base with
       regs := [(Reg.PAR_STAT, 3), (Reg.THW_WCFG, 0x500004), (Reg.THW_CAP_STAT 0, 2)], tim.s := 100001,
       cfg.wear := some theWearSec2, thw.fit := [(0, {})], thw.hist := [(0, [])], thw.rate := [(0, some 0x3a000000)] }
     let c : Fin 48 := 0; let e : Word × Word := (0, 0)
     s.running = true ∧ s.bit (Reg.THW_CAP_STAT c) 1 = true ∧ s.pairState = 3 ∧ e = fitEstimate (s.thw.fit.at c {}) ∧
       Plausible (s.wearSec.c0.getD c 0) (s.wearSec.esr0.getD c 0) e.1 e.2 ∧ s.bit (Reg.THW_CAP_STAT c) 0 = false) ∧
    (let s : State := { base with
       regs := [(Reg.PAR_STAT, 3), (Reg.THW_WCFG, 0x500004), (Reg.THW_CAP_STAT 0, 3)], tim.s := 100001,
       cfg.wear := some theWearSec2, thw.fit := [(0, {})], thw.hist := [(0, [])], thw.rate := [(0, some 0x3a000000)] }
     let c : Fin 48 := 0; let e : Word × Word := (0, 0)
     s.running = true ∧ s.bit (Reg.THW_CAP_STAT c) 1 = true ∧ s.pairState = 3 ∧ e = fitEstimate (s.thw.fit.at c {}) ∧
       Plausible (s.wearSec.c0.getD c 0) (s.wearSec.esr0.getD c 0) e.1 e.2 ∧ s.bit (Reg.THW_CAP_STAT c) 0 = true) ∧
    (let s : State := { base with
       regs := [(Reg.PAR_STAT, 3), (Reg.THW_WCFG, 0x500004), (Reg.THW_CAP_STAT 0, 2)], tim.s := 100001,
       cfg.wear := some theWearSec, thw.fit := [(0, {})], thw.hist := [(0, [])], thw.rate := [(0, some 0x3a000000)] }
     let c : Fin 48 := 0; let e : Word × Word := (0, 0)
     s.running = true ∧ s.bit (Reg.THW_CAP_STAT c) 1 = true ∧ s.pairState = 3 ∧ e = fitEstimate (s.thw.fit.at c {}) ∧
       ¬ Plausible (s.wearSec.c0.getD c 0) (s.wearSec.esr0.getD c 0) e.1 e.2) ∧
    (let s : State := { base with
       regs := [(Reg.PAR_STAT, 3), (Reg.THW_WCFG, 0x500004)], tim.s := 100001, cfg.wear := some theWearSec, thw.fit := [(0,
         {})], thw.hist := [(0, [(100000, { m := 1, e := -3 }), (5000, { m := 1, e := -5 })])], thw.rate := [(0,
         some 0x3a000000)] }
     let k : Nat := 0; let d : Dy := {}; let t : Nat := 5000; let old : Dy := { m := 1, e := -5 }
     s.running = true ∧ k < 241 ∧ s.damageOf k = some d ∧ (histWithin s k).getLast? = some (t, old) ∧
       s.rf Reg.THW_WCFG 0 9 * 86400 ≤ 4 * (s.tim.s - t)) := by
  refine ⟨?_, ?_, ?_, ?_, ?_, ?_⟩ <;> decide +kernel

theorem witness_WearAndRestore_2 :
    (let s : State := { base with keys.slots := [(0, { key := some 61625, age := 64 })] }; let src : Src := .pcie
     KeyPasses s src Reg.THW_CTRL ∧ s.halted = true ∧ s.bit (Reg.VTX_STAT 0) 5 = false ∧ s.bit Reg.THW_STAT 21 = false ∧
       s.rrecOk = true) ∧
    (let s : State := { base with
       regs := [(Reg.GLB_STAT, 7), (Reg.THW_STAT, 0x200000)], keys.slots := [(0, { key := some 61625, age := 64 })] }
     let src : Src := .pcie
     KeyPasses s src Reg.THW_CTRL ∧ (∃ r < 6, (((s.halted = false ∨ s.bit (Reg.VTX_STAT 0) 5 = true) ∧
       r = 1) ∨ (s.halted = true ∧ s.bit (Reg.VTX_STAT 0) 5 = false ∧ s.bit Reg.THW_STAT 21 = true ∧
       r = 2) ∨ (s.halted = true ∧ s.bit (Reg.VTX_STAT 0) 5 = false ∧ s.bit Reg.THW_STAT 21 = false ∧ s.rrecOk = false ∧
       r = 3)))) := by
  refine ⟨?_, ?_⟩ <;> decide +kernel

theorem witness_ImageReception :
    (let s : State := { base with
       regs := [(Reg.GLB_STAT, 7), (Reg.PAR_STAT, 3)], keys.slots := [(0, { key := some 49616, age := 64 })] }
     let src : Src := .pcie; let ring : Bool := false; let n : Fin 4 := 0
     n.val = ring.toNat ∧ KeyPasses s src Reg.CFG_LOAD ∧ s.cfg.load = none ∧ s.halted = false ∧ s.running = true ∧
       (∀ l ∈ s.cfg.load, l.checking = true) ∧ (∃ c ∈ [Instr.loadPatch src n, .loadFullImage src n],
         (c = Instr.loadPatch src n ∨ c = .loadFullImage src n ∧ s.halted = true) ∧ s.sourceOk ring = true) ∧ (∃ m : Fin 4,
         (1 < m.val ∨ m = n ∧ s.sourceOk ring = false))) ∧
    (let s : State := { base with
       regs := [(Reg.GLB_STAT, 6)], keys.slots := [(0, { key := some 49616, age := 64 })],
       cfg.load := some { ring := false } }
     let src : Src := .pcie; let ring : Bool := true; let n : Fin 4 := 1
     n.val = ring.toNat ∧ KeyPasses s src Reg.CFG_LOAD ∧ s.running = true ∧ (∃ l ∈ s.cfg.load, l.checking = false)) := by
  refine ⟨?_, ?_⟩ <;> decide +kernel

theorem witness_Commits_1 :
    (let s : State := base; Reaches s Reg.CFG_COMMIT ∧ s.cfg.inForce = false) ∧
    (let s : State := { base with cfg.inForce := true }; let cls : BitVec 8 := 0; let inst : BitVec 8 := 0
     Reaches s Reg.CFG_COMMIT ∧ s.cfg.inForce = true ∧ classSize cls.toNat ≤ inst.toNat ∧
       (allGroups.filter fun g => s.differs g.1 g.2).find? (fun g => s.isPending g.1 g.2) = none) ∧
    (let s : State := { base with cfg.inForce := true }; let cls : BitVec 8 := 1; let inst : BitVec 8 := 0
     Reaches s Reg.CFG_COMMIT ∧ s.cfg.inForce = true ∧ inst.toNat < classSize cls.toNat ∧
       s.isPending cls.toNat inst.toNat = false) ∧
    (let s : State := { base with cfg.inForce := true, cfg.pend := [(256, some {})] }; let cls : BitVec 8 := 1
     let inst : BitVec 8 := 0
     Reaches s Reg.CFG_COMMIT ∧ s.cfg.inForce = true ∧ inst.toNat < classSize cls.toNat ∧
       s.isPending cls.toNat inst.toNat = true) ∧
    (let s : State := { base with regs := [(Reg.PWM_GEPO 7, 9)], cfg.inForce := true, cfg.pend := [(775, some {})] }
     Reaches s Reg.CFG_COMMIT ∧ s.cfg.inForce = true ∧
       (∃ g ∈ (allGroups.filter fun g => s.differs g.1 g.2).find? (fun g => s.isPending g.1 g.2), True)) := by
  refine ⟨?_, ?_, ?_, ?_, ?_⟩ <;> decide +kernel

theorem witness_Commits_2 :
    (let s : State := { base with regs := [(Reg.GLB_STAT, 6)], cfg.inForce := true, cfg.pend := [(256, some {})] }
     let c : Nat := 1; let i : Nat := 0; let r : CommitReq := { all := false, cls := 1, no := 3 }
     let governed : Bool := false
     s.running = true ∧ i < classSize c ∧ r.all = false ∧ r.cls = c ∧ r.inst = i ∧ governed = (s.cfg.atBy == some r.no) ∧
       s.cfg.checking = []) ∧
    (let s : State := { base with
       regs := [(Reg.GLB_STAT, 6)], cfg.inForce := true, cfg.checking := [{ all := false, cls := 1, no := 3 }] }
     let c : Nat := 1; let i : Nat := 0; let r : CommitReq := { all := false, cls := 1, no := 3 }
     let l : List CommitReq := []; let governed : Bool := false
     s.running = true ∧ i < classSize c ∧ r.all = false ∧ r.cls = c ∧ r.inst = i ∧ governed = (s.cfg.atBy == some r.no) ∧
       s.cfg.checking = r :: l ∧ s.isPending c i = false ∧ (∃ y ∈ s.checkGroup [(c, i)] c i, True)) ∧
    (let s : State := { base with
       regs := [(Reg.GLB_STAT, 6), (Reg.CFG_COMMIT_AT, 1)], cfg.inForce := true,
       cfg.checking := [{ all := false, cls := 3, no := 3 }, { all := true }] }
     let c : Nat := 3; let i : Nat := 0; let r : CommitReq := { all := false, cls := 3, no := 3 }
     let l : List CommitReq := [{ all := true }]; let governed : Bool := false
     s.running = true ∧ i < classSize c ∧ r.all = false ∧ r.cls = c ∧ r.inst = i ∧ governed = (s.cfg.atBy == some r.no) ∧
       s.cfg.checking = r :: l ∧ s.checkGroup [(c, i)] c i = none ∧ s.cfg.pend = [] ∧ s.immediate c = true ∧
       (r.earliest.all fun t => 0 ≤ (s.tim.ts32 - t).toInt)) ∧
    (let s : State := { base with
       regs := [(Reg.GLB_STAT, 7)], cfg.inForce := true,
       cfg.checking := [{ all := false, cls := 1, no := 3, earliest := some 0 }], cfg.pend := [(256, some {})] }
     let c : Nat := 1; let i : Nat := 0; let r : CommitReq := { all := false, cls := 1, no := 3, earliest := some 0 }
     let l : List CommitReq := []; let governed : Bool := false
     s.running = true ∧ i < classSize c ∧ r.all = false ∧ r.cls = c ∧ r.inst = i ∧ governed = (s.cfg.atBy == some r.no) ∧
       s.cfg.checking = r :: l ∧ s.isPending c i = true) ∧
    (let s : State := { base with
       regs := [(Reg.GLB_STAT, 7)], cfg.inForce := true,
       cfg.checking := [{ all := false, cls := 2, no := 3, earliest := some 5 }, { all := true }], cfg.atBy := some 3 }
     let c : Nat := 2; let i : Nat := 0; let r : CommitReq := { all := false, cls := 2, no := 3, earliest := some 5 }
     let l : List CommitReq := [{ all := true }]; let governed : Bool := true
     s.running = true ∧ i < classSize c ∧ r.all = false ∧ r.cls = c ∧ r.inst = i ∧ governed = (s.cfg.atBy == some r.no) ∧
       s.cfg.checking = r :: l ∧ s.checkGroup [(c, i)] c i = none ∧ s.cfg.pend = [] ∧
       (s.immediate c = false ∨ r.earliest.any fun t => (s.tim.ts32 - t).toInt < 0)) := by
  refine ⟨?_, ?_, ?_, ?_, ?_⟩ <;> decide +kernel

theorem witness_RegisterWrites_1 :
    (let s : State := { base with regs := [(Reg.GLB_STAT, 7)] }; let a : Nat := 131360; Reaches s a ∧ isLiveCopy a = true) ∧
    (let s : State := { base with regs := [(Reg.GLB_STAT, 7)] }; let a : Nat := 0x80000; let v : Word := 18
     let r : Row := { base := 0x80000, n1 := 64, s1 := 8, acc := .rws, mask := 262143 }
     Reaches s a ∧ rowOf a = some r ∧ r.acc = .rws ∧ s.writeRefusal r a v = none) ∧
    (let s : State := { base with regs := [(Reg.GLB_STAT, 7)] }; let a : Nat := 131104; let v : Word := 0xffffffff
     let r : Row := { base := 131104, acc := .rws, reset := 858993459, mask := 4294967295, halt := true }
     Reaches s a ∧ rowOf a = some r ∧ r.acc = .rws ∧ (∃ code ∈ s.writeRefusal r a v, True)) := by
  refine ⟨?_, ?_, ?_⟩ <;> decide +kernel

theorem witness_RegisterWrites_2_a :
    let s : State := base; let a : Nat := 131632; let v : Word := 5
    let r : Row := { base := 131600, n1 := 8, s1 := 32, acc := .rw, mask := 4294967295 }
    (s.onMain = true ∧ Reaches s a ∧ rowOf a = some r ∧ (r.acc = .rw ∨ r.acc = .rws) ∧ s.writeRefusal r a v = none) ∧
      PlainRegister a :=
  ⟨by decide +kernel, ⟨by decide, by decide, by decide, by decide, fun _ => ⟨rfl, rfl⟩⟩⟩

theorem witness_RegisterWrites_2_b :
    let s : State := { base with regs := [(Reg.GLB_STAT, 7)] }; let a : Nat := 12
    let r : Row := { base := 12, acc := .w1c, mask := 63 }
    (s.onMain = true ∧ Reaches s a ∧ rowOf a = some r ∧ r.acc = .w1c) ∧ PlainRegister a :=
  ⟨by decide +kernel, ⟨by decide, by decide, by decide, by decide, fun _ => ⟨rfl, rfl⟩⟩⟩

theorem witness_RegisterWrites_2_c :
    let s : State := { base with regs := [(Reg.GLB_STAT, 7)] }; let a : Nat := 0
    let r : Row := { base := 0, acc := .ro, reset := 0x24600000 }
    (s.onMain = true ∧ Reaches s a ∧ (rowOf a = none ∨ rowOf a = some r ∧ (r.acc = .ro ∨ r.acc = .rc))) ∧ PlainRegister a :=
  ⟨by decide +kernel, ⟨by decide, by decide, by decide, by decide, fun _ => ⟨rfl, rfl⟩⟩⟩

theorem witness_RegisterWrites_2_d :
    let s : State := { base with regs := [(Reg.GLB_STAT, 7)] }; let a : Nat := 65540; let v : Word := 0xffffffff
    let r : Row :=
      { base := 65540, acc := .rw, reset := 0x3c0a00, mask := 16776967, halt := true, ranges := [(8, 8, 1, 255), (16, 8, 1,
          255)] }
    (s.onMain = true ∧ Reaches s a ∧ rowOf a = some r ∧ (r.acc = .rw ∨ r.acc = .rws) ∧ (∃ code ∈ s.writeRefusal r a v,
        True)) ∧ PlainRegister a :=
  ⟨by decide +kernel, ⟨by decide, by decide, by decide, by decide, fun _ => ⟨rfl, rfl⟩⟩⟩

theorem witness_RegisterWrites_2 :
    (let s : State := base; let a : Nat := 3; s.onMain = true ∧ badAccess a = true) ∧
    (let s : State := { base with regs := [(Reg.GLB_STAT, 7)] }; let src : Src := .list; let a : Nat := 8
     s.onMain = true ∧ Reaches s a ∧ badAccess a = false ∧ (keyOf a).isSome = true ∧ s.keyOk src a = false) ∧
    (let s : State := { base with sys.ready := false }; let a : Nat := 131632
     s.onMain = true ∧ badAccess a = false ∧ s.writable a = false) := by
  refine ⟨?_, ?_, ?_⟩ <;> decide +kernel

theorem witness_KeysAndReads_1 :
    let s : State := base; let src : Src := .pcie; let other : Src := .list
    other ≠ src ∧ Reaches s Reg.GLB_KEY ∧ Reaches s Reg.EVT_QCODE := by
  decide +kernel

theorem witness_KeysAndReads_2 :
    (let s : State := base; let a : Nat := 2; s.onMain = true ∧ s.sys.ready = true ∧ badAccess a = true) ∧
    (let s : State := { base with sys.ready := false }; let a : Nat := 0x20000
     s.onMain = true ∧ s.sys.ready = false ∧ badAccess a = false ∧ s.readable a = false) ∧
    (let s : State := base; let a : Nat := 40; let r : Row := { base := 40, acc := .rc }
     s.onMain = true ∧ PlainRead a ∧ s.readable a = true ∧ rowOf a = some r ∧ r.acc = .rc) ∧
    (let s : State := base; let a : Nat := 36; let r : Row := { base := 36, acc := .wo, mask := 65535 }
     s.onMain = true ∧ PlainRead a ∧ s.readable a = true ∧ (rowOf a = none ∨ rowOf a = some r ∧ r.acc = .wo)) ∧
    (let s : State := base; let a : Nat := 0; let r : Row := { base := 0, acc := .ro, reset := 0x24600000 }
     s.onMain = true ∧ PlainRead a ∧ s.readable a = true ∧ rowOf a = some r ∧ r.acc ≠ .rc ∧ r.acc ≠ .wo) := by
  refine ⟨?_, ?_, ?_, ?_, ?_⟩ <;> decide +kernel

theorem witness_ResetsAndStraps_1 :
    (let s : State := { base with mem := [(2048, 7)] }; s.sys.por = false ∧ s.sys.prst = false) ∧
    (let s : State := { base with mem := [(2048, 7)], sys.por := true, sys.prst := true }
     s.sys.por = true ∧ s.sys.prst = true) ∧
    (let s : State := { base with mem := [(2048, 7)], sys.por := true }; s.sys.por = true ∧ s.sys.prst = false) ∧
    (let s : State := { base with mem := [(2048, 7)], sys.prst := true }; s.sys.prst = true ∧ s.sys.por = false) := by
  refine ⟨?_, ?_, ?_, ?_⟩ <;> decide +kernel

theorem witness_ResetsAndStraps_2 :
    (let s : State := { base with mem := [(2048, 7)], keys.slots := [(0, { key := some 23100, age := 64 })] }
     let src : Src := .pcie; s.onMain = true ∧ s.sys.hold = none ∧ KeyPasses s src Reg.GLB_CTRL) ∧
    (let s : State := { base with
       mem := [(2048, 7)], sys.prst := true, keys.slots := [(0, { key := some 23100, age := 64 })] }
     s.sys.prst = true) := by
  refine ⟨?_, ?_⟩ <;> decide +kernel

theorem witness_SelfTestAndSupplies :
    (let s : State := { base with regs := [(Reg.GLB_STAT, 4)] }; let items : BitVec 5 := 0; let banks : BitVec 8 := 0
     let trim : Bool := true; let b : Bank := 0
     s.running = true ∧ s.devState = 4 ∧ (items ≠ 0 ∨ trim = true ∨ banks ≠ 0) ∧
       (s.onMain && s.outEn && s.bankUsed b.val) = false) ∧
    (let s : State := { base with
       regs := [(Reg.GLB_STAT, 6), (Reg.PWM_STAT, 256)], cfg.inForce := true, cfg.pop := 16777215 }
     let b : Bank := 0; s.running = true ∧ s.devState ≠ 4 ∧ (s.onMain && s.outEn && s.bankUsed b.val) = true) ∧
    (let s : State := { base with regs := [(Reg.GLB_STAT, 4)] }; let items : BitVec 5 := 0; let banks : BitVec 8 := 0
     let trim : Bool := false; s.running = true ∧ s.devState = 4 ∧ items = 0 ∧ trim = false ∧ banks = 0) := by
  refine ⟨?_, ?_, ?_⟩ <;> decide +kernel

theorem witness_ArmAndHalt :
    (let s : State := { base with regs := [(Reg.GLB_STAT, 6)], keys.slots := [(0, { key := some 23100, age := 64 })] }
     let src : Src := .pcie; let force : Bool := true
     KeyPasses s src Reg.GLB_CTRL ∧ s.armFailures ≠ 0 ∧ (s.pairState < 2 ∨ force = true) ∧ s.running = true ∧
       s.sys.armWait = false) ∧
    (let s : State := { base with
       regs := [(Reg.GLB_STAT, 6), (Reg.PAR_STAT, 2)], sys.armWait := true, keys.slots := [(0,
         { key := some 23100, age := 64 })] }
     let src : Src := .pcie; let force : Bool := false
     KeyPasses s src Reg.GLB_CTRL ∧ 2 ≤ s.pairState ∧ force = false ∧ s.running = true ∧ s.sys.armWait = true) ∧
    (let s : State := { base with
       regs := [(Reg.GLB_STAT, 6), (Reg.CLK_STAT, 2), (Reg.TIM_STAT, 2), (Reg.CFG_STAT, 4), (Reg.ADC_KSTAT 0, 1),
         (Reg.ADC_KSTAT 1, 1), (Reg.ADC_KSTAT 2, 1), (Reg.ADC_KSTAT 3, 1), (Reg.ADC_KSTAT 4, 1), (Reg.ADC_KSTAT 5, 1),
         (Reg.ADC_KSTAT 6, 1), (Reg.ADC_KSTAT 7, 1)], sys.bank := [(0, true), (1, true), (2, true), (3, true), (4, true), (5,
         true), (6, true), (7, true)], keys.slots := [(0, { key := some 23100, age := 64 })], cfg.inForce := true,
       now := 10000000 }
     let src : Src := .pcie
     KeyPasses s src Reg.GLB_CTRL ∧ s.armFailures = 0 ∧ s.sys.armWait = false ∧ s.bit Reg.GLB_ARM_AT 0 = false ∧
       s.mayBeActive = true ∧ s.role = false) ∧
    (let s : State := { base with
       regs := [(Reg.GLB_STAT, 6), (Reg.CLK_STAT, 2), (Reg.TIM_STAT, 2), (Reg.CFG_STAT, 4), (Reg.ADC_KSTAT 0, 1),
         (Reg.ADC_KSTAT 1, 1), (Reg.ADC_KSTAT 2, 1), (Reg.ADC_KSTAT 3, 1), (Reg.ADC_KSTAT 4, 1), (Reg.ADC_KSTAT 5, 1),
         (Reg.ADC_KSTAT 6, 1), (Reg.ADC_KSTAT 7, 1), (Reg.PAR_STAT, 4)], sys.bank := [(0, true), (1, true), (2, true), (3,
         true), (4, true), (5, true), (6, true), (7, true)], keys.slots := [(0, { key := some 23100, age := 64 })],
       cfg.inForce := true, now := 10000000 }
     let src : Src := .pcie
     KeyPasses s src Reg.GLB_CTRL ∧ s.armFailures = 0 ∧ s.sys.armWait = false ∧ s.bit Reg.GLB_ARM_AT 0 = false ∧
       s.mayBeActive = false) ∧
    (let s : State := { base with
       regs := [(Reg.GLB_STAT, 6), (Reg.GLB_ARM_AT, 1), (Reg.CLK_STAT, 2), (Reg.TIM_STAT, 2), (Reg.CFG_STAT, 4),
         (Reg.ADC_KSTAT 0, 1), (Reg.ADC_KSTAT 1, 1), (Reg.ADC_KSTAT 2, 1), (Reg.ADC_KSTAT 3, 1), (Reg.ADC_KSTAT 4, 1),
         (Reg.ADC_KSTAT 5, 1), (Reg.ADC_KSTAT 6, 1), (Reg.ADC_KSTAT 7, 1)], sys.bank := [(0, true), (1, true), (2, true), (3,
         true), (4, true), (5, true), (6, true), (7, true)], keys.slots := [(0, { key := some 23100, age := 64 })],
       cfg.inForce := true, now := 10000000 }
     let src : Src := .pcie
     KeyPasses s src Reg.GLB_CTRL ∧ s.armFailures = 0 ∧ s.sys.armWait = false ∧ s.bit Reg.GLB_ARM_AT 0 = true) ∧
    (let s : State := { base with
       regs := [(Reg.GLB_STAT, 6), (Reg.GLB_STRAP, 64), (Reg.CLK_STAT, 2), (Reg.TIM_STAT, 2), (Reg.CFG_STAT, 4),
         (Reg.ADC_KSTAT 0, 1), (Reg.ADC_KSTAT 1, 1), (Reg.ADC_KSTAT 2, 1), (Reg.ADC_KSTAT 3, 1), (Reg.ADC_KSTAT 4, 1),
         (Reg.ADC_KSTAT 5, 1), (Reg.ADC_KSTAT 6, 1), (Reg.ADC_KSTAT 7, 1)], sys.bank := [(0, true), (1, true), (2, true), (3,
         true), (4, true), (5, true), (6, true), (7, true)], keys.slots := [(0, { key := some 23100, age := 64 })],
       cfg.inForce := true, now := 10000000 }
     let src : Src := .pcie
     KeyPasses s src Reg.GLB_CTRL ∧ s.armFailures = 0 ∧ s.sys.armWait = false ∧ s.bit Reg.GLB_ARM_AT 0 = false ∧
       s.mayBeActive = true ∧ s.role = true) := by
  refine ⟨?_, ?_, ?_, ?_, ?_, ?_⟩ <;> decide +kernel

theorem witness_EffectsWhateverWaits_1 :
    (let s : State := { base with
       regs := [(Reg.SLT_CTL_L 0, 0x1000000)], cfg.graphs := [(0, theGraph)], vtx.run := [(0,
         some { entry := 0, seg := 0 })] }
     let e : Fin 64 := 0; let en : Engine := 0; let mm : Fin 3 := 0; let k : Nat := 0
     let r : SegRun := { entry := 0, seg := 0 }; let g : Segment := theSegment; let b : Block := theBlock2
     s.running = true ∧ k = s.slotEngine e.val ∧ s.runOf k = some r ∧ r.entry = e.val ∧ r.seg < 8 ∧
       s.segment k r.seg = some g ∧ NextBlock s en.val r b ∧ (b.defer = false ∨ s.bit Reg.THW_STAT 19 = false) ∧ mm.val < 2) ∧
    (let s : State := { base with
       regs := [(Reg.GLB_STAT, 7), (Reg.SLT_CTL_L 0, 0x1000000), (Reg.PAR_STAT, 3)], cfg.graphs := [(0, theGraph)] }
     let e : Fin 64 := 0; let k : Nat := 0; let j : Nat := 0
     s.running = true ∧ k = s.slotEngine e.val ∧ j = s.slotSeg e.val ∧ s.slotValid e.val = true ∧ s.enginesRun = true ∧
       s.vtx.stopped.at k false = false ∧ s.runOf k = none ∧ (s.segment k j).isSome = true) := by
  refine ⟨?_, ?_⟩ <;> decide +kernel

theorem witness_EffectsWhateverWaits_2 :
    (let s : State := { base with regs := [(Reg.PWM_GCFG_L 0, 1)], cfg.inForce := true, ring.closed := some 5 }
     let k : Int := 5; let g : Group := 0
     s.running = true ∧ s.ring.closed = some k ∧ s.cfg.inForce = true ∧ s.midCommit g.val = true) ∧
    (let s : State := { base with
       regs := [(Reg.LAN_LSTAT 0, 55), (Reg.LAN_LSTAT 1, 55), (Reg.LAN_LSTAT 2, 55), (Reg.LAN_LSTAT 3, 55), (Reg.LAN_LSTAT 4,
         55), (Reg.LAN_LSTAT 5, 55), (Reg.LAN_LSTAT 6, 55), (Reg.LAN_LSTAT 7, 55)] }
     let lane : Lane := 0; let node : Node := 3; s.running = true ∧ node.val ≠ s.node ∧ s.receives lane.val = true) ∧
    (let s : State := { base with
       regs := [(Reg.PWM_STAT, 256), (Reg.PWM_GPER_L 0, 0xbb8), (Reg.PWM_ON_L 0, 0x3e8), (Reg.PWM_WID_L 0, 1),
         (Reg.PWM_DT_L 0, 0x500040), (Reg.PWM_PCFG 0, 8)], sys.bank := [(0, true), (1, true), (2, true), (3, true), (4, true),
         (5, true), (6, true), (7, true)], sys.armed := true, cfg.inForce := true, cfg.pop := 16777215, pwm.pairs := [(0,
         { started := true, low := true })] }
     let v : Bool := true; let x : Nat := 1000; let q : LegPair := 0
     s.running = true ∧ s.outEn = true ∧ s.pairEnabled q = true ∧ (s.pair q.val).started = true ∧
       uLevel (s.liveSet q.val) (s.fineLen (s.groupOfPair q.val)) (s.pair q.val).cut x = v ∧ (s.pair q.val).raw = !v) := by
  refine ⟨?_, ?_, ?_⟩ <;> decide +kernel

theorem witness_EffectsWhateverWaits_3 :
    (let s : State := { base with
       regs := [(Reg.FLT_STAT, 2)], flint.sgiOn := true, flint.held := false,
       flint.safe := some { enable := 2, manual := 0 } }
     s.running = true ∧ s.flintRuns = true ∧ bitOf s.flint.req 3 = false) ∧
    (let s : State := { base with
       regs := [(Reg.GLB_STAT, 7), (Reg.GPR_PSTAT, 2), (Reg.PAR_STAT, 3)], sys.armed := true, sys.hbOut := true,
       cfg.pop := 16777215, now := 1000 }
     let g : Gate := 0; s.running = true ∧ s.evaluating = true ∧ s.latched g.val = false) ∧
    (let s : State := { base with
       regs := [(Reg.PAR_STAT, 2), (Reg.PAR_CKPT_STAT, 7), (Reg.PAR_CKPT_SIZE, 256)], par.geode := [(0, some theCkpt), (1,
         some theCkpt2)] }
     let c : Ckpt := theCkpt2; s.running = true ∧ s.pairState = 2 ∧ s.newestCkpt = some c) := by
  refine ⟨?_, ?_, ?_⟩ <;> decide +kernel

theorem witness_EffectsWhateverWaits_4 :
    (let s : State := { base with
       regs := [(Reg.GLB_STAT, 3), (Reg.PAR_STAT, 1)], memi.serial := 7, keys.slots := [(0,
         { key := some 40531, age := 64 })] }
     let src : Src := .pcie; let p : Point := 0; let a : Nat := 0; let t : Nat := 0
     s.running = true ∧ t = s.meterInstant p a ∧ KeyPasses s src Reg.MTR_CTRL ∧ (s.pairState ≠ 3 ∨ s.mtr.save.isSome = true) ∧
       s.bit Reg.MEM_STAT 0 = false) ∧
    (let s : State := { base with
       regs := [(Reg.SDM_RES 0, 0x3e8), (Reg.SDM_RES 1, 0x10007d0), (Reg.SDM_RES 2, 0x10003e8), (Reg.SDM_RES 3, 0x10007d0),
         (Reg.SDM_RES 4, 0x10003e8), (Reg.SDM_RES 5, 0x10007d0), (Reg.MTR_PCFG 0, 0x4020007), (Reg.MTR_REV 0, 0x640001),
         (Reg.MTR_ISRC 0, 0x50301), (Reg.MTR_PSC_L 0 0, 0x3a800000), (Reg.MTR_PSC_L 0 1, 0x3a800000), (Reg.MTR_PSC_L 0 2,
         0x3a800000)], mtr.points := [(0, theMtrPoint3)] }
     let p : Point := 0; let a : Nat := 3000000; let t : Nat := 2999872
     s.running = true ∧ t = s.meterInstant p a ∧ s.bit (Reg.MTR_PCFG p) 0 = true ∧ (∃ i < s.pairsOf p, s.codesOk p i = false)) ∧
    (let s : State := { base with
       regs := [(Reg.SDM_RES 0, 0x10003e8), (Reg.SDM_RES 1, 0x10007d0), (Reg.SDM_RES 2, 0x10003e8), (Reg.SDM_RES 3,
         0x10007d0), (Reg.SDM_RES 4, 0x10003e8), (Reg.SDM_RES 5, 0x10007d0), (Reg.MTR_PCFG 0, 0x4020007), (Reg.MTR_REV 0,
         0x640001), (Reg.MTR_ISRC 0, 0x50301), (Reg.MTR_PSC_L 0 0, 0x3a800000), (Reg.MTR_PSC_L 0 1, 0x3a800000),
         (Reg.MTR_PSC_L 0 2, 0x3a800000)], mtr.points := [(0, theMtrPoint3)] }
     let p : Point := 0; let a : Nat := 3000000; let t : Nat := 2999872; let t0 : Nat := 1000
     s.running = true ∧ t = s.meterInstant p a ∧ s.bit (Reg.MTR_PCFG p) 0 = true ∧ (∀ i < s.pairsOf p, s.codesOk p i = true) ∧
       (s.point p).last = some t0 ∧ (s.point p).scales = []) := by
  refine ⟨?_, ?_, ?_⟩ <;> decide +kernel

theorem witness_EffectsWhateverWaits_5 :
    (let s : State := { base with now := 100 }; let r : Fin 12 := 0; let b : Fin 16 := 0
     s.running = true ∧ s.reservedBy b.val = none ∧ (s.arbBank b.val).holder.map ArbReq.r ≠ some r.val ∧
       Reaches s (Reg.ARB_CLASS r.val)) ∧
    (let s : State := { base with
       regs := [(Reg.ARB_STAT, 0)], arb.banks := [(15,
         { holder := some { r := 11, kind := .plain, since := 60, arrived := 60, granted := 150, beats := 4, addr := 3932288 } })] }
     let r : Fin 12 := 11; let b : Fin 16 := 15; s.running = true ∧ s.arbService = true ∧ s.holds r.val b.val = true) ∧
    (let s : State := { base with
       arb.seqs := [(0,
         some { since := 60, first := (0, { r := 0, kind := .plain, since := 60, arrived := 60, beats := 4, addr := 144 }), banks := [0], writes := [(16, [5, 6])] })],
       now := 100 }
     let r : Fin 12 := 0; s.running = true ∧ (∃ z ∈ s.lockSeq r.val, True)) := by
  refine ⟨?_, ?_, ?_⟩ <;> decide +kernel

theorem witness_EffectsWhateverWaits_6 :
    (let s : State := { base with sys.perst := false }; s.running = true ∧ s.sys.perst = false) ∧
    (let s : State := { base with hq.reads := [(0, 0, 5, 3)] }; let n : Node := 0; let off : Nat := 0; let t : Nat := 5
     let rest : List (Nat × Nat × Nat × Nat) := []; let tag : Nat := 3
     s.running = true ∧ takeRead n off (some tag) s.hq.reads = some (t, rest)) ∧
    (let s : State := { base with
       regs := [(Reg.LAN_LSTAT 0, 55), (Reg.LAN_LSTAT 1, 55), (Reg.LAN_LSTAT 2, 55), (Reg.LAN_LSTAT 3, 55), (Reg.LAN_LSTAT 4,
         55), (Reg.LAN_LSTAT 5, 55), (Reg.LAN_LSTAT 6, 55), (Reg.LAN_LSTAT 7, 55)], hq.reads := [(0, 0, 5, 3), (1, 0, 4, 5)] }
     let lane : Lane := 0; let n : Node := 0; s.running = true ∧ n.val = s.node ∧ s.receives lane.val = true) ∧
    (let s : State := { base with
       regs := [(Reg.GLB_STAT, 7), (Reg.RNG_LINK, 85), (Reg.RNG_CFG_L, 4), (Reg.ARB_HOLD, 100)], mem := [(513, 1), (514, 2),
         (515, 3), (516, 4), (517, 5), (518, 6), (519, 7), (520, 8), (521, 9), (522, 10), (523, 11), (524, 12), (525, 13),
         (526, 14), (527, 15), (528, 16), (529, 17), (530, 18), (531, 19), (532, 20), (533, 21), (534, 22), (535, 23), (536,
         24), (537, 25), (538, 26), (539, 27), (540, 28), (541, 29), (542, 30), (543, 31), (544, 32), (545, 33), (546, 34),
         (547, 35), (548, 36), (549, 37), (550, 38), (551, 39)], memi.held := [(16, .write [9, 9], 0)],
       hq.regs := [(Reg.HQ_STAT, 1), (Reg.HQ_QCFG 16, 65), (Reg.HQ_HEAD 16, 15), (Reg.HQ_QCFG 18, 65), (Reg.HQ_HEAD 18, 15)],
       hq.desc := [(16, [{ len := 4, op := 1, dofs := 76, tag := 9 }]), (18,
         [{ len := 16, op := 3, dofs := 256, tag := 7 }])] }
     let tag : Nat := 1; let d : Desc := { len := 16, op := 3, dofs := 256, tag := 7 }
     let b : List Byte := (List.range 16).map (BitVec.ofNat 8)
     s.running = true ∧ s.frontDesc 18 = some d ∧ d.node = s.node ∧ s.overLock d = false ∧ s.bit Reg.MEM_STAT 2 = false ∧
       0 < d.len ∧ d.len % 8 = 0 ∧ d.dofs % 8 = 0 ∧ (∀ i < d.len, region (d.dofs + i) = 1) ∧ d.op = 3 ∧ b.length = d.len) ∧
    (let s : State := { base with
       regs := [(Reg.RNG_LINK, 85), (Reg.RNG_CFG_L, 4), (Reg.ARB_HOLD, 100)], mem := [(513, 1), (514, 2), (515, 3), (516, 4),
         (517, 5), (518, 6), (519, 7), (520, 8), (521, 9), (522, 10), (523, 11), (524, 12), (525, 13), (526, 14), (527, 15),
         (528, 16), (529, 17), (530, 18), (531, 19), (532, 20), (533, 21), (534, 22), (535, 23), (536, 24), (537, 25), (538,
         26), (539, 27), (540, 28), (541, 29), (542, 30), (543, 31), (544, 32), (545, 33), (546, 34), (547, 35), (548, 36),
         (549, 37), (550, 38), (551, 39)], cfg.pend := [(768, some {})], hq.regs := [(Reg.HQ_STAT, 1), (Reg.HQ_QCFG 16, 65),
         (Reg.HQ_HEAD 16, 15), (Reg.HQ_QCFG 18, 65), (Reg.HQ_HEAD 18, 15)], hq.desc := [(16,
         [{ len := 4, op := 1, dofs := 76, tag := 9 }]), (18,
         [{ addr := 0x1000, len := 16, op := 4, dofs := 512, tag := 7 }])], hq.late := [(3, 5, [])], hq.reads := [(5, 0, 32,
         1), (7, 1, 32, 2)] }
     let tag : Nat := 1; let d : Desc := { addr := 0x1000, len := 16, op := 4, dofs := 512, tag := 7 }
     s.running = true ∧ s.frontDesc 18 = some d ∧ d.node = s.node ∧ s.overLock d = false ∧ s.bit Reg.MEM_STAT 2 = false ∧
       0 < d.len ∧ d.len % 8 = 0 ∧ d.dofs % 8 = 0 ∧ (∀ i < d.len, region (d.dofs + i) = 1) ∧ d.op = 4 ∧ s.memi.raw = []) ∧
    (let s : State := { base with
       regs := [(Reg.RNG_LINK, 85), (Reg.RNG_CFG_L, 4), (Reg.ARB_HOLD, 100)], mem := [(513, 1), (514, 2), (515, 3), (516, 4),
         (517, 5), (518, 6), (519, 7), (520, 8), (521, 9), (522, 10), (523, 11), (524, 12), (525, 13), (526, 14), (527, 15),
         (528, 16), (529, 17), (530, 18), (531, 19), (532, 20), (533, 21), (534, 22), (535, 23), (536, 24), (537, 25), (538,
         26), (539, 27), (540, 28), (541, 29), (542, 30), (543, 31), (544, 32), (545, 33), (546, 34), (547, 35), (548, 36),
         (549, 37), (550, 38), (551, 39)], cfg.load := some theLoad, hq.regs := [(Reg.HQ_STAT, 1), (Reg.HQ_QCFG 16, 65),
         (Reg.HQ_HEAD 16, 15), (Reg.HQ_QCFG 18, 65), (Reg.HQ_HEAD 18, 15)], hq.desc := [(16,
         [{ len := 4, op := 1, dofs := 76, tag := 9 }]), (18, [{ len := 16, op := 3, dofs := 256, tag := 7 }])] }
     let tag : Nat := 1; let d : Desc := { len := 4, op := 1, dofs := 76, tag := 9 }; let x : Load := theLoad
     s.running = true ∧ s.frontDesc 16 = some d ∧ d.node = s.node ∧ s.cfg.load = some x ∧ x.checking = false ∧
       x.ring = false ∧ d.dofs = x.data.length) := by
  refine ⟨?_, ?_, ?_, ?_, ?_, ?_⟩ <;> decide +kernel

theorem witness_EffectsWhateverWaits_7 :
    let s : State := { base with regs := [(Reg.CLK_STAT, 2)], thw.prev := some 100 }
    let codes : List Int := [100] ++ List.replicate 9 50; let i : Fin 10 := 0
    s.running = true ∧ s.clkState ≠ 3 ∧ s.sensorBroken i = false ∧ -480 ≤ codes.getD i 0 ∧ codes.getD i 0 ≤ 1280 ∧
      (s.sensor i).same < 4095 := by
  decide +kernel

theorem witness_EffectsWhateverWaits_8 :
    (let s : State := { base with
       regs := [(Reg.GLB_STAT, 6), (Reg.PWM_STAT, 256)], cfg.inForce := true,
       cfg.checking := [{ all := false, cls := 2, no := 3, earliest := some 0 }] }
     let c : Nat := 2; let i : Nat := 0; let r : CommitReq := { all := false, cls := 2, no := 3, earliest := some 0 }
     let l : List CommitReq := []
     s.running = true ∧ i < classSize c ∧ r.all = false ∧ r.cls = c ∧ r.inst = i ∧ s.cfg.checking = r :: l ∧
       s.isPending c i = false ∧ s.checkGroup [(c, i)] c i = none ∧ s.immediate c = true ∧
       (r.earliest.all fun t => 0 ≤ (s.tim.ts32 - t).toInt)) ∧
    (let s : State := { base with
       regs := [(Reg.GLB_STAT, 7), (Reg.PWM_STAT, 256)], cfg.inForce := true,
       cfg.checking := [{ all := false, cls := 2, no := 3 }], cfg.pend := [(768, some {}), (1280, some {}), (1793, some {}),
         (2048, some {})] }
     let c : Nat := 2; let i : Nat := 0; let r : CommitReq := { all := false, cls := 2, no := 3 }
     let l : List CommitReq := []
     s.running = true ∧ i < classSize c ∧ r.all = false ∧ r.cls = c ∧ r.inst = i ∧ s.cfg.checking = r :: l ∧
       s.isPending c i = false ∧ s.checkGroup [(c, i)] c i = none ∧ s.immediate c = false) := by
  refine ⟨?_, ?_⟩ <;> decide +kernel

end Sys2Proof.Tests
end

section
/-! PROOFS. A write that clears a bit of ARB_CUT (R10, R473), and what it does to the arbiter's counters. -/

namespace Sys2Proof.Machine

/-! ### What a command leaves in the registers -/

/-- Queueing the events of a tick leaves every register outside EVT and HQ. -/
@[simp] theorem State.rg_flush (s : State) (a : Nat) : s.flush.rg a = s.rg a := by
  obtain ⟨e, h, hf⟩ := State.flush_queuesOnly s
  rw [hf]
  rfl

/-- A command that answers `w` says of `w`'s registers what it does to any: two states that flush to the same outcome agree
on every register outside EVT and HQ. -/
theorem Does_rg_eq {c : Instr} {s w : State} {P : State → Prop} (h : Safety.Does c s P)
    (he : exec c s = .next w.flush) : ∃ u, P u ∧ ∀ a, u.rg a = w.rg a := by
  obtain ⟨u, hu, hp⟩ := h
  have hflush : u.flush = w.flush := Host.Outcome.next.inj (hu.symm.trans he)
  exact ⟨u, hp, fun a => by rw [← State.rg_flush u, hflush, State.rg_flush]⟩

/-! ### Flag registers (R10) -/

/-- A write to a register without an action of its own acts by the access code of its row. -/
theorem exec_registerWrite_plain (src : Src) {a : Nat} (v : Word) {s : State} (hr : Safety.Reaches s a)
    (hp : Safety.PlainRegister a) :
    exec (.registerWrite src a v) s = .next (codeWrite a v (s.disarm src)).flush := by
  obtain ⟨hon, hw⟩ := hr
  obtain ⟨hbad, hkey, hne, hlive, hact⟩ := hp
  obtain ⟨hone, harr⟩ := hact v
  have hplain : plainWrite src a v (s.disarm src) = codeWrite a v (s.disarm src) := by
    simp [plainWrite, hne, hlive, hone, harr]
  calc exec (.registerWrite src a v) s = .next (hostWrite src a v s).flush := State.access_on s _ hon
    _ = .next (codeWrite a v (s.disarm src)).flush := by
      simp [hostWrite, hbad, hkey, State.unkeyed_pass s src a _ hw, hplain]

/-- A W1C register clears the flags written as one. -/
theorem codeWrite_w1c {a : Nat} {r : Row} (v : Word) (s : State) (hrow : rowOf a = some r) (hacc : r.acc = .w1c) :
    codeWrite a v s = flagWrite r a v s := by
  simp [codeWrite, hrow, hacc]

/-! ### A demoted requester at a bank -/

/-- The row of ARB_CUT in the register map. -/
def arbCutRow : Row := { base := 0x12000c, acc := .w1c, mask := 0xfff0fff }

theorem rowOf_arbCut : rowOf Reg.ARB_CUT = some arbCutRow := by decide

theorem plainRegister_arbCut : Safety.PlainRegister Reg.ARB_CUT :=
  ⟨by decide, by decide, by decide, by decide, fun _ => ⟨rfl, rfl⟩⟩

/-- In SERVICE mode, engine 0 is cut off and demoted. At bank 0 it waits, at class 0, behind a transfer of requester 9, whose
class is 0 as well. -/
def demotedWaits : State :=
  { sys.por := false, sys.ready := true, now := 10, regs := [(Reg.ARB_STAT, 0), (Reg.ARB_CUT, 1)]
    arb.banks := [(0, { holder := some { r := 9, since := 16, granted := 17, beats := 16 }
                        waiting := [{ r := 0, since := 19, beats := 8 }] })] }

theorem demotedWaits_reaches : Safety.Reaches demotedWaits Reg.ARB_CUT := by decide

theorem demotedWaits_preempt : demotedWaits.rg Reg.ARB_PREEMPT = 0 := by decide

/-- Clearing the ARB_CUT bit gives engine 0 its own class 3 again (R473); it outranks the holder and preempts it (R466). -/
theorem demotedWaits_cleared_preempt (src : Src) :
    (flagWrite arbCutRow Reg.ARB_CUT 1 (demotedWaits.disarm src)).rg Reg.ARB_PREEMPT = 1 := by
  cases src <;> decide

end Sys2Proof.Machine

open Sys2Proof Sys2Proof.Machine Sys2Proof.Safety

/-- Refutes O54: the write that clears a bit of ARB_CUT ends a demotion, so that a waiting request preempts the holder of its bank
and ARB_PREEMPT counts (R466, R473). The last clause lets a write of flags change the flag register and MTR_MPO_BKLG alone. -/
theorem not_registerWrites : ¬ Obligations.RegisterWrites := by
  unfold Obligations.RegisterWrites
  rintro ⟨_, hwrite⟩
  obtain ⟨_, _, hreach⟩ := hwrite demotedWaits .pcie Reg.ARB_CUT 1 arbCutRow demotedWaits_reaches.1
  obtain ⟨_, _, hflags⟩ := (hreach demotedWaits_reaches).2 plainRegister_arbCut
  have he : exec (.registerWrite .pcie Reg.ARB_CUT 1) demotedWaits =
      .next (flagWrite arbCutRow Reg.ARB_CUT 1 (demotedWaits.disarm .pcie)).flush := by
    rw [exec_registerWrite_plain .pcie 1 demotedWaits_reaches plainRegister_arbCut,
      codeWrite_w1c 1 _ rowOf_arbCut rfl]
  obtain ⟨u, ⟨_, _, _, hkeeps, _⟩, hu⟩ := Does_rg_eq (hflags rowOf_arbCut rfl) he
  have hsame : u.rg Reg.ARB_PREEMPT = demotedWaits.rg Reg.ARB_PREEMPT := hkeeps Reg.ARB_PREEMPT (by decide)
  rw [hu, demotedWaits_cleared_preempt, demotedWaits_preempt] at hsame
  exact absurd hsame (by decide)
end

section
/-! PROOFS. What driving the outputs, the lanes and the engines sets and leaves (R159, R334, R335, R358, R495), and what a standby
enters with (R28, R398). -/

namespace Sys2Proof.Machine

open Safety (KeepsRegs KeepsMem Raises haltRegs)

variable (s : State)

/-! ### Fields and bits of registers -/

theorem State.rf_of_rg {s t : State} {a : Nat} (lo n : Nat) (h : t.rg a = s.rg a) : t.rf a lo n = s.rf a lo n :=
  congrArg (fld · lo n) h

theorem State.bit_of_rg {s t : State} {a : Nat} (i : Nat) (h : t.rg a = s.rg a) : t.bit a i = s.bit a i :=
  congrArg (fun w => fld w i 1 == 1) h

theorem State.rf_wr_ne (v : Word) (lo n : Nat) {a b : Nat} (h : b ≠ a) : (s.wr a v).rf b lo n = s.rf b lo n :=
  State.rf_of_rg lo n ((s.rg_wr a b v).trans (if_neg h))

theorem State.rf_wbit_ne (i : Nat) (v : Bool) (lo n : Nat) {a b : Nat} (h : b ≠ a) :
    (s.wbit a i v).rf b lo n = s.rf b lo n :=
  s.rf_wr_ne _ lo n h

theorem State.rf_wbit_apart (a : Nat) {i : Nat} (v : Bool) {lo n : Nat} (h : i < 32) (hd : i < lo ∨ lo + n ≤ i) :
    (s.wbit a i v).rf a lo n = s.rf a lo n :=
  s.rf_wf_apart a _ h hd

/-- A bit reads what was written to it. -/
theorem State.bit_wbit_same (a : Nat) {i : Nat} (b : Bool) (h : i < 32) : (s.wbit a i b).bit a i = b := by
  have hf : (s.wbit a i b).rf a i 1 = b.toNat % 2 ^ 1 := s.rf_wf_same a i 1 b.toNat h
  cases b <;> simp [State.bit, hf]

theorem State.bit_wbit_apart (a : Nat) {i j : Nat} (b : Bool) (h : i < 32) (hd : j ≠ i) :
    (s.wbit a i b).bit a j = s.bit a j := by
  simp only [State.bit, s.rf_wbit_apart a b h (by omega : i < j ∨ j + 1 ≤ i)]

/-- Every bit of a cleared low field is clear. -/
theorem fld_setFld_zero (w : Word) {n i : Nat} (h : n ≤ 32) (hi : i < n) : fld (setFld w 0 n 0) i 1 = 0 := by
  obtain ⟨k, rfl⟩ := Nat.exists_eq_add_of_le (Nat.succ_le_of_lt hi)
  rw [fld, setFld_toNat w 0 _ 0 (by omega)]
  simp only [pow_zero, Nat.mod_one, Nat.zero_mod, Nat.zero_add, Nat.one_mul]
  rw [Nat.succ_eq_add_one, pow_add, pow_add, Nat.mul_assoc, Nat.mul_assoc, Nat.mul_div_cancel_left _ (by positivity)]
  exact Nat.mul_mod_right _ _

/-! ### Repeated changes -/

theorem State.each_succ (n : Nat) (f : State → Nat → State) : s.each (n + 1) f = f (s.each n f) n := by
  simp [State.each, List.range_succ]

/-- What no single change touches, all of them leave. -/
theorem State.each_eq {β : Type} (g : State → β) {f : State → Nat → State} (h : ∀ t i, g (f t i) = g t) (n : Nat) :
    g (s.each n f) = g s := by
  induction n with
  | zero => rfl
  | succ n ih => rw [State.each_succ, h, ih]

theorem State.pair_setPair (k q : Nat) (p : Pair) : (s.setPair k p).pair q = if q = k then p else s.pair q :=
  Tab.get_set _ _ _ _ _

/-- Leg pairs set one by one all have the property that each is set with. -/
theorem State.each_setPair {P : Pair → Prop} (f : State → Nat → Pair) (h : ∀ t q, P (f t q)) (n : Nat) :
    ∀ q < n, P ((s.each n fun t q => t.setPair q (f t q)).pair q) := by
  induction n with
  | zero => intro q hq; omega
  | succ n ih =>
    intro q hq
    rw [State.each_succ, State.pair_setPair]
    split
    · exact h _ _
    · exact ih q (by omega)

/-! ### Changes of the outputs -/

/-- Nothing but the registers listed, the trace, and the hidden state of protection, generator and engines differs. -/
def DrivesOnly (l : List Nat) (s t : State) : Prop :=
  KeepsRegs s t l ∧ ∃ r o p w v, t = { s with regs := r, out := o, prot := p, pwm := w, vtx := v }

namespace DrivesOnly

variable {l l' : List Nat} {s t u : State}

theorem refl (l : List Nat) (s : State) : DrivesOnly l s s := ⟨fun _ _ => rfl, _, _, _, _, _, rfl⟩

theorem trans (h : DrivesOnly l s t) (k : DrivesOnly l t u) : DrivesOnly l s u := by
  obtain ⟨hr, r, o, p, w, v, rfl⟩ := h
  obtain ⟨kr, r', o', p', w', v', rfl⟩ := k
  exact ⟨fun a ha => (kr a ha).trans (hr a ha), r', o', p', w', v', rfl⟩

theorem mono (hl : ∀ a ∈ l, a ∈ l') (h : DrivesOnly l s t) : DrivesOnly l' s t :=
  ⟨fun a ha => h.1 a fun hm => ha (hl a hm), h.2⟩

theorem each {f : State → Nat → State} {n : Nat} (h : ∀ i < n, ∀ t, DrivesOnly l t (f t i)) (s : State) :
    DrivesOnly l s (s.each n f) := by
  induction n with
  | zero => exact refl l s
  | succ n ih =>
    rw [State.each_succ]
    exact (ih fun i hi => h i (by omega)).trans (h n (by omega) _)

theorem ite {c : Prop} [Decidable c] (h : DrivesOnly l s t) (k : DrivesOnly l s u) : DrivesOnly l s (if c then t else u) := by
  split
  · exact h
  · exact k

theorem rg (h : DrivesOnly l s t) {a : Nat} (ha : a ∉ l) : t.rg a = s.rg a := h.1 a ha

theorem par (h : DrivesOnly l s t) : t.par = s.par := by obtain ⟨_, _, _, _, _, _, rfl⟩ := h; rfl

theorem sys (h : DrivesOnly l s t) : t.sys = s.sys := by obtain ⟨_, _, _, _, _, _, rfl⟩ := h; rfl

theorem evt (h : DrivesOnly l s t) : t.evt = s.evt := by obtain ⟨_, _, _, _, _, _, rfl⟩ := h; rfl

theorem mem (h : DrivesOnly l s t) : t.mem = s.mem := by obtain ⟨_, _, _, _, _, _, rfl⟩ := h; rfl

theorem tim (h : DrivesOnly l s t) : t.tim = s.tim := by obtain ⟨_, _, _, _, _, _, rfl⟩ := h; rfl

end DrivesOnly

theorem State.wr_drivesOnly {l : List Nat} {a : Nat} (v : Word) (h : a ∈ l) : DrivesOnly l s (s.wr a v) :=
  ⟨fun b hb => (s.rg_wr a b v).trans (if_neg (ne_of_mem_of_not_mem h hb).symm), _, _, _, _, _, rfl⟩

theorem State.send_drivesOnly (l : List Nat) (n : Nat) (o : Out) : DrivesOnly l s (s.send n o) :=
  DrivesOnly.ite ⟨fun _ _ => rfl, _, _, _, _, _, rfl⟩ (DrivesOnly.refl l s)

theorem State.setPair_drivesOnly (l : List Nat) (q : Nat) (p : Pair) : DrivesOnly l s (s.setPair q p) :=
  ⟨fun _ _ => rfl, _, _, _, _, _, rfl⟩

theorem State.setGate_drivesOnly (l : List Nat) (g : Nat) (b : Bool) : DrivesOnly l s (s.setGate g b) :=
  ⟨fun _ _ => rfl, _, _, _, _, _, rfl⟩

/-! ### Balls and pairs -/

theorem State.settleGate_drivesOnly (l : List Nat) (g : Nat) : DrivesOnly l s (s.settleGate g) := by
  unfold State.settleGate
  split
  · exact s.setGate_drivesOnly l g false
  · exact DrivesOnly.refl l s
  · exact s.setGate_drivesOnly l g _

theorem State.settleByp_drivesOnly : DrivesOnly [Reg.GPR_BYPO] s s.settleByp := by
  have hb : DrivesOnly [Reg.GPR_BYPO] s { s with prot.byp := s.bypMask } := ⟨fun _ _ => rfl, _, _, _, _, _, rfl⟩
  exact DrivesOnly.ite (hb.trans (State.wr_drivesOnly _ _ (by decide))) hb

/-- Bringing the balls in line shows in GPR_BYPO alone. -/
theorem State.settle_drivesOnly : DrivesOnly [Reg.GPR_BYPO] s s.settle :=
  (DrivesOnly.each (fun g _ t => t.settleGate_drivesOnly _ g) s).trans (State.settleByp_drivesOnly _)

theorem State.settleGate_pwm (g : Nat) : (s.settleGate g).pwm = s.pwm := by
  unfold State.settleGate
  split <;> rfl

@[simp] theorem State.settle_pwm : s.settle.pwm = s.pwm := by
  have hb (t : State) : t.settleByp.pwm = t.pwm := by simp [State.settleByp]
  exact (hb _).trans (s.each_eq State.pwm State.settleGate_pwm 192)

theorem State.cancelAll_drivesOnly (l : List Nat) : DrivesOnly l s s.cancelAll :=
  DrivesOnly.each (fun q _ t => t.setPair_drivesOnly l q _) s

theorem State.stopPairs_drivesOnly (l : List Nat) : DrivesOnly l s s.stopPairs :=
  DrivesOnly.each (fun q _ t => t.setPair_drivesOnly l q _) s

/-- The engines stop in VTX_STAT alone (R159). -/
theorem State.abandonEngines_drivesOnly : DrivesOnly ((List.range 8).map Reg.VTX_STAT) s s.abandonEngines := by
  have hrun : DrivesOnly ((List.range 8).map Reg.VTX_STAT) s { s with vtx.run := [] } := ⟨fun _ _ => rfl, _, _, _, _, _, rfl⟩
  refine DrivesOnly.ite (DrivesOnly.refl _ s) (hrun.trans (DrivesOnly.each (fun k hk t => ?_) _))
  exact DrivesOnly.ite (DrivesOnly.refl _ t) (t.wr_drivesOnly _ (List.mem_map_of_mem (List.mem_range.2 hk)))

/-- The registers that show the outputs off (R50, R159, R320). -/
def offRegs : List Nat := [Reg.PWM_STAT, Reg.GPR_PSTAT] ++ (List.range 8).map Reg.VTX_STAT

theorem State.outputsOff_drivesOnly : DrivesOnly offRegs s s.outputsOff := by
  have hoff : DrivesOnly offRegs s ((s.wbit Reg.PWM_STAT 8 false).wbit Reg.GPR_PSTAT 2 false) :=
    (s.wr_drivesOnly _ (by decide)).trans (State.wr_drivesOnly _ _ (by decide))
  exact (hoff.trans (State.stopPairs_drivesOnly _ _)).trans ((State.abandonEngines_drivesOnly _).mono (by decide))

theorem State.outputsOff_outEn : s.outputsOff.outEn = false := by
  have hkeep : s.outputsOff.rg Reg.PWM_STAT = ((s.wbit Reg.PWM_STAT 8 false).wbit Reg.GPR_PSTAT 2 false).rg Reg.PWM_STAT :=
    ((State.abandonEngines_drivesOnly _).rg (by decide)).trans ((State.stopPairs_drivesOnly _ []).rg (by decide))
  calc s.outputsOff.outEn = (s.wbit Reg.PWM_STAT 8 false).bit Reg.PWM_STAT 8 :=
        State.bit_of_rg 8 (hkeep.trans (State.rg_wbit_ne _ _ _ (by decide)))
    _ = false := s.bit_wbit_same _ _ (by decide)

theorem State.outputsOn_drivesOnly : DrivesOnly [Reg.PWM_STAT, Reg.GPR_PSTAT] s s.outputsOn :=
  (s.wr_drivesOnly _ (by decide)).trans (State.wr_drivesOnly _ _ (by decide))

theorem State.outputsOn_outEn : s.outputsOn.outEn = true :=
  (State.bit_of_rg 8 (State.rg_wbit_ne _ _ _ (by decide))).trans (s.bit_wbit_same Reg.PWM_STAT true (by decide))

/-- Holding every pair shows in PWM_STAT.PEND alone. -/
theorem State.holdPairs_drivesOnly : DrivesOnly [Reg.PWM_STAT] s s.holdPairs := by
  have hbyp : DrivesOnly [Reg.PWM_STAT] s { s with prot.bypWait := s.pairless } := ⟨fun _ _ => rfl, _, _, _, _, _, rfl⟩
  exact (hbyp.trans (DrivesOnly.each (fun q _ t => t.setPair_drivesOnly _ q _) _)).trans
    (State.wr_drivesOnly _ _ (by decide))

theorem State.holdPairs_outEn : s.holdPairs.outEn = s.outEn := by
  have hpend (t : State) : t.showPend.outEn = t.outEn :=
    congrArg (· == 1) (t.rf_wf_apart Reg.PWM_STAT _ (lo := 0) (n := 8) (lo' := 8) (n' := 1) (by decide) (.inl (by decide)))
  rw [State.holdPairs, hpend]
  refine (State.each_eq _ State.outEn (fun t q => ?_) 96).trans rfl
  rfl

/-- Every pair holds the fail-safe pattern and is not started (R411, R413). -/
theorem State.holdPairs_held : ∀ q < 96, (s.holdPairs.pair q).hold = true ∧ (s.holdPairs.pair q).started = false := by
  intro q hq
  have hpend (t : State) : t.showPend.pair q = t.pair q := rfl
  rw [State.holdPairs, hpend]
  exact State.each_setPair (P := fun p => p.hold = true ∧ p.started = false) _ _ (fun _ _ => ⟨rfl, rfl⟩) 96 q hq

/-! ### Lanes and the pair state -/

/-- The registers that show the lane directions awake (R495). -/
def awakeRegs : List Nat := Reg.LAN_STAT :: (List.range 8).map Reg.LAN_LSTAT

theorem lanLstat_mem_awakeRegs {n : Nat} (h : n < 8) : Reg.LAN_LSTAT n ∈ awakeRegs :=
  List.mem_cons_of_mem _ (List.mem_map_of_mem (List.mem_range.2 h))

theorem State.setAwake_drivesOnly {n : Nat} (h : n < 8) (tx b : Bool) : DrivesOnly awakeRegs s (s.setAwake n tx b) := by
  have hshow : DrivesOnly awakeRegs s
      ((s.wbit (Reg.LAN_LSTAT n) (if tx then 4 else 5) b).wbit Reg.LAN_STAT ((if tx then 8 else 16) + n) b) :=
    (s.wr_drivesOnly _ (lanLstat_mem_awakeRegs h)).trans (State.wr_drivesOnly _ _ (by decide))
  exact hshow.trans (DrivesOnly.ite (State.send_drivesOnly _ _ _ _) (DrivesOnly.refl _ _))

/-- The lanes follow the pair state in the registers of the directions; PAR_STAT keeps all but PLINK. -/
theorem State.laneUses_cases : ∃ t, DrivesOnly awakeRegs s t ∧ s.laneUses = t.showPartner := by
  refine ⟨_, DrivesOnly.each (fun n hn t => ?_) s, rfl⟩
  have htx : DrivesOnly awakeRegs t (if t.rf (Reg.LAN_CFG n) 0 2 = 2 then
      t.setAwake n true (s.bit Reg.LAN_STAT 26 || decide (2 ≤ s.rf Reg.PAR_STAT 0 2)) else t) :=
    DrivesOnly.ite (t.setAwake_drivesOnly hn _ _) (DrivesOnly.refl _ t)
  exact htx.trans (DrivesOnly.ite (State.setAwake_drivesOnly _ hn _ _) (DrivesOnly.refl _ _))

theorem State.showPartner_drivesOnly : DrivesOnly [Reg.PAR_STAT, Reg.RNG_LINK] s s.showPartner :=
  (s.wr_drivesOnly _ (by decide)).trans (State.wr_drivesOnly _ _ (by decide))

theorem State.showPartner_rf_parStat {lo n : Nat} (h : lo + n ≤ 3 ∨ 4 ≤ lo) :
    s.showPartner.rf Reg.PAR_STAT lo n = s.rf Reg.PAR_STAT lo n :=
  (State.rf_wf_ne _ _ _ _ _ _ (by decide)).trans (s.rf_wbit_apart _ _ (by decide) (by omega))

theorem State.laneUses_rf_parStat {lo n : Nat} (h : lo + n ≤ 3 ∨ 4 ≤ lo) :
    s.laneUses.rf Reg.PAR_STAT lo n = s.rf Reg.PAR_STAT lo n := by
  obtain ⟨t, ht, he⟩ := s.laneUses_cases
  rw [he, t.showPartner_rf_parStat h]
  exact State.rf_of_rg lo n (ht.rg (by decide))

/-- Entering a pair state touches registers that halting may touch. -/
theorem State.setPairState_drivesOnly (p : Nat) : DrivesOnly haltRegs s (s.setPairState p) := by
  obtain ⟨t, ht, he⟩ := ((s.wf Reg.PAR_STAT 0 2 p).wbit Reg.ARB_STAT 0 (p == 0)).laneUses_cases
  have hset : DrivesOnly haltRegs s ((s.wf Reg.PAR_STAT 0 2 p).wbit Reg.ARB_STAT 0 (p == 0)) :=
    (s.wr_drivesOnly _ (by decide)).trans (State.wr_drivesOnly _ _ (by decide))
  rw [State.setPairState, he]
  exact (hset.trans (ht.mono (by decide))).trans (t.showPartner_drivesOnly.mono (by decide))

/-- PWM_STAT is no register of the pair state. -/
theorem State.setPairState_outEn (p : Nat) : (s.setPairState p).outEn = s.outEn := by
  obtain ⟨t, ht, he⟩ := ((s.wf Reg.PAR_STAT 0 2 p).wbit Reg.ARB_STAT 0 (p == 0)).laneUses_cases
  have hset : ((s.wf Reg.PAR_STAT 0 2 p).wbit Reg.ARB_STAT 0 (p == 0)).rg Reg.PWM_STAT = s.rg Reg.PWM_STAT :=
    (State.rg_wbit_ne _ _ _ (by decide)).trans (s.rg_wf_ne _ _ _ (by decide))
  rw [State.setPairState, he]
  exact State.bit_of_rg 8 ((t.showPartner_drivesOnly.rg (by decide)).trans ((ht.rg (by decide)).trans hset))

theorem State.setPairState_pairState (p : Nat) : (s.setPairState p).pairState = p % 4 := by
  rw [State.pairState, State.setPairState, State.laneUses_rf_parStat _ (.inl (by decide)),
    State.rf_wbit_ne _ _ _ _ _ (by decide)]
  exact s.rf_wf_same _ _ _ _ (by decide)

/-- Entering a pair state keeps PAR_STAT but for STATE and PLINK. -/
theorem State.setPairState_rf_parStat (p : Nat) {lo n : Nat} (h : 2 ≤ lo) (hd : lo + n ≤ 3 ∨ 4 ≤ lo) :
    (s.setPairState p).rf Reg.PAR_STAT lo n = s.rf Reg.PAR_STAT lo n := by
  rw [State.setPairState, State.laneUses_rf_parStat _ hd, State.rf_wbit_ne _ _ _ _ _ (by decide),
    State.rf_wf_apart _ _ _ (by decide) (.inl h)]

end Sys2Proof.Machine
end

section
/-! PROOFS. Pair redundancy: own eligibility (R402), entering STANDBY (R28, R398), losing a Geode buffer (R407), and partner loss
with the takeover it starts (R410, R418). -/

namespace Sys2Proof.Machine

open Safety (KeepsRegs KeepsMem Raises haltRegs)

variable (s : State)

/-! ### Steps within a tick -/

/-- Time and memories stand, the registers listed may differ, and events are added. -/
structure SameTick (l : List Nat) (s t : State) : Prop where
  regs : KeepsRegs s t l
  mem : t.mem = s.mem
  tim : t.tim = s.tim
  raises : ∃ ev, Raises s t ev

theorem raises_trans {s t u : State} {e f : List (Nat × Nat × List Nat)} (h : Raises s t e) (k : Raises t u f)
    (ht : t.tim = s.tim) : Raises s u (e ++ f) := by
  unfold Raises at *
  rw [k, h, ht, List.map_append, List.append_assoc]

theorem State.raise_raises (c n : Nat) (d : List Nat) : Raises s (s.raise c n d) [(c, n, d)] := rfl

/-- The batch is as it was. -/
theorem raises_none {s t : State} (h : t.evt.batch = s.evt.batch) : Raises s t [] := by
  simp [Raises, h]

namespace SameTick

variable {l l' : List Nat} {s t u : State}

theorem trans (h : SameTick l s t) (k : SameTick l t u) : SameTick l s u := by
  obtain ⟨e, he⟩ := h.raises
  obtain ⟨f, hf⟩ := k.raises
  exact ⟨fun a ha => (k.regs a ha).trans (h.regs a ha), k.mem.trans h.mem, k.tim.trans h.tim, e ++ f, raises_trans he hf h.tim⟩

theorem mono (hl : ∀ a ∈ l, a ∈ l') (h : SameTick l s t) : SameTick l' s t :=
  ⟨fun a ha => h.regs a fun hm => ha (hl a hm), h.mem, h.tim, h.raises⟩

theorem keepsMem (h : SameTick l s t) : KeepsMem s t := fun a => by rw [State.byte, h.mem]; rfl

end SameTick

theorem DrivesOnly.raises {l : List Nat} {s t : State} (h : DrivesOnly l s t) : Raises s t [] :=
  raises_none (by rw [h.evt])

theorem DrivesOnly.sameTick {l : List Nat} {s t : State} (h : DrivesOnly l s t) : SameTick l s t :=
  ⟨h.1, h.mem, h.tim, [], h.raises⟩

/-- A change of the pair's own hidden state is none of registers, memories or events. -/
theorem sameTick_par (l : List Nat) (p : Par) : SameTick l s { s with par := p } :=
  ⟨fun _ _ => rfl, rfl, rfl, [], raises_none rfl⟩

theorem State.raise_sameTick (l : List Nat) (c n : Nat) (d : List Nat) : SameTick l s (s.raise c n d) :=
  ⟨fun _ _ => rfl, rfl, rfl, _, s.raise_raises c n d⟩

theorem State.wr_sameTick {l : List Nat} {a : Nat} (v : Word) (h : a ∈ l) : SameTick l s (s.wr a v) :=
  (s.wr_drivesOnly v h).sameTick

/-! ### Eligibility (R402) -/

/-- Bit 11 of the health word is own eligibility. -/
theorem State.bitOf_healthBits_eleven : bitOf s.healthBits 11 = s.eligible := by
  have hbit (b : Bool) : b.toNat ≤ 1 := Bool.toNat_le b
  have hlow : ((List.range 9).map fun i => (s.health.getD i false).toNat * 2 ^ (i + 1)).sum ≤ 1022 := by
    have h (i : Nat) := hbit (s.health.getD i false)
    have := h 0; have := h 1; have := h 2; have := h 3; have := h 4; have := h 5; have := h 6; have := h 7; have := h 8
    simp only [List.range, List.range.loop, List.map, List.sum_cons, List.sum_nil]
    omega
  have hactive := hbit (s.pairState == 3)
  have hloaded := hbit s.par.loaded
  have hsync := hbit (s.timState == 2 && !s.tim.alignFault)
  unfold bitOf State.healthBits
  cases s.eligible <;> simp only [beq_iff_eq, beq_eq_false_iff_ne, Bool.toNat_true, Bool.toNat_false] <;> omega

/-- What PAR_STAT.ELIG shows already stands. -/
theorem State.showElig_of_shown (h : s.bit Reg.PAR_STAT 4 = s.eligible) : s.showElig = s := if_pos h

/-- A device that is eligible only shows it. -/
theorem State.showElig_of_eligible (h : s.eligible = true) : DrivesOnly [Reg.PAR_STAT] s s.showElig := by
  unfold State.showElig
  refine DrivesOnly.ite (DrivesOnly.refl _ s) ?_
  rw [if_pos (by simp [h])]
  exact s.wr_drivesOnly _ (by decide)

theorem State.showElig_sameTick : SameTick [Reg.PAR_STAT, Reg.PAR_FLAGS] s s.showElig := by
  unfold State.showElig
  split
  · exact (DrivesOnly.refl _ s).sameTick
  · split
    · exact s.wr_sameTick _ (by decide)
    · exact ((s.wr_sameTick _ (by decide)).trans (State.wr_sameTick _ _ (by decide))).trans (State.raise_sameTick _ _ _ _ _)

@[simp] theorem State.showElig_par : s.showElig.par = s.par := by simp [State.showElig]

@[simp] theorem State.showElig_sys : s.showElig.sys = s.sys := by simp [State.showElig]

@[simp] theorem State.showElig_now : s.showElig.now = s.now := by simp [State.showElig]

/-- PAR_STAT.ELIG shows own eligibility. -/
theorem State.showElig_elig : s.showElig.bit Reg.PAR_STAT 4 = s.eligible := by
  unfold State.showElig
  split
  · assumption
  · split
    · exact s.bit_wbit_same _ _ (by decide)
    · have hno : s.eligible = false := by simp_all
      rw [hno]
      exact (State.bit_of_rg 4 (State.rg_wbit_ne _ _ _ (by decide))).trans (s.bit_wbit_same _ _ (by decide))

/-- Fields of PAR_STAT and PAR_FLAGS other than ELIG and the flag of its loss stand. -/
theorem State.showElig_rf {a : Nat} (ha : a = Reg.PAR_STAT ∨ a = Reg.PAR_FLAGS) {lo n : Nat} (hd : 4 < lo ∨ lo + n ≤ 4) :
    s.showElig.rf a lo n = s.rf a lo n := by
  have hstat (b : Bool) : (s.wbit Reg.PAR_STAT 4 b).rf a lo n = s.rf a lo n := by
    rcases ha with rfl | rfl
    · exact s.rf_wbit_apart _ _ (by decide) hd
    · exact s.rf_wbit_ne _ _ _ _ (by decide)
  have hflag (t : State) (b : Bool) : (t.wbit Reg.PAR_FLAGS 4 b).rf a lo n = t.rf a lo n := by
    rcases ha with rfl | rfl
    · exact t.rf_wbit_ne _ _ _ _ (by decide)
    · exact t.rf_wbit_apart _ _ (by decide) hd
  unfold State.showElig
  split
  · rfl
  · split
    · exact hstat _
    · exact (hflag _ _).trans (hstat _)

theorem State.showElig_bit {a : Nat} (ha : a = Reg.PAR_STAT ∨ a = Reg.PAR_FLAGS) {i : Nat} (hi : i ≠ 4) :
    s.showElig.bit a i = s.bit a i :=
  congrArg (· == 1) (s.showElig_rf ha (by omega))

@[simp] theorem State.showElig_pairState : s.showElig.pairState = s.pairState :=
  s.showElig_rf (.inl rfl) (.inr (by decide))

/-! ### Entering STANDBY (R28, R398, R407) -/

/-- The registers that a change of the pair state may touch. -/
def pairRegs : List Nat := [Reg.PAR_FLAGS, Reg.PAR_CKPT_STAT, Reg.PAR_CKPT_SEQ, Reg.PAR_TO_TS] ++ haltRegs

theorem haltRegs_sub_pairRegs : ∀ a ∈ haltRegs, a ∈ pairRegs := fun _ h => List.mem_append_right _ h

theorem State.stopHeartbeat_rg (a : Nat) : s.stopHeartbeat.rg a = s.rg a := rfl

theorem State.dropBuffers_rg_ne {a : Nat} (h : a ≠ Reg.PAR_CKPT_STAT) (h' : a ≠ Reg.PAR_CKPT_SEQ) :
    s.dropBuffers.rg a = s.rg a :=
  (State.rg_wn_ne _ _ h').trans (State.rg_wf_ne _ _ _ _ h)

/-- Dropped buffers are invalid. -/
theorem State.dropBuffers_bit {b : Nat} (h : b < 4) : s.dropBuffers.bit Reg.PAR_CKPT_STAT b = false := by
  have hrg : s.dropBuffers.rg Reg.PAR_CKPT_STAT = setFld (s.rg Reg.PAR_CKPT_STAT) 0 4 0 :=
    (State.rg_wn_ne _ _ (by decide)).trans ((State.rg_wf _ _ _ _ _ _).trans (if_pos rfl))
  rw [State.bit, State.rf, hrg, fld_setFld_zero _ (by decide) h]
  rfl

/-- No handover, takeover or transfer of checkpoints is under way. -/
def State.clearTransfers (s : State) : State :=
  let s := { s with par.hoSince := none, par.finalDue := false, par.hoPeriod := none, par.capture := none
                    par.prepared := false, par.loaded := false, par.announce := false, par.warm := none
                    par.arriving := none, par.dual := false, mtr.base := [] }
  s.wbit Reg.PAR_STAT 6 false

theorem State.clearTransfers_rg (a : Nat) : s.clearTransfers.rg a = (s.wbit Reg.PAR_STAT 6 false).rg a := rfl

/-- A standby as it stands before balls and eligibility are brought in line. -/
def State.standbyCore (s : State) : State :=
  (s.cancelAll.outputsOff.setPairState 1).stopHeartbeat.dropBuffers.clearTransfers

/-- The registers of a standby are those of its pair state with the buffers dropped and no handover under way. -/
theorem State.standbyCore_rg (a : Nat) : s.standbyCore.rg a =
    ((s.cancelAll.outputsOff.setPairState 1).stopHeartbeat.dropBuffers.wbit Reg.PAR_STAT 6 false).rg a :=
  State.clearTransfers_rg _ a

theorem State.enterStandby_eq : s.enterStandby = s.standbyCore.settle.showElig := rfl

/-- What STANDBY makes of a register that the buffers, the handover flag and the balls do not show in. -/
theorem State.enterStandby_rg {a : Nat}
    (h : a ∉ [Reg.PAR_STAT, Reg.PAR_FLAGS, Reg.PAR_CKPT_STAT, Reg.PAR_CKPT_SEQ, Reg.GPR_BYPO]) :
    s.enterStandby.rg a = (s.cancelAll.outputsOff.setPairState 1).rg a := by
  simp only [List.mem_cons, List.not_mem_nil, or_false, not_or] at h
  obtain ⟨hstat, hflags, hckpt, hseq, hbyp⟩ := h
  rw [State.enterStandby_eq, (State.showElig_sameTick _).regs a (by simp [hstat, hflags]),
    (State.settle_drivesOnly _).rg (by simp [hbyp]), State.standbyCore_rg, State.rg_wbit_ne _ _ _ hstat,
    State.dropBuffers_rg_ne _ hckpt hseq, State.stopHeartbeat_rg]

/-- A field of PAR_STAT that neither the handover flag nor eligibility lies in. -/
theorem State.enterStandby_rf_parStat {lo n : Nat} (h : lo + n ≤ 4) :
    s.enterStandby.rf Reg.PAR_STAT lo n = (s.cancelAll.outputsOff.setPairState 1).rf Reg.PAR_STAT lo n := by
  rw [State.enterStandby_eq, State.showElig_rf _ (.inl rfl) (.inr h),
    State.rf_of_rg lo n ((State.settle_drivesOnly _).rg (by decide)), State.rf_of_rg lo n (State.standbyCore_rg s _),
    State.rf_wbit_apart _ _ _ (by decide) (.inr (by omega))]
  exact State.rf_of_rg lo n (State.dropBuffers_rg_ne _ (by decide) (by decide))

theorem State.enterStandby_pairState : s.enterStandby.pairState = 1 :=
  (s.enterStandby_rf_parStat (by decide)).trans (State.setPairState_pairState _ 1)

/-- PEER_HB stands. -/
theorem State.enterStandby_peerHb : s.enterStandby.bit Reg.PAR_STAT 2 = s.bit Reg.PAR_STAT 2 := by
  have hdrive : s.cancelAll.outputsOff.rg Reg.PAR_STAT = s.rg Reg.PAR_STAT :=
    ((State.outputsOff_drivesOnly _).rg (by decide)).trans ((s.cancelAll_drivesOnly []).rg (by decide))
  have hfield : s.enterStandby.rf Reg.PAR_STAT 2 1 = s.rf Reg.PAR_STAT 2 1 :=
    (s.enterStandby_rf_parStat (by decide)).trans
      ((State.setPairState_rf_parStat _ 1 (by decide) (.inl (by decide))).trans (State.rf_of_rg 2 1 hdrive))
  exact congrArg (· == 1) hfield

theorem State.enterStandby_outEn : s.enterStandby.outEn = false := by
  calc s.enterStandby.outEn = (s.cancelAll.outputsOff.setPairState 1).outEn := State.bit_of_rg 8 (s.enterStandby_rg (by decide))
    _ = s.cancelAll.outputsOff.outEn := State.setPairState_outEn _ 1
    _ = false := State.outputsOff_outEn _

theorem State.enterStandby_hbOut : s.enterStandby.sys.hbOut = false := by
  rw [State.enterStandby_eq, State.showElig_sys, (State.settle_drivesOnly _).sys]
  rfl

/-- Both Geode buffers are invalid. -/
theorem State.enterStandby_bufValid {b : Nat} (h : b < 2) : s.enterStandby.bufValid b = false := by
  have hkeep : s.enterStandby.rg Reg.PAR_CKPT_STAT = s.standbyCore.rg Reg.PAR_CKPT_STAT := by
    rw [State.enterStandby_eq, (State.showElig_sameTick _).regs _ (by decide), (State.settle_drivesOnly _).rg (by decide)]
  have hdrop : s.standbyCore.rg Reg.PAR_CKPT_STAT =
      (s.cancelAll.outputsOff.setPairState 1).stopHeartbeat.dropBuffers.rg Reg.PAR_CKPT_STAT :=
    (s.standbyCore_rg _).trans (State.rg_wbit_ne _ _ _ (by decide))
  exact (State.bit_of_rg b (hkeep.trans hdrop)).trans (State.dropBuffers_bit _ (by omega))

/-- Entering STANDBY changes no byte of memory and adds at most the event that eligibility is lost. -/
theorem State.enterStandby_sameTick : SameTick pairRegs s s.enterStandby := by
  have hstate : SameTick pairRegs s (s.cancelAll.outputsOff.setPairState 1) :=
    (((s.cancelAll_drivesOnly _).trans ((State.outputsOff_drivesOnly _).mono (by decide))).trans
      (State.setPairState_drivesOnly _ 1)).sameTick.mono haltRegs_sub_pairRegs
  have hbare : SameTick pairRegs (s.cancelAll.outputsOff.setPairState 1) s.standbyCore := by
    refine ⟨fun a ha => ?_, rfl, rfl, [], raises_none rfl⟩
    have hne {b : Nat} (hb : b ∈ pairRegs) : a ≠ b := fun e => ha (e ▸ hb)
    rw [State.standbyCore_rg, State.rg_wbit_ne _ _ _ (hne (by decide)),
      State.dropBuffers_rg_ne _ (hne (by decide)) (hne (by decide)), State.stopHeartbeat_rg]
  rw [State.enterStandby_eq]
  exact ((hstate.trans hbare).trans ((State.settle_drivesOnly _).sameTick.mono (by decide))).trans
    ((State.showElig_sameTick _).mono (by decide))

/-! ### Losing a Geode buffer (R407) -/

/-- The registers that an invalid buffer shows in. -/
def bufferRegs : List Nat := [Reg.PAR_STAT, Reg.PAR_FLAGS, Reg.PAR_CKPT_STAT, Reg.PAR_CKPT_SEQ]

/-- The buffer marked invalid, with the newest of the other one shown. -/
def State.unmarkBuffer (s : State) (b : Nat) : State :=
  let s := s.wbit Reg.PAR_CKPT_STAT b false
  match s.bufCkpt (1 - b) with
  | some o => (s.wf Reg.PAR_CKPT_STAT 2 1 (1 - b)).wr Reg.PAR_CKPT_SEQ o.seq
  | none => (s.wf Reg.PAR_CKPT_STAT 2 1 0).wn Reg.PAR_CKPT_SEQ 0

theorem State.invalidBuffer_eq (b : Nat) (seq : Word) (reason : Nat) : s.invalidBuffer b seq reason =
    (((s.unmarkBuffer b).wbit Reg.PAR_FLAGS 2 true).raise 0x0a04 0 [b, seq.toNat, reason]).showElig := rfl

/-- Only the valid bit of the buffer, NEWEST and PAR_CKPT_SEQ are written. -/
theorem State.unmarkBuffer_cases (b : Nat) :
    ∃ n v, s.unmarkBuffer b = ((s.wbit Reg.PAR_CKPT_STAT b false).wf Reg.PAR_CKPT_STAT 2 1 n).wr Reg.PAR_CKPT_SEQ v := by
  unfold State.unmarkBuffer
  simp only []
  split
  · exact ⟨_, _, rfl⟩
  · exact ⟨_, _, rfl⟩

theorem State.unmarkBuffer_drivesOnly (b : Nat) : DrivesOnly bufferRegs s (s.unmarkBuffer b) := by
  obtain ⟨n, v, h⟩ := s.unmarkBuffer_cases b
  rw [h]
  exact ((s.wr_drivesOnly _ (by decide)).trans (State.wr_drivesOnly _ _ (by decide))).trans
    (State.wr_drivesOnly _ _ (by decide))

theorem State.unmarkBuffer_bufValid {b c : Nat} (hb : b < 2) (hc : c < 2) :
    (s.unmarkBuffer b).bufValid c = (s.bufValid c && decide (c ≠ b)) := by
  obtain ⟨n, v, h⟩ := s.unmarkBuffer_cases b
  have hmark : (s.unmarkBuffer b).bufValid c = (s.wbit Reg.PAR_CKPT_STAT b false).bit Reg.PAR_CKPT_STAT c := by
    rw [h]
    exact congrArg (· == 1) ((State.rf_wr_ne _ _ _ _ (by decide)).trans
      (State.rf_wf_apart _ _ _ (by decide) (.inr (by omega))))
  rw [hmark]
  by_cases hcb : c = b
  · subst hcb
    simp [s.bit_wbit_same Reg.PAR_CKPT_STAT false (by omega : c < 32)]
  · simp [s.bit_wbit_apart Reg.PAR_CKPT_STAT false (by omega : b < 32) hcb, hcb, State.bufValid]

theorem State.invalidBuffer_rg_ckptStat (b : Nat) (seq : Word) (reason : Nat) :
    (s.invalidBuffer b seq reason).rg Reg.PAR_CKPT_STAT = (s.unmarkBuffer b).rg Reg.PAR_CKPT_STAT := by
  rw [State.invalidBuffer_eq, (State.showElig_sameTick _).regs _ (by decide)]
  exact State.rg_wbit_ne _ _ _ (by decide)

theorem State.invalidBuffer_par (b : Nat) (seq : Word) (reason : Nat) : (s.invalidBuffer b seq reason).par = s.par := by
  rw [State.invalidBuffer_eq, State.showElig_par]
  exact (s.unmarkBuffer_drivesOnly b).par

/-- The pair state stands. -/
theorem State.invalidBuffer_pairState (b : Nat) (seq : Word) (reason : Nat) :
    (s.invalidBuffer b seq reason).pairState = s.pairState := by
  obtain ⟨n, v, h⟩ := s.unmarkBuffer_cases b
  rw [State.invalidBuffer_eq, State.showElig_pairState, h]
  exact (State.rf_wr_ne _ _ _ _ (by decide)).trans ((State.rf_wr_ne _ _ _ _ (by decide)).trans
    ((State.rf_wr_ne _ _ _ _ (by decide)).trans (State.rf_wr_ne _ _ _ _ (by decide))))

/-- The loss of a checkpoint is flagged. -/
theorem State.invalidBuffer_flag (b : Nat) (seq : Word) (reason : Nat) :
    (s.invalidBuffer b seq reason).bit Reg.PAR_FLAGS 2 = true := by
  rw [State.invalidBuffer_eq, State.showElig_bit _ (.inr rfl) (by decide)]
  exact State.bit_wbit_same _ _ _ (by decide)

/-- Event 0x0A04 comes first, whatever the loss makes of eligibility. -/
theorem State.invalidBuffer_raises (b : Nat) (seq : Word) (reason : Nat) :
    ∃ l, Raises s (s.invalidBuffer b seq reason) ((0x0a04, 0, [b, seq.toNat, reason]) :: l) := by
  have hmark : DrivesOnly bufferRegs s ((s.unmarkBuffer b).wbit Reg.PAR_FLAGS 2 true) :=
    (s.unmarkBuffer_drivesOnly b).trans (State.wr_drivesOnly _ _ (by decide))
  have htold := raises_trans hmark.raises (State.raise_raises _ 0x0a04 0 [b, seq.toNat, reason]) hmark.tim
  obtain ⟨l, hl⟩ := (State.showElig_sameTick (((s.unmarkBuffer b).wbit Reg.PAR_FLAGS 2 true).raise 0x0a04 0
    [b, seq.toNat, reason])).raises
  exact ⟨l, raises_trans htold hl hmark.tim⟩

theorem State.invalidBuffer_sameTick (b : Nat) (seq : Word) (reason : Nat) :
    SameTick bufferRegs s (s.invalidBuffer b seq reason) :=
  (((s.unmarkBuffer_drivesOnly b).sameTick.trans (State.wr_sameTick _ _ (by decide))).trans
    (State.raise_sameTick _ _ _ _ _)).trans ((State.showElig_sameTick _).mono (by decide))

/-! ### Entering TAKING (R410, R411) -/

/-- The device enters TAKING: HB_OUT runs, outputs are enabled, every pair is held. -/
def State.enterTaking (s : State) : State := ((s.setPairState 2).startHeartbeat.outputsOn.holdPairs).settle

theorem State.startHeartbeat_hbOut : s.startHeartbeat.sys.hbOut = true := by
  unfold State.startHeartbeat
  split
  · assumption
  · rfl

theorem State.startHeartbeat_sameTick (l : List Nat) : SameTick l s s.startHeartbeat := by
  unfold State.startHeartbeat
  split
  · exact (DrivesOnly.refl l s).sameTick
  · exact ⟨fun _ _ => rfl, rfl, rfl, [], raises_none rfl⟩

theorem State.startHeartbeat_rg (a : Nat) : s.startHeartbeat.rg a = s.rg a :=
  (s.startHeartbeat_sameTick []).regs a List.not_mem_nil

/-- Only the instant at which HB_OUT starts is noted. -/
theorem State.startHeartbeat_par : ∃ n, s.startHeartbeat.par = { s.par with hbAt := n } := by
  unfold State.startHeartbeat
  split
  · exact ⟨_, rfl⟩
  · exact ⟨_, rfl⟩

/-- Behind HB_OUT, TAKING drives outputs alone. -/
theorem State.enterTaking_drivesOnly :
    DrivesOnly [Reg.PWM_STAT, Reg.GPR_PSTAT, Reg.GPR_BYPO] (s.setPairState 2).startHeartbeat s.enterTaking :=
  (((State.outputsOn_drivesOnly _).mono (by decide)).trans ((State.holdPairs_drivesOnly _).mono (by decide))).trans
    ((State.settle_drivesOnly _).mono (by decide))

theorem State.enterTaking_pairState : s.enterTaking.pairState = 2 :=
  calc s.enterTaking.pairState = (s.setPairState 2).pairState :=
        State.rf_of_rg 0 2 ((s.enterTaking_drivesOnly.rg (by decide)).trans (State.startHeartbeat_rg _ _))
    _ = 2 := s.setPairState_pairState 2

theorem State.enterTaking_hbOut : s.enterTaking.sys.hbOut = true := by
  rw [s.enterTaking_drivesOnly.sys]
  exact State.startHeartbeat_hbOut _

theorem State.enterTaking_outEn : s.enterTaking.outEn = true := by
  calc s.enterTaking.outEn = (s.setPairState 2).startHeartbeat.outputsOn.holdPairs.outEn :=
        State.bit_of_rg 8 ((State.settle_drivesOnly _).rg (by decide))
    _ = (s.setPairState 2).startHeartbeat.outputsOn.outEn := State.holdPairs_outEn _
    _ = true := State.outputsOn_outEn _

theorem State.enterTaking_held : ∀ q < 96, (s.enterTaking.pair q).hold = true ∧ (s.enterTaking.pair q).started = false := by
  intro q hq
  have hpair : s.enterTaking.pair q = (s.setPairState 2).startHeartbeat.outputsOn.holdPairs.pair q := by
    simp only [State.enterTaking, State.pair, State.settle_pwm]
  rw [hpair]
  exact State.holdPairs_held _ q hq

theorem State.enterTaking_par : ∃ n, s.enterTaking.par = { s.par with hbAt := n } := by
  rw [s.enterTaking_drivesOnly.par, ← (s.setPairState_drivesOnly 2).par]
  exact State.startHeartbeat_par _

theorem State.enterTaking_sameTick : SameTick haltRegs s s.enterTaking :=
  ((s.setPairState_drivesOnly 2).sameTick.trans (State.startHeartbeat_sameTick _ _)).trans
    (s.enterTaking_drivesOnly.sameTick.mono (by decide))

/-- TAKING raises nothing of its own. -/
theorem State.enterTaking_raises : Raises s s.enterTaking [] := by
  have hstart : (s.setPairState 2).startHeartbeat.evt = (s.setPairState 2).evt := by simp [State.startHeartbeat]
  exact raises_none (by rw [s.enterTaking_drivesOnly.evt, hstart, (s.setPairState_drivesOnly 2).evt])

/-! ### Partner loss (R410, R418) -/

/-- The loss is told and timed: event 0x0A01 with own eligibility. -/
def State.recordLoss (s : State) (elig : Bool) : State :=
  let s := (s.wbit Reg.PAR_FLAGS 0 true).wr Reg.PAR_TO_TS s.tim.ts32
  let s := s.raise 0x0a01 0 [elig.toNat, s.rn Reg.PAR_CKPT_SEQ]
  { s with par.lossAt := s.now, par.blockAt := s.now, par.blockAdd := s.rf Reg.PAR_CFG 24 7 - 10
           par.planned := false, par.prepared := false, par.loaded := false, par.hoPeriod := none }

/-- A standby whose checkpoint is too old by now tells that it is not eligible, unless it has told before. -/
def State.tellStale (s : State) (told : Bool) : State :=
  if !s.bit Reg.PAR_STAT 4 && !told && !s.ckptOk then
    (s.wbit Reg.PAR_FLAGS 4 true).raise 0x0a06 0 [s.healthBits + s.par.hseq % 65536 * 65536] else s

/-- A standby without its partner: it takes over if it is eligible. -/
def State.decideLoss (s : State) (told : Bool) : State :=
  let t := (s.showElig.tellStale told).recordLoss (s.showElig.bit Reg.PAR_STAT 4)
  if s.showElig.bit Reg.PAR_STAT 4 then t.enterTaking else t

/-- A standby gives up the checkpoint that was arriving. -/
def State.dropArriving (s : State) (q : Word) : State :=
  (({ s with par.arriving := none } : State).wbit Reg.PAR_CKPT_STAT 3 false).invalidBuffer (q.toNat % 2) q 7

theorem partnerLoss_of_no_standby (h : s.pairState ≠ 1) : partnerLoss s = s := if_pos (by simpa using h)

theorem partnerLoss_of_arriving (h : s.pairState = 1) {q : Word} (hq : s.par.arriving = some q) :
    partnerLoss s = (s.dropArriving q).decideLoss (s.bit Reg.PAR_STAT 4) := by
  simp only [partnerLoss, h, hq]
  rfl

theorem partnerLoss_of_none (h : s.pairState = 1) (hq : s.par.arriving = none) :
    partnerLoss s = s.decideLoss (s.bit Reg.PAR_STAT 4) := by
  simp only [partnerLoss, h, hq]
  rfl

theorem State.recordLoss_sameTick (e : Bool) : SameTick [Reg.PAR_FLAGS, Reg.PAR_TO_TS] s (s.recordLoss e) :=
  (((s.wr_sameTick _ (by decide)).trans (State.wr_sameTick _ _ (by decide))).trans
    (State.raise_sameTick _ _ _ _ _)).trans (sameTick_par _ _ _)

theorem State.recordLoss_flag (e : Bool) : (s.recordLoss e).bit Reg.PAR_FLAGS 0 = true :=
  (State.bit_of_rg 0 (((State.rg_wr _ _ _ _).trans (if_neg (by decide))))).trans (s.bit_wbit_same Reg.PAR_FLAGS true (by decide))

theorem State.recordLoss_bit_flags (e : Bool) {i : Nat} (h : i ≠ 0) :
    (s.recordLoss e).bit Reg.PAR_FLAGS i = s.bit Reg.PAR_FLAGS i :=
  (State.bit_of_rg i ((State.rg_wr _ _ _ _).trans (if_neg (by decide)))).trans (s.bit_wbit_apart _ _ (by decide) h)

theorem State.recordLoss_toTs (e : Bool) : (s.recordLoss e).rg Reg.PAR_TO_TS = s.tim.ts32 :=
  (State.rg_wr _ _ _ _).trans (if_pos rfl)

theorem State.recordLoss_raises (e : Bool) :
    Raises s (s.recordLoss e) [(0x0a01, 0, [e.toNat, s.rn Reg.PAR_CKPT_SEQ])] := by
  have hseq : ((s.wbit Reg.PAR_FLAGS 0 true).wr Reg.PAR_TO_TS s.tim.ts32).rn Reg.PAR_CKPT_SEQ = s.rn Reg.PAR_CKPT_SEQ :=
    congrArg BitVec.toNat (((State.rg_wr _ _ _ _).trans (if_neg (by decide))).trans (s.rg_wbit_ne _ _ (by decide)))
  rw [← hseq]
  rfl

theorem State.tellStale_sameTick (told : Bool) : SameTick [Reg.PAR_FLAGS] s (s.tellStale told) := by
  unfold State.tellStale
  split
  · exact (s.wr_sameTick _ (by decide)).trans (State.raise_sameTick _ _ _ _ _)
  · exact (DrivesOnly.refl _ s).sameTick

theorem State.tellStale_par (told : Bool) : (s.tellStale told).par = s.par := by simp [State.tellStale]

theorem State.tellStale_bit_flags (told : Bool) {i : Nat} (h : i ≠ 4) :
    (s.tellStale told).bit Reg.PAR_FLAGS i = s.bit Reg.PAR_FLAGS i := by
  unfold State.tellStale
  split
  · exact s.bit_wbit_apart _ _ (by decide) h
  · rfl

/-- An eligible standby has nothing stale to tell. -/
theorem State.tellStale_of_eligible (told : Bool) (h : s.bit Reg.PAR_STAT 4 = true) : s.tellStale told = s :=
  if_neg (by simp [h])

/-- A standby with a checkpoint young enough has nothing stale to tell. -/
theorem State.tellStale_of_ckptOk (told : Bool) (h : s.ckptOk = true) : s.tellStale told = s := if_neg (by simp [h])

/-- An eligible standby tells of the loss and enters TAKING. -/
theorem State.decideLoss_of_eligible (told : Bool) (h : s.eligible = true) :
    s.decideLoss told = (s.showElig.recordLoss true).enterTaking := by
  have he : s.showElig.bit Reg.PAR_STAT 4 = true := s.showElig_elig.trans h
  simp [State.decideLoss, he, State.tellStale_of_eligible]

theorem State.decideLoss_of_not_eligible (told : Bool) (h : s.eligible = false) :
    s.decideLoss told = (s.showElig.tellStale told).recordLoss false := by
  have he : s.showElig.bit Reg.PAR_STAT 4 = false := s.showElig_elig.trans h
  simp [State.decideLoss, he]

/-- What holds once the loss is recorded, and stays when the device enters TAKING, holds behind partner loss. -/
theorem State.decideLoss_rec {P : State → Prop} (told : Bool)
    (hloss : ∀ e, P ((s.showElig.tellStale told).recordLoss e)) (htake : ∀ t, P t → P t.enterTaking) :
    P (s.decideLoss told) := by
  unfold State.decideLoss
  simp only []
  split
  · exact htake _ (hloss _)
  · exact hloss _

end Sys2Proof.Machine
end

section
/-! PROOFS. Heartbeat, two active devices and the loss of the partner (R22, R28, R410, R418), from the rules of the pair. -/

namespace Sys2Proof.Machine

open Safety

variable (s : State)

/-! ### A checkpoint that was arriving (R407, R418) -/

/-- A buffer holds what it held where its valid bit and the Geode stand. -/
theorem State.bufCkpt_congr {s t : State} {b : Nat} (hv : t.bufValid b = s.bufValid b) (hg : t.par.geode = s.par.geode) :
    t.bufCkpt b = s.bufCkpt b := by
  simp only [State.bufCkpt, hv, hg]

theorem State.dropArriving_par (q : Word) : (s.dropArriving q).par = { s.par with arriving := none } :=
  State.invalidBuffer_par _ _ _ _

/-- The buffer the part was for is invalid, the other one stands. -/
theorem State.dropArriving_bufValid (q : Word) {c : Nat} (hc : c < 2) :
    (s.dropArriving q).bufValid c = (s.bufValid c && decide (c ≠ q.toNat % 2)) := by
  have hstream : (({ s with par.arriving := none } : State).wbit Reg.PAR_CKPT_STAT 3 false).bufValid c = s.bufValid c :=
    State.bit_wbit_apart _ _ _ (by decide) (by omega)
  rw [State.bufValid, State.dropArriving, State.bit_of_rg c (State.invalidBuffer_rg_ckptStat _ _ _ _), ← hstream]
  exact State.unmarkBuffer_bufValid _ (Nat.mod_lt _ (by decide)) hc

theorem State.dropArriving_pairState (q : Word) : (s.dropArriving q).pairState = s.pairState :=
  (State.invalidBuffer_pairState _ _ _ _).trans (State.rf_wbit_ne _ _ _ _ _ (by decide))

theorem State.dropArriving_sameTick (q : Word) : SameTick bufferRegs s (s.dropArriving q) :=
  ((sameTick_par s _ _).trans (State.wr_sameTick _ _ (by decide))).trans (State.invalidBuffer_sameTick _ _ _ _)

/-- Event 0x0A04 comes first, with reason 7. -/
theorem State.dropArriving_raises (q : Word) :
    ∃ l, Raises s (s.dropArriving q) ((0x0a04, 0, [q.toNat % 2, q.toNat, 7]) :: l) :=
  State.invalidBuffer_raises (({ s with par.arriving := none } : State).wbit Reg.PAR_CKPT_STAT 3 false) _ _ _

/-! ### What partner loss leaves and sets (R410) -/

/-- The registers in which partner loss and a takeover show. -/
def lossRegs : List Nat := [Reg.PAR_FLAGS, Reg.PAR_TO_TS] ++ haltRegs

theorem State.decideLoss_sameTick (told : Bool) : SameTick lossRegs s (s.decideLoss told) :=
  s.decideLoss_rec told
    (fun e => ((s.showElig_sameTick.mono (by decide)).trans ((State.tellStale_sameTick _ told).mono (by decide))).trans
      ((State.recordLoss_sameTick _ e).mono (by decide)))
    fun t h => h.trans (t.enterTaking_sameTick.mono fun _ ha => List.mem_append_right _ ha)

/-- Partner loss moves neither what arrives nor what the buffers hold. -/
theorem State.decideLoss_par (told : Bool) :
    (s.decideLoss told).par.arriving = s.par.arriving ∧ (s.decideLoss told).par.geode = s.par.geode := by
  have hpar : (s.showElig.tellStale told).par = s.par := (State.tellStale_par _ told).trans s.showElig_par
  refine s.decideLoss_rec (P := fun u => u.par.arriving = s.par.arriving ∧ u.par.geode = s.par.geode) told
    (fun e => ?_) fun t h => ?_
  · rw [← hpar]
    exact ⟨rfl, rfl⟩
  · obtain ⟨n, hn⟩ := t.enterTaking_par
    rw [hn]
    exact h

/-- The loss is flagged. -/
theorem State.decideLoss_flag (told : Bool) : (s.decideLoss told).bit Reg.PAR_FLAGS 0 = true :=
  s.decideLoss_rec (P := fun u => u.bit Reg.PAR_FLAGS 0 = true) told (fun e => State.recordLoss_flag _ e)
    fun t h => (State.bit_of_rg 0 (t.enterTaking_sameTick.regs _ (by decide))).trans h

/-- The other flags of the pair stand, but for that of lost eligibility. -/
theorem State.decideLoss_bit_flags (told : Bool) {i : Nat} (h0 : i ≠ 0) (h4 : i ≠ 4) :
    (s.decideLoss told).bit Reg.PAR_FLAGS i = s.bit Reg.PAR_FLAGS i :=
  s.decideLoss_rec (P := fun u => u.bit Reg.PAR_FLAGS i = s.bit Reg.PAR_FLAGS i) told
    (fun e => ((State.recordLoss_bit_flags _ e h0).trans (State.tellStale_bit_flags _ told h4)).trans
      (s.showElig_bit (.inr rfl) h4))
    fun t h => (State.bit_of_rg i (t.enterTaking_sameTick.regs _ (by decide))).trans h

/-- The device goes on as what it was, or is TAKING. -/
theorem State.decideLoss_pairState (told : Bool) :
    (s.decideLoss told).pairState = s.pairState ∨ (s.decideLoss told).pairState = 2 := by
  refine s.decideLoss_rec (P := fun u => u.pairState = s.pairState ∨ u.pairState = 2) told
    (fun e => .inl ?_) fun t _ => .inr t.enterTaking_pairState
  have htold : ((s.showElig.tellStale told).recordLoss e).rg Reg.PAR_STAT = s.showElig.rg Reg.PAR_STAT :=
    ((State.recordLoss_sameTick _ e).regs _ (by decide)).trans ((State.tellStale_sameTick _ told).regs _ (by decide))
  exact (State.rf_of_rg 0 2 htold).trans s.showElig_pairState

/-! ### Two active devices (R28) -/

/-- Both devices tell; the one of role B becomes standby. -/
theorem State.dualActive_eq (n : Nat) : s.dualActive n =
    if s.role then ((s.wbit Reg.PAR_FLAGS 6 true).raise 0x0a03 0 [1, n]).enterStandby
    else (s.wbit Reg.PAR_FLAGS 6 true).raise 0x0a03 0 [0, n] := by
  have hrole : ((s.wbit Reg.PAR_FLAGS 6 true).raise 0x0a03 0 [s.role.toNat, n]).role = s.role :=
    State.bit_of_rg 6 (s.rg_wbit_ne _ _ (by decide))
  unfold State.dualActive
  simp only [hrole]
  cases s.role <;> simp

theorem dualTimeout_of_dual (h : s.pairState = 3) (hb : s.bit Reg.PAR_STAT 2 = true) : dualTimeout s = s.dualActive 0 :=
  if_pos (by simp [h, hb])

/-! ### The commands -/

variable {s}

/-- HB_IN dead (R22). -/
theorem does_heartbeatDead (hrun : s.running = true) : Does .heartbeatDead s fun u =>
    u.bit Reg.PAR_STAT 2 = false ∧ u.par.deadSince = s.now ∧ Raises s u [] ∧ KeepsRegs s u [Reg.PAR_STAT] ∧
      OnlyRegsAnd s u fun u => { u with par := s.par } :=
  Does_main s heartbeatDead rfl hrun
    ⟨s.bit_wbit_same _ _ (by decide), rfl, raises_none rfl, (s.wr_drivesOnly _ (by decide)).1, rfl⟩

/-- HB_IN alive outside a takeover shows in PEER_HB alone (R22). -/
theorem does_heartbeatAlive (hrun : s.running = true) (h : s.pairState ≠ 2) : Does .heartbeatAlive s fun u =>
    u.bit Reg.PAR_STAT 2 = true ∧ u.pairState = s.pairState ∧ Raises s u [] ∧ KeepsRegs s u [Reg.PAR_STAT] ∧
      OnlyRegs s u := by
  have hstate : (s.wbit Reg.PAR_STAT 2 true).pairState = s.pairState := s.rf_wbit_apart _ _ (by decide) (.inr (by decide))
  have he : heartbeatAlive s = s.wbit Reg.PAR_STAT 2 true := if_neg (by rwa [hstate])
  refine Does_main s heartbeatAlive rfl hrun ?_
  rw [he]
  exact ⟨s.bit_wbit_same _ _ (by decide), hstate, raises_none rfl, (s.wr_drivesOnly _ (by decide)).1, rfl⟩

/-- HB_IN alive again in TAKING: the takeover is abandoned with event 0x0A09 (R418). -/
theorem does_heartbeatAlive_taking (hrun : s.running = true) (h : s.pairState = 2) : Does .heartbeatAlive s fun u =>
    u.bit Reg.PAR_STAT 2 = true ∧ u.pairState = 1 ∧ u.sys.hbOut = false ∧ u.outEn = false ∧ u.bufValid 0 = false ∧
      u.bufValid 1 = false ∧ (∃ l, Raises s u (l ++ [(0x0a09, 0, [])])) ∧ KeepsMem s u := by
  have hstate : (s.wbit Reg.PAR_STAT 2 true).pairState = 2 := (s.rf_wbit_apart _ _ (by decide) (.inr (by decide))).trans h
  have he : heartbeatAlive s = ((s.wbit Reg.PAR_STAT 2 true).enterStandby).raise 0x0a09 0 [] := if_pos hstate
  have htick : SameTick pairRegs s (s.wbit Reg.PAR_STAT 2 true).enterStandby :=
    (s.wr_sameTick _ (by decide)).trans (State.enterStandby_sameTick _)
  obtain ⟨l, hl⟩ := htick.raises
  refine Does_main s heartbeatAlive rfl hrun ?_
  rw [he]
  exact ⟨(State.enterStandby_peerHb _).trans (s.bit_wbit_same _ _ (by decide)), State.enterStandby_pairState _,
    State.enterStandby_hbOut _, State.enterStandby_outEn _, State.enterStandby_bufValid _ (by decide),
    State.enterStandby_bufValid _ (by decide), ⟨l, raises_trans hl (State.raise_raises _ _ _ _) htick.tim⟩,
    htick.keepsMem⟩

/-- The timeout finds no other active device (R28). -/
theorem leaves_dualActiveTimeout (hrun : s.running = true) (h : s.pairState ≠ 3 ∨ s.bit Reg.PAR_STAT 2 = false) :
    Leaves .dualActiveTimeout s := by
  have he : dualTimeout s = s := if_neg (by rcases h with h | h <;> simp [h])
  calc exec .dualActiveTimeout s = .next (dualTimeout s).flush := s.main_on dualTimeout hrun
    _ = .next s.flush := by rw [he]

/-- Of two active devices the one of role A tells and stays active (R28). -/
theorem does_dualActiveTimeout_roleA (hrun : s.running = true) (h : s.pairState = 3) (hb : s.bit Reg.PAR_STAT 2 = true)
    (hr : s.role = false) : Does .dualActiveTimeout s fun u => u.pairState = 3 ∧ u.sys.hbOut = s.sys.hbOut ∧
      Raises s u [(0x0a03, 0, [0, 0])] ∧ KeepsRegs s u [Reg.PAR_FLAGS] ∧ OnlyRegs s u := by
  have he : dualTimeout s = (s.wbit Reg.PAR_FLAGS 6 true).raise 0x0a03 0 [0, 0] := by
    simp [dualTimeout_of_dual s h hb, State.dualActive_eq, hr]
  refine Does_main s dualTimeout rfl hrun ?_
  rw [he]
  exact ⟨(s.rf_wbit_ne _ _ _ _ (by decide)).trans h, rfl, rfl, (s.wr_drivesOnly _ (by decide)).1, rfl⟩

/-- Of two active devices the one of role B becomes standby (R28). -/
theorem does_dualActiveTimeout_roleB (hrun : s.running = true) (h : s.pairState = 3) (hb : s.bit Reg.PAR_STAT 2 = true)
    (hr : s.role = true) : Does .dualActiveTimeout s fun u => u.pairState = 1 ∧ u.sys.hbOut = false ∧ u.outEn = false ∧
      (∃ l, Raises s u ((0x0a03, 0, [1, 0]) :: l)) ∧ KeepsMem s u := by
  have he : dualTimeout s = ((s.wbit Reg.PAR_FLAGS 6 true).raise 0x0a03 0 [1, 0]).enterStandby := by
    simp [dualTimeout_of_dual s h hb, State.dualActive_eq, hr]
  have htick := State.enterStandby_sameTick ((s.wbit Reg.PAR_FLAGS 6 true).raise 0x0a03 0 [1, 0])
  obtain ⟨l, hl⟩ := htick.raises
  have htold : Raises s ((s.wbit Reg.PAR_FLAGS 6 true).raise 0x0a03 0 [1, 0]) [(0x0a03, 0, [1, 0])] := rfl
  refine Does_main s dualTimeout rfl hrun ?_
  rw [he]
  exact ⟨State.enterStandby_pairState _, State.enterStandby_hbOut _, State.enterStandby_outEn _,
    ⟨l, raises_trans htold hl rfl⟩, htick.keepsMem⟩

/-- Only a standby minds that its partner is lost (R410). -/
theorem leaves_partnerLoss (hrun : s.running = true) (h : s.pairState ≠ 1) : Leaves .partnerLoss s := by
  calc exec .partnerLoss s = .next (partnerLoss s).flush := s.main_on partnerLoss hrun
    _ = .next s.flush := by rw [partnerLoss_of_no_standby s h]

/-- A part of a checkpoint that has arrived is given up, whether or not the standby takes over (R407, R418). -/
theorem does_partnerLoss_arriving (hrun : s.running = true) (h : s.pairState = 1) {q : Word} (hq : s.par.arriving = some q) :
    Does .partnerLoss s fun u => u.par.arriving = none ∧ u.bufValid (q.toNat % 2) = false ∧
      u.bufCkpt (1 - q.toNat % 2) = s.bufCkpt (1 - q.toNat % 2) ∧ u.bit Reg.PAR_FLAGS 2 = true ∧
      u.bit Reg.PAR_FLAGS 0 = true ∧ (u.pairState = 1 ∨ u.pairState = 2) ∧
      (∃ l, Raises s u ((0x0a04, 0, [q.toNat % 2, q.toNat, 7]) :: l)) ∧ KeepsMem s u := by
  refine Does_main s partnerLoss rfl hrun ?_
  rw [partnerLoss_of_arriving s h hq]
  set told := s.bit Reg.PAR_STAT 4
  have hpar := s.dropArriving_par q
  have htick := (s.dropArriving q).decideLoss_sameTick told
  obtain ⟨harr, hgeode⟩ := (s.dropArriving q).decideLoss_par told
  have hvalid {c : Nat} (hc : c < 2) :
      ((s.dropArriving q).decideLoss told).bufValid c = (s.bufValid c && decide (c ≠ q.toNat % 2)) :=
    (State.bit_of_rg c (htick.regs _ (by decide))).trans (s.dropArriving_bufValid q hc)
  have hother : ((s.dropArriving q).decideLoss told).bufValid (1 - q.toNat % 2) = s.bufValid (1 - q.toNat % 2) := by
    rw [hvalid (by omega), decide_eq_true (by omega), Bool.and_true]
  obtain ⟨l, hl⟩ := htick.raises
  obtain ⟨l', hl'⟩ := s.dropArriving_raises q
  refine ⟨?_, ?_, ?_, ?_, ?_, ?_, ⟨l' ++ l, ?_⟩, ?_⟩
  · rw [harr, hpar]
  · rw [hvalid (Nat.mod_lt _ (by decide)), decide_eq_false (by simp), Bool.and_false]
  · exact State.bufCkpt_congr hother (by rw [hgeode, hpar])
  · exact (State.decideLoss_bit_flags _ told (by decide) (by decide)).trans (State.invalidBuffer_flag _ _ _ _)
  · exact State.decideLoss_flag _ told
  · exact (State.decideLoss_pairState _ told).imp_left fun hs => hs.trans ((s.dropArriving_pairState q).trans h)
  · exact raises_trans hl' hl (s.dropArriving_sameTick q).tim
  · exact (((s.dropArriving_sameTick q).mono (l' := pairRegs) (by decide)).trans (htick.mono (by decide))).keepsMem

/-- An eligible standby tells of the loss and takes over (R410, R411). -/
theorem does_partnerLoss_eligible (hrun : s.running = true) (h : s.pairState = 1) (hq : s.par.arriving = none)
    (he : bitOf s.healthBits 11 = true) : Does .partnerLoss s fun u =>
      u.pairState = 2 ∧ u.sys.hbOut = true ∧ u.outEn = true ∧
        (∀ q < 96, (u.pair q).hold = true ∧ (u.pair q).started = false) ∧ u.par.lossAt = s.now ∧ u.rg Reg.PAR_TO_TS = s.tim.ts32 ∧ Raises s u [(0x0a01, 0, [1, s.rn Reg.PAR_CKPT_SEQ])] ∧
        KeepsMem s u := by
  have helig : s.eligible = true := s.bitOf_healthBits_eleven ▸ he
  have hshow := s.showElig_of_eligible helig
  refine Does_main s partnerLoss rfl hrun ?_
  rw [partnerLoss_of_none s h hq, s.decideLoss_of_eligible _ helig]
  set t := s.showElig.recordLoss true with ht
  have hloss : Raises s t [(0x0a01, 0, [1, s.rn Reg.PAR_CKPT_SEQ])] := by
    have hseq : s.showElig.rn Reg.PAR_CKPT_SEQ = s.rn Reg.PAR_CKPT_SEQ := congrArg BitVec.toNat (hshow.rg (by decide))
    rw [← hseq]
    exact raises_trans hshow.raises (s.showElig.recordLoss_raises true) hshow.tim
  have htim : t.tim = s.tim := (s.showElig.recordLoss_sameTick true).tim.trans hshow.tim
  obtain ⟨n, hpar⟩ := t.enterTaking_par
  refine ⟨t.enterTaking_pairState, t.enterTaking_hbOut, t.enterTaking_outEn, t.enterTaking_held, ?_, ?_, ?_, ?_⟩
  · rw [hpar]
    exact s.showElig_now
  · rw [t.enterTaking_sameTick.regs _ (by decide), ht, State.recordLoss_toTs, hshow.tim]
  · exact raises_trans hloss t.enterTaking_raises htim
  · exact ((hshow.sameTick.mono (l' := lossRegs) (by decide)).trans
      (((s.showElig.recordLoss_sameTick true).mono (by decide)).trans (t.enterTaking_sameTick.mono (by decide)))).keepsMem

/-- A standby that is not eligible, and has shown so, tells of the loss and stays standby (R410). -/
theorem does_partnerLoss_not_eligible (hrun : s.running = true) (h : s.pairState = 1) (hq : s.par.arriving = none)
    (he : bitOf s.healthBits 11 = false) (hshown : s.bit Reg.PAR_STAT 4 = false) (hok : s.ckptOk = true) :
    Does .partnerLoss s fun u => u.pairState = 1 ∧ u.sys.hbOut = s.sys.hbOut ∧ u.outEn = s.outEn ∧ u.pwm = s.pwm ∧
      Raises s u [(0x0a01, 0, [0, s.rn Reg.PAR_CKPT_SEQ])] ∧ KeepsRegs s u [Reg.PAR_FLAGS, Reg.PAR_TO_TS, Reg.PAR_STAT] ∧
      KeepsMem s u := by
  have helig : s.eligible = false := s.bitOf_healthBits_eleven ▸ he
  have hshow : s.showElig = s := s.showElig_of_shown (hshown.trans helig.symm)
  have htick := s.recordLoss_sameTick false
  refine Does_main s partnerLoss rfl hrun ?_
  rw [partnerLoss_of_none s h hq, s.decideLoss_of_not_eligible _ helig, hshow, s.tellStale_of_ckptOk _ hok]
  exact ⟨(State.rf_of_rg 0 2 (htick.regs _ (by decide))).trans h, rfl, State.bit_of_rg 8 (htick.regs _ (by decide)), rfl,
    s.recordLoss_raises false, (htick.mono (by decide)).regs, htick.keepsMem⟩

end Sys2Proof.Machine

open Sys2Proof Sys2Proof.Machine

/-- Settles O34: each command of the pair completes with what chapter 14 says, clause by clause. -/
theorem partnerLossAndDualActive : Obligations.PartnerLossAndDualActive := by
  unfold Obligations.PartnerLossAndDualActive
  intro s hrun
  exact ⟨does_heartbeatDead hrun, does_heartbeatAlive hrun, does_heartbeatAlive_taking hrun, leaves_dualActiveTimeout hrun,
    fun h hb => ⟨does_dualActiveTimeout_roleA hrun h hb, does_dualActiveTimeout_roleB hrun h hb⟩, leaves_partnerLoss hrun,
    fun h => ⟨fun _ hq => does_partnerLoss_arriving hrun h hq, does_partnerLoss_eligible hrun h,
      does_partnerLoss_not_eligible hrun h⟩⟩
end

section
/-! PROOFS. The members of the coherence groups and their addresses (R12, R624): shadow and live copy lie apart, each names the
other, and each shadow belongs to the group that lists it. -/

namespace Sys2Proof.Machine

/-! ### Addresses -/

/-- The address is the shadow of a member of a coherence group (R624), as `State.groupOf` places it; the delay of an ADC trigger
is one whatever sources the trigger. -/
def isShadow (a : Nat) : Bool :=
  let o := a % 0x10000
  (0x80410 ≤ a && a ≤ 0x80418) || (0x80000 ≤ a && a < 0x80200) || (0x90100 ≤ a && a < 0x90180 && o % 16 != 12) ||
  (0x50100 ≤ a && a < 0x50180 && o % 8 == 4) || (0x92000 ≤ a && a < 0x92600 && o % 16 != 12) || a == 0xb1008 ||
  a == 0xb100c || (0xb1800 ≤ a && a < 0xb1b00) ||
  (0x101010 ≤ a && a < 0x102000 && 0x10 ≤ o % 0x400 && o % 0x400 < 0x40 && o % 16 != 12) ||
  (0xc0004 ≤ a && a ≤ 0xc000c) || (0x20020 ≤ a && a ≤ 0x20030)

/-- The distance between the shadow and the live copy of a member, by the array that either address lies in. -/
def liveGap (a : Nat) : Nat :=
  if a < 0x50000 then 0x100 else if a < 0x80000 then 0x400 else if a < 0x80400 then 0x200 else if a < 0x90000 then 0x10
  else if a < 0x92000 then 0x100 else if a < 0xb0000 then 0x1000 else if a < 0xb1800 then 0x20 else if a < 0xc0000 then 0x400
  else if a < 0x100000 then 0x100 else 0x200

/-- A shadow with its live copy, which no image sets. -/
abbrev Member (p : Nat × Nat) : Prop :=
  isShadow p.1 = true ∧ isLiveCopy p.2 = true ∧ p.2 = p.1 + liveGap p.1 ∧ liveGap p.2 = liveGap p.1 ∧ imageField p.2 = false

theorem isLiveCopy_of_isShadow {a : Nat} (h : isShadow a = true) : isLiveCopy a = false := by
  simp only [isShadow, isLiveCopy, Bool.or_eq_true, Bool.and_eq_true, decide_eq_true_eq, bne_iff_ne, beq_iff_eq, ne_eq,
    Bool.and_eq_false_iff, Bool.or_eq_false_iff, decide_eq_false_iff_not, beq_eq_false_iff_ne, bne_eq_false_iff_eq] at h ⊢
  omega

theorem Member.shadow_ne_live {p q : Nat × Nat} (hp : Member p) (hq : Member q) : p.1 ≠ q.2 := by
  intro h
  have := isLiveCopy_of_isShadow hp.1
  rw [h, hq.2.1] at this
  exact absurd this (by decide)

theorem Member.live_eq {p q : Nat × Nat} (hp : Member p) (hq : Member q) (h : p.1 = q.1) : p.2 = q.2 := by
  rw [hp.2.2.1, hq.2.2.1, h]

theorem Member.shadow_eq {p q : Nat × Nat} (hp : Member p) (hq : Member q) (h : p.2 = q.2) : p.1 = q.1 := by
  obtain ⟨-, -, hgap, hsame, -⟩ := hp
  obtain ⟨-, -, hgap', hsame', -⟩ := hq
  rw [← hsame] at hgap
  rw [← hsame', ← h] at hgap'
  omega

/-! ### What the groups list -/

variable (s : State)

theorem member_trigger : ∀ t < 16, Member (Reg.ADC_TRIG_DLY t, Reg.ADC_TRIG_DLY_L t) := by decide +kernel

/-- Outside the triggers the groups list the same members in every state, which are those of the register map. -/
theorem member_fixed : ∀ c < 10, ∀ i < classSize c, ∀ p ∈ State.reset.membersOf c i,
    Member p ∧ p.1 / 0x10000 ≠ 5 ∧ State.reset.groupOf p.1 = some (c, i) := by decide +kernel

/-- The class of a group. -/
theorem class_lt {c i : Nat} (h : i < classSize c) : c < 10 := by
  unfold classSize at h
  split at h <;> omega

/-- A group lists its members of the register map, and a PWM group the delays of the triggers it sources. -/
theorem State.membersOf_cases {c i : Nat} {p : Nat × Nat} (hp : p ∈ s.membersOf c i) :
    p ∈ State.reset.membersOf c i ∨
      c = 3 ∧ ∃ t < 16, s.trigOf t i = true ∧ p = (Reg.ADC_TRIG_DLY t, Reg.ADC_TRIG_DLY_L t) := by
  by_cases hc : c = 3
  · subst hc
    simp only [State.membersOf, List.mem_append, List.mem_filterMap, List.mem_range, Option.ite_none_right_eq_some,
      Option.some.injEq] at hp ⊢
    rcases hp with hp | ⟨t, ht, hs, rfl⟩
    · exact .inl (.inl hp)
    · exact .inr ⟨trivial, t, ht, hs, rfl⟩
  · have h : s.membersOf c i = State.reset.membersOf c i := by
      unfold State.membersOf
      split
      case h_3 => exact absurd rfl hc
      all_goals rfl
    exact .inl (h ▸ hp)

theorem State.membersOf_member {c i : Nat} (hi : i < classSize c) {p : Nat × Nat} (hp : p ∈ s.membersOf c i) : Member p := by
  rcases s.membersOf_cases hp with h | ⟨-, t, ht, -, rfl⟩
  · exact (member_fixed c (class_lt hi) i hi p h).1
  · exact member_trigger t ht

/-- Trigger `t` has one PWM group at most as its source (R132). -/
theorem State.trigOf_unique {t g h : Nat} (hg : g < 8) (hh : h < 8) (h1 : s.trigOf t g = true) (h2 : s.trigOf t h = true) :
    g = h := by
  simp only [State.trigOf, Bool.or_eq_true, beq_iff_eq] at h1 h2
  omega

theorem State.find_trigOf {t g : Nat} (hg : g < 8) (h : s.trigOf t g = true) :
    (List.range 8).find? (fun g => s.trigOf t g) = some g := by
  obtain ⟨f, hf⟩ := Option.isSome_iff_exists.1 (List.find?_isSome.2 ⟨g, List.mem_range.2 hg, h⟩)
  rw [hf, s.trigOf_unique (List.mem_range.1 (List.mem_of_find?_eq_some hf)) hg (List.find?_some hf) h]

/-- Outside the ADC block the groups are the same in every state. -/
theorem State.groupOf_eq_reset {a : Nat} (h : a / 0x10000 ≠ 5) : s.groupOf a = State.reset.groupOf a := by
  have h5 : ¬(0x50100 ≤ a ∧ a < 0x50180 ∧ a % 0x10000 % 8 = 4) := by omega
  simp only [State.groupOf, if_neg h5]

/-- The delay of a trigger belongs to the group that sources it. -/
theorem State.groupOf_trigger {t g : Nat} (ht : t < 16) (hg : g < 8) (h : s.trigOf t g = true) :
    s.groupOf (Reg.ADC_TRIG_DLY t) = some (3, g) := by
  have ho : (0x50104 + 8 * t) % 0x10000 = 0x104 + 8 * t := by omega
  have ht' : (0x104 + 8 * t - 0x100) / 8 = t := by omega
  unfold State.groupOf
  simp only [Reg.ADC_TRIG_DLY, ho, ht', s.find_trigOf hg h]
  rw [if_neg (by omega), if_neg (by omega), if_neg (by omega), if_pos (by omega)]
  rfl

/-- The shadow of a member belongs to the group that lists it. -/
theorem State.groupOf_membersOf {c i : Nat} (hi : i < classSize c) {p : Nat × Nat} (hp : p ∈ s.membersOf c i) :
    s.groupOf p.1 = some (c, i) := by
  rcases s.membersOf_cases hp with h | ⟨rfl, t, ht, hs, rfl⟩
  · obtain ⟨-, h5, hg⟩ := member_fixed c (class_lt hi) i hi p h
    rw [s.groupOf_eq_reset h5, hg]
  · exact s.groupOf_trigger ht hi hs

theorem mem_allGroups {c i : Nat} : (c, i) ∈ allGroups ↔ i < classSize c := by
  constructor
  · intro h
    obtain ⟨d, -, hd⟩ := List.mem_flatMap.1 h
    obtain ⟨j, hj, e⟩ := List.mem_map.1 hd
    cases e
    exact List.mem_range.1 hj
  · intro h
    have hc : c ∈ [1, 2, 3, 4, 5, 6, 7, 8, 9] := by
      have := class_lt h
      have h0 : c ≠ 0 := by rintro rfl; exact absurd h (Nat.not_lt_zero i)
      simp only [List.mem_cons, List.not_mem_nil, or_false]
      omega
    exact List.mem_flatMap.2 ⟨c, hc, List.mem_map.2 ⟨i, List.mem_range.2 h, rfl⟩⟩

end Sys2Proof.Machine
end

section
/-! PROOFS. Registers moved one after the other: shadows restored from their live copies and copied to them (R49, R57, R624), and
what a refused load leaves (R49, R64). -/

namespace Sys2Proof.Machine

variable (s : State)

/-! ### Moving registers -/

/-- Each register on the left takes, one pair after the other, the register on the right. -/
def State.moves (s : State) (l : List (Nat × Nat)) : State := l.foldl (fun s p => s.wr p.1 (s.rg p.2)) s

/-- No register of the right is on the left, and each of the left has one source. -/
def Sourced (l : List (Nat × Nat)) : Prop := ∀ p ∈ l, ∀ q ∈ l, p.1 ≠ q.2 ∧ (p.1 = q.1 → p.2 = q.2)

theorem State.moves_append (l k : List (Nat × Nat)) : s.moves (l ++ k) = (s.moves l).moves k := List.foldl_append

/-- A register that is on no left side stands. -/
theorem State.rg_moves_ne {l : List (Nat × Nat)} {a : Nat} (h : ∀ p ∈ l, p.1 ≠ a) : (s.moves l).rg a = s.rg a := by
  induction l generalizing s with
  | nil => rfl
  | cons p l ih =>
    calc ((s.wr p.1 (s.rg p.2)).moves l).rg a = (s.wr p.1 (s.rg p.2)).rg a := ih _ fun q hq => h q (List.mem_cons_of_mem _ hq)
      _ = s.rg a := (s.rg_wr _ _ _).trans (if_neg (h p List.mem_cons_self).symm)

/-- A register on a left side reads what stood in its source. -/
theorem State.rg_moves {l : List (Nat × Nat)} (h : Sourced l) {p : Nat × Nat} (hp : p ∈ l) :
    (s.moves l).rg p.1 = s.rg p.2 := by
  induction l generalizing s p with
  | nil => cases hp
  | cons q l ih =>
    have hl : Sourced l := fun a ha b hb => h a (List.mem_cons_of_mem _ ha) b (List.mem_cons_of_mem _ hb)
    have hsrc : ∀ r ∈ q :: l, (s.wr q.1 (s.rg q.2)).rg r.2 = s.rg r.2 := fun r hr =>
      (s.rg_wr _ _ _).trans (if_neg (h q List.mem_cons_self r hr).1.symm)
    show ((s.wr q.1 (s.rg q.2)).moves l).rg p.1 = s.rg p.2
    by_cases hlast : ∃ r ∈ l, r.1 = p.1
    · obtain ⟨r, hr, hrp⟩ := hlast
      have hr' := List.mem_cons_of_mem q hr
      rw [← hrp, ih _ hl hr, hsrc r hr', (h r hr' p hp).2 hrp]
    · have hpq : p = q := (List.mem_cons.1 hp).resolve_right fun hm => hlast ⟨p, hm, rfl⟩
      subst hpq
      rw [State.rg_moves_ne _ fun r hr e => hlast ⟨r, hr, e⟩, State.rg_wr, if_pos rfl]

/-- Only registers are moved. -/
theorem State.moves_eq (l : List (Nat × Nat)) : ∃ r, s.moves l = { s with regs := r } := by
  induction l generalizing s with
  | nil => exact ⟨s.regs, rfl⟩
  | cons p l ih =>
    obtain ⟨r, hr⟩ := ih (s.wr p.1 (s.rg p.2))
    exact ⟨r, hr⟩

theorem State.moves_regs {s t : State} (h : t.regs = s.regs) (l : List (Nat × Nat)) : (t.moves l).regs = (s.moves l).regs := by
  induction l generalizing s t with
  | nil => exact h
  | cons p l ih => exact ih (by simp only [State.wr, State.rg, h])

theorem State.rg_of_regs {s t : State} (h : t.regs = s.regs) (a : Nat) : t.rg a = s.rg a := by rw [State.rg, h]; rfl

/-! ### Every shadow with its live copy -/

/-- The delays of triggers that no PWM group sources, with their live copies (R624). -/
def State.unsourcedPairs (s : State) (ts : List Nat) : List (Nat × Nat) :=
  (ts.filter fun t => !s.trigSourced t).map fun t => (Reg.ADC_TRIG_DLY t, Reg.ADC_TRIG_DLY_L t)

/-- The members of some groups, with their live copies. -/
def State.groupPairs (s : State) (gs : List (Nat × Nat)) : List (Nat × Nat) := gs.flatMap fun g => s.membersOf g.1 g.2

/-- Every shadow with its live copy: the members of the groups, and the delays of triggers that no group sources. -/
def State.shadowPairs (s : State) : List (Nat × Nat) := s.groupPairs allGroups ++ s.unsourcedPairs (List.range 16)

/-- The sources of the triggers stand (R132). -/
def SameSources (s t : State) : Prop := ∀ k < 16, t.rg (Reg.ADC_TRIG_SRC k) = s.rg (Reg.ADC_TRIG_SRC k)

theorem SameSources.trigOf {s t : State} (h : SameSources s t) {k : Nat} (hk : k < 16) (g : Nat) : t.trigOf k g = s.trigOf k g := by
  simp only [State.trigOf, State.rf_of_rg 0 6 (h k hk)]

theorem SameSources.trigSourced {s t : State} (h : SameSources s t) {k : Nat} (hk : k < 16) :
    t.trigSourced k = s.trigSourced k := by
  simp only [State.trigSourced, h.trigOf hk]

theorem SameSources.membersOf {s t : State} (h : SameSources s t) (c i : Nat) : t.membersOf c i = s.membersOf c i := by
  unfold State.membersOf
  split
  case h_3 =>
    congr 1
    exact List.filterMap_congr fun k hk => by rw [h.trigOf (List.mem_range.1 hk)]
  all_goals rfl

/-- No member is the source field of a trigger. -/
theorem Member.ne_source {p : Nat × Nat} (h : Member p) {k : Nat} (hk : k < 16) :
    p.1 ≠ Reg.ADC_TRIG_SRC k ∧ p.2 ≠ Reg.ADC_TRIG_SRC k := by
  have hsrc : ∀ k < 16, isShadow (Reg.ADC_TRIG_SRC k) = false ∧ isLiveCopy (Reg.ADC_TRIG_SRC k) = false := by decide
  obtain ⟨h1, h2⟩ := hsrc k hk
  exact ⟨fun e => by simp [← e, h.1] at h1, fun e => by simp [← e, h.2.1] at h2⟩

theorem State.groupPairs_member {gs : List (Nat × Nat)} (hgs : ∀ g ∈ gs, g.2 < classSize g.1) :
    ∀ p ∈ s.groupPairs gs, Member p := by
  intro p hp
  obtain ⟨g, hg, hm⟩ := List.mem_flatMap.1 hp
  exact s.membersOf_member (hgs g hg) hm

theorem allGroups_lt : ∀ g ∈ allGroups, g.2 < classSize g.1 := fun _ h => mem_allGroups.1 h

theorem State.unsourcedPairs_member {ts : List Nat} (hts : ∀ t ∈ ts, t < 16) : ∀ p ∈ s.unsourcedPairs ts, Member p := by
  intro p hp
  obtain ⟨t, ht, rfl⟩ := List.mem_map.1 hp
  exact member_trigger t (hts t (List.mem_of_mem_filter ht))

theorem range_sixteen : ∀ t ∈ List.range 16, t < 16 := fun _ => List.mem_range.1

theorem State.shadowPairs_member : ∀ p ∈ s.shadowPairs, Member p := fun p hp =>
  (List.mem_append.1 hp).elim (s.groupPairs_member allGroups_lt p) (s.unsourcedPairs_member range_sixteen p)

theorem sourced_of_member {l : List (Nat × Nat)} (h : ∀ p ∈ l, Member p) : Sourced l := fun p hp q hq =>
  ⟨(h p hp).shadow_ne_live (h q hq), (h p hp).live_eq (h q hq)⟩

theorem State.membersOf_sub_shadowPairs {c i : Nat} (hi : i < classSize c) {p : Nat × Nat} (hp : p ∈ s.membersOf c i) :
    p ∈ s.shadowPairs :=
  List.mem_append_left _ (List.mem_flatMap.2 ⟨(c, i), mem_allGroups.2 hi, hp⟩)

/-- Every delay of a trigger is among them, whatever sources it. -/
theorem State.trigger_mem_shadowPairs {t : Nat} (ht : t < 16) : (Reg.ADC_TRIG_DLY t, Reg.ADC_TRIG_DLY_L t) ∈ s.shadowPairs := by
  cases h : s.trigSourced t
  · exact List.mem_append_right _ (List.mem_map_of_mem (List.mem_filter.2 ⟨List.mem_range.2 ht, by simp [h]⟩))
  · obtain ⟨g, hg, hs⟩ := List.any_eq_true.1 h
    refine s.membersOf_sub_shadowPairs (c := 3) (i := g) (List.mem_range.1 hg) (List.mem_append_right _ ?_)
    exact List.mem_filterMap.2 ⟨t, List.mem_range.2 ht, if_pos hs⟩

/-- A shadow that no group lists is the delay of a trigger. -/
theorem State.shadowPairs_fst {p : Nat × Nat} (hp : p ∈ s.shadowPairs) :
    (∃ c i, i < classSize c ∧ p ∈ s.membersOf c i) ∨ ∃ t < 16, p = (Reg.ADC_TRIG_DLY t, Reg.ADC_TRIG_DLY_L t) := by
  rcases List.mem_append.1 hp with h | h
  · obtain ⟨g, hg, hm⟩ := List.mem_flatMap.1 h
    exact .inl ⟨g.1, g.2, allGroups_lt g hg, hm⟩
  · obtain ⟨t, ht, rfl⟩ := List.mem_map.1 h
    exact .inr ⟨t, List.mem_range.1 (List.mem_of_mem_filter ht), rfl⟩

/-! ### Restoring the shadows (R49) -/

/-- Moves that write members leave the sources of the triggers. -/
theorem State.moves_sameSources {l : List (Nat × Nat)} (h : ∀ p ∈ l, ∀ k < 16, p.1 ≠ Reg.ADC_TRIG_SRC k) :
    SameSources s (s.moves l) := fun k hk => s.rg_moves_ne fun p hp => h p hp k hk

theorem State.restoreGroups {gs : List (Nat × Nat)} (hgs : ∀ g ∈ gs, g.2 < classSize g.1) :
    gs.foldl (fun s g => (s.membersOf g.1 g.2).foldl (fun s p => s.wr p.1 (s.rg p.2)) s) s = s.moves (s.groupPairs gs) := by
  induction gs generalizing s with
  | nil => rfl
  | cons g gs ih =>
    have hsame : SameSources s (s.moves (s.membersOf g.1 g.2)) := s.moves_sameSources fun p hp k hk =>
      ((s.membersOf_member (hgs g List.mem_cons_self) hp).ne_source hk).1
    have hpairs : (s.moves (s.membersOf g.1 g.2)).groupPairs gs = s.groupPairs gs := by
      simp only [State.groupPairs, hsame.membersOf]
    calc _ = (s.moves (s.membersOf g.1 g.2)).moves ((s.moves (s.membersOf g.1 g.2)).groupPairs gs) :=
          ih _ fun h hh => hgs h (List.mem_cons_of_mem _ hh)
      _ = s.moves (s.groupPairs (g :: gs)) := by rw [hpairs, ← State.moves_append]; rfl

/-- The pair of an unsourced trigger, in the direction `d`, is moved for each trigger in turn. -/
theorem State.moveUnsourced (d : Nat × Nat → Nat × Nat) (hd : ∀ p, Member p → ∀ k < 16, (d p).1 ≠ Reg.ADC_TRIG_SRC k)
    {ts : List Nat} (hts : ∀ t ∈ ts, t < 16) :
    ts.foldl (fun s t => if s.trigSourced t then s else s.moves [d (Reg.ADC_TRIG_DLY t, Reg.ADC_TRIG_DLY_L t)]) s =
      s.moves ((s.unsourcedPairs ts).map d) := by
  induction ts generalizing s with
  | nil => rfl
  | cons t ts ih =>
    have hts' : ∀ u ∈ ts, u < 16 := fun u hu => hts u (List.mem_cons_of_mem _ hu)
    rw [List.foldl_cons, ih _ hts']
    cases h : s.trigSourced t
    · have hsame : SameSources s (s.moves [d (Reg.ADC_TRIG_DLY t, Reg.ADC_TRIG_DLY_L t)]) := s.moves_sameSources fun p hp k hk => by
        rw [List.mem_singleton.1 hp]
        exact hd _ (member_trigger t (hts t List.mem_cons_self)) k hk
      have hpairs : (s.moves [d (Reg.ADC_TRIG_DLY t, Reg.ADC_TRIG_DLY_L t)]).unsourcedPairs ts = s.unsourcedPairs ts := by
        simp only [State.unsourcedPairs]
        congr 1
        exact List.filter_congr fun u hu => by rw [hsame.trigSourced (hts' u hu)]
      rw [if_neg (by simp), hpairs, ← State.moves_append]
      simp [State.unsourcedPairs, h]
    · simp [State.unsourcedPairs, h]

/-- Restoring moves every live copy into its shadow. -/
theorem State.restoreShadows_eq : s.restoreShadows = ({ s with cfg.parNext := [] } : State).moves s.shadowPairs := by
  set t : State := { s with cfg.parNext := [] } with ht
  have hpairs : t.shadowPairs = s.shadowPairs := rfl
  have hsame : SameSources t (t.moves (t.groupPairs allGroups)) := t.moves_sameSources fun p hp k hk =>
    ((t.groupPairs_member allGroups_lt p hp).ne_source hk).1
  have hun : (t.moves (t.groupPairs allGroups)).unsourcedPairs (List.range 16) = t.unsourcedPairs (List.range 16) := by
    simp only [State.unsourcedPairs]
    congr 1
    exact List.filter_congr fun u hu => by rw [hsame.trigSourced (List.mem_range.1 hu)]
  rw [← hpairs, State.shadowPairs, State.moves_append, ← hun]
  have h := (t.moves (t.groupPairs allGroups)).moveUnsourced id (fun p hp k hk => (hp.ne_source hk).1) range_sixteen
  rw [List.map_id] at h
  rw [← h, ← t.restoreGroups allGroups_lt]
  rfl

/-- What a restore makes of the registers. -/
theorem State.restoreShadows_rg (a : Nat) : s.restoreShadows.rg a = (s.moves s.shadowPairs).rg a := by
  rw [State.restoreShadows_eq]
  exact State.rg_of_regs (State.moves_regs (s := s) (t := { s with cfg.parNext := [] }) rfl s.shadowPairs) a

end Sys2Proof.Machine
end

section
/-! PROOFS. The end of a load that is refused, aborted or timed out (R49, R64), and the commands of its reception (R46, R50, R65). -/

namespace Sys2Proof.Machine

open Safety

variable (s : State)

/-! ### CFG_STAT (R64) -/

/-- CFG_STAT.STATE behind a load: 3 while a patch applies, 4 with an image in force, else 0. -/
def State.restState (s : State) : Nat := if s.cfg.patches ≠ [] then 3 else if s.cfg.inForce then 4 else 0

theorem State.showLoad_state_none (h : s.cfg.load = none) : s.showLoad.rf Reg.CFG_STAT 0 3 = s.restState := by
  unfold State.showLoad State.restState
  rw [s.rf_wf_same _ _ _ _ (by decide), h]
  cases s.cfg.patches <;> cases s.cfg.inForce <;> rfl

theorem State.showLoad_state_some {l : Load} (h : s.cfg.load = some l) :
    s.showLoad.rf Reg.CFG_STAT 0 3 = if l.checking then 2 else 1 := by
  unfold State.showLoad
  rw [s.rf_wf_same _ _ _ _ (by decide), h]
  show (if l.checking then 2 else 1) % 2 ^ 3 = _
  cases l.checking <;> rfl

/-- CFG_STAT behind a refused load. -/
def State.markRefused (s : State) (code sect : Nat) : State :=
  ((s.showLoad.wbit Reg.CFG_STAT 3 true).wf Reg.CFG_STAT 8 8 code).wf Reg.CFG_STAT 16 16 sect

theorem State.markRefused_rg {a : Nat} (code sect : Nat) (h : a ≠ Reg.CFG_STAT) : (s.markRefused code sect).rg a = s.rg a :=
  (State.rg_wf_ne _ _ _ _ h).trans ((State.rg_wf_ne _ _ _ _ h).trans ((State.rg_wbit_ne _ _ _ h).trans (s.rg_wf_ne _ _ _ h)))

theorem State.markRefused_state (code sect : Nat) (h : s.cfg.load = none) :
    (s.markRefused code sect).rf Reg.CFG_STAT 0 3 = s.restState := by
  rw [State.markRefused, State.rf_wf_apart _ _ _ (by decide) (.inr (by decide)),
    State.rf_wf_apart _ _ _ (by decide) (.inr (by decide)), State.rf_wbit_apart _ _ _ (by decide) (.inr (by decide)),
    s.showLoad_state_none h]

theorem State.markRefused_refused (code sect : Nat) : (s.markRefused code sect).bit Reg.CFG_STAT 3 = true := by
  rw [State.bit, State.markRefused, State.rf_wf_apart _ _ _ (by decide) (.inr (by decide)),
    State.rf_wf_apart _ _ _ (by decide) (.inr (by decide))]
  exact State.bit_wbit_same _ _ _ (by decide)

theorem State.markRefused_code (code sect : Nat) : (s.markRefused code sect).rf Reg.CFG_STAT 8 8 = code % 256 := by
  rw [State.markRefused, State.rf_wf_apart _ _ _ (by decide) (.inr (by decide)), State.rf_wf_same _ _ _ _ _ (by decide)]
  rfl

theorem State.markRefused_sect (code sect : Nat) : (s.markRefused code sect).rf Reg.CFG_STAT 16 16 = sect % 65536 :=
  State.rf_wf_same _ _ _ _ _ (by decide)

/-! ### A refused load (R49) -/

/-- CFG_PEND and SLT_STAT alone show the pending groups. -/
theorem State.showPending_rg {a : Nat} (h : a ≠ Reg.CFG_PEND) (h' : a ≠ Reg.SLT_STAT) : s.showPending.rg a = s.rg a :=
  (State.rg_wn_ne _ _ h').trans (State.rg_wn_ne _ _ h)

/-- The machine without the load, with its shadows restored. -/
def State.dropLoad (s : State) : State := ({ s with cfg.load := none } : State).restoreShadows

theorem State.loadRefused_eq (code sect : Nat) (data : List Nat) :
    s.loadRefused code sect data = (s.dropLoad.showPending.markRefused code sect).raise (0x0300 + code) 0 data := rfl

theorem State.dropLoad_eq : ∃ r, s.dropLoad = { s with cfg := { s.cfg with load := none, parNext := [] }, regs := r } := by
  rw [State.dropLoad, State.restoreShadows_eq]
  exact State.moves_eq _ _

theorem State.loadRefused_frame (code sect : Nat) (data : List Nat) : ∃ r, s.loadRefused code sect data =
    ({ s with cfg := { s.cfg with load := none, parNext := [] }, regs := r } : State).raise (0x0300 + code) 0 data := by
  obtain ⟨r, hr⟩ := s.dropLoad_eq
  rw [State.loadRefused_eq, hr]
  exact ⟨_, rfl⟩

/-- Outside CFG_STAT, CFG_PEND and SLT_STAT a refused load shows in the shadows alone. -/
theorem State.loadRefused_rg (code sect : Nat) (data : List Nat) {a : Nat}
    (h : a ∉ [Reg.CFG_STAT, Reg.CFG_PEND, Reg.SLT_STAT]) :
    (s.loadRefused code sect data).rg a = (s.moves s.shadowPairs).rg a := by
  simp only [List.mem_cons, List.not_mem_nil, or_false, not_or] at h
  obtain ⟨hstat, hpend, hslt⟩ := h
  have hdrop : s.dropLoad.rg a = (s.moves s.shadowPairs).rg a :=
    (State.restoreShadows_rg _ a).trans
      (State.rg_of_regs (State.moves_regs (s := s) (t := { s with cfg.load := none }) rfl s.shadowPairs) a)
  rw [State.loadRefused_eq, State.rg_raise, State.markRefused_rg _ _ _ hstat, State.showPending_rg _ hpend hslt, hdrop]

/-- No member is a status register of the configuration. -/
theorem Member.ne_status {p : Nat × Nat} (h : Member p) :
    p.1 ∉ [Reg.CFG_STAT, Reg.CFG_PEND, Reg.SLT_STAT] ∧ p.2 ∉ [Reg.CFG_STAT, Reg.CFG_PEND, Reg.SLT_STAT] := by
  have hstat : ∀ a ∈ [Reg.CFG_STAT, Reg.CFG_PEND, Reg.SLT_STAT], isShadow a = false ∧ isLiveCopy a = false := by decide
  exact ⟨fun hm => Bool.noConfusion ((hstat _ hm).1.symm.trans h.1), fun hm => Bool.noConfusion ((hstat _ hm).2.symm.trans h.2.1)⟩

/-- A register that is no shadow stands. -/
theorem State.loadRefused_rg_ne (code sect : Nat) (data : List Nat) {a : Nat} (hs : isShadow a = false)
    (h : a ∉ [Reg.CFG_STAT, Reg.CFG_PEND, Reg.SLT_STAT]) : (s.loadRefused code sect data).rg a = s.rg a := by
  rw [s.loadRefused_rg _ _ _ h]
  refine s.rg_moves_ne fun p hp e => ?_
  exact Bool.noConfusion (hs.symm.trans (e ▸ (s.shadowPairs_member p hp).1))

theorem State.loadRefused_member (code sect : Nat) (data : List Nat) {p : Nat × Nat} (hp : p ∈ s.shadowPairs) :
    (s.loadRefused code sect data).rg p.2 = s.rg p.2 ∧ (s.loadRefused code sect data).rg p.1 = s.rg p.2 := by
  have hm := s.shadowPairs_member p hp
  rw [s.loadRefused_rg _ _ _ hm.ne_status.2, s.loadRefused_rg _ _ _ hm.ne_status.1]
  exact ⟨s.rg_moves_ne fun q hq => (s.shadowPairs_member q hq).shadow_ne_live hm,
    s.rg_moves (sourced_of_member s.shadowPairs_member) hp⟩

/-- No group lists an address: it is the delay of a trigger, or stands. -/
theorem State.loadRefused_ungrouped (code sect : Nat) (data : List Nat) {a : Nat} (hg : s.groupOf a = none)
    (ha : a ∉ [Reg.CFG_STAT, Reg.CFG_PEND, Reg.SLT_STAT] ++ (List.range 16).map Reg.ADC_TRIG_DLY) :
    (s.loadRefused code sect data).rg a = s.rg a := by
  rw [List.mem_append, not_or] at ha
  obtain ⟨hstat, htrig⟩ := ha
  rw [s.loadRefused_rg _ _ _ hstat]
  refine s.rg_moves_ne fun p hp e => ?_
  rcases s.shadowPairs_fst hp with ⟨c, i, hi, hm⟩ | ⟨t, ht, rfl⟩
  · exact absurd ((s.groupOf_membersOf hi hm).symm.trans (e ▸ hg)) (by simp)
  · exact htrig (List.mem_map.2 ⟨t, List.mem_range.2 ht, e⟩)

theorem State.loadRefused_rg_stat (code sect : Nat) (data : List Nat) :
    (s.loadRefused code sect data).rg Reg.CFG_STAT = (s.dropLoad.showPending.markRefused code sect).rg Reg.CFG_STAT := by
  rw [State.loadRefused_eq, State.rg_raise]

theorem State.loadRefused_state (code sect : Nat) (data : List Nat) :
    (s.loadRefused code sect data).rf Reg.CFG_STAT 0 3 = s.restState := by
  obtain ⟨r, hr⟩ := s.dropLoad_eq
  have hcfg : s.dropLoad.showPending.cfg = { s.cfg with load := none, parNext := [] } := by rw [hr]; rfl
  rw [State.rf_of_rg 0 3 (s.loadRefused_rg_stat code sect data), State.markRefused_state _ _ _ (by rw [hcfg])]
  simp only [State.restState, hcfg]

/-- What a refused load leaves (R49, R64). -/
theorem State.loadRefused_spec (code sect : Nat) (data : List Nat) :
    LoadRefused s (s.loadRefused code sect data) code sect data := by
  obtain ⟨r, hr⟩ := s.loadRefused_frame code sect data
  have hstat := s.loadRefused_rg_stat code sect data
  have hcfg : (s.loadRefused code sect data).cfg = { s.cfg with load := none, parNext := [] } := by rw [hr]; rfl
  have hstate := s.loadRefused_state code sect data
  have hbit := (State.bit_of_rg 3 hstat).trans (State.markRefused_refused _ _ _)
  have hcode := (State.rf_of_rg 8 8 hstat).trans (State.markRefused_code _ _ _)
  have hsect := (State.rf_of_rg 16 16 hstat).trans (State.markRefused_sect _ _ _)
  have hev : Raises s (s.loadRefused code sect data) [(0x0300 + code, 0, data)] := by rw [hr]; rfl
  have hmem : KeepsMem s (s.loadRefused code sect data) := by rw [hr]; exact fun _ => rfl
  have honly : OnlyRegsAnd s (s.loadRefused code sect data) fun u => { u with cfg := s.cfg, keys := s.keys } := by rw [hr]; rfl
  exact ⟨hcfg, hstate, hbit, hcode, hsect,
    fun c i hi p hp => s.loadRefused_member _ _ _ (s.membersOf_sub_shadowPairs hi hp),
    fun i hi => (s.loadRefused_member _ _ _ (s.trigger_mem_shadowPairs hi)).2,
    fun a hg ha => s.loadRefused_ungrouped _ _ _ hg ha, hev, hmem, honly⟩

/-- A load refused behind a change of the key slots. -/
theorem loadRefused_of_keys {s u : State} (k : Keys) {code sect : Nat} {data : List Nat}
    (h : LoadRefused { s with keys := k } u code sect data) : LoadRefused s u code sect data := by
  obtain ⟨hcfg, hstate, hbit, hcode, hsect, hmem, htrig, hother, hev, hbytes, honly⟩ := h
  refine ⟨hcfg, hstate, hbit, hcode, hsect, hmem, htrig, hother, hev, hbytes, ?_⟩
  exact congrArg (fun t : State => { t with keys := s.keys }) honly

/-! ### CFG_LOAD (R46, R50, R65) -/

theorem State.abortLoad_none (h : s.cfg.load = none) : s.abortLoad = s := by
  simp only [State.abortLoad, h]

theorem State.abortLoad_some {l : Load} (h : s.cfg.load = some l) : s.abortLoad = s.loadRefused 0x13 0 [l.data.length] := by
  simp only [State.abortLoad, h]

/-- An abort shows in no register that is neither a shadow nor a status of the configuration. -/
theorem State.abortLoad_rg {a : Nat} (hs : isShadow a = false) (h : a ∉ [Reg.CFG_STAT, Reg.CFG_PEND, Reg.SLT_STAT]) :
    s.abortLoad.rg a = s.rg a := by
  cases hl : s.cfg.load with
  | none => rw [s.abortLoad_none hl]
  | some l => rw [s.abortLoad_some hl, s.loadRefused_rg_ne _ _ _ hs h]

theorem State.abortLoad_keys : s.abortLoad.keys = s.keys := by
  cases hl : s.cfg.load with
  | none => rw [s.abortLoad_none hl]
  | some l =>
    obtain ⟨r, hr⟩ := s.loadRefused_frame 0x13 0 [l.data.length]
    rw [s.abortLoad_some hl, hr]
    rfl

theorem State.abortLoad_halted : s.abortLoad.halted = s.halted :=
  congrArg (· != 7) (State.rf_of_rg 0 4 (s.abortLoad_rg (by decide) (by decide)))

theorem State.abortLoad_sourceOk (ring : Bool) : s.abortLoad.sourceOk ring = s.sourceOk ring := by
  simp only [State.sourceOk, State.rf_of_rg 8 2 (s.abortLoad_rg (a := Reg.GLB_STRAP) (by decide) (by decide))]

/-- A reception from a source begins. -/
def State.openLoad (s : State) (ring : Bool) : State := ({ s with cfg.load := some { ring := ring } } : State).showLoad

/-- A full image on a halted device, or a patch, from a source that BOOTSRC admits opens a reception. -/
theorem cfgLoad_open {cmd n : Nat} {ring : Bool} (hn : n = ring.toNat) (hc : cmd = 2 ∨ cmd = 1 ∧ s.halted = true)
    (hok : s.sourceOk ring = true) : cfgLoad cmd n s = s.abortLoad.openLoad ring := by
  have hsrc : (n == 1) = ring := by subst hn; cases ring <;> rfl
  have hlt : ¬1 < n := by subst hn; cases ring <;> decide
  have hhalt : (cmd = 1 && !s.halted) = false := by rcases hc with rfl | ⟨rfl, h⟩ <;> simp [*]
  have h0 : cmd ≠ 0 ∧ cmd ≠ 3 := by rcases hc with rfl | ⟨rfl, -⟩ <;> decide
  simp only [cfgLoad, if_neg h0.1, if_neg h0.2, s.abortLoad_halted, hhalt, hsrc, s.abortLoad_sourceOk, hok]
  simp [hlt, State.openLoad]

/-- A full image is refused at once while the gate outputs are enabled (R50). -/
theorem cfgLoad_not_halted {n : Nat} (hl : s.cfg.load = none) (h : s.halted = false) :
    cfgLoad 1 n s = s.loadRefused 0x0f 0 [] := by
  simp [cfgLoad, s.abortLoad_none hl, h]

/-- A patch from a source that BOOTSRC does not admit is refused (R46). -/
theorem cfgLoad_not_admitted {n : Nat} (hl : s.cfg.load = none) (h : (decide (1 < n) || !s.sourceOk (n == 1)) = true) :
    cfgLoad 2 n s = s.loadRefused 0x14 0 [s.rf Reg.GLB_STRAP 8 2] := by
  simp only [cfgLoad, s.abortLoad_none hl, h]
  rfl

theorem cfgLoad_abort : cfgLoad 3 0 s = s.abortLoad := rfl

/-! ### The commands -/

variable {s}

/-- A write of CFG_LOAD whose key passes acts behind the key slot of its source. -/
theorem finish_cfgLoad {src : Src} (hk : KeyPasses s src Reg.CFG_LOAD) (act : State → State) :
    State.finish (s.keyed src Reg.CFG_LOAD act) = .next (act (s.disarm src)).flush := by
  obtain ⟨-, hw, hkey⟩ := hk
  rw [s.keyed_pass src _ act hw hkey, State.finish]

/-- The image commands are writes of CFG_LOAD. -/
theorem does_loadPatch {src : Src} {n : Fin 4} {P : State → Prop} (hk : KeyPasses s src Reg.CFG_LOAD)
    (h : P (cfgLoad 2 n.val (s.disarm src))) : Does (.loadPatch src n) s P :=
  ⟨_, finish_cfgLoad hk (cfgLoad 2 n.val), h⟩

theorem does_loadFullImage {src : Src} {n : Fin 4} {P : State → Prop} (hk : KeyPasses s src Reg.CFG_LOAD)
    (h : P (cfgLoad 1 n.val (s.disarm src))) : Does (.loadFullImage src n) s P :=
  ⟨_, finish_cfgLoad hk (cfgLoad 1 n.val), h⟩

theorem does_loadAbort {src : Src} {P : State → Prop} (hk : KeyPasses s src Reg.CFG_LOAD)
    (h : P (cfgLoad 3 0 (s.disarm src))) : Does (.loadAbort src) s P :=
  ⟨_, finish_cfgLoad hk (cfgLoad 3 0), h⟩

/-- What opening a reception leaves, with and without one before it. -/
theorem openLoad_spec (src : Src) (ring : Bool) (u : State) (hu : u = (s.disarm src).abortLoad.openLoad ring) :
    u.cfg.load = some { ring := ring } ∧ u.rf Reg.CFG_STAT 0 3 = 1 ∧ u.slot src = {} ∧
      (∀ l, s.cfg.load = some l → Raises s u [(0x0313, 0, [l.data.length])]) ∧
      (s.cfg.load = none → Raises s u [] ∧ KeepsRegs s u [Reg.CFG_STAT] ∧
        OnlyRegsAnd s u fun u => { u with cfg.load := s.cfg.load, keys := s.keys }) := by
  have hslot : u.slot src = {} := by
    have hkeys : u.keys = (s.disarm src).keys := by rw [hu]; exact (s.disarm src).abortLoad_keys
    simp only [State.slot, hkeys, State.disarm_slots]
    exact Tab.get_set_same _ _ _ _
  refine ⟨by rw [hu]; rfl, by rw [hu]; exact State.showLoad_state_some _ (l := { ring := ring }) rfl, hslot, fun l hl => ?_, fun hl => ?_⟩
  · obtain ⟨r, hr⟩ := (s.disarm src).loadRefused_frame 0x13 0 [l.data.length]
    rw [hu, (s.disarm src).abortLoad_some hl, hr]
    rfl
  · rw [hu, (s.disarm src).abortLoad_none hl]
    exact ⟨raises_none rfl, fun a ha => State.rg_wf_ne _ _ _ _ (by simpa using ha), rfl⟩

/-- A reception that times out is refused (R47). -/
theorem loadTimeout_of_receiving {l : Load} (h : s.cfg.load = some l) (hc : l.checking = false) :
    loadTimeout s = s.loadRefused 0x12 0 [l.data.length] := by
  simp [loadTimeout, h, hc]

theorem loadTimeout_of_not_receiving (h : ∀ l, s.cfg.load = some l → l.checking = true) : loadTimeout s = s := by
  unfold loadTimeout
  split
  · exact if_pos (h _ ‹_›)
  · rfl

end Sys2Proof.Machine

open Sys2Proof Sys2Proof.Machine Sys2Proof.Safety

/-- Settles O51: what a write of CFG_LOAD makes of a load in progress and of its source, and the end of a reception. -/
theorem imageReception : Obligations.ImageReception := by
  unfold Obligations.ImageReception
  intro s src ring n hn
  refine ⟨fun hk => ⟨fun c hc hok => ?_, fun hl => ⟨fun hrun => ?_, fun m hm => ?_, ?_⟩, fun l hl => ?_⟩,
    fun hrun => ⟨fun h => ?_, fun l hl hc => ?_⟩⟩
  · rcases hc with rfl | ⟨rfl, hh⟩
    · exact does_loadPatch hk (openLoad_spec src ring _ (cfgLoad_open (s.disarm src) hn (.inl rfl) hok))
    · exact does_loadFullImage hk (openLoad_spec src ring _ (cfgLoad_open (s.disarm src) hn (.inr ⟨rfl, hh⟩) hok))
  · refine does_loadFullImage hk ?_
    rw [cfgLoad_not_halted (s.disarm src) hl hrun]
    exact loadRefused_of_keys _ (State.loadRefused_spec _ _ _ _)
  · refine does_loadPatch hk ?_
    have hbad : (decide (1 < m.val) || !(s.disarm src).sourceOk (m.val == 1)) = true := by
      rcases hm with hm | ⟨rfl, hm⟩
      · simp [hm]
      · have hsrc : (m.val == 1) = ring := by rw [hn]; cases ring <;> rfl
        rw [hsrc, Bool.or_eq_true]
        exact .inr (congrArg not hm)
    rw [cfgLoad_not_admitted (s.disarm src) hl hbad]
    exact loadRefused_of_keys _ (State.loadRefused_spec _ _ _ _)
  · refine does_loadAbort hk ?_
    rw [cfgLoad_abort, (s.disarm src).abortLoad_none hl]
    exact ⟨raises_none rfl, rfl⟩
  · refine does_loadAbort hk ?_
    rw [cfgLoad_abort, (s.disarm src).abortLoad_some hl]
    exact loadRefused_of_keys _ (State.loadRefused_spec _ _ _ _)
  · calc exec .receptionTimeout s = .next (loadTimeout s).flush := s.main_on loadTimeout hrun
      _ = .next s.flush := by rw [loadTimeout_of_not_receiving h]
  · refine Does_main s loadTimeout rfl hrun ?_
    rw [loadTimeout_of_receiving hl hc]
    exact s.loadRefused_spec _ _ _
end

section
/-! PROOFS. What follows a group or an image that has become live (R57, R106, R291, R295, R307): no member of a group, no trigger
source and no register of the configuration block changes any more. -/

namespace Sys2Proof.Machine

/-! ### Registers of the configuration -/

/-- The registers in which a commit or a load shows: the members of the groups, the sources of the triggers, GLB_STAT, and the
configuration block but for CFG_PEND. -/
def configReg (a : Nat) : Bool :=
  isShadow a || isLiveCopy a || (a / 0x10000 == 3 && a != Reg.CFG_PEND) || a == Reg.GLB_STAT || (0x50100 ≤ a && a < 0x50180)

/-- The blocks that hold no such register. -/
theorem configReg_of_block {a : Nat} (h : 0xd ≤ a / 0x10000 ∧ a / 0x10000 ≠ 0x10 ∨ a / 0x10000 = 4 ∨ a / 0x10000 = 6) :
    configReg a = false := by
  simp only [configReg, isShadow, isLiveCopy, Reg.GLB_STAT, Bool.or_eq_false_iff, Bool.and_eq_false_iff, decide_eq_false_iff_not,
    beq_eq_false_iff_ne, bne_eq_false_iff_eq]
  omega

theorem Member.configReg {p : Nat × Nat} (h : Member p) : configReg p.1 = true ∧ configReg p.2 = true := by
  simp [Machine.configReg, h.1, h.2.1]

theorem configReg_source : ∀ k < 16, configReg (Reg.ADC_TRIG_SRC k) = true := by decide

/-! ### Aside from the configuration -/

/-- What a load has put in place outside the registers stands: the image in force, the commits and the load under way. The wear
section, the graphs, the parameter banks and the routes may differ. -/
structure Beside (s t : State) : Prop where
  cfg : ∃ w g n r, t.cfg = { s.cfg with wear := w, graphs := g, parNext := n, routes := r }
  armed : t.sys.armed = s.sys.armed
  ts32 : t.tim.ts32 = s.tim.ts32

/-- Nothing differs in which a commit or a load shows. -/
structure Aside (s t : State) : Prop extends Beside s t where
  regs : ∀ a, configReg a = true → t.rg a = s.rg a

variable {s t u : State}

theorem Beside.refl (s : State) : Beside s s := ⟨⟨_, _, _, _, rfl⟩, rfl, rfl⟩

theorem Beside.trans (h : Beside s t) (k : Beside t u) : Beside s u := by
  obtain ⟨_, _, _, _, hc⟩ := h.cfg
  obtain ⟨w, g, n, r, kc⟩ := k.cfg
  exact ⟨⟨w, g, n, r, by rw [kc, hc]⟩, k.armed.trans h.armed, k.ts32.trans h.ts32⟩

theorem Beside.of_eq (hc : t.cfg = s.cfg) (hs : t.sys = s.sys) (ht : t.tim = s.tim) : Beside s t :=
  ⟨⟨_, _, _, _, hc⟩, congrArg Sys.armed hs, congrArg Tim.ts32 ht⟩

namespace Aside

theorem refl (s : State) : Aside s s := ⟨Beside.refl s, fun _ _ => rfl⟩

theorem trans (h : Aside s t) (k : Aside t u) : Aside s u :=
  ⟨h.toBeside.trans k.toBeside, fun a ha => (k.regs a ha).trans (h.regs a ha)⟩

/-- A change outside registers, configuration, start-up and time. -/
theorem of_eq (hr : t.regs = s.regs) (hc : t.cfg = s.cfg) (hs : t.sys = s.sys) (ht : t.tim = s.tim) : Aside s t :=
  ⟨Beside.of_eq hc hs ht, fun a _ => State.rg_of_regs hr a⟩

theorem ite {c : Prop} [Decidable c] (h : Aside s t) (k : Aside s u) : Aside s (if c then t else u) := by
  split
  · exact h
  · exact k

theorem foldl {α : Type} {f : State → α → State} {l : List α} (h : ∀ t, ∀ x ∈ l, Aside t (f t x)) (s : State) :
    Aside s (l.foldl f s) := by
  induction l generalizing s with
  | nil => exact refl s
  | cons x l ih =>
    exact (h s x List.mem_cons_self).trans (ih (fun t y hy => h t y (List.mem_cons_of_mem _ hy)) _)

theorem each {f : State → Nat → State} {n : Nat} (h : ∀ t, ∀ i < n, Aside t (f t i)) (s : State) : Aside s (s.each n f) :=
  foldl (fun t i hi => h t i (List.mem_range.1 hi)) s

theorem rf (h : Aside s t) {a : Nat} (lo n : Nat) (ha : configReg a = true) : t.rf a lo n = s.rf a lo n :=
  State.rf_of_rg lo n (h.regs a ha)

theorem sameSources (h : Aside s t) : SameSources s t := fun k hk => h.regs _ (configReg_source k hk)

theorem load (h : Aside s t) : t.cfg.load = s.cfg.load := by obtain ⟨_, _, _, _, hc⟩ := h.cfg; rw [hc]

theorem inForce (h : Aside s t) : t.cfg.inForce = s.cfg.inForce := by obtain ⟨_, _, _, _, hc⟩ := h.cfg; rw [hc]

theorem pend (h : Aside s t) : t.cfg.pend = s.cfg.pend := by obtain ⟨_, _, _, _, hc⟩ := h.cfg; rw [hc]

end Aside

theorem Beside.pop (h : Beside s t) : t.cfg.pop = s.cfg.pop := by obtain ⟨_, _, _, _, hc⟩ := h.cfg; rw [hc]

theorem DrivesOnly.aside {l : List Nat} (hl : ∀ a ∈ l, configReg a = false) (h : DrivesOnly l s t) : Aside s t := by
  obtain ⟨hr, r, o, p, w, v, rfl⟩ := h
  exact ⟨Beside.of_eq rfl rfl rfl, fun a ha => hr a fun hm => Bool.noConfusion ((hl a hm).symm.trans ha)⟩

variable (s)

theorem State.wr_aside {a : Nat} (v : Word) (h : configReg a = false) : Aside s (s.wr a v) :=
  ⟨Beside.of_eq rfl rfl rfl, fun b hb => (s.rg_wr a b v).trans (if_neg fun e => Bool.noConfusion (h.symm.trans (e ▸ hb)))⟩

theorem State.raise_aside (c n : Nat) (d : List Nat) : Aside s (s.raise c n d) := .of_eq rfl rfl rfl rfl

theorem State.emit_aside (o : Out) : Aside s (s.emit o) := .of_eq rfl rfl rfl rfl

theorem State.send_aside (n : Nat) (o : Out) : Aside s (s.send n o) := Aside.ite (s.emit_aside o) (Aside.refl s)

theorem State.setPair_aside (q : Nat) (p : Pair) : Aside s (s.setPair q p) := .of_eq rfl rfl rfl rfl

/-! ### Edge generator and grids -/

/-- The registers of leg pairs and PWM groups that are no members. -/
theorem configReg_pair : ∀ q < 96, configReg (Reg.PWM_ADT_STAT q) = false ∧ configReg (Reg.PWM_ON_L q) = false ∧
    configReg (Reg.PWM_WID_L q) = false := by decide +kernel

theorem configReg_gstat : ∀ g < 8, configReg (Reg.PWM_GSTAT g) = false := by decide

theorem State.seedAdt_aside {q : Nat} (h : q < 96) : Aside s (s.seedAdt q) :=
  (s.setPair_aside q _).trans (State.wr_aside _ _ (configReg_pair q h).1)

theorem State.setAdt_aside {q : Nat} (h : q < 96) (up : Bool) (dt clean : Nat) : Aside s (s.setAdt q up dt clean) :=
  (s.setPair_aside q _).trans (State.wr_aside _ _ (configReg_pair q h).1)

theorem State.clampLive_aside {q : Nat} (h : q < 96) (np : Nat) : Aside s (s.clampLive q np) := by
  obtain ⟨-, hon, hwid⟩ := configReg_pair q h
  exact Aside.ite (Aside.refl s) (((s.wr_aside _ hon).trans (State.wr_aside _ _ hwid)).trans (State.wr_aside _ _ (by decide)))

theorem State.limitAdt_aside {q : Nat} (h : q < 96) : Aside s (s.limitAdt q) :=
  Aside.ite (Aside.refl s) ((s.setAdt_aside h _ _ _).trans (State.setAdt_aside _ h _ _ _))

theorem State.fitPairs_aside (g : Nat) : Aside s (s.fitPairs g) := by
  refine Aside.each (fun t q hq => Aside.ite (Aside.refl t) ?_) s
  exact (Aside.ite (Aside.refl t) (t.clampLive_aside hq _)).trans (State.limitAdt_aside _ hq)

theorem State.showCoarse_aside : Aside s s.showCoarse := Aside.each (fun t g hg => t.wr_aside _ (configReg_gstat g hg)) s

theorem State.ringRestart_aside : Aside s s.ringRestart := .of_eq rfl rfl rfl rfl

theorem State.regrid_aside : Aside s s.regrid := by
  have hperiod (k : Int) : Aside s { s.ringRestart with tim.period := k } := ⟨⟨⟨_, _, _, _, rfl⟩, rfl, rfl⟩, fun _ _ => rfl⟩
  exact (Aside.ite (Aside.refl s) (hperiod _)).trans (Aside.each (fun t g hg => t.wr_aside _ (configReg_gstat g hg)) _)

/-! ### Ring -/

theorem State.setRcd_aside : Aside s s.setRcd := s.wr_aside _ (by decide)

theorem State.showRing_aside : Aside s s.showRing :=
  Aside.ite (Aside.refl s) ((s.wr_aside _ (by decide)).trans (State.wr_aside _ _ (by decide)))

theorem State.chooseDirection_aside (report : Bool) : Aside s (s.chooseDirection report) := by
  have htake (l h : Nat) : Aside s { s with tim.follow := l, tim.hops := h } :=
    ⟨⟨⟨_, _, _, _, rfl⟩, rfl, rfl⟩, fun _ _ => rfl⟩
  exact Aside.ite (((htake _ _).trans (State.wr_aside _ _ (by decide))).trans (State.raise_aside _ _ _ _)) (htake _ _)

end Sys2Proof.Machine
end

section
/-! PROOFS. Commits (R55 to R60, R65): when one is refused, when its group waits, and what its group makes live. -/

namespace Sys2Proof.Machine

open Safety

variable (s : State)

/-! ### CFG_COMMIT_STAT and a refused commit (R59, R65) -/

/-- CFG_COMMIT_STAT shows its fields. -/
theorem State.commitStat_rn {st code : Nat} (c i chk : Nat) (hst : st < 8) (hcode : code < 256) :
    (s.commitStat st code c i chk).rn Reg.CFG_COMMIT_STAT =
      code + c % 256 * 256 + i % 256 * 65536 + chk % 16 * 16777216 + st * 268435456 := by
  rw [State.commitStat, State.rn_wn, if_pos rfl]
  exact Nat.mod_eq_of_lt (by omega)

theorem State.commitStat_rg {a : Nat} (st code c i chk : Nat) (h : a ≠ Reg.CFG_COMMIT_STAT) :
    (s.commitStat st code c i chk).rg a = s.rg a := State.rg_wn_ne _ _ h

/-- CFG_COMMIT_AT governs no commit any more (R65). -/
def State.endAt (s : State) : State := ({ s with cfg.atBy := none } : State).wbit Reg.CFG_COMMIT_AT 0 false

theorem State.endAt_rg {a : Nat} (h : a ≠ Reg.CFG_COMMIT_AT) : s.endAt.rg a = s.rg a := State.rg_wbit_ne _ _ _ h

theorem State.endAt_bit : s.endAt.bit Reg.CFG_COMMIT_AT 0 = false := State.bit_wbit_same _ _ _ (by decide)

/-- CFG_COMMIT_STAT shows the refusal, and CFG_COMMIT_AT governs the commit no more. -/
def State.markCommitRefused (s : State) (governed : Bool) (code c i chk : Nat) : State :=
  (s.commitStat 4 code c i chk).doIf governed State.endAt

theorem State.markCommitRefused_rg (governed : Bool) (code c i chk : Nat) {a : Nat} (h : a ≠ Reg.CFG_COMMIT_AT) :
    (s.markCommitRefused governed code c i chk).rg a = (s.commitStat 4 code c i chk).rg a := by
  cases governed
  · rfl
  · exact State.endAt_rg _ h

theorem State.markCommitRefused_bit (governed : Bool) (code c i chk : Nat) :
    (s.markCommitRefused governed code c i chk).bit Reg.CFG_COMMIT_AT 0 = (s.bit Reg.CFG_COMMIT_AT 0 && !governed) := by
  cases governed
  · rw [Bool.not_false, Bool.and_true]
    exact State.bit_of_rg 0 (s.commitStat_rg _ _ _ _ _ (by decide))
  · rw [Bool.not_true, Bool.and_false]
    exact State.endAt_bit _

theorem State.commitStat_eq (st code c i chk : Nat) : ∃ r, s.commitStat st code c i chk = { s with regs := r } := ⟨_, rfl⟩

theorem State.endAt_eq : ∃ r, s.endAt = { s with regs := r, cfg.atBy := none } := ⟨_, rfl⟩

theorem State.markCommitRefused_frame (governed : Bool) (code c i chk : Nat) :
    ∃ r b, s.markCommitRefused governed code c i chk = { s with regs := r, cfg.atBy := b } := by
  obtain ⟨r, hr⟩ := s.commitStat_eq 4 code c i chk
  rw [State.markCommitRefused, hr]
  cases governed
  · exact ⟨r, s.cfg.atBy, rfl⟩
  · obtain ⟨q, hq⟩ := State.endAt_eq ({ s with regs := r } : State)
    exact ⟨q, none, hq⟩

theorem State.rn_of_rg {s t : State} {a : Nat} (h : t.rg a = s.rg a) : t.rn a = s.rn a := congrArg BitVec.toNat h

/-- What a refused commit leaves, where its event carries the words `data`. -/
theorem State.commitRefused_spec {governed : Bool} {code c i chk mem : Nat} {data : List Nat} (hcode : code < 256)
    (h : s.commitRefused governed code c i chk mem = (s.markCommitRefused governed code c i chk).raise (0x0300 + code) 0 data) :
    CommitRefused s (s.commitRefused governed code c i chk mem) governed code c i chk data := by
  obtain ⟨r, b, hr⟩ := s.markCommitRefused_frame governed code c i chk
  have hrg (a : Nat) : (s.commitRefused governed code c i chk mem).rg a =
      (s.markCommitRefused governed code c i chk).rg a := by rw [h, State.rg_raise]
  have hev : Raises s (s.commitRefused governed code c i chk mem) [(0x0300 + code, 0, data)] := by
    rw [h, hr]
    rfl
  have hmem : KeepsMem s (s.commitRefused governed code c i chk mem) := by
    rw [h, hr]
    exact fun _ => rfl
  refine ⟨?_, (State.bit_of_rg 0 (hrg _)).trans (s.markCommitRefused_bit governed code c i chk), hev, fun a ha => ?_, hmem⟩
  · rw [State.rn_of_rg ((hrg _).trans (s.markCommitRefused_rg governed code c i chk (by decide))),
      s.commitStat_rn c i chk (by decide) hcode, Nat.mod_eq_of_lt hcode]
  · simp only [List.mem_cons, List.not_mem_nil, or_false, not_or] at ha
    rw [hrg, s.markCommitRefused_rg _ _ _ _ _ ha.2, s.commitStat_rg _ _ _ _ _ ha.1]

/-- Without an image in force (R58). -/
theorem State.commitRefused_no_image (governed : Bool) (c i chk mem : Nat) :
    CommitRefused s (s.commitRefused governed 0x26 c i chk mem) governed 0x26 c i chk [] :=
  s.commitRefused_spec (by decide) rfl

/-- For a group that does not exist (R58). -/
theorem State.commitRefused_no_group (governed : Bool) (c i chk mem : Nat) :
    CommitRefused s (s.commitRefused governed 0x20 c i chk mem) governed 0x20 c i chk [c, i] :=
  s.commitRefused_spec (by decide) rfl

/-- For a pending group (R58). -/
theorem State.commitRefused_pending (governed : Bool) (c i chk mem : Nat) :
    CommitRefused s (s.commitRefused governed 0x21 c i chk mem) governed 0x21 c i chk [c, i] :=
  s.commitRefused_spec (by decide) rfl

/-- For a group that fails a check (R59). -/
theorem State.commitRefused_failed (governed : Bool) (c i chk mem : Nat) :
    CommitRefused s (s.commitRefused governed 0x22 c i chk mem) governed 0x22 c i chk [c, i, chk, mem] :=
  s.commitRefused_spec (by decide) rfl

/-! ### Writing CFG_COMMIT (R56, R58) -/

/-- A commit without an image in force (R58). -/
theorem startCommit_no_image (r : CommitReq) (h : s.cfg.inForce = false) :
    startCommit r s = s.commitRefused s.atFree 0x26 r.cls r.inst 0 0 := by
  simp [startCommit, h]

/-- A commit of a group that does not exist (R58). -/
theorem startCommit_no_group {r : CommitReq} (h : s.cfg.inForce = true) (hr : r.all = false) (hi : classSize r.cls ≤ r.inst) :
    startCommit r s = s.commitRefused s.atFree 0x20 r.cls r.inst 0 0 := by
  simp [startCommit, h, hr, hi]

/-- A commit names a group that exists, or all. -/
def CommitReq.Names (r : CommitReq) : Prop := r.all = true ∨ r.inst < classSize r.cls

/-- A commit that covers a pending group (R58). -/
theorem startCommit_pending {r : CommitReq} (h : s.cfg.inForce = true) (hr : r.Names) {g : Nat × Nat}
    (hg : (s.covered r).find? (fun g => s.isPending g.1 g.2) = some g) :
    startCommit r s = s.commitRefused s.atFree 0x21 g.1 g.2 0 0 := by
  have hn : (!r.all && decide (classSize r.cls ≤ r.inst)) = false := by
    rcases hr with hr | hr <;> simp [hr]
  simp only [startCommit, h, hn, hg]
  rfl

/-- The commit as its checks run (R56): its number, and the instant CFG_COMMIT_AT gives it. -/
def State.numbered (s : State) (r : CommitReq) : CommitReq := { r with no := s.cfg.commitNo, earliest := commitTime s }

/-- A commit is among those whose checks run. -/
def State.addCheck (s : State) (r : CommitReq) (no : Nat) (governs : Bool) : State :=
  { s with cfg := { s.cfg with checking := s.cfg.checking ++ [r], commitNo := no + 1, atBy := if governs then some no else s.cfg.atBy } }

/-- The checks of a commit begin. -/
def State.beginChecks (s : State) (r : CommitReq) : State :=
  (s.commitStat 1 0 r.cls r.inst 0).addCheck (s.numbered r) s.cfg.commitNo s.atFree

theorem startCommit_checks {r : CommitReq} (h : s.cfg.inForce = true) (hr : r.Names)
    (hg : (s.covered r).find? (fun g => s.isPending g.1 g.2) = none) : startCommit r s = s.beginChecks r := by
  have hn : (!r.all && decide (classSize r.cls ≤ r.inst)) = false := by
    rcases hr with hr | hr <;> simp [hr]
  simp only [startCommit, h, hn, hg]
  rfl

/-- A refusal seen from a state with the same registers, memories, events and time. -/
theorem commitRefused_congr {s t u : State} {governed : Bool} {code c i chk : Nat} {data : List Nat} (hregs : t.regs = s.regs)
    (hmem : t.mem = s.mem) (hevt : t.evt = s.evt) (htim : t.tim = s.tim) (h : CommitRefused t u governed code c i chk data) :
    CommitRefused s u governed code c i chk data := by
  obtain ⟨hstat, hbit, hev, hkeep, hbytes⟩ := h
  refine ⟨hstat, ?_, ?_, fun a ha => (hkeep a ha).trans (State.rg_of_regs hregs a), fun a => ?_⟩
  · rw [hbit, State.bit_of_rg 0 (State.rg_of_regs hregs _)]
  · rw [Raises, ← hevt, ← htim]
    exact hev
  · rw [hbytes, State.byte, hmem]
    rfl

theorem State.addCheck_rg (r : CommitReq) (no : Nat) (governs : Bool) (a : Nat) : (s.addCheck r no governs).rg a = s.rg a := rfl

theorem State.beginChecks_rg (r : CommitReq) {a : Nat} (h : a ≠ Reg.CFG_COMMIT_STAT) : (s.beginChecks r).rg a = s.rg a :=
  (State.addCheck_rg _ _ _ _ a).trans (s.commitStat_rg _ _ _ _ _ h)

theorem State.beginChecks_stat {r : CommitReq} (hc : r.cls < 256) (hi : r.inst < 256) :
    (s.beginChecks r).rn Reg.CFG_COMMIT_STAT = r.cls * 256 + r.inst * 65536 + 268435456 := by
  rw [State.beginChecks, State.rn_of_rg (State.addCheck_rg _ _ _ _ Reg.CFG_COMMIT_STAT), s.commitStat_rn _ _ _ (by decide) (by decide)]
  omega

theorem State.covered_one {r : CommitReq} (h : r.all = false) : s.covered r = [(r.cls, r.inst)] := by
  simp [State.covered, h]

theorem State.covered_all {r : CommitReq} (h : r.all = true) : s.covered r = allGroups.filter fun g => s.differs g.1 g.2 := by
  simp [State.covered, h]

/-- Whether the one group of a commit is pending. -/
theorem find_pending_one (c i : Nat) : [(c, i)].find? (fun g => s.isPending g.1 g.2) =
    if s.isPending c i then some (c, i) else none := by
  cases h : s.isPending c i <;> simp [h]

/-- What the beginning of the checks sets, and that nothing but CFG_COMMIT_STAT shows it. -/
theorem State.beginChecks_eq (r : CommitReq) : ∃ q, s.beginChecks r =
    ({ s with regs := q } : State).addCheck (s.numbered r) s.cfg.commitNo s.atFree := by
  obtain ⟨q, hq⟩ := s.commitStat_eq 1 0 r.cls r.inst 0
  exact ⟨q, by rw [State.beginChecks, hq]⟩

variable {s}

/-- A write of CFG_COMMIT that reaches its register acts behind the key slot of its source. -/
theorem access_startCommit {src : Src} (hr : Reaches s Reg.CFG_COMMIT) (r : CommitReq) :
    s.access (fun s => s.unkeyed src Reg.CFG_COMMIT (startCommit r)) = .next (startCommit r (s.disarm src)).flush := by
  obtain ⟨hon, hw⟩ := hr
  rw [s.access_on _ hon, s.unkeyed_pass src _ _ hw]

theorem does_commitGroup {src : Src} {cls inst : BitVec 8} {P : State → Prop} (hr : Reaches s Reg.CFG_COMMIT)
    (h : P (startCommit { all := false, cls := cls.toNat, inst := inst.toNat } (s.disarm src))) :
    Does (.commitGroup src cls inst) s P :=
  ⟨_, access_startCommit hr _, h⟩

theorem does_commitAll {src : Src} {P : State → Prop} (hr : Reaches s Reg.CFG_COMMIT)
    (h : P (startCommit { all := true } (s.disarm src))) : Does (.commitAll src) s P :=
  ⟨_, access_startCommit hr _, h⟩

/-- A commit of one group of a device in service begins its checks. -/
theorem does_commitGroup_checks {src : Src} {cls inst : BitVec 8} (hr : Reaches s Reg.CFG_COMMIT) (h : s.cfg.inForce = true)
    (hi : inst.toNat < classSize cls.toNat) (hp : s.isPending cls.toNat inst.toNat = false) :
    Does (.commitGroup src cls inst) s fun u =>
      u.cfg.checking = s.cfg.checking ++ [{ all := false, cls := cls.toNat, inst := inst.toNat, no := s.cfg.commitNo, earliest := commitTime s }] ∧
      u.cfg.commitNo = s.cfg.commitNo + 1 ∧ u.cfg.atBy = (if s.atFree then some s.cfg.commitNo else s.cfg.atBy) ∧
      u.rn Reg.CFG_COMMIT_STAT = cls.toNat * 256 + inst.toNat * 65536 + 268435456 ∧ Raises s u [] ∧
      KeepsRegs s u [Reg.CFG_COMMIT_STAT] ∧
      OnlyRegsAnd s u fun u => { u with cfg.checking := s.cfg.checking, cfg.commitNo := s.cfg.commitNo,
                                        cfg.atBy := s.cfg.atBy, keys := s.keys } := by
  refine does_commitGroup hr ?_
  have hfind : ((s.disarm src).covered { all := false, cls := cls.toNat, inst := inst.toNat }).find?
      (fun g => (s.disarm src).isPending g.1 g.2) = none := by
    rw [State.covered_one _ rfl, find_pending_one]
    exact if_neg (by rw [Bool.not_eq_true]; exact hp)
  rw [startCommit_checks (s.disarm src) h (.inr hi) hfind]
  have hstat := (s.disarm src).beginChecks_stat (r := { all := false, cls := cls.toNat, inst := inst.toNat }) cls.isLt inst.isLt
  have hkeep : KeepsRegs s _ [Reg.CFG_COMMIT_STAT] := fun a ha =>
    (s.disarm src).beginChecks_rg { all := false, cls := cls.toNat, inst := inst.toNat } (by simpa using ha)
  obtain ⟨q, hq⟩ := (s.disarm src).beginChecks_eq { all := false, cls := cls.toNat, inst := inst.toNat }
  rw [hq] at hstat hkeep ⊢
  exact ⟨rfl, rfl, rfl, hstat, raises_none rfl, hkeep, rfl⟩

/-- A commit of every group that differs begins its checks. -/
theorem does_commitAll_checks {src : Src} (hr : Reaches s Reg.CFG_COMMIT) (h : s.cfg.inForce = true)
    (hp : (allGroups.filter fun g => s.differs g.1 g.2).find? (fun g => s.isPending g.1 g.2) = none) :
    Does (.commitAll src) s fun u =>
      u.cfg.checking = s.cfg.checking ++ [{ all := true, no := s.cfg.commitNo, earliest := commitTime s }] ∧
      u.cfg.atBy = (if s.atFree then some s.cfg.commitNo else s.cfg.atBy) ∧
      u.rn Reg.CFG_COMMIT_STAT = 268435456 ∧ Raises s u [] ∧ KeepsRegs s u [Reg.CFG_COMMIT_STAT] := by
  refine does_commitAll hr ?_
  have hfind : ((s.disarm src).covered { all := true }).find? (fun g => (s.disarm src).isPending g.1 g.2) = none := by
    rw [State.covered_all _ rfl]
    exact hp
  rw [startCommit_checks (s.disarm src) h (.inl rfl) hfind]
  have hstat := (s.disarm src).beginChecks_stat (r := { all := true }) (by decide) (by decide)
  have hkeep : KeepsRegs s _ [Reg.CFG_COMMIT_STAT] := fun a ha =>
    (s.disarm src).beginChecks_rg { all := true } (by simpa using ha)
  obtain ⟨q, hq⟩ := (s.disarm src).beginChecks_eq { all := true }
  rw [hq] at hstat hkeep ⊢
  exact ⟨rfl, rfl, hstat, raises_none rfl, hkeep⟩

/-- A commit that is refused when it is written (R58), of one group and of all. -/
theorem does_commit_refused {src : Src} {cls inst : BitVec 8} (hr : Reaches s Reg.CFG_COMMIT) :
    (s.cfg.inForce = false →
      (Does (.commitGroup src cls inst) s fun u => CommitRefused s u s.atFree 0x26 cls.toNat inst.toNat 0 []) ∧
      (Does (.commitAll src) s fun u => CommitRefused s u s.atFree 0x26 0 0 0 [])) ∧
    (s.cfg.inForce = true →
      (classSize cls.toNat ≤ inst.toNat → Does (.commitGroup src cls inst) s fun u =>
        CommitRefused s u s.atFree 0x20 cls.toNat inst.toNat 0 [cls.toNat, inst.toNat]) ∧
      (inst.toNat < classSize cls.toNat → s.isPending cls.toNat inst.toNat = true →
        Does (.commitGroup src cls inst) s fun u =>
          CommitRefused s u s.atFree 0x21 cls.toNat inst.toNat 0 [cls.toNat, inst.toNat]) ∧
      (∀ g, (allGroups.filter fun g => s.differs g.1 g.2).find? (fun g => s.isPending g.1 g.2) = some g →
        Does (.commitAll src) s fun u => CommitRefused s u s.atFree 0x21 g.1 g.2 0 [g.1, g.2])) := by
  have hback {u : State} {code c i : Nat} {data : List Nat}
      (h : CommitRefused (s.disarm src) u s.atFree code c i 0 data) : CommitRefused s u s.atFree code c i 0 data :=
    commitRefused_congr rfl rfl rfl rfl h
  refine ⟨fun h => ⟨does_commitGroup hr ?_, does_commitAll hr ?_⟩, fun h => ⟨fun hi => does_commitGroup hr ?_,
    fun hi hp => does_commitGroup hr ?_, fun g hg => does_commitAll hr ?_⟩⟩
  · rw [startCommit_no_image (s.disarm src) _ h]
    exact hback (State.commitRefused_no_image _ _ _ _ _ _)
  · rw [startCommit_no_image (s.disarm src) _ h]
    exact hback (State.commitRefused_no_image _ _ _ _ _ _)
  · rw [startCommit_no_group (s.disarm src) h rfl hi]
    exact hback (State.commitRefused_no_group _ _ _ _ _ _)
  · have hfind : ((s.disarm src).covered { all := false, cls := cls.toNat, inst := inst.toNat }).find?
        (fun g => (s.disarm src).isPending g.1 g.2) = some (cls.toNat, inst.toNat) := by
      rw [State.covered_one _ rfl, find_pending_one]
      exact if_pos hp
    rw [startCommit_pending (s.disarm src) h (.inr hi) hfind]
    exact hback (State.commitRefused_pending _ _ _ _ _ _)
  · have hfind : ((s.disarm src).covered { all := true }).find? (fun g => (s.disarm src).isPending g.1 g.2) = some g := by
      rw [State.covered_all _ rfl]
      exact hg
    rw [startCommit_pending (s.disarm src) h (.inl rfl) hfind]
    exact hback (State.commitRefused_pending _ _ _ _ _ _)

end Sys2Proof.Machine
end

section
/-! PROOFS. The checks of a commit, and the group that waits behind them (R55 to R60). -/

namespace Sys2Proof.Machine

open Safety

variable {s : State} {c i : Nat}

/-! ### The pending groups (R57) -/

theorem inst_lt (h : i < classSize c) : i < 256 := by
  unfold classSize at h
  split at h <;> omega

theorem groupKey_inj {d j : Nat} (hi : i < classSize c) (hj : j < classSize d) (h : groupKey d j = groupKey c i) :
    (d, j) = (c, i) := by
  have hi' := inst_lt hi
  have hj' := inst_lt hj
  rw [groupKey, groupKey] at h
  rw [Prod.mk.injEq]
  omega

/-- Group (c, i) alone may be pending, as `q` says. -/
def Waits (s : State) (c i : Nat) (q : Option Pend) : Prop :=
  ∀ d j, j < classSize d → s.cfg.pend.at (groupKey d j) none = if (d, j) = (c, i) then q else none

theorem waits_put {s t : State} {q r : Option Pend} (hi : i < classSize c) (h : Waits s c i q)
    (ht : t.cfg.pend = s.cfg.pend.put (groupKey c i) none r) : Waits t c i r := by
  intro d j hj
  rw [ht, Tab.at, Tab.get_set]
  by_cases he : (d, j) = (c, i)
  · cases he
    rw [if_pos rfl, if_pos rfl]
  · rw [if_neg fun hk => he (groupKey_inj hi hj hk), if_neg he]
    exact (h d j hj).trans (if_neg he)

theorem waits_of_nil (h : s.cfg.pend = []) (c i : Nat) : Waits s c i none := by
  intro d j _
  rw [h, ite_self]
  rfl

theorem Waits.congr {t : State} {q : Option Pend} (h : Waits s c i q) (ht : t.cfg.pend = s.cfg.pend) : Waits t c i q := by
  rw [Waits, ht]
  exact h

theorem Waits.isPending {q : Option Pend} (h : Waits s c i q) {d j : Nat} (hj : j < classSize d) :
    s.isPending d j = (decide ((d, j) = (c, i)) && q.isSome) := by
  rw [State.isPending, h d j hj]
  by_cases he : (d, j) = (c, i) <;> simp [he]

theorem Waits.none_pending (h : Waits s c i none) (f : Nat × Nat → Pend → Bool) :
    (allGroups.any fun g => (s.cfg.pend.at (groupKey g.1 g.2) none).any (f g)) = false := by
  refine List.any_eq_false.2 fun g hg => ?_
  rw [h g.1 g.2 (allGroups_lt g hg), ite_self]
  simp

/-- CFG_PEND shows a bit for each class that has a pending group (R63). -/
def State.pendBits (s : State) : Nat :=
  [1, 2, 3, 4, 5, 6, 7, 8, 9].foldl (fun m c =>
    if (List.range (classSize c)).any fun i => s.isPending c i then m + 2 ^ (c - 1) else m) 0

theorem State.showPending_pend (s : State) : s.showPending.rn Reg.CFG_PEND = s.pendBits % 4294967296 := by
  rw [State.showPending, State.rn_of_rg (State.rg_wn_ne _ _ (by decide)), State.rn_wn, if_pos rfl, State.pendBits]

theorem Waits.any_pending {q : Option Pend} (hi : i < classSize c) (h : Waits s c i q) (d : Nat) :
    ((List.range (classSize d)).any fun j => s.isPending d j) = (decide (d = c) && q.isSome) := by
  rw [Bool.eq_iff_iff, List.any_eq_true, Bool.and_eq_true, decide_eq_true_eq]
  constructor
  · rintro ⟨j, hj, hp⟩
    rw [h.isPending (List.mem_range.1 hj), Bool.and_eq_true, decide_eq_true_eq] at hp
    exact ⟨congrArg Prod.fst hp.1, hp.2⟩
  · rintro ⟨rfl, hq⟩
    exact ⟨i, List.mem_range.2 hi, by rw [h.isPending hi, decide_eq_true rfl, Bool.true_and]; exact hq⟩

theorem pendBits_one : ∀ c < 10, c ≠ 0 →
    [1, 2, 3, 4, 5, 6, 7, 8, 9].foldl (fun m d => if (decide (d = c) && true) = true then m + 2 ^ (d - 1) else m) 0 = 2 ^ (c - 1) ∧
    2 ^ (c - 1) < 4294967296 := by decide

theorem class_ne_zero (hi : i < classSize c) : c ≠ 0 := by
  rintro rfl
  exact absurd hi (Nat.not_lt_zero i)

theorem Waits.showPending_some {q : Pend} (hi : i < classSize c) (h : Waits s c i (some q)) :
    s.showPending.rn Reg.CFG_PEND = 2 ^ (c - 1) := by
  obtain ⟨hbits, hlt⟩ := pendBits_one c (class_lt hi) (class_ne_zero hi)
  rw [State.showPending_pend, State.pendBits]
  simp only [h.any_pending hi, Option.isSome_some]
  rw [hbits, Nat.mod_eq_of_lt hlt]

theorem Waits.showPending_none (hi : i < classSize c) (h : Waits s c i none) : s.showPending.rn Reg.CFG_PEND = 0 := by
  rw [State.showPending_pend, State.pendBits]
  simp only [h.any_pending hi, Option.isSome_none, Bool.and_false]
  rfl

/-! ### The groups whose commit point is now (R57) -/

theorem Waits.dueNow_ne {q : Option Pend} (h : Waits s c i q) {d j : Nat} (hj : j < classSize d) (hne : q = none ∨ (d, j) ≠ (c, i)) :
    s.dueNow d j = false := by
  have hnone : s.cfg.pend.at (groupKey d j) none = none := by
    rw [h d j hj]
    rcases hne with rfl | hne
    · exact ite_self _
    · exact if_neg hne
  simp only [State.dueNow, hnone]

theorem Waits.dueNow {q : Pend} (hi : i < classSize c) (h : Waits s c i (some q)) :
    s.dueNow c i = (!q.hold && q.earliest.all fun t => decide (0 ≤ (s.tim.ts32 - t).toInt)) := by
  have hq : s.cfg.pend.at (groupKey c i) none = some q := (h c i hi).trans (if_pos rfl)
  simp only [State.dueNow, hq]
  cases q.earliest <;> rfl

/-- Each group of the list goes live that is due and whose commit point is any instant. -/
def State.commitEach (s : State) (l : List (Nat × Nat)) : State :=
  l.foldl (fun s g => if s.immediate g.1 then s.commitPoint g.1 g.2 else s) s

theorem State.commitEach_none {l : List (Nat × Nat)} (h : ∀ g ∈ l, s.immediate g.1 = true → s.dueNow g.1 g.2 = false) :
    s.commitEach l = s := by
  induction l with
  | nil => rfl
  | cons g l ih =>
    have hg : (if s.immediate g.1 then s.commitPoint g.1 g.2 else s) = s := by
      split
      case isTrue him => rw [State.commitPoint, h g List.mem_cons_self him]; rfl
      case isFalse => rfl
    rw [State.commitEach, List.foldl_cons, hg]
    exact ih fun g' hg' => h g' (List.mem_cons_of_mem _ hg')

theorem State.commitNow_eq (s : State) : s.commitNow = s.commitEach allGroups := by
  rw [State.commitNow]
  split
  case isTrue h =>
    have hw := waits_of_nil (List.isEmpty_iff.1 h) 0 0
    exact (State.commitEach_none fun g hg _ => hw.dueNow_ne (allGroups_lt g hg) (.inl rfl)).symm
  case isFalse => rfl

/-- One group that waits goes live where it is due and its commit point is any instant. -/
theorem Waits.commitNow_due {q : Pend} (hi : i < classSize c) (h : Waits s c i (some q)) (him : s.immediate c = true)
    (hdue : s.dueNow c i = true) (hlive : Waits (s.goLive c i) c i none) : s.commitNow = s.goLive c i := by
  obtain ⟨l, r, hlr, hl⟩ := List.eq_append_cons_of_mem (mem_allGroups.2 hi)
  have hsub : ∀ g ∈ l ++ r, g ∈ allGroups := fun g hg => by
    rw [hlr]
    simp only [List.mem_append, List.mem_cons] at hg ⊢
    tauto
  have hbefore : s.commitEach l = s := State.commitEach_none fun g hg _ =>
    h.dueNow_ne (allGroups_lt g (hsub g (List.mem_append_left _ hg))) (.inr fun e => hl (e ▸ hg))
  have hafter : (s.goLive c i).commitEach r = s.goLive c i := State.commitEach_none fun g hg _ =>
    hlive.dueNow_ne (allGroups_lt g (hsub g (List.mem_append_right _ hg))) (.inl rfl)
  calc s.commitNow = (s.commitEach l).commitEach ((c, i) :: r) := by
        rw [State.commitNow_eq, hlr, State.commitEach, List.foldl_append]; rfl
    _ = (if s.immediate c then s.commitPoint c i else s).commitEach r := by rw [hbefore]; rfl
    _ = s.goLive c i := by rw [if_pos him, State.commitPoint, if_pos hdue, hafter]

/-- One group that waits stands where it is not due, or its commit point is not now. -/
theorem Waits.commitNow_stands {q : Pend} (h : Waits s c i (some q)) (hnot : s.immediate c = false ∨ s.dueNow c i = false) :
    s.commitNow = s := by
  rw [State.commitNow_eq]
  refine State.commitEach_none fun g hg him => ?_
  by_cases he : g = (c, i)
  · subst he
    exact hnot.resolve_left fun hno => Bool.noConfusion (hno.symm.trans him)
  · exact h.dueNow_ne (allGroups_lt g hg) (.inr he)

theorem State.immediate_of_rg {t : State} (h : ∀ a ∈ [Reg.GLB_STAT, Reg.PAR_STAT, Reg.VTX_STAT 0], t.rg a = s.rg a) (c : Nat) :
    t.immediate c = s.immediate c := by
  have hhalt : t.halted = s.halted := congrArg (· != 7) (State.rf_of_rg 0 4 (h _ (by simp)))
  have hpair : t.pairState = s.pairState := State.rf_of_rg 0 2 (h _ (by simp))
  have hdry : t.dry = s.dry := State.bit_of_rg 5 (h _ (by simp))
  rw [State.immediate, State.immediate, State.enginesRun, State.enginesRun, hhalt, hpair, hdry]

/-! ### The oldest commit, as its checks end (R56) -/

variable (s) in
/-- The oldest commit is checked no more. -/
def State.popCheck (s : State) (l : List CommitReq) : State := { s with cfg.checking := l }

theorem State.checkGroup_popCheck (l : List CommitReq) (k : List (Nat × Nat)) (c i : Nat) :
    (s.popCheck l).checkGroup k c i = s.checkGroup k c i := by
  unfold State.checkGroup
  split <;> rfl

theorem commitChecked_none (h : s.cfg.checking = []) : commitChecked s = s := by
  rw [commitChecked, h]

section Oldest

variable {r : CommitReq} {l : List CommitReq} (hchk : s.cfg.checking = r :: l) (hall : r.all = false)

include hchk hall

theorem commitChecked_pending (hp : s.isPending r.cls r.inst = true) :
    commitChecked s = (s.popCheck l).commitRefused (s.cfg.atBy == some r.no) 0x21 r.cls r.inst 0 0 := by
  have hcov : (s.popCheck l).covered r = [(r.cls, r.inst)] := State.covered_one _ hall
  have hfind : [(r.cls, r.inst)].find? (fun g => (s.popCheck l).isPending g.1 g.2) = some (r.cls, r.inst) :=
    (find_pending_one _ _ _).trans (if_pos hp)
  rw [State.popCheck] at hcov hfind
  simp only [commitChecked, hchk, hcov, hfind]
  rfl

theorem commitChecked_failed (hp : s.isPending r.cls r.inst = false) {n m : Nat}
    (hf : s.checkGroup [(r.cls, r.inst)] r.cls r.inst = some (n, m)) :
    commitChecked s = (s.popCheck l).commitRefused (s.cfg.atBy == some r.no) 0x22 r.cls r.inst n m := by
  have hcov : (s.popCheck l).covered r = [(r.cls, r.inst)] := State.covered_one _ hall
  have hfind : [(r.cls, r.inst)].find? (fun g => (s.popCheck l).isPending g.1 g.2) = none :=
    (find_pending_one _ _ _).trans (if_neg (by rw [Bool.not_eq_true]; exact hp))
  have hgrp : (s.popCheck l).checkGroup [(r.cls, r.inst)] r.cls r.inst = some (n, m) := (State.checkGroup_popCheck _ _ _ _).trans hf
  rw [State.popCheck] at hcov hfind hgrp
  simp only [commitChecked, hchk, hcov, hfind, List.findSome?_cons, hgrp]
  rfl

/-- The group of a commit that passed its checks is pending (R57). -/
def State.nowPending (s : State) (l : List CommitReq) (r : CommitReq) : State :=
  ((s.popCheck l).makePending r.cls r.inst { earliest := r.earliest, no := r.no }).commitStat 2 0 r.cls r.inst 0

theorem commitChecked_passed (hp : s.isPending r.cls r.inst = false)
    (hf : s.checkGroup [(r.cls, r.inst)] r.cls r.inst = none) :
    commitChecked s = (s.nowPending l r).showPending.commitNow := by
  have hcov : (s.popCheck l).covered r = [(r.cls, r.inst)] := State.covered_one _ hall
  have hfind : [(r.cls, r.inst)].find? (fun g => (s.popCheck l).isPending g.1 g.2) = none :=
    (find_pending_one _ _ _).trans (if_neg (by rw [Bool.not_eq_true]; exact hp))
  have hgrp : (s.popCheck l).checkGroup [(r.cls, r.inst)] r.cls r.inst = none := (State.checkGroup_popCheck _ _ _ _).trans hf
  rw [State.popCheck] at hcov hfind hgrp
  simp only [commitChecked, hchk, hcov, hfind, List.findSome?_cons, List.findSome?_nil, hgrp, Option.map_none, List.foldl_cons,
    List.foldl_nil, List.isEmpty_cons, Bool.false_eq_true, if_false, State.nowPending, State.popCheck]

end Oldest

/-! ### The group waits (R57) -/

theorem State.nowPending_waits {r : CommitReq} (l : List CommitReq) (hi : r.inst < classSize r.cls) (hpend : s.cfg.pend = []) :
    Waits (s.nowPending l r) r.cls r.inst (some { earliest := r.earliest, no := r.no }) :=
  waits_put hi (waits_of_nil hpend r.cls r.inst) rfl

theorem State.nowPending_rg (l : List CommitReq) (r : CommitReq) {a : Nat} (h : a ≠ Reg.CFG_COMMIT_STAT) :
    (s.nowPending l r).rg a = s.rg a := State.commitStat_rg _ _ _ _ _ _ h

theorem State.showPending_eq (s : State) : ∃ q, s.showPending = { s with regs := q } := ⟨_, rfl⟩

theorem State.nowPending_stat {r : CommitReq} (l : List CommitReq) (hi : r.inst < classSize r.cls) :
    (s.nowPending l r).rn Reg.CFG_COMMIT_STAT = r.cls * 256 + r.inst * 65536 + 2 * 268435456 := by
  have hc := class_lt hi
  have hi' := inst_lt hi
  rw [State.nowPending, State.commitStat_rn _ _ _ _ (by decide) (by decide)]
  omega

theorem State.nowPending_eq (l : List CommitReq) (r : CommitReq) :
    ∃ q t, s.nowPending l r = { s with regs := q, cfg.checking := l, cfg.pend := t } := by
  obtain ⟨q, hq⟩ := ((s.popCheck l).makePending r.cls r.inst { earliest := r.earliest, no := r.no }).commitStat_eq 2 0 r.cls r.inst 0
  exact ⟨q, _, hq⟩

variable (s) in
/-- A commit that passed its checks and whose group waits. -/
theorem State.nowPending_spec {r : CommitReq} (l : List CommitReq) (hi : r.inst < classSize r.cls) (hpend : s.cfg.pend = [])
    {u : State} (hu : u = (s.nowPending l r).showPending) :
    Waits u r.cls r.inst (some { earliest := r.earliest, no := r.no }) ∧ u.cfg.checking = l ∧ u.cfg.atBy = s.cfg.atBy ∧
      u.tim = s.tim ∧
      u.rn Reg.CFG_COMMIT_STAT = r.cls * 256 + r.inst * 65536 + 2 * 268435456 ∧ u.rn Reg.CFG_PEND = 2 ^ (r.cls - 1) ∧
      Raises s u [] ∧ KeepsRegs s u [Reg.CFG_COMMIT_STAT, Reg.CFG_PEND, Reg.SLT_STAT] ∧ KeepsMem s u := by
  have hw := s.nowPending_waits l hi hpend
  have hpbits := hw.showPending_some hi
  have hstat : (s.nowPending l r).showPending.rn Reg.CFG_COMMIT_STAT = r.cls * 256 + r.inst * 65536 + 2 * 268435456 :=
    (State.rn_of_rg (State.showPending_rg _ (by decide) (by decide))).trans (State.nowPending_stat l hi)
  have hkeep : KeepsRegs s (s.nowPending l r).showPending [Reg.CFG_COMMIT_STAT, Reg.CFG_PEND, Reg.SLT_STAT] := fun a ha => by
    simp only [List.mem_cons, List.not_mem_nil, or_false, not_or] at ha
    rw [State.showPending_rg _ ha.2.1 ha.2.2, State.nowPending_rg _ _ ha.1]
  subst hu
  obtain ⟨q, hq⟩ := (s.nowPending l r).showPending_eq
  have hform : ∃ q t, (s.nowPending l r).showPending = { s with regs := q, cfg.checking := l, cfg.pend := t } := by
    obtain ⟨p, t, hp⟩ := s.nowPending_eq l r
    obtain ⟨q, hq⟩ := (s.nowPending l r).showPending_eq
    exact ⟨q, t, by rw [hq, hp]⟩
  have hwq := hw.congr (t := (s.nowPending l r).showPending) (by obtain ⟨q, hq⟩ := (s.nowPending l r).showPending_eq; rw [hq])
  obtain ⟨q, t, ht⟩ := hform
  exact ⟨hwq, by rw [ht], by rw [ht], by rw [ht], hstat, hpbits, raises_none (by rw [ht]), hkeep, by rw [ht]; exact fun _ => rfl⟩

end Sys2Proof.Machine
end

section
/-! PROOFS. The members of a group go to its live copies (R57, R624). -/

namespace Sys2Proof.Machine

open Safety

variable (s : State)

/-! ### The members of a group in its live copies -/

/-- The live copies of a group with their shadows. -/
def State.livePairs (s : State) (c i : Nat) : List (Nat × Nat) := (s.membersOf c i).map Prod.swap

theorem State.mem_livePairs {c i : Nat} {p : Nat × Nat} : p ∈ s.livePairs c i ↔ p.swap ∈ s.membersOf c i := by
  rw [State.livePairs, List.mem_map]
  exact ⟨fun ⟨q, hq, h⟩ => by rw [← h, Prod.swap_swap]; exact hq, fun h => ⟨_, h, Prod.swap_swap p⟩⟩

/-- Pairs of a live copy and its shadow have one source each. -/
theorem sourced_swap_of_member {l : List (Nat × Nat)} (h : ∀ p ∈ l, Member p) : Sourced (l.map Prod.swap) := by
  intro x hx y hy
  obtain ⟨p, hp, rfl⟩ := List.mem_map.1 hx
  obtain ⟨q, hq, rfl⟩ := List.mem_map.1 hy
  exact ⟨((h q hq).shadow_ne_live (h p hp)).symm, (h p hp).shadow_eq (h q hq)⟩

theorem State.moves_beside (l : List (Nat × Nat)) : Beside s (s.moves l) := by
  obtain ⟨r, hr⟩ := s.moves_eq l
  rw [hr]
  exact Beside.of_eq rfl rfl rfl

theorem State.setMem32_aside (a : Nat) (v : Word) : Aside s (s.setMem32 a v) := by
  have hbytes (l : List Byte) : ∀ (t : State) (a : Nat), Aside t (t.setBytes a l) := by
    induction l with
    | nil => exact fun t _ => Aside.refl t
    | cons b l ih =>
      intro t a
      have hbyte : Aside t (t.setByte a b) := .of_eq rfl rfl rfl rfl
      exact hbyte.trans (ih _ (a + 1))
  exact hbytes _ s a

/-- The words of a parameter bank in data memory. -/
def State.storeBank (s : State) (i : Nat) (l : List Word) : State :=
  (List.range l.length).foldl (fun s j => s.setMem32 (0x810000 + 0x20000 * i + (s.graph i).parBase + 4 * j) (l.getD j 0)) s

/-- A parameter bank goes to data memory (R57). -/
def State.copyBank (s : State) (c i : Nat) : State :=
  if c = 6 then
    match s.cfg.parNext.at i none with
    | some l =>
      let s := s.storeBank i l
      { s with cfg.parNext := s.cfg.parNext.put i none none }
    | none => s
  else s

theorem State.copyBank_aside (c i : Nat) : Aside s (s.copyBank c i) := by
  have hpar (t : State) (n : Tab (Option (List Word))) : Aside t { t with cfg.parNext := n } :=
    ⟨⟨⟨_, _, _, _, rfl⟩, rfl, rfl⟩, fun _ _ => rfl⟩
  refine Aside.ite ?_ (Aside.refl s)
  split
  case h_1 l _ => exact (Aside.foldl (fun t j _ => t.setMem32_aside _ _) s).trans (hpar (s.storeBank i l) _)
  case h_2 => exact Aside.refl s

/-- The scales a measurement point had are kept where a METER group becomes live (R425). -/
def State.withScales (s : State) (c i : Nat) : State := if c = 7 then s.keepScales i else s

theorem State.withScales_aside (c i : Nat) : Aside s (s.withScales c i) := Aside.ite (Aside.of_eq rfl rfl rfl rfl) (Aside.refl s)

theorem State.withScales_regs (c i : Nat) : (s.withScales c i).regs = s.regs := by
  rw [State.withScales]
  split <;> rfl

theorem State.copyGroup_eq (c i : Nat) :
    s.copyGroup c i = ((s.withScales c i).moves (s.livePairs c i)).copyBank c i := by
  have hmem : (s.withScales c i).membersOf c i = s.membersOf c i :=
    SameSources.membersOf (fun k _ => State.rg_of_regs (s.withScales_regs c i) _) c i
  rw [State.livePairs, ← hmem, State.moves, List.foldl_map]
  rfl

/-- The configuration after a group was copied: its live copies take its shadows. -/
theorem State.copyGroup_aside (c i : Nat) : Aside (s.moves (s.livePairs c i)) (s.copyGroup c i) := by
  rw [State.copyGroup_eq]
  refine Aside.trans ⟨?_, fun a _ => State.rg_of_regs (State.moves_regs (s.withScales_regs c i) _) a⟩ (State.copyBank_aside _ c i)
  obtain ⟨r, hr⟩ := s.moves_eq (s.livePairs c i)
  obtain ⟨q, hq⟩ := (s.withScales c i).moves_eq (s.livePairs c i)
  obtain ⟨hcfg, harm, htim⟩ := (s.withScales_aside c i).toBeside
  rw [hr, hq]
  exact ⟨hcfg, harm, htim⟩

end Sys2Proof.Machine
end

section
/-! PROOFS. A group becomes live with what follows it: its members change together, and no other group's (R57, R60, R106, R624). -/

namespace Sys2Proof.Machine

open Safety

variable (s : State)

/-! ### What follows a group (R106, R291, R307) -/

theorem Aside.checking {s t : State} (h : Aside s t) : t.cfg.checking = s.cfg.checking := by
  obtain ⟨_, _, _, _, hc⟩ := h.cfg
  rw [hc]

theorem Aside.atBy {s t : State} (h : Aside s t) : t.cfg.atBy = s.cfg.atBy := by
  obtain ⟨_, _, _, _, hc⟩ := h.cfg
  rw [hc]

theorem Aside.thenIf {s t : State} {p : Prop} [Decidable p] (h : Aside s t) {f : State → State} (hf : ∀ t, Aside t (f t)) :
    Aside s (if p then f t else t) := Aside.ite (h.trans (hf t)) h

/-- The group's live copies take its shadows, it waits no longer, and CFG_COMMIT_TS takes TS32 (R57, R60). -/
def State.takeGroup (s : State) (c i : Nat) : State :=
  let s := s.copyGroup c i
  let s := { s with cfg.pend := s.cfg.pend.put (groupKey c i) none none }
  s.wr Reg.CFG_COMMIT_TS s.tim.ts32

/-- What follows the group: the dead time in use, the grids and the ring. -/
def State.followGroup (s : State) (c i : Nat) : State :=
  let s := if c = 4 then s.seedAdt i else s
  let s := if c = 1 ∨ c = 3 ∨ c = 9 then s.regrid.showCoarse else s
  let s := if c = 3 then s.fitPairs i else s
  if c = 8 then (s.setRcd.showRing).chooseDirection false else s

/-- While halted the delays of triggers without a source follow too (R624). -/
def State.copyHalted (s : State) : State := if s.halted then s.copyUnsourced else s

theorem State.goLive_eq {c i : Nat} {q : Pend} (hq : s.cfg.pend.at (groupKey c i) none = some q) (hp : q.patch = none) :
    s.goLive c i =
      let t := ((s.takeGroup c i).followGroup c i).copyHalted.showPending.atDone q.no
      if allGroups.any fun g => (t.cfg.pend.at (groupKey g.1 g.2) none).any fun q => q.patch.isNone then t
      else t.commitStat 3 0 c i 0 := by
  unfold State.goLive
  simp only [hq, Option.getD_some, hp]
  rfl

theorem State.followGroup_aside {c i : Nat} (hi : i < classSize c) : Aside s (s.followGroup c i) := by
  have hseed : Aside s (if c = 4 then s.seedAdt i else s) := by
    split
    case isTrue h =>
      subst h
      exact s.seedAdt_aside hi
    case isFalse => exact Aside.refl s
  have hgrid : ∀ t : State, Aside t t.regrid.showCoarse := fun t => t.regrid_aside.trans (State.showCoarse_aside _)
  have hring : ∀ t : State, Aside t ((t.setRcd.showRing).chooseDirection false) := fun t =>
    (t.setRcd_aside.trans (State.showRing_aside _)).trans (State.chooseDirection_aside _ false)
  exact ((hseed.thenIf hgrid).thenIf fun t => t.fitPairs_aside i).thenIf hring

theorem State.copyUnsourced_eq : s.copyUnsourced = s.moves ((s.unsourcedPairs (List.range 16)).map Prod.swap) :=
  s.moveUnsourced Prod.swap (fun _ hp _ hk => (hp.ne_source hk).2) range_sixteen

theorem State.mem_unsourcedPairs {ts : List Nat} {p : Nat × Nat} (h : p ∈ s.unsourcedPairs ts) :
    ∃ t ∈ ts, s.trigSourced t = false ∧ p = (Reg.ADC_TRIG_DLY t, Reg.ADC_TRIG_DLY_L t) := by
  obtain ⟨t, ht, rfl⟩ := List.mem_map.1 h
  obtain ⟨hm, hs⟩ := List.mem_filter.1 ht
  exact ⟨t, hm, by simpa using hs, rfl⟩

/-- The live copy of a trigger without a source is no member. -/
theorem State.trigSourced_of_member {c i t : Nat} (hi : i < classSize c) {p : Nat × Nat} (hp : p ∈ s.membersOf c i) (ht : t < 16)
    (h : p.2 = Reg.ADC_TRIG_DLY_L t) : s.trigSourced t = true := by
  have hfst : p.1 = Reg.ADC_TRIG_DLY t := (s.membersOf_member hi hp).shadow_eq (member_trigger t ht) h
  rcases s.membersOf_cases hp with hr | ⟨rfl, k, hk, hs, rfl⟩
  · have h5 := (member_fixed c (class_lt hi) i hi p hr).2.1
    rw [hfst, Reg.ADC_TRIG_DLY] at h5
    omega
  · have hkt : k = t := by
      simp only [Reg.ADC_TRIG_DLY] at hfst
      omega
    exact List.any_eq_true.2 ⟨i, List.mem_range.2 hi, hkt ▸ hs⟩

theorem State.copyHalted_rg {a : Nat} (h : ∀ t < 16, s.trigSourced t = false → a ≠ Reg.ADC_TRIG_DLY_L t) :
    s.copyHalted.rg a = s.rg a := by
  rw [State.copyHalted]
  split
  case isFalse => rfl
  case isTrue =>
    rw [State.copyUnsourced_eq]
    refine s.rg_moves_ne fun p hp e => ?_
    obtain ⟨x, hx, rfl⟩ := List.mem_map.1 hp
    obtain ⟨t, ht, hs, rfl⟩ := s.mem_unsourcedPairs hx
    exact h t (List.mem_range.1 ht) hs e.symm

theorem State.copyHalted_frame : ∃ q, s.copyHalted = { s with regs := q } := by
  rw [State.copyHalted]
  split
  · rw [State.copyUnsourced_eq]
    exact s.moves_eq _
  · exact ⟨s.regs, rfl⟩

/-- No member lies in the configuration block. -/
theorem Member.ne_of_block {p : Nat × Nat} (h : Member p) {a : Nat} (ha : a / 0x10000 = 3) : p.1 ≠ a ∧ p.2 ≠ a := by
  have hno : isShadow a = false ∧ isLiveCopy a = false := by
    simp only [isShadow, isLiveCopy, Bool.or_eq_false_iff, Bool.and_eq_false_iff, decide_eq_false_iff_not,
      beq_eq_false_iff_ne, bne_eq_false_iff_eq]
    omega
  exact ⟨fun e => Bool.noConfusion (hno.1.symm.trans (e ▸ h.1)), fun e => Bool.noConfusion (hno.2.symm.trans (e ▸ h.2.1))⟩

theorem configReg_of_three {a : Nat} (ha : a / 0x10000 = 3) (hp : a ≠ Reg.CFG_PEND) : configReg a = true := by
  simp [configReg, ha, hp]

theorem State.takeGroup_aside (c i : Nat) {a : Nat} (h : configReg a = true) (hts : a ≠ Reg.CFG_COMMIT_TS) :
    (s.takeGroup c i).rg a = (s.moves (s.livePairs c i)).rg a :=
  ((State.rg_wr _ _ _ _).trans (if_neg hts)).trans ((s.copyGroup_aside c i).regs a h)

theorem State.takeGroup_ts (c i : Nat) : (s.takeGroup c i).rg Reg.CFG_COMMIT_TS = s.tim.ts32 := by
  refine ((State.rg_wr _ _ _ _).trans (if_pos rfl)).trans ?_
  exact (s.copyGroup_aside c i).ts32.trans (s.moves_beside _).ts32

theorem State.takeGroup_cfg (c i : Nat) : (s.takeGroup c i).cfg.pend = s.cfg.pend.put (groupKey c i) none none ∧
    (s.takeGroup c i).cfg.checking = s.cfg.checking ∧ (s.takeGroup c i).cfg.atBy = s.cfg.atBy := by
  obtain ⟨q, hq⟩ := s.moves_eq (s.livePairs c i)
  have h := s.copyGroup_aside c i
  rw [hq] at h
  exact ⟨congrArg (·.put (groupKey c i) none none) h.pend, h.checking, h.atBy⟩

/-- What a group that became live leaves in the configuration, before the commit is told to be done. -/
def State.settled (s : State) (c i : Nat) : State := ((s.takeGroup c i).followGroup c i).copyHalted

section Settled

variable {c i : Nat} (hi : i < classSize c)

include hi

theorem State.settled_rg {a : Nat} (h : configReg a = true) (hts : a ≠ Reg.CFG_COMMIT_TS)
    (htrig : ∀ t < 16, s.trigSourced t = false → a ≠ Reg.ADC_TRIG_DLY_L t) :
    (s.settled c i).rg a = (s.moves (s.livePairs c i)).rg a := by
  have hfollow := (s.takeGroup c i).followGroup_aside hi
  have hsame : SameSources s ((s.takeGroup c i).followGroup c i) := fun k hk => by
    have hk' := configReg_source k hk
    rw [hfollow.regs _ hk', State.takeGroup_aside _ _ _ hk' (by simp only [Reg.ADC_TRIG_SRC, Reg.CFG_COMMIT_TS]; omega)]
    refine s.rg_moves_ne fun p hp => ?_
    exact ((s.membersOf_member hi (s.mem_livePairs.1 hp)).ne_source hk).2
  rw [State.settled, State.copyHalted_rg _ fun t ht hs => htrig t ht ((hsame.trigSourced ht).symm.trans hs), hfollow.regs a h,
    State.takeGroup_aside _ _ _ h hts]

/-- The configuration block stands but for CFG_COMMIT_TS, and CFG_PEND that follows. -/
theorem State.settled_rg_block {a : Nat} (h : a / 0x10000 = 3) (hp : a ≠ Reg.CFG_PEND) (hts : a ≠ Reg.CFG_COMMIT_TS) :
    (s.settled c i).rg a = s.rg a := by
  rw [s.settled_rg hi (configReg_of_three h hp) hts fun t _ _ => by rintro rfl; simp only [Reg.ADC_TRIG_DLY_L] at h; omega]
  exact s.rg_moves_ne fun p hp => ((s.membersOf_member hi (s.mem_livePairs.1 hp)).ne_of_block h).2

theorem State.settled_ts : (s.settled c i).rg Reg.CFG_COMMIT_TS = s.tim.ts32 := by
  rw [State.settled, State.copyHalted_rg _ fun t _ _ => by simp only [Reg.ADC_TRIG_DLY_L, Reg.CFG_COMMIT_TS]; omega,
    ((s.takeGroup c i).followGroup_aside hi).regs _ (configReg_of_three (by decide) (by decide)), State.takeGroup_ts]

/-- A member of a group: its shadow stands, and its live copy takes the shadow where the group is the one that became live. -/
theorem State.settled_member {d j : Nat} (hj : j < classSize d) {p : Nat × Nat} (hp : p ∈ s.membersOf d j) :
    (s.settled c i).rg p.1 = s.rg p.1 ∧ (s.settled c i).rg p.2 = if (d, j) = (c, i) then s.rg p.1 else s.rg p.2 := by
  have hm := s.membersOf_member hj hp
  have hmem : ∀ q ∈ s.membersOf c i, Member q := fun q => s.membersOf_member hi
  have hts := hm.ne_of_block (a := Reg.CFG_COMMIT_TS) (by decide)
  rw [s.settled_rg hi hm.configReg.1 hts.1 fun t ht _ e => hm.shadow_ne_live (member_trigger t ht) e,
    s.settled_rg hi hm.configReg.2 hts.2 fun t ht hs e => by
      rw [s.trigSourced_of_member hj hp ht e] at hs
      exact Bool.noConfusion hs]
  refine ⟨s.rg_moves_ne fun q hq => (hm.shadow_ne_live (hmem _ (s.mem_livePairs.1 hq))).symm, ?_⟩
  split
  case isTrue h =>
    cases h
    exact s.rg_moves (sourced_swap_of_member hmem) (p := p.swap) (s.mem_livePairs.2 (by rwa [Prod.swap_swap]))
  case isFalse h =>
    refine s.rg_moves_ne fun q hq e => h ?_
    have hq' := s.mem_livePairs.1 hq
    have hfst : q.swap.1 = p.1 := (hmem _ hq').shadow_eq hm e
    have hgroup := s.groupOf_membersOf hi hq'
    rw [hfst, s.groupOf_membersOf hj hp] at hgroup
    exact Option.some.inj hgroup

theorem State.settled_cfg : (s.settled c i).cfg.pend = s.cfg.pend.put (groupKey c i) none none ∧
    (s.settled c i).cfg.checking = s.cfg.checking ∧ (s.settled c i).cfg.atBy = s.cfg.atBy := by
  have hfollow := (s.takeGroup c i).followGroup_aside hi
  obtain ⟨hpend, hchk, hat⟩ := s.takeGroup_cfg c i
  obtain ⟨q, hq⟩ := ((s.takeGroup c i).followGroup c i).copyHalted_frame
  rw [State.settled, hq]
  exact ⟨hfollow.pend.trans hpend, hfollow.checking.trans hchk, hfollow.atBy.trans hat⟩

end Settled

end Sys2Proof.Machine
end

section
/-! PROOFS. The end of a commit: done, waiting or refused (R56 to R60, R65). -/

namespace Sys2Proof.Machine

open Safety

variable {s : State} {c i : Nat}

/-! ### The commit is done (R60, R65) -/

theorem Waits.atDone (h : Waits s c i none) (n : Nat) : s.atDone n = s.doIf (s.cfg.atBy == some n) State.endAt := by
  rw [State.atDone, h.none_pending fun _ p => p.patch.isNone && p.no == n, Bool.not_false, Bool.and_true]
  rfl

variable (s) in
/-- The registers tell that the last commit is done: CFG_PEND, CFG_COMMIT_AT where it governed it, and CFG_COMMIT_STAT. -/
def State.tellDone (s : State) (c i n : Nat) : State := (s.showPending.doIf (s.cfg.atBy == some n) State.endAt).commitStat 3 0 c i 0

/-- What the end of a commit changes. -/
theorem State.tellDone_frame (s : State) (c i n : Nat) : ∃ q b, s.tellDone c i n = { s with regs := q, cfg.atBy := b } := by
  obtain ⟨q, hq⟩ := s.showPending_eq
  rw [State.tellDone, hq]
  cases s.cfg.atBy == some n
  · obtain ⟨r, hr⟩ := ({ s with regs := q } : State).commitStat_eq 3 0 c i 0
    exact ⟨r, s.cfg.atBy, hr⟩
  · obtain ⟨p, hp⟩ := State.endAt_eq ({ s with regs := q } : State)
    rw [State.doIf, if_pos rfl, hp]
    obtain ⟨r, hr⟩ := ({ s with regs := p, cfg.atBy := none } : State).commitStat_eq 3 0 c i 0
    exact ⟨r, none, hr⟩

theorem State.doIf_endAt_rg (b : Bool) {a : Nat} (h : a ≠ Reg.CFG_COMMIT_AT) : (s.doIf b State.endAt).rg a = s.rg a := by
  cases b
  · rfl
  · exact State.endAt_rg _ h

theorem State.doIf_endAt_bit (b : Bool) : (s.doIf b State.endAt).bit Reg.CFG_COMMIT_AT 0 = (s.bit Reg.CFG_COMMIT_AT 0 && !b) := by
  cases b
  · exact (Bool.and_true _).symm
  · exact (State.endAt_bit _).trans (Bool.and_false _).symm

theorem State.tellDone_rg (n : Nat) {a : Nat} (h : a ∉ [Reg.CFG_COMMIT_STAT, Reg.CFG_COMMIT_AT, Reg.CFG_PEND, Reg.SLT_STAT]) :
    (s.tellDone c i n).rg a = s.rg a := by
  simp only [List.mem_cons, List.not_mem_nil, or_false, not_or] at h
  obtain ⟨hstat, hat, hpend, hslt⟩ := h
  rw [State.tellDone, State.commitStat_rg _ _ _ _ _ _ hstat, State.doIf_endAt_rg _ hat, State.showPending_rg _ hpend hslt]

theorem State.tellDone_bit (n : Nat) :
    (s.tellDone c i n).bit Reg.CFG_COMMIT_AT 0 = (s.bit Reg.CFG_COMMIT_AT 0 && !(s.cfg.atBy == some n)) := by
  rw [State.tellDone, State.bit_of_rg 0 (State.commitStat_rg _ _ _ _ _ _ (by decide)), State.doIf_endAt_bit,
    State.bit_of_rg 0 (s.showPending_rg (by decide) (by decide))]

theorem State.tellDone_stat (hi : i < classSize c) (n : Nat) :
    (s.tellDone c i n).rn Reg.CFG_COMMIT_STAT = c * 256 + i * 65536 + 3 * 268435456 := by
  have hc := class_lt hi
  have hi' := inst_lt hi
  rw [State.tellDone, State.commitStat_rn _ _ _ _ (by decide) (by decide)]
  omega

theorem State.tellDone_pend (hi : i < classSize c) (h : Waits s c i none) (n : Nat) :
    (s.tellDone c i n).rn Reg.CFG_PEND = 0 := by
  rw [State.tellDone, State.rn_of_rg (State.commitStat_rg _ _ _ _ _ _ (by decide)), State.rn_of_rg (State.doIf_endAt_rg _ (by decide)),
    h.showPending_none hi]

theorem State.settled_waits {q : Option Pend} (hi : i < classSize c) (h : Waits s c i q) : Waits (s.settled c i) c i none :=
  waits_put hi h (s.settled_cfg hi).1

/-- The one group that waits for a commit goes live as a whole. -/
theorem Waits.goLive {q : Pend} (hi : i < classSize c) (h : Waits s c i (some q)) (hp : q.patch = none) :
    s.goLive c i = (s.settled c i).tellDone c i q.no := by
  have hlive := State.settled_waits hi h
  have hshown : Waits (s.settled c i).showPending c i none := hlive.congr (by obtain ⟨r, hr⟩ := (s.settled c i).showPending_eq; rw [hr])
  have hat : (s.settled c i).showPending.cfg.atBy = (s.settled c i).cfg.atBy := by
    obtain ⟨r, hr⟩ := (s.settled c i).showPending_eq
    rw [hr]
  have hdone : Waits ((s.settled c i).showPending.doIf ((s.settled c i).cfg.atBy == some q.no) State.endAt) c i none := by
    cases (s.settled c i).cfg.atBy == some q.no
    · exact hshown
    · obtain ⟨r, hr⟩ := (s.settled c i).showPending.endAt_eq
      rw [State.doIf, if_pos rfl, hr]
      exact hshown
  rw [State.goLive_eq s ((h c i hi).trans (if_pos rfl)) hp]
  show (if allGroups.any (fun g => (((s.settled c i).showPending.atDone q.no).cfg.pend.at (groupKey g.1 g.2) none).any
    fun q => q.patch.isNone) then _ else ((s.settled c i).showPending.atDone q.no).commitStat 3 0 c i 0) = _
  rw [hshown.atDone, hat, hdone.none_pending fun _ q => q.patch.isNone]
  rfl

/-- What one group that goes live shows, and that no other group changes. -/
theorem Waits.goLive_spec {q : Pend} (hi : i < classSize c) (h : Waits s c i (some q)) (hp : q.patch = none) {u : State}
    (hu : u = s.goLive c i) :
    u.bit Reg.CFG_COMMIT_AT 0 = (s.bit Reg.CFG_COMMIT_AT 0 && !(s.cfg.atBy == some q.no)) ∧ Waits u c i none ∧
      u.cfg.checking = s.cfg.checking ∧ u.rg Reg.CFG_COMMIT_TS = s.tim.ts32 ∧
      u.rn Reg.CFG_COMMIT_STAT = c * 256 + i * 65536 + 3 * 268435456 ∧ u.rn Reg.CFG_PEND = 0 ∧
      ∀ d j, j < classSize d → ∀ p ∈ s.membersOf d j,
        u.rg p.1 = s.rg p.1 ∧ u.rg p.2 = if (d, j) = (c, i) then s.rg p.1 else s.rg p.2 := by
  rw [h.goLive hi hp] at hu
  subst hu
  have hlive := State.settled_waits hi h
  obtain ⟨-, hchk, hat⟩ := s.settled_cfg hi
  have hcfg : ((s.settled c i).tellDone c i q.no).cfg.pend = (s.settled c i).cfg.pend ∧
      ((s.settled c i).tellDone c i q.no).cfg.checking = (s.settled c i).cfg.checking := by
    obtain ⟨r, b, hr⟩ := (s.settled c i).tellDone_frame c i q.no
    rw [hr]
    exact ⟨rfl, rfl⟩
  refine ⟨?_, hlive.congr hcfg.1, hcfg.2.trans hchk, ?_, State.tellDone_stat hi _, State.tellDone_pend hi hlive _, fun d j hj p hm => ?_⟩
  · rw [State.tellDone_bit, State.bit_of_rg 0 (s.settled_rg_block hi (by decide) (by decide) (by decide)), hat]
  · rw [State.tellDone_rg _ (by decide), s.settled_ts hi]
  · have hmem := s.membersOf_member hj hm
    have hno (a : Nat) (ha : a ∈ [Reg.CFG_COMMIT_STAT, Reg.CFG_COMMIT_AT]) : p.1 ≠ a ∧ p.2 ≠ a :=
      hmem.ne_of_block ((show ∀ a ∈ [Reg.CFG_COMMIT_STAT, Reg.CFG_COMMIT_AT], a / 0x10000 = 3 by decide) a ha)
    obtain ⟨hn1, hn2⟩ := hmem.ne_status
    simp only [List.mem_cons, List.not_mem_nil, or_false, not_or, forall_eq_or_imp, forall_eq] at hn1 hn2 hno
    rw [State.tellDone_rg _ (by simp [hno, hn1]), State.tellDone_rg _ (by simp [hno, hn2])]
    exact s.settled_member hi hj hm

/-! ### A commit whose checks end (R56 to R60) -/

theorem State.commitRefused_cfg (s : State) (governed : Bool) (code c i chk mem : Nat) :
    ∃ b, (s.commitRefused governed code c i chk mem).cfg = { s.cfg with atBy := b } := by
  obtain ⟨r, b, hr⟩ := s.markCommitRefused_frame governed code c i chk
  refine ⟨b, ?_⟩
  show (s.markCommitRefused governed code c i chk).cfg = _
  rw [hr]

/-- A refusal of the oldest commit. -/
theorem refused_popCheck {l : List CommitReq} {governed : Bool} {code chk mem : Nat} {data : List Nat} {u : State}
    (hu : u = (s.popCheck l).commitRefused governed code c i chk mem) (h : CommitRefused (s.popCheck l) u governed code c i chk data) :
    CommitRefused s u governed code c i chk data ∧ u.cfg.checking = l ∧ u.cfg.pend = s.cfg.pend := by
  obtain ⟨b, hb⟩ := (s.popCheck l).commitRefused_cfg governed code c i chk mem
  refine ⟨commitRefused_congr rfl rfl rfl rfl h, ?_, ?_⟩
  · rw [hu, hb]
    rfl
  · rw [hu, hb]
    rfl

/-- The registers that show a commit waiting do not tell when its commit point is. -/
theorem immediate_of_keepsRegs {w : State} (h : KeepsRegs s w [Reg.CFG_COMMIT_STAT, Reg.CFG_PEND, Reg.SLT_STAT]) (c : Nat) :
    w.immediate c = s.immediate c := by
  have hapart : ∀ a ∈ [Reg.GLB_STAT, Reg.PAR_STAT, Reg.VTX_STAT 0], a ∉ [Reg.CFG_COMMIT_STAT, Reg.CFG_PEND, Reg.SLT_STAT] := by decide
  exact State.immediate_of_rg (fun a ha => h a (hapart a ha)) c

/-- Nor do they belong to a group, or source a trigger. -/
theorem members_of_keepsRegs {w : State} (h : KeepsRegs s w [Reg.CFG_COMMIT_STAT, Reg.CFG_PEND, Reg.SLT_STAT]) {d j : Nat}
    (hj : j < classSize d) : w.membersOf d j = s.membersOf d j ∧
      ∀ p ∈ s.membersOf d j, w.rg p.1 = s.rg p.1 ∧ w.rg p.2 = s.rg p.2 := by
  refine ⟨SameSources.membersOf (fun k _ => h _ ?_) d j, fun p hp => ?_⟩
  · simp only [Reg.ADC_TRIG_SRC, Reg.CFG_COMMIT_STAT, Reg.CFG_PEND, Reg.SLT_STAT, List.mem_cons, List.not_mem_nil, or_false]
    omega
  · have hm := s.membersOf_member hj hp
    obtain ⟨hn1, hn2⟩ := hm.ne_status
    have hc := hm.ne_of_block (a := Reg.CFG_COMMIT_STAT) (by decide)
    simp only [List.mem_cons, List.not_mem_nil, or_false, not_or] at hn1 hn2
    exact ⟨h _ (by simp [hn1, hc]), h _ (by simp [hn2, hc])⟩

section Oldest

variable {r : CommitReq} {l : List CommitReq} (hi : r.inst < classSize r.cls) (hpend : s.cfg.pend = [])

include hi hpend

/-- The group of a commit that passed waits where its commit point is not any instant or has not come. -/
theorem commitNow_nowPending_waits (hnot : s.immediate r.cls = false ∨ r.earliest.any fun t => (s.tim.ts32 - t).toInt < 0) :
    (s.nowPending l r).showPending.commitNow = (s.nowPending l r).showPending := by
  obtain ⟨hw, -, -, htim, -, -, -, hkeep, -⟩ := s.nowPending_spec l hi hpend rfl
  refine hw.commitNow_stands (hnot.imp (immediate_of_keepsRegs hkeep r.cls).trans fun hlate => ?_)
  rw [hw.dueNow hi, htim]
  cases he : r.earliest with
  | none =>
    rw [he] at hlate
    exact absurd hlate Bool.false_ne_true
  | some t =>
    rw [he, Option.any_some, decide_eq_true_eq] at hlate
    simpa using hlate

/-- It goes live where its commit point is any instant and has come. -/
theorem commitNow_nowPending_live (him : s.immediate r.cls = true)
    (hearly : r.earliest.all fun t => 0 ≤ (s.tim.ts32 - t).toInt) :
    (s.nowPending l r).showPending.commitNow = (s.nowPending l r).showPending.goLive r.cls r.inst := by
  obtain ⟨hw, -, -, htim, -, -, -, hkeep, -⟩ := s.nowPending_spec l hi hpend rfl
  have hdue : (s.nowPending l r).showPending.dueNow r.cls r.inst = true := by
    rw [hw.dueNow hi, htim]
    simpa using hearly
  exact hw.commitNow_due hi ((immediate_of_keepsRegs hkeep r.cls).trans him) hdue (hw.goLive_spec hi rfl rfl).2.1

/-- What a commit whose group goes live as its checks end leaves. -/
theorem goLive_nowPending {u : State} (hu : u = (s.nowPending l r).showPending.goLive r.cls r.inst) :
    u.bit Reg.CFG_COMMIT_AT 0 = (s.bit Reg.CFG_COMMIT_AT 0 && !(s.cfg.atBy == some r.no)) ∧ u.isPending r.cls r.inst = false ∧
      u.cfg.checking = l ∧ u.rg Reg.CFG_COMMIT_TS = s.tim.ts32 ∧
      u.rn Reg.CFG_COMMIT_STAT = r.cls * 256 + r.inst * 65536 + 3 * 268435456 ∧ u.rn Reg.CFG_PEND = 0 ∧
      (∀ p ∈ s.membersOf r.cls r.inst, u.rg p.2 = s.rg p.1 ∧ u.rg p.1 = s.rg p.1) ∧
      ∀ d j, (d, j) ≠ (r.cls, r.inst) → j < classSize d → ∀ p ∈ s.membersOf d j, u.rg p.2 = s.rg p.2 ∧ u.rg p.1 = s.rg p.1 := by
  obtain ⟨hw, hchk, hat, htim, -, -, -, hkeep, -⟩ := s.nowPending_spec l hi hpend rfl
  obtain ⟨hbit, hnone, hchk', hts, hstat, hbits, hmembers⟩ := hw.goLive_spec hi rfl hu
  refine ⟨?_, ?_, hchk'.trans hchk, hts.trans (by rw [htim]), hstat, hbits, fun p hp => ?_, fun d j hne hj p hp => ?_⟩
  · rw [hbit, hat, State.bit_of_rg 0 (hkeep _ (by decide))]
  · rw [hnone.isPending hi, Option.isSome_none, Bool.and_false]
  · obtain ⟨hsame, hstand⟩ := members_of_keepsRegs hkeep hi
    obtain ⟨h1, h2⟩ := hmembers _ _ hi p (by rwa [hsame])
    rw [h2, if_pos rfl, h1, (hstand p hp).1]
    exact ⟨rfl, rfl⟩
  · obtain ⟨hsame, hstand⟩ := members_of_keepsRegs hkeep hj
    obtain ⟨h1, h2⟩ := hmembers d j hj p (by rwa [hsame])
    rw [h2, if_neg hne, h1]
    exact (hstand p hp).symm

end Oldest

/-- Settles O53: a commit is refused with its code when it is written or when its checks end, and otherwise its group waits or
becomes live as a whole, alone. -/
theorem commits : Obligations.Commits := by
  refine ⟨fun s src cls inst hr => ?_, ?_⟩
  · obtain ⟨hno, hin⟩ := does_commit_refused (src := src) (cls := cls) (inst := inst) hr
    refine ⟨hno, fun h => ?_⟩
    obtain ⟨hgroup, hpend, hany⟩ := hin h
    exact ⟨hgroup, fun hi => ⟨hpend hi, does_commitGroup_checks hr h hi⟩, hany, does_commitAll_checks hr h⟩
  rintro s c i r l governed hrun hi hall rfl rfl rfl
  have hnotPending (hpend : s.cfg.pend = []) : s.isPending r.cls r.inst = false := by
    rw [(waits_of_nil hpend r.cls r.inst).isPending hi, Option.isSome_none, Bool.and_false]
  refine ⟨fun hnil => ?_, fun hchk => ⟨fun hp => Does_main s commitChecked rfl hrun ?_,
    fun hp n m hf => Does_main s commitChecked rfl hrun ?_, fun hf hpend =>
      ⟨fun hnot => Does_main s commitChecked rfl hrun ?_, fun him hearly => Does_main s commitChecked rfl hrun ?_⟩⟩⟩
  · show s.main commitChecked = .next s.flush
    rw [State.main_on _ _ hrun, commitChecked_none hnil]
  · rw [commitChecked_pending hchk hall hp]
    exact refused_popCheck rfl (State.commitRefused_pending _ _ _ _ _ _)
  · rw [commitChecked_failed hchk hall hp hf]
    exact refused_popCheck rfl (State.commitRefused_failed _ _ _ _ _ _)
  · rw [commitChecked_passed hchk hall (hnotPending hpend) hf, commitNow_nowPending_waits hi hpend hnot]
    obtain ⟨hw, hcheck, -, -, hstat, hbits, hev, hkeep, hmem⟩ := s.nowPending_spec l hi hpend rfl
    exact ⟨by rw [hw.isPending hi]; simp, hcheck, hstat, hbits, hev, hkeep, hmem⟩
  · rw [commitChecked_passed hchk hall (hnotPending hpend) hf, commitNow_nowPending_live hi hpend him hearly]
    exact goLive_nowPending hi hpend rfl

end Sys2Proof.Machine
end

section
/-! PROOFS. What an image load starts anew (R49, R123, R189, R292, R443, R495, R562) leaves the members of the groups, the
configuration block and GLB_STAT. -/

namespace Sys2Proof.Machine

variable (s : State)

/-! ### Small changes one after the other -/

namespace Aside

variable {s t : State}

theorem wr (h : Aside s t) {a : Nat} (ha : configReg a = false) (v : Word) : Aside s (t.wr a v) := h.trans (t.wr_aside v ha)

theorem raise (h : Aside s t) (c n : Nat) (d : List Nat) : Aside s (t.raise c n d) := h.trans (t.raise_aside c n d)

theorem doIf (h : Aside s t) (b : Bool) {f : State → State} (hf : ∀ t, Aside t (f t)) : Aside s (t.doIf b f) := h.thenIf hf

theorem thenEach (h : Aside s t) {n : Nat} {f : State → Nat → State} (hf : ∀ t, ∀ i < n, Aside t (f t i)) : Aside s (t.each n f) :=
  h.trans (Aside.each hf t)

end Aside

/-- No array behind the metering block holds such a register. -/
theorem configReg_array {b : Nat} (hb : 0x110000 ≤ b) (n : Nat) : configReg (b + n) = false := configReg_of_block (by omega)

/-! ### Hardware wear and supply (R531 to R538) -/

theorem State.avsEnable_aside : Aside s s.avsEnable := by
  have hread (b : Bool) : Aside s (if b then s.pmbus 0x20 none else s) := .ite (s.emit_aside _) (.refl s)
  exact (hread _).wr (configReg_of_block (by decide)) _

theorem State.wearLoad_aside (w : Option WearSec) : Aside s (s.wearLoad w) := by
  have htake : Aside s { s with cfg.wear := w, thw.fit := [], thw.hist := [], thw.rate := [], thw.told := [], thw.eye0 := (w.getD {}).eye0 } :=
    ⟨⟨⟨_, _, _, _, rfl⟩, rfl, rfl⟩, fun _ _ => rfl⟩
  refine ((((htake.wr ?_ _).thenEach fun t g hg => ?_).thenEach fun t j hj => ?_)).trans (State.avsEnable_aside _)
  · exact configReg_of_block (by decide)
  · refine ((((Aside.refl t).wr ?_ _).wr ?_ _).wr ?_ _).wr ?_ _ <;> exact configReg_array (by decide) _
  · refine (((((Aside.refl t).wr ?_ _).wr ?_ _).wr ?_ _).wr ?_ _).wr ?_ _ <;> exact configReg_array (by decide) _

/-! ### Engines (R189) -/

theorem State.setData_aside (k off : Nat) (l : List Word) : Aside s (s.setData k off l) := by
  induction l generalizing s off with
  | nil => exact Aside.refl s
  | cons w l ih => exact (s.setMem32_aside _ w).trans (ih _ _)

theorem State.blockInit_aside (k j i : Nat) (b : Block) : Aside s (s.blockInit k j i b) := by
  have hmarks (t : State) (m : List (Nat × Nat × Nat)) : Aside t { t with vtx.marks := m } := .of_eq rfl rfl rfl rfl
  refine Aside.ite ?_ (Aside.ite (Aside.refl s) ?_)
  · exact ((s.setData_aside _ _ _).trans (State.setData_aside _ _ _ _)).trans (hmarks _ _)
  · exact (s.setData_aside _ _ _).trans (State.setData_aside _ _ _ _)

theorem State.graphReset_aside (k : Nat) : Aside s (s.graphReset k) := by
  refine Aside.each (fun t j _ => ?_) s
  split
  · refine Aside.foldl (fun u i _ => ?_) t
    split
    · exact u.blockInit_aside _ _ _ _
    · exact Aside.refl u
  · exact Aside.refl t

theorem State.engineRest_aside {k : Nat} (hk : k < 8) : Aside s (s.engineRest k) := by
  have hreg : ∀ k < 8, configReg (Reg.VTX_STAT k) = false := by decide
  exact Aside.ite (Aside.refl s) (s.wr_aside _ (hreg k hk))

theorem State.graphInit_aside (ids : List Nat) (c : ImageContent) : Aside s (s.graphInit ids c) := by
  have htake : Aside s { s with
      vtx.run := [], cfg.graphs := graphsOver c ids [], cfg.parNext := [], vtx.marks := [], vtx.resume := []
      inp.accepted := [], prot.fsreq := 0 } := ⟨⟨⟨_, _, _, _, rfl⟩, rfl, rfl⟩, fun _ _ => rfl⟩
  refine ((htake.trans (Aside.foldl (fun t p _ => t.setData_aside _ _ _) _)).thenEach fun t k _ => t.graphReset_aside k).thenEach
    fun t k hk => t.engineRest_aside hk

/-! ### Edge generator, metering and measurement (R123, R292, R443) -/

theorem State.showPend_aside : Aside s s.showPend := s.wr_aside _ (by decide)

theorem State.pwmInit_aside : Aside s s.pwmInit := by
  have hclosed : Aside s { s with pwm.closed := [] } := .of_eq rfl rfl rfl rfl
  exact (hclosed.thenEach fun t q hq => (t.setPair_aside q _).trans (State.seedAdt_aside _ hq)).trans (State.showPend_aside _)

theorem State.showMtr_aside : Aside s s.showMtr := Aside.each (fun t _ _ => t.wr_aside _ (by decide)) s

/-- A filtered table reads as before where its entry was kept. -/
theorem Tab.get_filter {α : Type} (d : Nat → α) (keep : Nat → Bool) {k : Nat} (h : keep k = true) (t : Tab α) :
    Tab.get d (t.filter fun p => keep p.1) k = Tab.get d t k := by
  induction t with
  | nil => rfl
  | cons p t ih =>
    by_cases hp : keep p.1 = true
    · rw [List.filter_cons_of_pos (p := fun p : Nat × α => keep p.1) hp, Tab.get, Tab.get, ih]
    · have hne : k ≠ p.1 := fun e => hp (e ▸ h)
      rw [List.filter_cons_of_neg (p := fun p : Nat × α => keep p.1) hp, ih, Tab.get, if_neg hne]

/-- A counter or a result of the metering block (R443). -/
def meterResult (a : Nat) : Bool :=
  match rowOf a with
  | some r => r.acc == .ro || r.acc == .rc
  | none => false

theorem meterResult_shadow : ∀ k < 4, ∀ o < 0x30, o % 16 ≠ 12 → meterResult (0x101010 + 0x400 * k + o) = false := by decide +kernel

/-- No register of the configuration is one. -/
theorem meterResult_of_configReg {a : Nat} (h : configReg a = true) (hr : 0x101000 ≤ a ∧ a < 0x104000) (hl : isLiveCopy a = false) :
    meterResult a = false := by
  have hs : 0x101010 ≤ a ∧ a < 0x102000 ∧ 0x10 ≤ a % 0x10000 % 0x400 ∧ a % 0x10000 % 0x400 < 0x40 ∧ a % 0x10000 % 16 ≠ 12 := by
    have hshadow : isShadow a = true := by
      simp only [configReg, hl, Bool.or_eq_true, Bool.and_eq_true, decide_eq_true_eq, beq_iff_eq, Bool.false_eq_true, or_false,
        Reg.GLB_STAT] at h
      exact h.elim (fun h => h.elim (fun h => h.elim id (by omega)) (by omega)) (by omega)
    simp only [isShadow, Bool.or_eq_true, Bool.and_eq_true, decide_eq_true_eq, beq_iff_eq, bne_iff_ne, ne_eq] at hshadow
    clear h hl
    omega
  obtain ⟨k, o, hk, ho, ho', rfl⟩ : ∃ k o, k < 4 ∧ o < 0x30 ∧ o % 16 ≠ 12 ∧ a = 0x101010 + 0x400 * k + o :=
    ⟨(a - 0x101010) / 0x400, (a - 0x101010) % 0x400, by omega⟩
  exact meterResult_shadow k hk o ho ho'

/-- The registers that stand where metering starts anew. -/
def meterKeeps (a : Nat) : Bool := !(decide (0x101000 ≤ a ∧ a < 0x104000) && !isLiveCopy a && meterResult a)

theorem meterKeeps_of_configReg {a : Nat} (h : configReg a = true) : meterKeeps a = true := by
  by_cases hr : 0x101000 ≤ a ∧ a < 0x104000
  · cases hl : isLiveCopy a
    · simp [meterKeeps, meterResult_of_configReg h hr hl]
    · simp [meterKeeps, hl]
  · simp only [meterKeeps, decide_eq_false hr, Bool.false_and, Bool.not_false]

theorem State.meterInit_aside : Aside s s.meterInit := by
  have htake : Aside s { s with regs := s.regs.filter fun p => meterKeeps p.1
                                mtr := { slot := s.mtr.slot, save := s.mtr.save, loading := s.mtr.loading } } :=
    ⟨⟨⟨_, _, _, _, rfl⟩, rfl, rfl⟩, fun a ha => Tab.get_filter _ meterKeeps (meterKeeps_of_configReg ha) s.regs⟩
  refine ((((htake.wr ?_ _).wr ?_ _).wr ?_ _).trans (State.showMtr_aside _)).thenEach fun t n _ => .ite (t.emit_aside _) (.refl t)
  all_goals decide

theorem State.showSdm_aside : Aside s s.showSdm := s.wr_aside _ (by decide)

theorem State.channelInit_aside {c : Nat} (hc : c < 72) : Aside s (s.channelInit c) := by
  have hreg : ∀ c < 72, configReg (Reg.SDM_RES c) = false := by decide
  have htake : Aside s { s with meas := { s.meas with fault := s.meas.fault.put c none none, recov := s.meas.recov.put c false false
                                                      cvSeen := s.meas.cvSeen.put c 0 0, cmpWait := s.meas.cmpWait.put c false true } } :=
    .of_eq rfl rfl rfl rfl
  exact htake.wr (hreg c hc) _

theorem State.measInit_aside : Aside s s.measInit :=
  (Aside.each (fun t _ hc => t.channelInit_aside hc) s).trans (State.showSdm_aside _)

end Sys2Proof.Machine
end

section
/-! PROOFS. What follows an image that has become live (R123, R252, R402, R480 to R501, R562): lanes, ports, membership, Flint and
the converters leave the members of the groups, the configuration block and GLB_STAT. -/

namespace Sys2Proof.Machine

variable (s : State)

/-! ### Ring, lanes and ports (R252, R480 to R501) -/

theorem State.setAwake_aside (n : Nat) (tx b : Bool) : Aside s (s.setAwake n tx b) := by
  have hlane : Aside s (s.wbit (Reg.LAN_LSTAT n) (if tx then 4 else 5) b) := s.wr_aside _ (configReg_array (by decide) _)
  have hall (t : State) (i : Nat) : Aside t (t.wbit Reg.LAN_STAT i b) := t.wr_aside _ (configReg_of_block (by decide))
  rw [State.setAwake]
  exact (hlane.trans (hall _ _)).doIf _ fun t => t.send_aside _ _

theorem State.showPartner_aside : Aside s s.showPartner :=
  ((Aside.refl s).wr (configReg_of_block (by decide)) _).wr (by decide) _

theorem State.showLaneFail_aside : Aside s s.showLaneFail := s.wr_aside _ (configReg_of_block (by decide))

theorem State.showElig_aside : Aside s s.showElig :=
  .ite (.refl s) (.ite (s.wr_aside _ (by decide)) ((((Aside.refl s).wr (by decide) _).wr (by decide) _).raise _ _ _))

theorem State.laneBit_aside (n : Nat) (lost : Bool) : Aside s (s.laneBit n lost) := by
  have htake : Aside s { s with par.laneLost := withBit s.par.laneLost n (lost && s.awake n false) } := .of_eq rfl rfl rfl rfl
  exact (htake.trans (State.showLaneFail_aside _)).trans (State.showElig_aside _)

theorem State.toRing_aside (n : Nat) (m : Msg) : Aside s (s.toRing n m) := Aside.foldl (fun t _ _ => t.send_aside _ _) s

theorem State.setLink_aside (node lane : Nat) (up : Bool) : Aside s (s.setLink node lane up) := by
  have htake (l : List (Nat × Nat)) : Aside s ({ s with ring.down := l } : State).showRing :=
    Aside.trans (t := { s with ring.down := l }) (.of_eq rfl rfl rfl rfl) (State.showRing_aside _)
  exact .ite (.refl s) (.ite (htake _) ((((htake _).wr (by decide) _).raise _ _ _).trans (State.chooseDirection_aside _ true)))

theorem State.ringLane_aside (n : Nat) (up : Bool) : Aside s (s.ringLane n up) :=
  (((Aside.refl s).wr (by decide) _).trans (State.setLink_aside _ _ _ _)).trans (State.toRing_aside _ _ _)

theorem State.sendLaneState_aside : Aside s s.sendLaneState := s.send_aside _ _

theorem State.laneUses_aside : Aside s s.laneUses := by
  refine Aside.trans (Aside.each (fun t n _ => ?_) s) (State.showPartner_aside _)
  exact (Aside.ite (t.setAwake_aside _ _ _) (.refl t)).thenIf fun u => u.setAwake_aside _ _ _

theorem State.singleLane_aside : Aside s s.singleLane := by
  have hpeer (t : State) : Aside t { t with lan.peerL2 := false } := .of_eq rfl rfl rfl rfl
  have hmark := (s.wr_aside _ (configReg_of_block (by decide))).trans (hpeer (s.wbit Reg.LAN_STAT 26 true))
  exact .ite (.refl s) ((((hmark.trans (State.setAwake_aside _ _ _ _)).trans (State.setAwake_aside _ _ _ _)).trans
    (State.laneUses_aside _)).trans (State.sendLaneState_aside _))

theorem State.qlockLost_aside (n : Nat) (signal : Bool) : Aside s (s.qlockLost n signal) := by
  have hhead : Aside s ((((s.wbit (Reg.LAN_LSTAT n) 1 false).wbit Reg.LAN_STAT n false).wbit Reg.LAN_FLAGS n true).raise 0x0d01 n
      [n, signal.toNat]) :=
    ((((Aside.refl s).wr (configReg_array (by decide) _) _).wr (configReg_of_block (by decide)) _).wr
      (configReg_of_block (by decide)) _).raise _ _ _
  have hpartner (t : State) : Aside t (((t.laneBit n true).showPartner.wbit Reg.PAR_FLAGS 3 true).raise 0x0a05 n [n]) :=
    (((t.laneBit_aside n true).trans (State.showPartner_aside _)).wr (configReg_of_block (by decide)) _).raise _ _ _
  refine hhead.trans (.ite ((State.ringLane_aside _ _ _).trans (State.laneBit_aside _ _ _)) (.ite ?_ (.refl _)))
  exact (hpartner _).trans (.ite (.refl _) (.ite (State.sendLaneState_aside _) (State.singleLane_aside _)))

theorem State.choosePort_aside : Aside s s.choosePort := by
  have htake : Aside s { s with tim.port := s.bestPort } := ⟨⟨⟨_, _, _, _, rfl⟩, rfl, rfl⟩, fun _ _ => rfl⟩
  exact .ite (.refl s) (htake.raise _ _ _)

theorem State.silencePort_aside (p : Nat) : Aside s (s.silencePort p) :=
  Aside.trans (t := { s with tim.announce := s.tim.announce.put p none none }) ⟨⟨⟨_, _, _, _, rfl⟩, rfl, rfl⟩, fun _ _ => rfl⟩
    (State.choosePort_aside _)

theorem State.showEth_aside (p : Nat) : Aside s (s.showEth p) := by
  have hshow : Aside s ((s.wbit (Reg.LAN_ETH_STAT p) 0 (s.ethUp p)).wbit Reg.LAN_STAT (24 + p) (s.ethUp p)) :=
    ((Aside.refl s).wr (configReg_array (by decide) _) _).wr (configReg_of_block (by decide)) _
  have hdown (t : State) : Aside t { t with lan.ptp := t.lan.ptp.put p [] [] } := .of_eq rfl rfl rfl rfl
  refine .ite ?_ (.ite (hshow.raise _ _ _) hshow)
  exact (((hshow.trans (hdown _)).wr (configReg_of_block (by decide)) _).raise _ _ _).trans (State.silencePort_aside _ p)

theorem State.dropLock_aside (n : Nat) (signal : Bool) (invalid : Nat) : Aside s (s.dropLock n signal invalid) := by
  have hcount : Aside s (((s.wbit (Reg.LAN_LSTAT n) 0 false).count (Reg.LAN_LOCKLOSS n)).satAdd (Reg.LAN_SHERR n) 0 32 invalid) :=
    (((Aside.refl s).wr (configReg_array (by decide) _) _).wr (configReg_array (by decide) _) _).wr (configReg_array (by decide) _) _
  exact .ite (.refl s) ((hcount.thenIf fun t => t.qlockLost_aside _ _).thenIf fun t => t.showEth_aside _)

theorem State.sleepRx_aside (n : Nat) : Aside s (s.sleepRx n) :=
  ((s.setAwake_aside _ _ _).trans (State.dropLock_aside _ _ _ _)).trans (State.showPartner_aside _)

theorem State.applyUses_aside : Aside s s.applyUses := by
  have hsend (t : State) (n : Nat) : Aside t (match t.laneUse n true with
      | 0 => t.setAwake n true true | 1 => t.setAwake n true false | _ => t) := by
    split
    · exact t.setAwake_aside _ _ _
    · exact t.setAwake_aside _ _ _
    · exact .refl t
  have hreceive (t : State) (n : Nat) : Aside t (match t.laneUse n false with
      | 0 => t.setAwake n false true | 1 => if t.awake n false then t.sleepRx n else t | _ => t) := by
    split
    · exact t.setAwake_aside _ _ _
    · exact .ite (t.sleepRx_aside n) (.refl t)
    · exact .refl t
  refine (((Aside.each (fun t n _ => ?_) s).trans (State.laneUses_aside _)).trans (State.showEth_aside _ 0)).trans
    (State.showEth_aside _ 1)
  exact (hsend t n).trans (hreceive _ n)

theorem State.setMemb_aside (m : Nat) : Aside s (s.setMemb m) :=
  ((((Aside.refl s).wr (by decide) _).wr (by decide) _).wr (by decide) _).wr (by decide) _

theorem State.showPending_aside : Aside s s.showPending := ((Aside.refl s).wr (by decide) _).wr (by decide) _

theorem State.showImage_aside : Aside s s.showImage :=
  (((((((((s.regrid_aside.trans (State.showCoarse_aside _)).trans (State.showPending_aside _)).trans (State.showPend_aside _)).trans
    (State.avsEnable_aside _)).trans (State.applyUses_aside _)).trans (State.showSdm_aside _)).trans (State.setRcd_aside _)).trans
    (State.showRing_aside _)).trans (State.chooseDirection_aside _ false)).trans (State.showMtr_aside _)

/-! ### Redundancy, Flint and converters (R407, R376, R562) -/

theorem State.stopPairs_aside : Aside s s.stopPairs := (s.stopPairs_drivesOnly []).aside (by simp)

theorem State.dropBuffers_aside : Aside s s.dropBuffers := by
  have htake : Aside s { s with par.geode := [] } := .of_eq rfl rfl rfl rfl
  exact (htake.wr (by decide) _).wr (by decide) _

theorem State.setFunc_aside (f st cause : Nat) : Aside s (s.setFunc f st cause) :=
  .ite (s.wr_aside _ (by decide)) (((Aside.refl s).wr (by decide) _).wr (by decide) _)

theorem State.setSout_aside (n : Nat) (low on : Bool) : Aside s (s.setSout n low on) :=
  .ite (.refl s) ((s.wr_aside _ (by decide)).trans (.of_eq rfl rfl rfl rfl))

theorem State.driveOuts_aside : Aside s s.driveOuts := by
  refine Aside.each (fun t n _ => ?_) s
  have hpulse (b : Bool) : Aside t (if b then t else { t with flint.pulse := t.flint.pulse.put n none none }) :=
    .ite (.refl t) (.of_eq rfl rfl rfl rfl)
  exact ((hpulse _).trans (State.setSout_aside _ _ _ _)).trans (State.setSout_aside _ _ _ _)

theorem State.flintLog_aside (code : Nat) : Aside s (s.flintLog code) := by
  have hi : s.rf Reg.FLT_STAT 4 4 < 16 := Nat.mod_lt _ (by decide)
  have hlog : ∀ i < 16, configReg (Reg.FLT_LOG i) = false := by decide
  exact ((Aside.refl s).wr (hlog _ hi) _).wr (by decide) _

theorem State.flintRaise_aside (code n : Nat) (data : List Nat) : Aside s (s.flintRaise code n data) :=
  (s.flintLog_aside code).thenIf fun t => t.raise_aside _ _ _

theorem State.acceptSafe_aside (d : Safe) : Aside s (s.acceptSafe d) := by
  have htake : Aside s { s with flint.safe := some d, flint.sgiOn := bitOf d.enable 0
                                flint.perm := without s.flint.perm (without 7 d.frame) } := .of_eq rfl rfl rfl rfl
  have hfuncs (t : State) : Aside t ([0, 1, 2].foldl (fun (s : State) f => s.setFunc f 0 10) t) :=
    Aside.foldl (fun t f _ => t.setFunc_aside f 0 10) t
  have hid (t : State) (v : Nat) : Aside t (((t.wr Reg.FLT_SAFE_CRC d.crc).wf Reg.FLT_SAFE_VER 0 16 v).wf Reg.FLT_NET 2 3 t.flint.perm) :=
    (((Aside.refl t).wr (by decide) _).wr (by decide) _).wr (by decide) _
  have hrun (t : State) : Aside t (if t.rf Reg.FLT_STAT 0 2 = 1 then t.flintState 2 else t) := .ite (t.wr_aside _ (by decide)) (.refl t)
  have hshow (t : State) : Aside t t.showEval := t.wr_aside _ (by decide)
  exact (((((htake.trans (hfuncs _)).trans (hid _ _)).trans (hrun _)).trans (State.driveOuts_aside _)).trans
    (State.flintRaise_aside _ _ _ _)).trans (hshow _)

theorem configReg_conv : ∀ k < 8, configReg (Reg.ADC_KSTAT k) = false := by decide

theorem State.setAdc_aside (k : Nat) (a : Adc) : Aside s (s.setAdc k a) := by
  have htake : Aside s { s with meas.conv := s.meas.conv.put k {} a } := .of_eq rfl rfl rfl rfl
  exact htake.wr (by decide) _

theorem State.dropRegular_aside {k : Nat} (hk : k < 8) : Aside s (s.dropRegular k) := by
  have hlost : Aside s (match (s.adc k).reg with | some j => s.raise 0x0414 k [k, j.slot] | none => s) := by
    split
    · exact s.raise_aside _ _ _
    · exact .refl s
  exact (hlost.trans (State.setAdc_aside _ _ _)).wr (configReg_conv k hk) _

theorem State.setStream_aside {e : Nat} (he : e + 1 < 8) (x : Option Stream) : Aside s (s.setStream e x) :=
  (((s.setAdc_aside _ _).wr (by decide) _).wr (configReg_conv e (by omega)) _).wr (configReg_conv _ he) _

theorem State.lockstep_lt {k : Nat} (hk : k < 8) : ∀ j ∈ s.lockstep k, j < 8 := by
  intro j hj
  rw [State.lockstep] at hj
  split at hj
  · exact List.mem_range.1 (List.mem_filter.1 hj).1
  · rwa [List.mem_singleton.1 hj]

theorem State.requestCal_aside {k : Nat} (hk : k < 8) : Aside s (s.requestCal k) := by
  have hdrop := Aside.foldl (f := State.dropRegular) (l := s.lockstep k) (fun t j hj => t.dropRegular_aside (s.lockstep_lt hk j hj)) s
  exact .ite (.refl s) ((hdrop.thenIf fun t => t.setStream_aside (by omega) none).wr (by decide) _)

theorem State.firstImage_aside : Aside s s.firstImage := by
  have htake : Aside s { s with sys.imageLive := true } := ⟨⟨⟨_, _, _, _, rfl⟩, rfl, rfl⟩, fun _ _ => rfl⟩
  exact .ite (.refl s) (htake.thenEach fun t k hk => t.requestCal_aside hk)

theorem State.settle_aside : Aside s s.settle := s.settle_drivesOnly.aside (by decide)

end Sys2Proof.Machine
end

section
/-! PROOFS. A full image goes live (R49, R60, R562, R624): every group's live copies take its shadows, and CFG_STAT, the
identification and GLB_STAT tell it. -/

namespace Sys2Proof.Machine

open Safety

variable (s : State)

/-! ### Every group in its live copies -/

theorem Aside.moves {s t : State} (h : Aside s t) {l : List (Nat × Nat)} (hl : ∀ p ∈ l, configReg p.2 = true) :
    Aside (s.moves l) (t.moves l) := by
  induction l generalizing s t with
  | nil => exact h
  | cons p l ih =>
    refine ih ⟨⟨h.cfg, h.armed, h.ts32⟩, fun a ha => ?_⟩ fun q hq => hl q (List.mem_cons_of_mem _ hq)
    rw [State.rg_wr, State.rg_wr, h.regs a ha, h.regs _ (hl p List.mem_cons_self)]

theorem configReg_of_swap {l : List (Nat × Nat)} (h : ∀ p ∈ l, Member p) : ∀ p ∈ l.map Prod.swap, configReg p.2 = true := by
  intro x hx
  obtain ⟨p, hp, rfl⟩ := List.mem_map.1 hx
  exact (h p hp).configReg.1

/-- Moves to live copies leave the sources of the triggers. -/
theorem State.moves_swap_sameSources {l : List (Nat × Nat)} (h : ∀ p ∈ l, Member p) : SameSources s (s.moves (l.map Prod.swap)) :=
  s.moves_sameSources fun x hx k hk => by
    obtain ⟨p, hp, rfl⟩ := List.mem_map.1 hx
    exact ((h p hp).ne_source hk).2

theorem State.copyGroups_aside {gs : List (Nat × Nat)} (hgs : ∀ g ∈ gs, g.2 < classSize g.1) :
    Aside (s.moves ((s.groupPairs gs).map Prod.swap)) (gs.foldl (fun s g => s.copyGroup g.1 g.2) s) := by
  induction gs generalizing s with
  | nil => exact Aside.refl s
  | cons g gs ih =>
    have hgs' : ∀ h ∈ gs, h.2 < classSize h.1 := fun h hh => hgs h (List.mem_cons_of_mem _ hh)
    have hcopy := s.copyGroup_aside g.1 g.2
    have hsame : SameSources s (s.copyGroup g.1 g.2) := fun k hk => (hcopy.sameSources k hk).trans
      (s.moves_swap_sameSources (fun _ => s.membersOf_member (hgs g List.mem_cons_self)) k hk)
    have hpairs : (s.copyGroup g.1 g.2).groupPairs gs = s.groupPairs gs := by simp only [State.groupPairs, hsame.membersOf]
    have hrest := ih (s.copyGroup g.1 g.2) hgs'
    rw [hpairs] at hrest
    have hall : s.moves ((s.groupPairs (g :: gs)).map Prod.swap) =
        (s.moves (s.livePairs g.1 g.2)).moves ((s.groupPairs gs).map Prod.swap) := by
      rw [← State.moves_append, State.livePairs, ← List.map_append]
      rfl
    rw [hall]
    exact (hcopy.moves (configReg_of_swap (s.groupPairs_member hgs'))).trans hrest

/-- Every live copy takes its shadow. -/
def State.allLive (s : State) : State := s.moves (s.shadowPairs.map Prod.swap)

theorem State.copyAll_aside : Aside s.allLive (allGroups.foldl (fun s g => s.copyGroup g.1 g.2) s).copyUnsourced := by
  have hcopy := s.copyGroups_aside allGroups_lt
  have hsame : SameSources s (allGroups.foldl (fun s g => s.copyGroup g.1 g.2) s) := fun k hk => (hcopy.sameSources k hk).trans
    (s.moves_swap_sameSources (s.groupPairs_member allGroups_lt) k hk)
  have hpairs : (allGroups.foldl (fun s g => s.copyGroup g.1 g.2) s).unsourcedPairs (List.range 16) =
      s.unsourcedPairs (List.range 16) := by
    rw [State.unsourcedPairs, State.unsourcedPairs, List.filter_congr fun t ht => by rw [hsame.trigSourced (List.mem_range.1 ht)]]
  rw [State.copyUnsourced_eq, hpairs, State.allLive, State.shadowPairs, List.map_append, State.moves_append]
  exact hcopy.moves (configReg_of_swap (s.unsourcedPairs_member range_sixteen))

theorem State.allLive_member {p : Nat × Nat} (hp : p ∈ s.shadowPairs) :
    s.allLive.rg p.2 = s.rg p.1 ∧ s.allLive.rg p.1 = s.rg p.1 := by
  refine ⟨s.rg_moves (sourced_swap_of_member s.shadowPairs_member) (List.mem_map_of_mem (f := Prod.swap) hp), s.rg_moves_ne fun x hx => ?_⟩
  obtain ⟨q, hq, rfl⟩ := List.mem_map.1 hx
  exact ((s.shadowPairs_member p hp).shadow_ne_live (s.shadowPairs_member q hq)).symm

/-! ### The image in force -/

/-- An image is in force, no commit is pending, no patch waits, and the device is not armed. -/
structure InForce (n : Nat) (u : State) : Prop where
  inForce : u.cfg.inForce = true
  pend : u.cfg.pend = []
  patches : u.cfg.patches = []
  pop : u.cfg.pop = n
  armed : u.sys.armed = false

theorem InForce.beside {n : Nat} {u v : State} (h : InForce n u) (k : Beside u v) : InForce n v := by
  obtain ⟨w, g, m, r, hc⟩ := k.cfg
  obtain ⟨hin, hpend, hpatch, hpop, harm⟩ := h
  exact ⟨by rw [hc]; exact hin, by rw [hc]; exact hpend, by rw [hc]; exact hpatch, by rw [hc]; exact hpop, k.armed.trans harm⟩

/-- The image is taken: commits and patches are dropped, and the device is not armed. -/
def State.takeImage (s : State) (d : List Byte) : State :=
  { s with cfg := { s.cfg with pend := [], checking := [], patches := [], inForce := true, atBy := none
                               metered := (idsOf d).contains 0x40
                               digest := (d.drop 40).take 32 }
           sys.armed := false }

/-- Section TOPO (R40). -/
def State.takeTopo (s : State) (c : ImageContent) : State :=
  ({ s with cfg := { s.cfg with pop := c.pop.toNat, stackPop := c.stackPop, margin := c.margin, marginLv := c.marginLv
                                arm := c.arm.map Fin.val } }.wbit Reg.GPR_PSTAT 1 c.bypass).wr Reg.PAR_CKPT_SIZE c.ckptSize

theorem State.takeTopo_rg (c : ImageContent) {a : Nat} (ha : configReg a = true) : (s.takeTopo c).rg a = s.rg a := by
  have hne {b : Nat} (hb : configReg b = false) : a ≠ b := fun e => Bool.noConfusion (hb.symm.trans (e ▸ ha))
  rw [State.takeTopo, State.rg_wr, if_neg (hne (by decide)), State.rg_wbit_ne _ _ _ (hne (by decide))]
  rfl

theorem State.takeSections_aside {ids : List Nat} (c : ImageContent) (h : ids.contains 0x02 = true) :
    Aside (s.takeTopo c) (s.takeSections ids c) := by
  have hroutes (t : State) : Aside t { t with cfg.routes := c.routes }.showRouted :=
    Aside.wr (t := { t with cfg.routes := c.routes }) ⟨⟨⟨_, _, _, _, rfl⟩, rfl, rfl⟩, fun _ _ => rfl⟩ (by decide) _
  have hsplit : s.takeSections ids c = ((s.takeTopo c).doIf (ids.contains 0x03) fun s =>
      { s with cfg.routes := c.routes }.showRouted).doIf (ids.contains 0x44) fun s => s.wearLoad c.wear := by
    rw [State.takeSections, h]
    rfl
  rw [hsplit]
  exact ((Aside.refl _).doIf _ hroutes).doIf _ fun t => t.wearLoad_aside _

end Sys2Proof.Machine
end

section
/-! PROOFS. A full image that passes its checks goes live as a whole (R48, R49). -/

namespace Sys2Proof.Machine

open Safety

variable (s : State) (d : List Byte) (c : ImageContent)

/-! ### The stages of a load -/

/-- Every group is live, and hardware wear starts anew. -/
def State.copyImage (s : State) (d : List Byte) : State :=
  (allGroups.foldl (fun s g => s.copyGroup g.1 g.2) (s.takeImage d)).copyUnsourced.wearLoad none

/-- With what the sections set besides the registers. -/
def State.carryImage (s : State) (d : List Byte) (c : ImageContent) : State :=
  ((s.copyImage d).takeSections (idsOf d) c).graphInit (idsOf d) c

/-- What follows from the image in every block. -/
def State.followImage (s : State) (d : List Byte) (c : ImageContent) : State :=
  let s := (s.pwmInit.meterInit).measInit
  let s := ((s.showImage.ringRestart).setMemb s.memb).showRing.stopPairs.dropBuffers
  match safeOf d c with | some x => s.acceptSafe x | none => s

/-- CFG_STAT and GLB_STAT tell the image in force. -/
def State.tellLive (s : State) (signed trusted : Bool) : State :=
  (((s.wbit Reg.CFG_STAT 4 signed).wbit Reg.CFG_STAT 5 trusted).loadDone 0x40).wf Reg.GLB_STAT 0 4 6

theorem State.followImage_aside : Aside s (s.followImage d c) := by
  have hinit : Aside s (s.pwmInit.meterInit).measInit :=
    (s.pwmInit_aside.trans (State.meterInit_aside _)).trans (State.measInit_aside _)
  have hshow (t : State) : Aside t ((t.showImage.ringRestart).setMemb t.memb).showRing.stopPairs.dropBuffers :=
    ((((t.showImage_aside.trans (State.ringRestart_aside _)).trans (State.setMemb_aside _ _)).trans (State.showRing_aside _)).trans
      (State.stopPairs_aside _)).trans (State.dropBuffers_aside _)
  have hsafe (t : State) : Aside t (match safeOf d c with | some x => t.acceptSafe x | none => t) := by
    split
    · exact t.acceptSafe_aside _
    · exact .refl t
  exact (hinit.trans (hshow _)).trans (hsafe _)

/-! ### The groups and the sections -/

theorem State.takeImage_inForce : InForce s.cfg.pop (s.takeImage d) := ⟨rfl, rfl, rfl, rfl, rfl⟩

theorem InForce.takeTopo {n : Nat} {u : State} (h : InForce n u) : InForce c.pop.toNat (u.takeTopo c) :=
  ⟨h.inForce, h.pend, h.patches, rfl, h.armed⟩

theorem State.copyImage_aside : Aside (s.takeImage d).allLive (s.copyImage d) :=
  (State.copyAll_aside _).trans (State.wearLoad_aside _ none)

theorem State.carryImage_aside (h : (idsOf d).contains 0x02 = true) : Aside ((s.copyImage d).takeTopo c) (s.carryImage d c) :=
  ((s.copyImage d).takeSections_aside c h).trans (State.graphInit_aside _ _ c)

theorem State.takeImage_allLive_rg (a : Nat) : (s.takeImage d).allLive.rg a = s.allLive.rg a :=
  State.rg_of_regs (State.moves_regs (s := s) (t := s.takeImage d) rfl _) a

theorem State.carryImage_rg (h : (idsOf d).contains 0x02 = true) {a : Nat} (ha : configReg a = true) :
    (s.carryImage d c).rg a = s.allLive.rg a := by
  rw [(s.carryImage_aside d c h).regs a ha, State.takeTopo_rg _ c ha, (s.copyImage_aside d).regs a ha, s.takeImage_allLive_rg d]

theorem State.copyImage_beside : Beside (s.takeImage d) (s.copyImage d) := (State.moves_beside _ _).trans (s.copyImage_aside d).toBeside

theorem State.carryImage_inForce (h : (idsOf d).contains 0x02 = true) : InForce c.pop.toNat (s.carryImage d c) :=
  (((s.takeImage_inForce d).beside (s.copyImage_beside d)).takeTopo c).beside (s.carryImage_aside d c h).toBeside

theorem State.takeTopo_tim : (s.takeTopo c).tim = s.tim := rfl

theorem State.carryImage_ts32 (h : (idsOf d).contains 0x02 = true) : (s.carryImage d c).tim.ts32 = s.tim.ts32 := by
  rw [(s.carryImage_aside d c h).ts32, State.takeTopo_tim, (s.copyImage_beside d).ts32]
  rfl

/-! ### The identification and the state words (R53, R63, R64) -/

theorem imgField_four_lt (o : Nat) : imgField d o 4 < 4294967296 := by
  have hle : ∀ l : List Byte, leNat l < 256 ^ l.length := by
    intro l
    induction l with
    | nil => exact Nat.one_pos
    | cons b l ih =>
      have hb := b.isLt
      rw [leNat, List.length_cons, Nat.pow_succ]
      omega
  have hlen : ((d.drop o).take 4).length ≤ 4 := List.length_take_le _ _
  exact (hle _).trans_le (Nat.pow_le_pow_right (by decide) hlen)

/-- The registers that identify the image in force. -/
def imageIds : List Nat :=
  [Reg.CFG_IMG_ID, Reg.CFG_IMG_VER, Reg.CFG_IMG_DIGEST_HI, Reg.CFG_IMG_DIGEST_LO, Reg.CFG_STRUCT_HI, Reg.CFG_STRUCT_LO]

theorem State.publish_rg {a : Nat} (h : a ∉ imageIds) : (s.publish d).rg a = s.rg a := by
  simp only [imageIds, List.mem_cons, List.not_mem_nil, or_false, not_or] at h
  simp only [State.publish, State.rg_wr, State.rg_wn, h, if_false]

theorem State.publish_id : (s.publish d).rn Reg.CFG_IMG_ID = imgField d 32 4 := by
  have h : (s.publish d).rg Reg.CFG_IMG_ID = BitVec.ofNat 32 (imgField d 32 4) := by simp [State.publish, State.rg_wn]
  rw [State.rn, h, BitVec.toNat_ofNat, Nat.mod_eq_of_lt (imgField_four_lt d 32)]

theorem State.publish_ver : (s.publish d).rn Reg.CFG_IMG_VER = imgField d 36 4 := by
  have h : (s.publish d).rg Reg.CFG_IMG_VER = BitVec.ofNat 32 (imgField d 36 4) := by simp [State.publish, State.rg_wn]
  rw [State.rn, h, BitVec.toNat_ofNat, Nat.mod_eq_of_lt (imgField_four_lt d 36)]

theorem State.publish_beside : Beside s (s.publish d) := Beside.of_eq rfl rfl rfl

end Sys2Proof.Machine
end

section
/-! PROOFS. What a full image in force shows (R49, R60, R64), and which check refuses an image (R48, R51). -/

namespace Sys2Proof.Machine

open Safety

variable (s : State) (d : List Byte) (c : ImageContent)

/-! ### CFG_STAT and GLB_STAT behind a load (R64, R575) -/

theorem State.loadDone_rg (code : Nat) {a : Nat} (h : a ≠ Reg.CFG_STAT) : (s.loadDone code).rg a = s.rg a :=
  (State.rg_wf_ne _ _ _ _ h).trans ((State.rg_wf_ne _ _ _ _ h).trans ((State.rg_wbit_ne _ _ _ h).trans
    (State.rg_wf_ne { s with cfg.load := none } _ _ _ h)))

theorem State.loadDone_state (code : Nat) :
    (s.loadDone code).rf Reg.CFG_STAT 0 3 = ({ s with cfg.load := none } : State).restState := by
  rw [State.loadDone, State.rf_wf_apart _ _ _ (by decide) (.inr (by decide)),
    State.rf_wf_apart _ _ _ (by decide) (.inr (by decide)), State.rf_wbit_apart _ _ _ (by decide) (.inr (by decide)),
    State.showLoad_state_none { s with cfg.load := none } rfl]

theorem State.loadDone_code (code : Nat) : (s.loadDone code).rf Reg.CFG_STAT 8 8 = code % 256 := by
  rw [State.loadDone, State.rf_wf_apart _ _ _ (by decide) (.inr (by decide)), State.rf_wf_same _ _ _ _ _ (by decide)]
  rfl

theorem State.loadDone_frame (code : Nat) : ∃ r, s.loadDone code = { s with cfg.load := none, regs := r } := ⟨_, rfl⟩

theorem State.tellLive_rg (signed trusted : Bool) {a : Nat} (h : a ∉ [Reg.CFG_STAT, Reg.GLB_STAT]) :
    (s.tellLive signed trusted).rg a = s.rg a := by
  simp only [List.mem_cons, List.not_mem_nil, or_false, not_or] at h
  rw [State.tellLive, State.rg_wf_ne _ _ _ _ h.2, State.loadDone_rg _ _ h.1, State.rg_wbit_ne _ _ _ h.1, State.rg_wbit_ne _ _ _ h.1]

theorem State.tellLive_frame (signed trusted : Bool) : ∃ r, s.tellLive signed trusted = { s with cfg.load := none, regs := r } := by
  obtain ⟨r, hr⟩ := ((s.wbit Reg.CFG_STAT 4 signed).wbit Reg.CFG_STAT 5 trusted).loadDone_frame 0x40
  rw [State.tellLive, hr]
  exact ⟨_, rfl⟩

theorem InForce.endLoad {n : Nat} {u : State} (h : InForce n u) (r : Tab Word) :
    InForce n { u with cfg.load := none, regs := r } := ⟨h.inForce, h.pend, h.patches, h.pop, h.armed⟩

theorem State.tellLive_devState (signed trusted : Bool) : (s.tellLive signed trusted).devState = 6 :=
  State.rf_wf_same _ _ _ _ _ (by decide)

theorem State.tellLive_cfgStat (signed trusted : Bool) (h : s.cfg.inForce = true) (hp : s.cfg.patches = []) :
    (s.tellLive signed trusted).rf Reg.CFG_STAT 0 3 = 4 ∧ (s.tellLive signed trusted).rf Reg.CFG_STAT 8 8 = 0x40 := by
  have hrg : (s.tellLive signed trusted).rg Reg.CFG_STAT =
      (((s.wbit Reg.CFG_STAT 4 signed).wbit Reg.CFG_STAT 5 trusted).loadDone 0x40).rg Reg.CFG_STAT :=
    State.rg_wf_ne _ _ _ _ (by decide)
  rw [State.rf_of_rg 0 3 hrg, State.rf_of_rg 8 8 hrg, State.loadDone_state, State.loadDone_code]
  have hrest (t : State) (ht : t.cfg.inForce = true) (htp : t.cfg.patches = []) : t.restState = 4 := by
    rw [State.restState, ht, htp]
    rfl
  exact ⟨hrest _ h hp, rfl⟩

/-! ### What a full image in force shows -/

/-- Before CFG_STAT and GLB_STAT tell it. -/
def State.liveImage (s : State) (d : List Byte) (c : ImageContent) : State := ((s.carryImage d c).publish d).followImage d c

/-- Before event 0x0340. -/
def State.toldImage (s : State) (d : List Byte) (c : ImageContent) : State :=
  ((s.liveImage d c).tellLive ((s.liveImage d c).signedAs d).1 ((s.liveImage d c).signedAs d).2).firstImage.settle

theorem State.imageLive_toldImage : s.imageLive d c = (s.toldImage d c).raise 0x0340 0 [imgField d 32 4] := rfl

theorem State.liveImage_aside : Aside ((s.carryImage d c).publish d) (s.liveImage d c) := State.followImage_aside _ d c

theorem State.toldImage_aside :
    Aside ((s.liveImage d c).tellLive ((s.liveImage d c).signedAs d).1 ((s.liveImage d c).signedAs d).2) (s.toldImage d c) :=
  (State.firstImage_aside _).trans (State.settle_aside _)

theorem configReg_imageIds : ∀ a ∈ imageIds, configReg a = true ∧ a ∉ [Reg.CFG_STAT, Reg.GLB_STAT] := by decide

/-- The identification stands as it was published. -/
theorem State.toldImage_ids {a : Nat} (ha : a ∈ imageIds) : (s.toldImage d c).rg a = ((s.carryImage d c).publish d).rg a := by
  obtain ⟨hconf, hno⟩ := configReg_imageIds a ha
  rw [(s.toldImage_aside d c).regs a hconf, State.tellLive_rg _ _ _ hno, (s.liveImage_aside d c).regs a hconf]

theorem Member.ne_told {p : Nat × Nat} (h : Member p) :
    (p.1 ∉ imageIds ∧ p.1 ∉ [Reg.CFG_STAT, Reg.GLB_STAT]) ∧ p.2 ∉ imageIds ∧ p.2 ∉ [Reg.CFG_STAT, Reg.GLB_STAT] := by
  have hno : ∀ a ∈ imageIds ++ [Reg.CFG_STAT, Reg.GLB_STAT], isShadow a = false ∧ isLiveCopy a = false := by decide
  have hshadow : p.1 ∉ imageIds ++ [Reg.CFG_STAT, Reg.GLB_STAT] := fun hm => Bool.noConfusion ((hno _ hm).1.symm.trans h.1)
  have hlive : p.2 ∉ imageIds ++ [Reg.CFG_STAT, Reg.GLB_STAT] := fun hm => Bool.noConfusion ((hno _ hm).2.symm.trans h.2.1)
  exact ⟨not_or.1 fun hm => hshadow (List.mem_append.2 hm), not_or.1 fun hm => hlive (List.mem_append.2 hm)⟩

section Topo

variable (hids : (idsOf d).contains 0x02 = true)

include hids

theorem State.toldImage_member {p : Nat × Nat} (hp : p ∈ s.shadowPairs) :
    (s.toldImage d c).rg p.2 = s.rg p.1 ∧ (s.toldImage d c).rg p.1 = s.rg p.1 := by
  have hm := s.shadowPairs_member p hp
  obtain ⟨⟨hid1, hno1⟩, hid2, hno2⟩ := hm.ne_told
  have hstands {a : Nat} (hconf : configReg a = true) (hid : a ∉ imageIds) (hno : a ∉ [Reg.CFG_STAT, Reg.GLB_STAT]) :
      (s.toldImage d c).rg a = s.allLive.rg a := by
    rw [(s.toldImage_aside d c).regs a hconf, State.tellLive_rg _ _ _ hno, (s.liveImage_aside d c).regs a hconf,
      State.publish_rg _ _ hid, s.carryImage_rg d c hids hconf]
  rw [hstands hm.configReg.1 hid1 hno1, hstands hm.configReg.2 hid2 hno2]
  exact s.allLive_member hp

theorem State.liveImage_inForce : InForce c.pop.toNat (s.liveImage d c) :=
  ((s.carryImage_inForce d c hids).beside (State.publish_beside _ d)).beside (s.liveImage_aside d c).toBeside

theorem State.liveImage_ts32 : (s.liveImage d c).tim.ts32 = s.tim.ts32 := by
  rw [(s.liveImage_aside d c).ts32, (State.publish_beside _ d).ts32, s.carryImage_ts32 d c hids]

theorem State.toldImage_inForce : InForce c.pop.toNat (s.toldImage d c) ∧ (s.toldImage d c).cfg.load = none ∧
    (s.toldImage d c).tim.ts32 = s.tim.ts32 := by
  have hlive := s.liveImage_inForce d c hids
  have hts := s.liveImage_ts32 d c hids
  have haside := s.toldImage_aside d c
  obtain ⟨r, hr⟩ := (s.liveImage d c).tellLive_frame ((s.liveImage d c).signedAs d).1 ((s.liveImage d c).signedAs d).2
  rw [hr] at haside
  exact ⟨(hlive.endLoad r).beside haside.toBeside, haside.load, haside.ts32.trans hts⟩

theorem State.toldImage_states : (s.toldImage d c).devState = 6 ∧ (s.toldImage d c).rf Reg.CFG_STAT 0 3 = 4 ∧
    (s.toldImage d c).rf Reg.CFG_STAT 8 8 = 0x40 := by
  have hlive := s.liveImage_inForce d c hids
  have haside := s.toldImage_aside d c
  obtain ⟨hstate, hcode⟩ := (s.liveImage d c).tellLive_cfgStat ((s.liveImage d c).signedAs d).1 ((s.liveImage d c).signedAs d).2
    hlive.inForce hlive.patches
  exact ⟨(haside.rf 0 4 (by decide)).trans (State.tellLive_devState _ _ _), (haside.rf 0 3 (by decide)).trans hstate,
    (haside.rf 8 8 (by decide)).trans hcode⟩

/-- What a full image that passed every check makes of the machine with its shadow set. -/
theorem State.imageLive_spec {u : State} (hu : u = s.imageLive d c) :
    u.cfg.inForce = true ∧ u.cfg.load = none ∧ u.cfg.pend = [] ∧ u.cfg.pop = c.pop.toNat ∧ u.sys.armed = false ∧
      u.devState = 6 ∧ u.rf Reg.CFG_STAT 0 3 = 4 ∧ u.rf Reg.CFG_STAT 8 8 = 0x40 ∧
      u.rn Reg.CFG_IMG_ID = imgField d 32 4 ∧ u.rn Reg.CFG_IMG_VER = imgField d 36 4 ∧
      (∀ g i, i < classSize g → ∀ p ∈ s.membersOf g i, u.rg p.2 = s.rg p.1 ∧ u.rg p.1 = s.rg p.1) ∧
      Told s u 0x0340 0 [imgField d 32 4] := by
  obtain ⟨⟨hin, hpend, -, hpop, harm⟩, hload, hts⟩ := s.toldImage_inForce d c hids
  obtain ⟨hdev, hstate, hcode⟩ := s.toldImage_states d c hids
  have haside := (s.toldImage d c).raise_aside 0x0340 0 [imgField d 32 4]
  rw [s.imageLive_toldImage] at hu
  subst hu
  refine ⟨haside.inForce.trans hin, haside.load.trans hload, haside.pend.trans hpend, haside.pop.trans hpop,
    haside.armed.trans harm, (haside.rf 0 4 (by decide)).trans hdev, (haside.rf 0 3 (by decide)).trans hstate,
    (haside.rf 8 8 (by decide)).trans hcode, ?_, ?_, fun g i hi p hp => ?_, ?_⟩
  · rw [State.rn_of_rg (haside.regs _ (by decide)), State.rn_of_rg (s.toldImage_ids d c (by decide)), State.publish_id]
  · rw [State.rn_of_rg (haside.regs _ (by decide)), State.rn_of_rg (s.toldImage_ids d c (by decide)), State.publish_ver]
  · have hm := s.membersOf_member hi hp
    rw [haside.regs _ hm.configReg.1, haside.regs _ hm.configReg.2]
    exact s.toldImage_member d c hids (s.membersOf_sub_shadowPairs hi hp)
  · exact ⟨_, List.mem_append_right _ (List.mem_singleton.2 rfl), by rw [hts]⟩

end Topo

end Sys2Proof.Machine
end

section
/-! PROOFS. Which check refuses an image (R48, R51), its shadow set, and groups that wait for the boundary (R52). -/

namespace Sys2Proof.Machine

open Safety

variable {s : State} {c : ImageContent}

/-! ### The checks in their order (R48, R51) -/

theorem imageChecked_idle (h : ∀ l, s.cfg.load = some l → l.checking = false) : imageChecked c s = s := by
  rw [imageChecked]
  split
  case h_1 => rfl
  case h_2 l hl => rw [h l hl]; rfl

section Checked

variable {l : Load} (hload : s.cfg.load = some l) (hchk : l.checking = true)

include hload hchk

theorem imageChecked_error {code sect : Nat} {data : List Nat} (he : s.imageError l.data c = some (code, sect, data)) :
    imageChecked c s = s.loadRefused code sect data := by
  simp only [imageChecked, hload, hchk, he]
  rfl

theorem imageChecked_pending (he : s.imageError l.data c = none) (hpatch : bitOf (imgField l.data 22 2) 0 = true) {g : Nat × Nat}
    (hg : (s.touched c).find? (fun g => s.isPending g.1 g.2) = some g) :
    imageChecked c s = s.loadRefused 0x21 0 [g.1, g.2] := by
  simp only [imageChecked, hload, hchk, he, hpatch, if_true, hg]
  rfl

variable {patch : Bool} (he : s.imageError l.data c = none) (hpatch : bitOf (imgField l.data 22 2) 0 = patch)
  (hfree : (if patch then (s.touched c).find? fun g => s.isPending g.1 g.2 else none) = none)

include he hpatch hfree

theorem imageChecked_failed {g f : Nat × Nat}
    (hg : (s.stage l.data c patch).checkAllGroups ((patch && s.cfg.metered) || (idsOf l.data).contains 0x40) = some (g, f)) :
    imageChecked c s = s.loadRefused 0x22 0 [g.1, g.2, f.1, f.2] := by
  simp only [imageChecked, hload, hchk, he, hpatch, hfree, hg]
  rfl

theorem imageChecked_passed
    (hg : (s.stage l.data c patch).checkAllGroups ((patch && s.cfg.metered) || (idsOf l.data).contains 0x40) = none)
    (hsafe : ∀ x, safeOf l.data c = some x → s.safeReason x = 0) :
    imageChecked c s = if patch then (s.stage l.data c patch).patchApply s l.data c else (s.stage l.data c patch).imageLive l.data c := by
  cases hs : safeOf l.data c with
  | none => simp only [imageChecked, hload, hchk, he, hpatch, hfree, hg, hs, Bool.not_true, Bool.false_eq_true, if_false, ne_eq,
      not_true_eq_false]
  | some x => simp only [imageChecked, hload, hchk, he, hpatch, hfree, hg, hs, hsafe x hs, Bool.not_true, Bool.false_eq_true,
      if_false, ne_eq, not_true_eq_false]

end Checked

/-- A full image that passed its checks holds section TOPO (R40). -/
theorem topo_of_imageError {d : List Byte} (he : s.imageError d c = none) (hfull : bitOf (imgField d 22 2) 0 = false) :
    (idsOf d).contains 0x02 = true := by
  have hlayout : checkLayout d false = none := by
    rw [State.imageError] at he
    split at he
    case h_1 => cases he
    case h_2 =>
      simp only [firstErr, List.findSome?_eq_none_iff, hfull] at he
      exact he _ List.mem_cons_self
  simp only [checkLayout, firstErr, List.findSome?_eq_none_iff, id_eq, List.mem_cons, forall_eq_or_imp, Bool.false_eq_true,
    if_false, Option.map_eq_none_iff, List.find?_eq_none] at hlayout
  have htopo := hlayout.2.2.1 0x02 (by decide)
  simpa [idsOf] using htopo

/-! ### The shadow set of an image (R49, R52) -/

variable (s)

theorem State.setRegs_rg {l : List (Nat × Word)} {a : Nat} (h : imageField a = false) : (s.setRegs l).rg a = s.rg a := by
  induction l generalizing s with
  | nil => rfl
  | cons p l ih =>
    have hp : (if imageField p.1 then s.wr p.1 (p.2 &&& imageMask p.1) else s).rg a = s.rg a := by
      split
      case isTrue hf => rw [State.rg_wr, if_neg fun e => Bool.noConfusion (h.symm.trans (e ▸ hf))]
      case isFalse => rfl
    exact (ih _).trans hp

theorem State.setRegs_frame (l : List (Nat × Word)) : ∃ r, s.setRegs l = { s with regs := r } := by
  induction l generalizing s with
  | nil => exact ⟨s.regs, rfl⟩
  | cons p l ih =>
    have hp : ∃ r, (if imageField p.1 then s.wr p.1 (p.2 &&& imageMask p.1) else s) = { s with regs := r } := by
      split
      · exact ⟨_, rfl⟩
      · exact ⟨s.regs, rfl⟩
    obtain ⟨q, hq⟩ := hp
    obtain ⟨r, hr⟩ := ih { s with regs := q }
    exact ⟨r, by rw [State.setRegs, List.foldl_cons, hq]; exact hr⟩

theorem State.stage_rg (d : List Byte) (c : ImageContent) (patch : Bool) {a : Nat} (h : imageField a = false) :
    (s.stage d c patch).rg a = s.rg a := s.setRegs_rg (l := c.regs) h

theorem State.stage_frame (d : List Byte) (c : ImageContent) (patch : Bool) :
    ∃ r g p, s.stage d c patch = { s with regs := r, cfg.graphs := g, cfg.parNext := p } := by
  obtain ⟨r, hr⟩ := s.setRegs_frame c.regs
  rw [State.stage, hr]
  exact ⟨r, _, _, rfl⟩

/-! ### A patch waits (R52) -/

/-- The groups of patch `n` become pending; on a device that runs they wait for the next control period boundary. -/
def State.holdGroups (s : State) (l : List (Nat × Nat)) (n : Nat) : State :=
  l.foldl (fun s g => s.makePending g.1 g.2 { patch := some n, hold := !s.halted }) s

/-- Every pending group waits for the boundary. -/
def Holds (s : State) : Prop := ∀ k q, s.cfg.pend.at k none = some q → q.hold = true

theorem State.holdGroups_frame (l : List (Nat × Nat)) (n : Nat) : ∃ t, s.holdGroups l n = { s with cfg.pend := t } := by
  induction l generalizing s with
  | nil => exact ⟨s.cfg.pend, rfl⟩
  | cons g l ih =>
    obtain ⟨t, ht⟩ := ih (s.makePending g.1 g.2 { patch := some n, hold := !s.halted })
    exact ⟨t, ht⟩

variable {s}

theorem holds_makePending (h : Holds s) {p : Pend} (hp : p.hold = true) (d j : Nat) : Holds (s.makePending d j p) := by
  intro k q hq
  rw [State.makePending, Tab.at, Tab.get_set] at hq
  split at hq
  · exact Option.some.inj hq ▸ hp
  · exact h k q hq

theorem isPending_makePending {d j e f : Nat} (p : Pend) (h : s.isPending d j = true ∨ (d, j) = (e, f)) :
    (s.makePending e f p).isPending d j = true := by
  rw [State.isPending, State.makePending, Tab.at, Tab.get_set]
  split
  case isTrue => rfl
  case isFalse hne =>
    refine h.resolve_right fun he => hne ?_
    rw [Prod.mk.injEq] at he
    rw [he.1, he.2]

theorem Holds.holdGroups (h : Holds s) (hrun : s.halted = false) (l : List (Nat × Nat)) (n : Nat) : Holds (s.holdGroups l n) := by
  induction l generalizing s with
  | nil => exact h
  | cons g l ih => exact ih (holds_makePending h (by rw [hrun]; rfl) g.1 g.2) hrun

theorem isPending_holdGroups {l : List (Nat × Nat)} (n : Nat) {d j : Nat} (h : s.isPending d j = true ∨ (d, j) ∈ l) :
    (s.holdGroups l n).isPending d j = true := by
  induction l generalizing s with
  | nil => exact h.resolve_right (List.not_mem_nil)
  | cons g l ih =>
    rw [List.mem_cons] at h
    refine ih ?_
    rcases h with h | h | h
    · exact .inl (isPending_makePending _ (.inl h))
    · exact .inl (isPending_makePending _ (.inr h))
    · exact .inr h

theorem Holds.commitNow (h : Holds s) : s.commitNow = s := by
  rw [State.commitNow_eq]
  refine State.commitEach_none fun g _ _ => ?_
  rw [State.dueNow]
  split
  case h_1 => rfl
  case h_2 q hq => rw [h _ q hq]; rfl

end Sys2Proof.Machine
end

section
/-! PROOFS. A patch of a device that runs waits with its groups (R51, R52). With what a full image shows this settles the obligation
about images. -/

namespace Sys2Proof.Machine

open Safety

variable {s : State} {c : ImageContent}

/-- A patch is taken, and the load is over. -/
def State.takePatch (s : State) (p : Patch) : State :=
  { s with cfg := { s.cfg with load := none, patches := s.cfg.patches ++ [p], patchNo := s.cfg.patchNo + 1 } }

/-- CFG_STAT and CFG_PEND show the patch. -/
def State.showPatch (s : State) : State := (s.showLoad.wbit Reg.CFG_STAT 3 false).showPending

/-- Patch `p` waits with the groups `l`. -/
def State.waitPatch (s : State) (p : Patch) (l : List (Nat × Nat)) : State :=
  ((s.takePatch p).holdGroups l s.cfg.patchNo).showPatch

theorem State.showPatch_frame (s : State) : ∃ r, s.showPatch = { s with regs := r } := ⟨_, rfl⟩

theorem State.showPatch_rg {a : Nat} (h : a ∉ [Reg.CFG_STAT, Reg.CFG_PEND, Reg.SLT_STAT]) : s.showPatch.rg a = s.rg a := by
  simp only [List.mem_cons, List.not_mem_nil, or_false, not_or] at h
  rw [State.showPatch, State.showPending_rg _ h.2.1 h.2.2, State.rg_wbit_ne _ _ _ h.1]
  exact State.rg_wf_ne _ _ _ _ h.1

theorem State.showPatch_state (hload : s.cfg.load = none) : s.showPatch.rf Reg.CFG_STAT 0 3 = s.restState := by
  rw [State.showPatch, State.rf_of_rg 0 3 (State.showPending_rg _ (by decide) (by decide)),
    State.rf_wbit_apart _ _ _ (by decide) (.inr (by decide)), s.showLoad_state_none hload]

theorem State.waitPatch_frame (s : State) (p : Patch) (l : List (Nat × Nat)) :
    ∃ r t, s.waitPatch p l = { s.takePatch p with regs := r, cfg.pend := t } := by
  obtain ⟨t, ht⟩ := (s.takePatch p).holdGroups_frame l s.cfg.patchNo
  obtain ⟨r, hr⟩ := ((s.takePatch p).holdGroups l s.cfg.patchNo).showPatch_frame
  exact ⟨r, t, by rw [State.waitPatch, hr, ht]⟩

theorem State.waitPatch_rg (p : Patch) (l : List (Nat × Nat)) {a : Nat} (h : a ∉ [Reg.CFG_STAT, Reg.CFG_PEND, Reg.SLT_STAT]) :
    (s.waitPatch p l).rg a = s.rg a := by
  obtain ⟨t, ht⟩ := (s.takePatch p).holdGroups_frame l s.cfg.patchNo
  rw [State.waitPatch, State.showPatch_rg h, ht]
  rfl

theorem State.waitPatch_state (p : Patch) (l : List (Nat × Nat)) : (s.waitPatch p l).rf Reg.CFG_STAT 0 3 = 3 := by
  obtain ⟨t, ht⟩ := (s.takePatch p).holdGroups_frame l s.cfg.patchNo
  have hload : ((s.takePatch p).holdGroups l s.cfg.patchNo).cfg.load = none := by rw [ht]; rfl
  have hpatch : ((s.takePatch p).holdGroups l s.cfg.patchNo).cfg.patches ≠ [] := by
    rw [ht]
    exact List.concat_ne_nil p s.cfg.patches
  rw [State.waitPatch, State.showPatch_state hload, State.restState, if_pos hpatch]

theorem State.waitPatch_isPending (p : Patch) {l : List (Nat × Nat)} {g : Nat × Nat} (hg : g ∈ l) :
    (s.waitPatch p l).isPending g.1 g.2 = true := by
  obtain ⟨r, hr⟩ := ((s.takePatch p).holdGroups l s.cfg.patchNo).showPatch_frame
  rw [State.waitPatch, hr]
  exact isPending_holdGroups (s := s.takePatch p) s.cfg.patchNo (.inr hg)

theorem State.waitPatch_holds (p : Patch) (l : List (Nat × Nat)) (h : Holds s) (hrun : s.halted = false) :
    Holds (s.waitPatch p l) := by
  have hall : Holds ((s.takePatch p).holdGroups l s.cfg.patchNo) := Holds.holdGroups (s := s.takePatch p) h hrun l _
  obtain ⟨r, hr⟩ := ((s.takePatch p).holdGroups l s.cfg.patchNo).showPatch_frame
  rw [State.waitPatch, hr]
  exact hall

/-- A patch of a device that runs waits with the groups it touches (R52). -/
theorem State.patchApply_running {t : State} {d : List Byte} (h : Holds s) (hrun : s.halted = false) (hne : s.touched c ≠ []) :
    ∃ p, s.patchApply t d c = s.waitPatch p (s.touched c) := by
  have happly : ∃ p, s.patchApply t d c = (if (s.touched c).isEmpty then (s.waitPatch p (s.touched c)).patchDone s.cfg.patchNo
      else (s.waitPatch p (s.touched c)).commitNow).doIf (if (s.touched c).isEmpty then
        (s.waitPatch p (s.touched c)).patchDone s.cfg.patchNo else (s.waitPatch p (s.touched c)).commitNow).halted
      fun s => s.patchHalted t d c := ⟨_, rfl⟩
  obtain ⟨p, hp⟩ := happly
  have hempty : (s.touched c).isEmpty = false := by simpa using hne
  have hhalt : (s.waitPatch p (s.touched c)).halted = false :=
    (congrArg (· != 7) (State.rf_of_rg 0 4 (State.waitPatch_rg p _ (by decide)))).trans hrun
  rw [hempty, if_neg (by decide), (State.waitPatch_holds p _ h hrun).commitNow, hhalt] at hp
  exact ⟨p, hp⟩

/-- What a patch of a device that runs shows: it waits, and nothing that is live has changed. -/
theorem State.stage_patchApply {d : List Byte} {t u : State} (ht : t = s.stage d c true) (hpend : s.cfg.pend = [])
    (hrun : s.halted = false) (hne : t.touched c ≠ []) (hu : u = t.patchApply s d c) :
    u.cfg.load = none ∧ u.rf Reg.CFG_STAT 0 3 = 3 ∧ (∀ g ∈ t.touched c, u.isPending g.1 g.2 = true) ∧
      (∀ a, imageField a = false → a ∉ [Reg.CFG_STAT, Reg.CFG_PEND, Reg.SLT_STAT] → u.rg a = s.rg a) ∧
      (∀ g i, i < classSize g → ∀ p ∈ s.membersOf g i, u.rg p.2 = s.rg p.2) ∧ Raises s u [] ∧ KeepsMem s u := by
  have hstage {a : Nat} (ha : imageField a = false) : t.rg a = s.rg a := ht ▸ s.stage_rg d c true ha
  obtain ⟨r, g, n, hframe⟩ := s.stage_frame d c true
  have hholds : Holds t := by
    rw [ht, hframe]
    intro k q hq
    rw [show ({ s with regs := r, cfg.graphs := g, cfg.parNext := n } : State).cfg.pend = [] from hpend] at hq
    cases hq
  have hthalt : t.halted = false := (congrArg (· != 7) (State.rf_of_rg 0 4 (hstage (by decide +kernel)))).trans hrun
  obtain ⟨p, hp⟩ := State.patchApply_running (t := s) (d := d) hholds hthalt hne
  rw [hp] at hu
  have hkeep (a : Nat) (ha : imageField a = false) (hno : a ∉ [Reg.CFG_STAT, Reg.CFG_PEND, Reg.SLT_STAT]) : u.rg a = s.rg a := by
    rw [hu, State.waitPatch_rg _ _ hno, hstage ha]
  obtain ⟨q, w, hwait⟩ := t.waitPatch_frame p (t.touched c)
  refine ⟨by rw [hu, hwait]; rfl, by rw [hu, State.waitPatch_state], fun g hg => by rw [hu, State.waitPatch_isPending p hg],
    hkeep, fun g i hi p hm => ?_, ?_, ?_⟩
  · have hmem := s.membersOf_member hi hm
    exact hkeep _ hmem.2.2.2.2 hmem.ne_status.2
  · rw [hu, hwait, ht, hframe]
    exact raises_none rfl
  · rw [hu, hwait, ht, hframe]
    exact fun _ => rfl

/-- Settles O52: the first failing check refuses the image with its code; a full image goes live as a whole, and a patch of a
device that runs waits. -/
theorem imagesGoLive : Obligations.ImagesGoLive := by
  have hdoes {s : State} {c : ImageContent} {P : State → Prop} (hrun : s.running = true) (h : P (imageChecked c s)) :
      Does (.imageCheckDone c) s P := Does_main s (imageChecked c) rfl hrun h
  refine ⟨fun s c hrun => ⟨fun hidle => ?_, ?_⟩, ?_⟩
  · show s.main (imageChecked c) = .next s.flush
    rw [State.main_on _ _ hrun, imageChecked_idle hidle]
  · rintro l t hload hchk rfl
    refine ⟨fun code sect data he => hdoes hrun ?_, fun he hfull => ⟨fun g f hg => hdoes hrun ?_, fun hg hsafe => hdoes hrun ?_⟩⟩
    · rw [imageChecked_error hload hchk he]
      exact s.loadRefused_spec _ _ _
    · rw [imageChecked_failed hload hchk he hfull rfl hg]
      exact s.loadRefused_spec _ _ _
    · have hts : (s.stage l.data c false).tim = s.tim := by
        obtain ⟨r, g, p, hframe⟩ := s.stage_frame l.data c false
        rw [hframe]
      have hlive := (s.stage l.data c false).imageLive_spec l.data c (topo_of_imageError he hfull) rfl
      rw [imageChecked_passed hload hchk he hfull rfl hg hsafe, if_neg Bool.false_ne_true]
      simpa only [Told, hts] using hlive
  · rintro s c l t hrun hload hchk he hpatch rfl
    refine ⟨fun g hg => hdoes hrun ?_, fun hpend hhalt hne hsafe => ⟨fun g f hg => hdoes hrun ?_, fun hg => hdoes hrun ?_⟩⟩
    · rw [imageChecked_pending hload hchk he hpatch hg]
      exact s.loadRefused_spec _ _ _
    all_goals
      have hfree : (if true then (s.touched c).find? fun g => s.isPending g.1 g.2 else none) = none := by
        rw [if_pos rfl, List.find?_eq_none]
        intro g _
        rw [State.isPending, hpend]
        exact Bool.false_ne_true
    · rw [imageChecked_failed hload hchk he hpatch hfree hg]
      exact s.loadRefused_spec _ _ _
    · rw [imageChecked_passed hload hchk he hpatch hfree hg fun x hx => by rw [hsafe] at hx; cases hx]
      exact State.stage_patchApply rfl hpend hhalt hne rfl

end Sys2Proof.Machine
end

section
/-! PROOFS. How a host access and a keyed write complete (R628), and bits of registers behind a write. -/

namespace Sys2Proof.Machine

open Safety

variable (s : State)

/-! ### The shapes of a meaning -/

/-- A host access completes with what it does. -/
theorem Does_access {c : Instr} {P : State → Prop} (f : State → State) (he : exec c s = s.access f) (h : s.onMain = true)
    (hp : P (f s)) : Does c s P := ⟨f s, by rw [he, State.access_on s f h], hp⟩

/-- A keyed write whose key passes acts behind the key slot of its source. -/
theorem Does_keyed {c : Instr} {P : State → Prop} {src : Src} {a : Nat} (act : State → State)
    (he : exec c s = s.access fun s => s.keyed src a act) (hk : KeyPasses s src a) (hp : P (act (s.disarm src))) :
    Does c s P := by
  obtain ⟨hon, hw, hkey⟩ := hk
  refine Does_access s _ he hon ?_
  rwa [s.keyed_pass src a act hw hkey]

/-- A command of the main domain that acts as the identity changes nothing. -/
theorem Leaves_main {c : Instr} (f : State → State) (he : exec c s = s.main f) (h : s.running = true) (hf : f s = s) :
    Leaves c s := by rw [Leaves, he, State.main_on s f h, hf]

/-- A host access that acts as the identity changes nothing. -/
theorem Leaves_access {c : Instr} (f : State → State) (he : exec c s = s.access f) (h : s.onMain = true) (hf : f s = s) :
    Leaves c s := by rw [Leaves, he, State.access_on s f h, hf]

/-- A key slot that has been used is empty (R628). -/
theorem State.slot_disarm (src : Src) : (s.disarm src).slot src = {} := by rw [State.slot, State.disarm_slots, Tab.at, Tab.get_set_same]

/-! ### Fields and bits -/

theorem State.bit_wbit_ne (i j : Nat) (v : Bool) {a b : Nat} (h : b ≠ a) : (s.wbit a i v).bit b j = s.bit b j :=
  State.bit_of_rg j (s.rg_wbit_ne i v h)

theorem State.bit_wn_ne (v j : Nat) {a b : Nat} (h : b ≠ a) : (s.wn a v).bit b j = s.bit b j :=
  State.bit_of_rg j (s.rg_wn_ne v h)

@[simp] theorem State.rf_raise (c u : Nat) (d : List Nat) (a lo n : Nat) : (s.raise c u d).rf a lo n = s.rf a lo n := rfl

@[simp] theorem State.bit_raise (c u : Nat) (d : List Nat) (a i : Nat) : (s.raise c u d).bit a i = s.bit a i := rfl

@[simp] theorem State.rn_raise (c u : Nat) (d : List Nat) (a : Nat) : (s.raise c u d).rn a = s.rn a := rfl

/-- A field that reads zero has no bit set. -/
theorem fld_bit_of_zero {w : Word} {lo n i : Nat} (h : fld w lo n = 0) (hi : i < n) : fld w (lo + i) 1 = 0 := by
  obtain ⟨k, rfl⟩ := Nat.exists_eq_add_of_le (Nat.succ_le_of_lt hi)
  have hdvd : 2 ^ (i + 1) ∣ w.toNat / 2 ^ lo :=
    (pow_dvd_pow 2 (Nat.le_add_right (i + 1) k)).trans (Nat.dvd_of_mod_eq_zero h)
  obtain ⟨m, hm⟩ := hdvd
  rw [fld, pow_add, ← Nat.div_div_eq_div_mul, hm, pow_succ, Nat.mul_assoc, Nat.mul_div_cancel_left _ (by positivity)]
  exact Nat.mul_mod_right 2 m

/-- A field with a bit set is not zero. -/
theorem State.rf_ne_zero {a lo n i : Nat} (h : s.bit a (lo + i) = true) (hi : i < n) : s.rf a lo n ≠ 0 := by
  intro hz
  simp [State.bit, State.rf, fld_bit_of_zero hz hi] at h

end Sys2Proof.Machine
end

section
/-! PROOFS. Patterns and trip inputs: turning on under a pattern (R84, R335), the balls under pin control (R594), a trip input with
its clear (R338, R344), and the pulse on TRIP_O[1] (R67). -/

namespace Sys2Proof.Machine

open Safety

variable (s : State)

/-! ### Turning on under a pattern (R335) -/

/-- The other switch of a leg. -/
def legOther (g : Nat) : Nat := if g % 2 = 0 then g + 1 else g - 1

theorem State.gate_setGate (g h : Nat) (b : Bool) : (s.setGate g b).gate h = if h = g then b else s.gate h :=
  Tab.get_set _ _ _ _ _

theorem State.patternTurnOn_on {g : Nat} (hcmd : s.padCmd g = .on) (hoff : s.gate (legOther g) = false) :
    s.patternTurnOn g = s.setGate g true := if_pos (by simp [hcmd, show s.gate (if g % 2 = 0 then g + 1 else g - 1) = false from hoff])

theorem State.patternTurnOn_blocked {g : Nat} (hon : s.gate (legOther g) = true) : s.patternTurnOn g = s :=
  if_neg (by simp [show s.gate (if g % 2 = 0 then g + 1 else g - 1) = true from hon])

/-- A switch alone turns on. -/
theorem State.setGate_spec (g : Nat) : (s.setGate g true).gate g = true ∧
    (∀ h, h ≠ g → (s.setGate g true).gate h = s.gate h) ∧ Raises s (s.setGate g true) [] ∧
      ({ s.setGate g true with prot.gate := s.prot.gate } : State) = s :=
  ⟨by rw [s.gate_setGate, if_pos rfl], fun h hne => by rw [s.gate_setGate, if_neg hne], raises_none rfl, rfl⟩

section TurnOn

variable {s} {g : Gate} (hon : s.onMain = true)

include hon

theorem does_flintFsDtTurnOn (hcmd : s.padCmd g.val = .on) (hov : s.clk.override = true) (hoff : s.gate (legOther g.val) = false) :
    Does (.flintFsDtTurnOn g) s fun u => u.gate g.val = true ∧ (∀ h, h ≠ g.val → u.gate h = s.gate h) ∧ Raises s u [] ∧
      ({ u with prot.gate := s.prot.gate } : State) = s := by
  refine Does_access s _ rfl hon ?_
  rw [if_pos hov, s.patternTurnOn_on hcmd hoff]
  exact s.setGate_spec g.val

theorem leaves_flintFsDtTurnOn (hother : s.gate (legOther g.val) = true) : Leaves (.flintFsDtTurnOn g) s := by
  refine Leaves_access s _ rfl hon ?_
  rw [s.patternTurnOn_blocked hother, ite_self]

end TurnOn

variable {s}

theorem does_fsDtTurnOn {g : Gate} (hcmd : s.padCmd g.val = .on) (hoff : s.gate (legOther g.val) = false) :
    Does (.fsDtTurnOn g) s fun u => u.gate g.val = true ∧ (∀ h, h ≠ g.val → u.gate h = s.gate h) ∧ Raises s u [] ∧
      ({ u with prot.gate := s.prot.gate } : State) = s :=
  ⟨s.setGate g.val true, congrArg State.finish (s.patternTurnOn_on hcmd hoff), s.setGate_spec g.val⟩

theorem leaves_fsDtTurnOn {g : Gate} (hother : s.gate (legOther g.val) = true) : Leaves (.fsDtTurnOn g) s :=
  congrArg State.finish (s.patternTurnOn_blocked hother)

/-! ### The balls under pin control (R594) -/

theorem balls_of_pinControl (h : s.pinControl = true) (g c n : Nat) (low : Bool) : s.gateBall g = false ∧ s.bypBall c = false ∧
    s.hbBall = false ∧ s.soutBall n low = false := by
  simp [State.gateBall, State.bypBall, State.hbBall, State.soutBall, h]

/-! ### A trip input (R338) -/

theorem State.pair_of_pwm {t : State} (h : t.pwm = s.pwm) (q : Nat) : t.pair q = s.pair q :=
  congrArg (fun w : Pwm => w.pairs.at q {}) h

variable (s)

/-- No turn-on is pending behind their cancellation (R335). -/
theorem State.cancelAll_pend : ∀ q < 96, (s.cancelAll.pair q).pend = none :=
  State.each_setPair (P := fun p => p.pend = none) s (fun t q => { t.pair q with pend := none }) (fun _ _ => rfl) 96

/-- The registers a trip input shows in, before the balls follow. -/
def State.showTrip (s : State) (n : Nat) : State :=
  ((s.wbit Reg.GPR_TRIPI (16 + n) true).wbit Reg.GPR_TRIPI (8 + n) true).wbit Reg.GPR_FLAGS 4 true

variable {n : Nat} (hn : n < 4)

include hn

theorem tripInput_latches (hen : s.bit Reg.GPR_TRIPI n = true) (hfree : s.bit Reg.GPR_TRIPI (8 + n) = false) :
    tripInput n s = ((s.showTrip n).cancelAll.settle).raise 0x0805 n [n] := by
  have hcond : ((s.wbit Reg.GPR_TRIPI (16 + n) true).bit Reg.GPR_TRIPI n &&
      !(s.wbit Reg.GPR_TRIPI (16 + n) true).bit Reg.GPR_TRIPI (8 + n)) = true := by
    rw [s.bit_wbit_apart _ _ (by omega) (by omega), s.bit_wbit_apart _ _ (by omega) (by omega), hen, hfree]
    rfl
  exact if_pos hcond

theorem tripInput_disabled (hen : s.bit Reg.GPR_TRIPI n = false) : tripInput n s = s.wbit Reg.GPR_TRIPI (16 + n) true := by
  have hcond : (s.wbit Reg.GPR_TRIPI (16 + n) true).bit Reg.GPR_TRIPI n = false := by
    rw [s.bit_wbit_apart _ _ (by omega) (by omega), hen]
  exact if_neg (by simp [hcond])

theorem State.showTrip_latched : (s.showTrip n).bit Reg.GPR_TRIPI (8 + n) = true := by
  rw [State.showTrip, State.bit_wbit_ne _ _ _ _ (by decide), State.bit_wbit_same _ _ _ (by omega)]

omit hn in
theorem State.showTrip_drivesOnly (n : Nat) : DrivesOnly [Reg.GPR_TRIPI, Reg.GPR_FLAGS, Reg.GPR_BYPO] s (s.showTrip n) :=
  ((s.wr_drivesOnly _ (by decide)).trans (State.wr_drivesOnly _ _ (by decide))).trans (State.wr_drivesOnly _ _ (by decide))


/-- An enabled trip input latches and applies the cluster's pattern (R338). -/
theorem tripInput_spec (hen : s.bit Reg.GPR_TRIPI n = true) (hfree : s.bit Reg.GPR_TRIPI (8 + n) = false) {u : State}
    (hu : u = tripInput n s) : u.bit Reg.GPR_TRIPI (8 + n) = true ∧ u.clusterPattern = true ∧ (∀ q < 96, (u.pair q).pend = none) ∧
      u.sys.hbOut = s.sys.hbOut ∧ u.devState = s.devState ∧ Raises s u [(0x0805, n, [n])] ∧
      KeepsRegs s u [Reg.GPR_TRIPI, Reg.GPR_FLAGS, Reg.GPR_BYPO] ∧ KeepsMem s u := by
  have hballs : DrivesOnly [Reg.GPR_BYPO] (s.showTrip n) (s.showTrip n).cancelAll.settle :=
    (State.cancelAll_drivesOnly _ _).trans (State.settle_drivesOnly _)
  have hdrive := (s.showTrip_drivesOnly n).trans (hballs.mono (by decide))
  have hlatched : (s.showTrip n).cancelAll.settle.bit Reg.GPR_TRIPI (8 + n) = true :=
    (State.bit_of_rg _ (hballs.rg (by decide))).trans (s.showTrip_latched hn)
  have hpend : ∀ q < 96, ((s.showTrip n).cancelAll.settle.pair q).pend = none := fun q hq => by
    rw [State.pair_of_pwm (State.settle_pwm _)]
    exact (s.showTrip n).cancelAll_pend q hq
  rw [tripInput_latches s hn hen hfree] at hu
  generalize (s.showTrip n).cancelAll.settle = t at hu hdrive hlatched hpend
  subst hu
  refine ⟨hlatched, ?_, hpend, congrArg Sys.hbOut hdrive.sys, State.rf_of_rg 0 4 (hdrive.rg (by decide)),
    raises_trans hdrive.raises (t.raise_raises _ _ _) hdrive.tim, hdrive.1, hdrive.sameTick.keepsMem⟩
  have hfield : t.rf Reg.GPR_TRIPI 8 4 ≠ 0 := t.rf_ne_zero hlatched hn
  have hpattern : t.clusterPattern = true := by simp [State.clusterPattern, hfield]
  exact hpattern

omit hn in
/-- A trip input that is not enabled shows its level alone. -/
theorem State.showLevel_spec {m : Nat} (hm : m < 4) (level : Bool) {u : State} (hu : u = s.wbit Reg.GPR_TRIPI (16 + m) level) :
    u.rf Reg.GPR_TRIPI 0 16 = s.rf Reg.GPR_TRIPI 0 16 ∧ Raises s u [] ∧ KeepsRegs s u [Reg.GPR_TRIPI] ∧ OnlyRegs s u := by
  subst hu
  exact ⟨s.rf_wbit_apart _ _ (by omega) (.inr (by omega)), raises_none rfl, (s.wr_drivesOnly _ (by decide)).1, rfl⟩

/-! ### Clearing a trip input (R338, R343, R344) -/

omit hn

/-- Pairs that hold their command behind a clear show in no register. -/
theorem State.holdCell_drivesOnly (l : List Nat) (c : Nat) (own : Bool) : DrivesOnly l s (s.holdCell c own) := by
  have hpairs : DrivesOnly l s (s.each 4 fun s i => s.setPair (4 * c + i) ((s.pair (4 * c + i)).holding own)) :=
    DrivesOnly.each (fun i _ t => t.setPair_drivesOnly l _ _) s
  refine hpairs.trans (DrivesOnly.ite ⟨fun _ _ => rfl, _, _, _, _, _, rfl⟩ (DrivesOnly.refl l _))

/-- The release of the cluster pattern shows in GPR_BYPO alone. -/
theorem State.releasePattern_drivesOnly : DrivesOnly [Reg.GPR_BYPO] s s.releasePattern :=
  DrivesOnly.ite s.settle_drivesOnly
    ((DrivesOnly.each (fun c _ t => DrivesOnly.ite (t.holdCell_drivesOnly _ c false) (DrivesOnly.refl _ t)) s).trans
      (State.settle_drivesOnly _))

theorem State.clearDone_done (scope index : Nat) :
    s.clearDone scope index 0 = (s.wn Reg.GPR_CLR_STAT (scope + index * 4 + 1024)).raise 0x0820 0 [scope, index] := by
  simp [State.clearDone]

theorem State.clearDone_refused (scope index : Nat) {reason : Nat} (h : reason ≠ 0) : s.clearDone scope index reason =
    ((s.wn Reg.GPR_CLR_STAT (scope + index * 4 + 2048 + reason * 4096)).wbit Reg.GPR_FLAGS 7 true).raise 0x0821 0
      [scope, index, reason] := by
  simp [State.clearDone, h]

/-- A clear that is done answers in GPR_CLR_STAT and with event 0x0820 (R343). -/
theorem State.clearDone_answer {scope index : Nat} (hs : scope < 4) (hi : index < 256) :
    ClearAnswer s (s.clearDone scope index 0) scope index 0 := by
  rw [s.clearDone_done]
  refine ⟨?_, rfl, fun h => absurd rfl h⟩
  rw [State.rn_raise, State.rn_wn, if_pos rfl, if_pos rfl, Nat.mod_eq_of_lt (by omega)]

/-- A clear that is refused answers in GPR_CLR_STAT, with CLRREF, and with event 0x0821 and its reason (R343). -/
theorem State.clearRefused_answer {scope index reason : Nat} (hs : scope < 4) (hi : index < 256) (hr : reason < 16)
    (h : reason ≠ 0) : ClearAnswer s (s.clearDone scope index reason) scope index reason := by
  rw [s.clearDone_refused _ _ h]
  refine ⟨?_, by rw [if_neg h]; rfl, fun _ => ?_⟩
  · rw [State.rn_raise, State.rn_of_rg (State.rg_wbit_ne _ _ _ (by decide)), State.rn_wn, if_pos rfl, if_neg h,
      Nat.mod_eq_of_lt (by omega)]
  · rw [State.bit_raise, State.bit_wbit_same _ _ _ (by decide)]

theorem State.clearDone_bit (scope index reason i : Nat) :
    (s.clearDone scope index reason).bit Reg.GPR_TRIPI i = s.bit Reg.GPR_TRIPI i := by
  rcases eq_or_ne reason 0 with rfl | h
  · rw [s.clearDone_done, State.bit_raise, State.bit_wn_ne _ _ _ (by decide)]
  · rw [s.clearDone_refused _ _ h, State.bit_raise, State.bit_wbit_ne _ _ _ _ (by decide), State.bit_wn_ne _ _ _ (by decide)]

/-- The machine that a clear of trip input `n` meets: the level of the input is shown, and the key slot is used. -/
def State.clearing (s : State) (src : Src) (n : Nat) (level : Bool) : State :=
  (s.wbit Reg.GPR_TRIPI (16 + n) level).disarm src

theorem State.clearing_bit (src : Src) {n i : Nat} (level : Bool) (hn : n < 4) (hi : i ≠ 16 + n) :
    (s.clearing src n level).bit Reg.GPR_TRIPI i = s.bit Reg.GPR_TRIPI i := s.bit_wbit_apart _ _ (by omega) hi

theorem State.clearing_level (src : Src) {n : Nat} (level : Bool) (hn : n < 4) :
    (s.clearing src n level).bit Reg.GPR_TRIPI (16 + n) = level := s.bit_wbit_same _ _ (by omega)

variable {s} {n : Nat}

theorem exec_clearTrip (src : Src) (v : BitVec 8) (level : Bool) (s : State) : exec (.clearTrip src v level) s =
    s.access fun s => (if v.toNat < 4 then s.wbit Reg.GPR_TRIPI (16 + v.toNat) level else s).keyed src Reg.GPR_CLR
      (clearTrip v.toNat) := rfl

/-- A clear of a trip input whose key passes. -/
theorem does_clearTrip {src : Src} {P : State → Prop} (hn : n < 4) (level : Bool) (hk : KeyPasses s src Reg.GPR_CLR)
    (h : P (clearTrip n (s.clearing src n level))) : Does (.clearTrip src (BitVec.ofNat 8 n) level) s P := by
  obtain ⟨hon, hw, hkey⟩ := hk
  have hmod : (BitVec.ofNat 8 n).toNat = n := by rw [BitVec.toNat_ofNat]; exact Nat.mod_eq_of_lt (by omega)
  refine ⟨clearTrip n (s.clearing src n level), ?_, h⟩
  rw [exec_clearTrip, State.access_on s _ hon, hmod, if_pos hn, State.keyed_pass (s.wbit Reg.GPR_TRIPI (16 + n) level) src _ _ hw hkey]
  rfl

/-- Raising behind a change of the key slots and of registers raises the same. -/
theorem clearAnswer_of_evt {t u : State} {scope index reason : Nat} (he : t.evt = s.evt) (ht : t.tim = s.tim)
    (h : ClearAnswer t u scope index reason) : ClearAnswer s u scope index reason := by
  simpa only [ClearAnswer, Raises, he, ht] using h

theorem DrivesOnly.keys {l : List Nat} {s t : State} (h : DrivesOnly l s t) : t.keys = s.keys := by
  obtain ⟨_, _, _, _, _, _, rfl⟩ := h
  rfl

/-- A clear leaves keys, memories and protection. -/
theorem State.clearDone_fields (s : State) (scope index reason : Nat) : (s.clearDone scope index reason).keys = s.keys ∧
    (s.clearDone scope index reason).mem = s.mem ∧ (s.clearDone scope index reason).prot = s.prot := by
  rcases eq_or_ne reason 0 with rfl | h
  · rw [s.clearDone_done]
    simp
  · rw [s.clearDone_refused _ _ h]
    simp

/-- A trip latch whose input is not asserted is cleared (R338, R344). -/
theorem clearTrip_done {src : Src} {level : Bool} (hn : n < 4) (hlatch : s.bit Reg.GPR_TRIPI (8 + n) = true)
    (hfree : level = false ∨ s.bit Reg.GPR_TRIPI n = false) {u : State} (hu : u = clearTrip n (s.clearing src n level)) :
    u.bit Reg.GPR_TRIPI (8 + n) = false ∧ ClearAnswer s u 3 n 0 ∧ u.slot src = {} ∧ KeepsMem s u := by
  have hgone : (s.bit Reg.GPR_TRIPI n && level) = false := by rcases hfree with h | h <;> simp [h]
  have heq : clearTrip n (s.clearing src n level) =
      (((s.clearing src n level).wbit Reg.GPR_TRIPI (8 + n) false).releasePattern).clearDone 3 n 0 := by
    unfold clearTrip
    rw [s.clearing_level src level hn, s.clearing_bit src level hn (i := n) (by omega), s.clearing_bit src level hn (i := 8 + n) (by omega), hlatch, hgone,
      if_neg (by omega), if_neg Bool.false_ne_true, if_neg (by simp)]
  have hrel := ((s.clearing src n level).wbit Reg.GPR_TRIPI (8 + n) false).releasePattern_drivesOnly
  have hbit : ((s.clearing src n level).wbit Reg.GPR_TRIPI (8 + n) false).releasePattern.bit Reg.GPR_TRIPI (8 + n) = false :=
    (State.bit_of_rg _ (hrel.rg (by decide))).trans (State.bit_wbit_same _ _ _ (by omega))
  rw [heq] at hu
  generalize ((s.clearing src n level).wbit Reg.GPR_TRIPI (8 + n) false).releasePattern = t at hu hrel hbit
  subst hu
  obtain ⟨hkeys, hmem, -⟩ := t.clearDone_fields 3 n 0
  refine ⟨(t.clearDone_bit _ _ _ _).trans hbit, clearAnswer_of_evt hrel.evt hrel.tim (t.clearDone_answer (by omega) (by omega)), ?_, ?_⟩
  · rw [State.slot, hkeys, hrel.keys]
    exact State.slot_disarm _ src
  · intro a
    rw [State.byte, hmem, hrel.mem]
    rfl

/-- A trip latch whose input is asserted stays (R344). -/
theorem clearTrip_refused {src : Src} (hn : n < 4) (hlatch : s.bit Reg.GPR_TRIPI (8 + n) = true)
    (hen : s.bit Reg.GPR_TRIPI n = true) {u : State} (hu : u = clearTrip n (s.clearing src n true)) :
    u.bit Reg.GPR_TRIPI (8 + n) = true ∧ ClearAnswer s u 3 n 1 ∧ u.slot src = {} ∧ KeepsMem s u ∧ u.prot = s.prot := by
  have heq : clearTrip n (s.clearing src n true) = (s.clearing src n true).clearDone 3 n 1 := by
    unfold clearTrip
    rw [s.clearing_level src true hn, s.clearing_bit src true hn (i := n) (by omega), hen, if_neg (by omega), if_pos (by rfl)]
  rw [heq] at hu
  subst hu
  obtain ⟨hkeys, hmem, hprot⟩ := (s.clearing src n true).clearDone_fields 3 n 1
  have hanswer := State.clearRefused_answer (s.clearing src n true) (scope := 3) (index := n) (reason := 1) (by omega) (by omega)
    (by omega) (by omega)
  refine ⟨?_, clearAnswer_of_evt (t := s.clearing src n true) rfl rfl hanswer, ?_, ?_, hprot⟩
  · rw [State.clearDone_bit, s.clearing_bit src true hn (by omega), hlatch]
  · rw [State.slot, hkeys]
    exact State.slot_disarm _ src
  · intro a
    rw [State.byte, hmem]
    rfl

/-! ### The pulse on TRIP_O[1] (R67) -/

theorem bitOf_withBit_false {m i : Nat} (h : bitOf m i = true) : bitOf (withBit m i false) i = false := by
  obtain ⟨k, hk⟩ : ∃ k, m = k + 2 ^ i := ⟨m - 2 ^ i, (Nat.sub_add_cancel (Nat.le_of_not_lt fun hlt => by
    simp [bitOf, Nat.div_eq_of_lt hlt] at h)).symm⟩
  subst hk
  simp only [bitOf, Nat.add_div_right _ (Nat.two_pow_pos i), beq_iff_eq] at h
  have hw : withBit (k + 2 ^ i) i false = k := by
    simp [withBit, bitOf, Nat.add_div_right _ (Nat.two_pow_pos i), h]
  rw [hw]
  simp only [bitOf, beq_eq_false_iff_ne]
  omega

theorem tripPulseEnd_spec (hc : s.compat = true) (hp : bitOf s.sys.tripO 1 = true) {u : State} (hu : u = tripPulseEnd s) :
    bitOf u.sys.tripO 1 = false ∧ Raises s u [] ∧ ({ u with sys := s.sys, out := s.out } : State) = s := by
  have heq : tripPulseEnd s = s.driveTrip 1 false := if_pos (by rw [hc, hp]; rfl)
  rw [hu, heq]
  exact ⟨bitOf_withBit_false hp, raises_none rfl, rfl⟩

theorem tripPulseEnd_idle (h : s.compat = false ∨ bitOf s.sys.tripO 1 = false) : tripPulseEnd s = s :=
  if_neg (by rcases h with h | h <;> simp [h])

end Sys2Proof.Machine

open Sys2Proof Sys2Proof.Machine Sys2Proof.Safety

/-- Settles O17: a pattern turns on the switch whose leg allows it, and a trip input latches the cluster's pattern until it is
cleared. -/
theorem patternsAndTripInputs : Obligations.PatternsAndTripInputs := by
  unfold Obligations.PatternsAndTripInputs
  refine ⟨fun s g hon hcmd => ⟨fun hov hoff => does_flintFsDtTurnOn hon hcmd hov hoff, fun _ hoff => does_fsDtTurnOn hcmd hoff,
    fun hother => ⟨leaves_flintFsDtTurnOn hon hother, leaves_fsDtTurnOn hother⟩⟩, fun s src n g c low hrun => ?_⟩
  refine ⟨fun h => balls_of_pinControl h _ _ _ _, fun hen hfree => ?_, fun hen => ?_, fun hk hlatch => ⟨fun level hl => ?_, fun hen => ?_⟩,
    fun hc hp => ?_, fun h => ?_⟩
  · exact Does_main s _ rfl hrun (tripInput_spec s n.isLt hen hfree rfl)
  · exact Does_main s _ rfl hrun (s.showLevel_spec n.isLt true (tripInput_disabled s n.isLt hen))
  · exact does_clearTrip n.isLt level hk (clearTrip_done n.isLt hlatch hl rfl)
  · exact does_clearTrip n.isLt true hk (clearTrip_refused n.isLt hlatch hen rfl)
  · exact Does_main s tripPulseEnd rfl hrun (tripPulseEnd_spec hc hp rfl)
  · exact Leaves_main s tripPulseEnd rfl hrun (tripPulseEnd_idle h)
end

section
/-! PROOFS. What a step of the clock root leaves: registers outside those listed, and everything but its own hidden state. -/

namespace Sys2Proof.Machine

open Safety

variable (s : State)

/-! ### Steps of the clock root -/

/-- Sets the hidden state of the clock root. -/
def State.setClk (s : State) (c : Clk) : State := { s with clk := c }

@[simp] theorem State.rg_setClk (c : Clk) (a : Nat) : (s.setClk c).rg a = s.rg a := rfl

@[simp] theorem State.rf_setClk (c : Clk) (a lo n : Nat) : (s.setClk c).rf a lo n = s.rf a lo n := rfl

@[simp] theorem State.bit_setClk (c : Clk) (a i : Nat) : (s.setClk c).bit a i = s.bit a i := rfl

@[simp] theorem State.rn_setClk (c : Clk) (a : Nat) : (s.setClk c).rn a = s.rn a := rfl

@[simp] theorem State.clk_setClk (c : Clk) : (s.setClk c).clk = c := rfl

/-- Only the registers listed and the hidden state of the clock root differ, and the events listed are added. -/
structure RootStep (l : List Nat) (e : List (Nat × Nat × List Nat)) (s t : State) : Prop where
  regs : KeepsRegs s t l
  raises : Raises s t e
  only : ∃ r c b, t = { s with regs := r, clk := c, evt.batch := b }

namespace RootStep

variable {l l' : List Nat} {e f : List (Nat × Nat × List Nat)} {s t u : State}

theorem refl (l : List Nat) (s : State) : RootStep l [] s s := ⟨fun _ _ => rfl, raises_none rfl, _, _, _, rfl⟩

theorem tim (h : RootStep l e s t) : t.tim = s.tim := by obtain ⟨_, _, _, rfl⟩ := h.only; rfl

theorem keys (h : RootStep l e s t) : t.keys = s.keys := by obtain ⟨_, _, _, rfl⟩ := h.only; rfl

theorem now (h : RootStep l e s t) : t.now = s.now := by obtain ⟨_, _, _, rfl⟩ := h.only; rfl

theorem onlyRegsAnd (h : RootStep l e s t) : OnlyRegsAnd s t fun u => { u with clk := s.clk } := by
  obtain ⟨_, _, _, rfl⟩ := h.only
  rfl

/-- A step that leaves the hidden state of the clock root as it is. -/
theorem onlyRegs (h : RootStep l e s t) (hc : t.clk = s.clk) : OnlyRegs s t := by
  obtain ⟨r, c, b, rfl⟩ := h.only
  subst hc
  rfl

/-- A step that leaves the hidden state of the clock root but for the offsets of its references. -/
theorem onlyFreq (h : RootStep l e s t) {f : Tab (Option Int)} (hc : t.clk = { s.clk with freq := f }) :
    OnlyRegsAnd s t fun u => { u with clk.freq := s.clk.freq } := by
  obtain ⟨r, c, b, rfl⟩ := h.only
  subst hc
  rfl

theorem trans (h : RootStep l e s t) (k : RootStep l f t u) : RootStep l (e ++ f) s u := by
  refine ⟨fun a ha => (k.regs a ha).trans (h.regs a ha), raises_trans h.raises k.raises h.tim, ?_⟩
  obtain ⟨_, _, _, rfl⟩ := h.only
  obtain ⟨_, _, _, rfl⟩ := k.only
  exact ⟨_, _, _, rfl⟩

theorem mono (hl : ∀ a ∈ l, a ∈ l') (h : RootStep l e s t) : RootStep l' e s t :=
  ⟨fun a ha => h.regs a fun hm => ha (hl a hm), h.raises, h.only⟩

theorem wr (h : RootStep l e s t) {a : Nat} (v : Word) (ha : a ∈ l) : RootStep l e s (t.wr a v) := by
  refine ⟨fun b hb => ((t.wr_sameTick v ha).regs b hb).trans (h.regs b hb), h.raises, ?_⟩
  obtain ⟨_, _, _, rfl⟩ := h.only
  exact ⟨_, _, _, rfl⟩

theorem wf (h : RootStep l e s t) {a : Nat} (ha : a ∈ l) (lo n v : Nat) : RootStep l e s (t.wf a lo n v) := h.wr _ ha

theorem wbit (h : RootStep l e s t) {a : Nat} (ha : a ∈ l) (i : Nat) (b : Bool) : RootStep l e s (t.wbit a i b) := h.wr _ ha

theorem wn (h : RootStep l e s t) {a : Nat} (ha : a ∈ l) (v : Nat) : RootStep l e s (t.wn a v) := h.wr _ ha

theorem setClk (h : RootStep l e s t) (c : Clk) : RootStep l e s (t.setClk c) := by
  refine ⟨h.regs, h.raises, ?_⟩
  obtain ⟨_, _, _, rfl⟩ := h.only
  exact ⟨_, _, _, rfl⟩

theorem raise (h : RootStep l e s t) (c n : Nat) (d : List Nat) : RootStep l (e ++ [(c, n, d)]) s (t.raise c n d) := by
  refine ⟨h.regs, raises_trans h.raises (t.raise_raises c n d) h.tim, ?_⟩
  obtain ⟨_, _, _, rfl⟩ := h.only
  exact ⟨_, _, _, rfl⟩

theorem ite {p : Prop} [Decidable p] (h : RootStep l e s t) (k : RootStep l e s u) : RootStep l e s (if p then t else u) := by
  split
  · exact h
  · exact k

/-- A step behind the use of a key slot (R628). -/
theorem of_disarm {src : Src} (h : RootStep l e (s.disarm src) t) : t.slot src = {} ∧ Raises s t e ∧ KeepsRegs s t l ∧
    OnlyRegsAnd s t fun u => { u with clk := s.clk, keys := s.keys } := by
  refine ⟨?_, h.raises, h.regs, ?_⟩
  · rw [State.slot, h.keys]
    exact s.slot_disarm src
  · obtain ⟨_, _, _, rfl⟩ := h.only
    rfl

end RootStep

end Sys2Proof.Machine
end

section
/-! PROOFS. The band search, lock and the phase walk of the clock root (R73, R74, R80, R85). -/

namespace Sys2Proof.Machine

open Safety

/-! ### The band nearest mid-range (R73) -/

/-- Of two bands the one whose code settled nearer mid-range; the first of a tie. -/
def nearerBand (codes : List Nat) (best i : Nat) : Nat :=
  if offMid (codes.getD i 0) < offMid (codes.getD best 0) then i else best

theorem bestBand_eq (codes : List Nat) : bestBand codes = (List.range codes.length).foldl (nearerBand codes) 0 := rfl

theorem foldl_nearerBand (codes : List Nat) (n : Nat) : (List.range n).foldl (nearerBand codes) 0 < max 1 n ∧
    ∀ i < n, offMid (codes.getD ((List.range n).foldl (nearerBand codes) 0) 0) ≤ offMid (codes.getD i 0) := by
  induction n with
  | zero => exact ⟨Nat.one_pos, fun i hi => absurd hi (Nat.not_lt_zero i)⟩
  | succ n ih =>
    obtain ⟨hlt, hmin⟩ := ih
    rw [List.range_succ, List.foldl_append, List.foldl_cons, List.foldl_nil]
    generalize (List.range n).foldl (nearerBand codes) 0 = best at hlt hmin
    unfold nearerBand
    split
    case isTrue hnear =>
      refine ⟨by omega, fun i hi => ?_⟩
      rcases Nat.lt_succ_iff_lt_or_eq.1 hi with hi | rfl
      · exact hnear.le.trans (hmin i hi)
      · exact le_rfl
    case isFalse hfar =>
      refine ⟨by omega, fun i hi => ?_⟩
      rcases Nat.lt_succ_iff_lt_or_eq.1 hi with hi | rfl
      · exact hmin i hi
      · exact Nat.le_of_not_lt hfar

theorem getD_map_toNat (codes : List (BitVec 10)) (i : Nat) : (codes.map BitVec.toNat).getD i 0 = (codes.getD i 0).toNat := by
  rw [show (0 : Nat) = (0 : BitVec 10).toNat from rfl, List.getD_map]

/-- The band kept is one of the 32, and none settled nearer mid-range. -/
theorem bestBand_nearest {codes : List (BitVec 10)} (hlen : codes.length = 32) {best : Nat}
    (hbest : best = bestBand (codes.map BitVec.toNat)) :
    best < 32 ∧ ∀ i < 32, offMid (codes.getD best 0).toNat ≤ offMid (codes.getD i 0).toNat := by
  have hspec := foldl_nearerBand (codes.map BitVec.toNat) 32
  rw [show 32 = (codes.map BitVec.toNat).length by rw [List.length_map, hlen], ← bestBand_eq, ← hbest, List.length_map, hlen] at hspec
  obtain ⟨hlt, hmin⟩ := hspec
  refine ⟨hlt, fun i hi => ?_⟩
  rw [← getD_map_toNat, ← getD_map_toNat]
  exact hmin i hi

/-! ### Search -/

variable {s : State}

theorem searchStart_idle (h : s.integrity = true ∨ s.clk.failed = true) : searchStart s = s :=
  if_neg (by rcases h with h | h <;> simp [h])

/-- The machine with a band search begun. -/
def State.beginSearch (s : State) : State :=
  (s.wf Reg.CLK_STAT 0 3 0).setClk { s.clk with searching := true, searchDue := false }

theorem searchStart_due (hi : s.integrity = false) (hdue : s.clk.searchDue = true) (hf : s.clk.failed = false)
    (hq : s.refQualified false = true ∨ s.refQualified true = true) : searchStart s = s.beginSearch :=
  if_pos (by rcases hq with hq | hq <;> simp [hi, hdue, hf, hq])

theorem State.beginSearch_step : RootStep [Reg.CLK_STAT] [] s s.beginSearch :=
  ((RootStep.refl _ s).wf (by decide) _ _ _).setClk _

theorem does_bandSearchStart (hrun : s.running = true) (hi : s.integrity = false) (hdue : s.clk.searchDue = true)
    (hf : s.clk.failed = false) (hq : s.refQualified false = true ∨ s.refQualified true = true) :
    Does .bandSearchStart s fun u => u.clkState = 0 ∧ u.clk.searching = true ∧ u.clk.searchDue = false ∧
      Raises s u [] ∧ KeepsRegs s u [Reg.CLK_STAT] ∧ OnlyRegsAnd s u fun u => { u with clk := s.clk } := by
  have hstep := s.beginSearch_step
  refine Does_main s searchStart rfl hrun ?_
  rw [searchStart_due hi hdue hf hq]
  exact ⟨s.rf_wf_same _ _ _ _ (by decide), rfl, rfl, hstep.raises, hstep.regs, hstep.onlyRegsAnd⟩

/-! ### Lock and failure (R73, R74, R557, R559) -/

/-- GLB_STAT.STATE behind the clock root's part of start-up: `v` where the device waited for it in state CLOCK. -/
def State.leaveClock (s : State) (v : Nat) : State := if s.devState = 2 then s.wf Reg.GLB_STAT 0 4 v else s

theorem State.leaveClock_devState (s : State) {v : Nat} (hv : v < 16) :
    (s.leaveClock v).devState = if s.devState = 2 then v else s.devState := by
  unfold State.leaveClock
  split
  · rw [State.devState, s.rf_wf_same _ _ _ _ (by decide)]
    exact Nat.mod_eq_of_lt hv
  · rfl

theorem State.leaveClock_rg (s : State) (v : Nat) {a : Nat} (h : a ≠ Reg.GLB_STAT) : (s.leaveClock v).rg a = s.rg a := by
  unfold State.leaveClock
  split
  · exact s.rg_wf_ne _ _ _ h
  · rfl

theorem State.leaveClock_clk (s : State) (v : Nat) : (s.leaveClock v).clk = s.clk := by
  unfold State.leaveClock
  split <;> rfl

/-- The search is over with lock: a counter stopped for it resumes. -/
def State.endSearch (s : State) : State :=
  { s with clk := { s.clk with searching := false, locked := true, goodWindows := 0 }, tim.stopped := false }

/-- CLK_STAT and CLK_BAND show the lock on reference `r`. -/
def State.showLock (s : State) (r : Bool) (band code : Nat) : State :=
  (((s.wf Reg.CLK_STAT 0 3 2).wbit Reg.CLK_STAT 3 r).wf Reg.CLK_BAND 0 5 band).wf Reg.CLK_BAND 8 10 code

/-- The preferred reference if it is qualified, else the other one (R71). -/
def State.lockRef (s : State) : Bool := if s.refQualified (s.bit Reg.CLK_CFG 0) then s.bit Reg.CLK_CFG 0 else !s.bit Reg.CLK_CFG 0

theorem lockDeclared_idle {codes : List Nat} {code : Nat} (h : s.integrity = true) : lockDeclared codes code s = s :=
  if_pos (by simp [h])

theorem lockDeclared_searching {codes : List Nat} {code : Nat} (hs : s.clk.searching = true) (hi : s.integrity = false) :
    lockDeclared codes code s =
      ((s.endSearch.showLock s.lockRef (bestBand codes) code).leaveClock 3).raise 0x0101 0 [bestBand codes, code] :=
  if_neg (by simp [hs, hi])

theorem State.showLock_clkState (r : Bool) (band code : Nat) : (s.showLock r band code).clkState = 2 := by
  rw [State.clkState, State.showLock, State.rf_wf_ne _ _ _ _ _ _ (by decide), State.rf_wf_ne _ _ _ _ _ _ (by decide),
    State.rf_wbit_apart _ _ _ (by decide) (.inr (by decide)), State.rf_wf_same _ _ _ _ _ (by decide)]
  rfl

theorem State.showLock_clkSel (r : Bool) (band code : Nat) : (s.showLock r band code).clkSel = r := by
  have hband : (s.showLock r band code).rg Reg.CLK_STAT = ((s.wf Reg.CLK_STAT 0 3 2).wbit Reg.CLK_STAT 3 r).rg Reg.CLK_STAT :=
    (State.rg_wf_ne _ _ _ _ (by decide)).trans (State.rg_wf_ne _ _ _ _ (by decide))
  rw [State.clkSel, State.bit_of_rg 3 hband, State.bit_wbit_same _ _ _ (by decide)]

theorem State.showLock_band (r : Bool) {band : Nat} (code : Nat) (hb : band < 32) :
    (s.showLock r band code).rf Reg.CLK_BAND 0 5 = band := by
  rw [State.showLock, State.rf_wf_apart _ _ _ (by decide) (.inr (by decide)), State.rf_wf_same _ _ _ _ _ (by decide)]
  exact Nat.mod_eq_of_lt hb

theorem State.showLock_code (r : Bool) (band : Nat) {code : Nat} (hc : code < 1024) :
    (s.showLock r band code).rf Reg.CLK_BAND 8 10 = code :=
  (State.rf_wf_same _ _ _ _ _ (by decide)).trans (Nat.mod_eq_of_lt hc)

theorem RootStep.showLock {l : List Nat} {e : List (Nat × Nat × List Nat)} {t : State} (h : RootStep l e s t)
    (hl : ∀ a ∈ [Reg.CLK_STAT, Reg.CLK_BAND], a ∈ l) (r : Bool) (band code : Nat) : RootStep l e s (t.showLock r band code) :=
  (((h.wf (hl _ (by decide)) _ _ _).wbit (hl _ (by decide)) _ _).wf (hl _ (by decide)) _ _ _).wf (hl _ (by decide)) _ _ _

theorem RootStep.leaveClock {l : List Nat} {e : List (Nat × Nat × List Nat)} {t : State} (h : RootStep l e s t)
    (hl : Reg.GLB_STAT ∈ l) (v : Nat) : RootStep l e s (t.leaveClock v) :=
  RootStep.ite (h.wf hl _ _ _) h

theorem does_lockDeclared (hrun : s.running = true) (hs : s.clk.searching = true) (hi : s.integrity = false)
    {codes : List (BitVec 10)} (hlen : codes.length = 32) (code : BitVec 10) {best : Nat}
    (hbest : best = bestBand (codes.map BitVec.toNat)) : Does (.lockDeclared codes code) s fun u =>
      u.clkState = 2 ∧ u.clkSel = (if s.refQualified (s.bit Reg.CLK_CFG 0) then s.bit Reg.CLK_CFG 0 else !s.bit Reg.CLK_CFG 0) ∧
      u.rf Reg.CLK_BAND 0 5 = best ∧ best < 32 ∧
      (∀ i < 32, offMid (codes.getD best 0).toNat ≤ offMid (codes.getD i 0).toNat) ∧ u.rf Reg.CLK_BAND 8 10 = code.toNat ∧
      u.devState = (if s.devState = 2 then 3 else s.devState) ∧ u.clk.searching = false ∧ u.clk.locked = true ∧
      u.tim.stopped = false ∧ Raises s u [(0x0101, 0, [best, code.toNat])] ∧
      KeepsRegs s u [Reg.CLK_STAT, Reg.CLK_BAND, Reg.GLB_STAT] ∧
      OnlyRegsAnd s u fun u => { u with clk := s.clk, tim.stopped := s.tim.stopped } := by
  obtain ⟨hlt, hmin⟩ := bestBand_nearest hlen hbest
  refine Does_main s (lockDeclared (codes.map BitVec.toNat) code.toNat) rfl hrun ?_
  rw [lockDeclared_searching hs hi, ← hbest]
  set t := s.endSearch.showLock s.lockRef best code.toNat with ht
  have hclk : (t.leaveClock 3).clk = s.endSearch.clk := t.leaveClock_clk 3
  have hstat : (t.leaveClock 3).rg Reg.CLK_STAT = t.rg Reg.CLK_STAT := t.leaveClock_rg 3 (by decide)
  have hband : (t.leaveClock 3).rg Reg.CLK_BAND = t.rg Reg.CLK_BAND := t.leaveClock_rg 3 (by decide)
  have hdev : t.devState = s.devState :=
    State.rf_of_rg 0 4 (((RootStep.refl _ s.endSearch).showLock (fun _ h => h) _ _ _).regs _ (by decide))
  have hstep : RootStep [Reg.CLK_STAT, Reg.CLK_BAND, Reg.GLB_STAT] [(0x0101, 0, [best, code.toNat])] s.endSearch
      ((t.leaveClock 3).raise 0x0101 0 [best, code.toNat]) :=
    (((RootStep.refl _ s.endSearch).showLock (by decide) _ _ _).leaveClock (by decide) 3).raise _ _ _
  have htim := hstep.tim
  refine ⟨(State.rf_of_rg 0 3 hstat).trans (State.showLock_clkState _ _ _), (State.bit_of_rg 3 hstat).trans (State.showLock_clkSel _ _ _),
    (State.rf_of_rg 0 5 hband).trans (State.showLock_band _ _ hlt), hlt, hmin,
    (State.rf_of_rg 8 10 hband).trans (State.showLock_code _ _ code.isLt), ?_, congrArg Clk.searching hclk, congrArg Clk.locked hclk,
    congrArg Tim.stopped htim, hstep.raises, hstep.regs, ?_⟩
  · rw [← hdev]
    exact t.leaveClock_devState (by decide)
  · obtain ⟨r, c, b, hu⟩ := hstep.only
    rw [hu]
    rfl

/-- The search is over without lock: the last band tried stays in use, with a control code that is free. -/
def State.giveUp (s : State) (band : Nat) : State :=
  ((s.draw.wf Reg.CLK_BAND 0 5 band).wf Reg.CLK_BAND 8 10 (Config.failedCode s.free)).setClk
    { s.clk with searching := false, failed := true }

theorem searchFailed_idle {band : Nat} (h : s.integrity = true) : searchFailed band s = s := if_pos (by simp [h])

theorem searchFailed_searching {band : Nat} (hs : s.clk.searching = true) (hi : s.integrity = false) :
    searchFailed band s = ((s.giveUp band).leaveClock 15).raise 0x0113 0 [band] := if_neg (by simp [hs, hi])

theorem does_bandSearchFailed (hrun : s.running = true) (hs : s.clk.searching = true) (hi : s.integrity = false) (band : Fin 32) :
    Does (.bandSearchFailed band) s fun u =>
      u.clk.searching = false ∧ u.clk.failed = true ∧ u.devState = (if s.devState = 2 then 15 else s.devState) ∧
      u.rf Reg.CLK_BAND 0 5 = band.val ∧ Raises s u [(0x0113, 0, [band.val])] ∧ KeepsRegs s u [Reg.GLB_STAT, Reg.CLK_BAND] ∧
      OnlyRegsAnd s u fun u => { u with clk := s.clk, free := s.free } := by
  refine Does_main s (searchFailed band.val) rfl hrun ?_
  rw [searchFailed_searching hs hi]
  set t := s.giveUp band.val with ht
  have hclk : (t.leaveClock 15).clk = { s.clk with searching := false, failed := true } := t.leaveClock_clk 15
  have hgive : RootStep [Reg.CLK_BAND] [] s.draw t := (((RootStep.refl _ s.draw).wf (by decide) _ _ _).wf (by decide) _ _ _).setClk _
  have hdev : t.devState = s.devState := State.rf_of_rg 0 4 (hgive.regs _ (by decide))
  have hband : t.rf Reg.CLK_BAND 0 5 = band.val := by
    rw [ht, State.giveUp, State.rf_setClk, State.rf_wf_apart _ _ _ (by decide) (.inr (by decide)),
      State.rf_wf_same _ _ _ _ _ (by decide)]
    exact Nat.mod_eq_of_lt band.isLt
  have hstep : RootStep [Reg.GLB_STAT, Reg.CLK_BAND] [(0x0113, 0, [band.val])] s.draw ((t.leaveClock 15).raise 0x0113 0 [band.val]) :=
    ((hgive.mono (by decide)).leaveClock (by decide) 15).raise _ _ _
  refine ⟨congrArg Clk.searching hclk, congrArg Clk.failed hclk, ?_,
    (State.rf_of_rg 0 5 (t.leaveClock_rg 15 (by decide))).trans hband, hstep.raises, hstep.regs, ?_⟩
  · rw [← hdev]
    exact t.leaveClock_devState (by decide)
  · obtain ⟨r, c, b, hu⟩ := hstep.only
    rw [hu]
    rfl

/-- Behind an integrity fault nothing searches or locks (R85). -/
theorem leaves_search (hrun : s.running = true) (hi : s.integrity = true) (band : Fin 32) (codes : List (BitVec 10)) (code : BitVec 10) :
    ∀ c ∈ [Instr.bandSearchStart, .lockDeclared codes code, .bandSearchFailed band], Leaves c s := by
  simp only [List.forall_mem_cons, List.not_mem_nil, false_imp_iff, implies_true, and_true]
  exact ⟨Leaves_main s searchStart rfl hrun (searchStart_idle (.inl hi)),
    Leaves_main s (lockDeclared (codes.map BitVec.toNat) code.toNat) rfl hrun (lockDeclared_idle hi),
    Leaves_main s (searchFailed band.val) rfl hrun (searchFailed_idle hi)⟩

end Sys2Proof.Machine
end

section
/-! PROOFS. The phase walk of the clock root (R80). With the search and lock this settles the obligation about them. -/

namespace Sys2Proof.Machine

open Safety

/-! ### A field within one that was set -/

/-- A field within one that was set reads that part of the value. -/
theorem fld_setFld_within (w : Word) {lo n lo' n' : Nat} (v : Nat) (h : lo + n ≤ 32) (hin : lo' + n' ≤ n) :
    fld (setFld w lo n v) (lo + lo') n' = v / 2 ^ lo' % 2 ^ n' := by
  have hsame := fld_setFld w lo n v h
  obtain ⟨k, rfl⟩ := Nat.exists_eq_add_of_le hin
  unfold fld at hsame ⊢
  rw [pow_add, ← Nat.div_div_eq_div_mul, ← Nat.mod_mul_right_div_self, ← pow_add,
    ← Nat.mod_mod_of_dvd _ (pow_dvd_pow 2 (Nat.le_add_right (lo' + n') k)), hsame,
    Nat.mod_mod_of_dvd _ (pow_dvd_pow 2 (Nat.le_add_right (lo' + n') k)), pow_add, Nat.mod_mul_right_div_self]

variable (s : State)

theorem State.rf_wf_within (a : Nat) {lo n lo' n' : Nat} (v : Nat) (h : lo + n ≤ 32) (hin : lo' + n' ≤ n) :
    (s.wf a lo n v).rf a (lo + lo') n' = v / 2 ^ lo' % 2 ^ n' := by
  rw [State.rf, State.rg_wf, if_pos rfl, fld_setFld_within _ _ h hin]

/-! ### Entering the walk -/

/-- CLK_COAST_T stands at the time spent coasting, and core-voltage requests go on (R78, R87). -/
def State.endCoast (s : State) : State := s.showCoast.wbit Reg.THW_AVS_STAT 11 false

/-- CLK_WALK and CLK_STAT show a walk from `theta` on reference `r`. -/
def State.showWalk (s : State) (r : Bool) (theta : Nat) : State :=
  ((s.wf Reg.CLK_WALK 0 16 (theta + 16384 + (decide (6400 < theta)).toNat * 32768)).wf Reg.CLK_STAT 0 3 4).wbit Reg.CLK_STAT 3 r

/-- Event 0x0107 and its flag, where the walk leads to the other reference. -/
def State.tellMoved (s : State) (moved r : Bool) (cause : Nat) : State :=
  if moved then (s.wbit Reg.CLK_FLAGS 4 true).raise 0x0107 0 [r.toNat, cause] else s

/-- A walk that begins. -/
def State.beginWalk (s : State) (r : Bool) (theta : Nat) : State :=
  ((s.endCoast.setClk { s.clk with target := none, walkSince := s.now }).showWalk r theta).raise 0x0105 0
    [theta, (decide (6400 < theta)).toNat]

theorem walkStart_coasting {theta : Nat} {r : Bool} {cause : Nat} (hst : s.clkState = 3) (hi : s.integrity = false)
    (htarget : s.clk.target = some (r, cause)) (hne : theta ≠ 0) :
    walkStart theta s = (s.beginWalk r theta).tellMoved (r != s.clkSel) r cause := by
  unfold walkStart
  rw [htarget]
  show (if (s.clkState != 3 || s.integrity) = true then s else _) = _
  rw [if_neg (by simp [hst, hi]), if_neg hne]
  rfl

theorem State.beginWalk_step (r : Bool) (theta : Nat) :
    RootStep [Reg.CLK_STAT, Reg.CLK_WALK, Reg.CLK_COAST_T, Reg.CLK_FLAGS, Reg.THW_AVS_STAT]
      [(0x0105, 0, [theta, (decide (6400 < theta)).toNat])] s (s.beginWalk r theta) :=
  ((((((RootStep.refl _ s).wn (by decide) _).wbit (by decide) _ _).setClk _).wf (by decide) _ _ _).wf (by decide) _ _ _).wbit
    (by decide) _ _ |>.raise _ _ _

theorem State.beginWalk_clkState (r : Bool) (theta : Nat) : (s.beginWalk r theta).clkState = 4 := by
  rw [State.clkState, State.beginWalk, State.rf_raise, State.showWalk, State.rf_wbit_apart _ _ _ (by decide) (.inr (by decide)),
    State.rf_wf_same _ _ _ _ _ (by decide)]
  rfl

theorem State.beginWalk_clkSel (r : Bool) (theta : Nat) : (s.beginWalk r theta).clkSel = r := by
  rw [State.clkSel, State.beginWalk, State.bit_raise, State.showWalk, State.bit_wbit_same _ _ _ (by decide)]

/-- CLK_WALK holds the delay, the mark of a walk under way and its direction. -/
theorem State.beginWalk_walk (r : Bool) {theta : Nat} (h : theta < 12800) : (s.beginWalk r theta).rf Reg.CLK_WALK 0 14 = theta ∧
    (s.beginWalk r theta).bit Reg.CLK_WALK 14 = true ∧ (s.beginWalk r theta).bit Reg.CLK_WALK 15 = decide (6400 < theta) := by
  have hwalk {lo n : Nat} (hin : lo + n ≤ 16) : (s.beginWalk r theta).rf Reg.CLK_WALK lo n =
      (theta + 16384 + (decide (6400 < theta)).toNat * 32768) / 2 ^ lo % 2 ^ n := by
    rw [State.beginWalk, State.rf_raise, State.showWalk, State.rf_wbit_ne _ _ _ _ _ (by decide),
      State.rf_wf_ne _ _ _ _ _ _ (by decide), ← State.rf_wf_within _ Reg.CLK_WALK (lo := 0) _ (by decide) hin, Nat.zero_add]
  simp only [State.bit, hwalk (lo := 0) (n := 14) (by decide), hwalk (lo := 14) (n := 1) (by decide),
    hwalk (lo := 15) (n := 1) (by decide)]
  by_cases hfar : 6400 < theta
  all_goals
    simp only [hfar, decide_true, decide_false, Bool.toNat_true, Bool.toNat_false]
    refine ⟨by omega, ?_, ?_⟩
    all_goals
      simp only [beq_iff_eq, beq_eq_false_iff_ne]
      omega

/-- Telling of a moved reference shows in CLK_FLAGS alone. -/
theorem RootStep.tellMoved {l : List Nat} {e : List (Nat × Nat × List Nat)} {s t : State} (h : RootStep l e s t)
    (hl : Reg.CLK_FLAGS ∈ l) (moved r : Bool) (cause : Nat) :
    RootStep l (e ++ if moved then [(0x0107, 0, [r.toNat, cause])] else []) s (t.tellMoved moved r cause) := by
  cases moved with
  | true => exact (h.wbit hl 4 true).raise _ _ _
  | false => exact (List.append_nil e).symm ▸ h

theorem State.tellMoved_keeps (moved r : Bool) (cause : Nat) : (s.tellMoved moved r cause).clk = s.clk ∧
    KeepsRegs s (s.tellMoved moved r cause) [Reg.CLK_FLAGS] := by
  cases moved with
  | true => exact ⟨rfl, ((RootStep.refl _ s).wbit (by decide) 4 true).regs⟩
  | false => exact ⟨rfl, fun _ _ => rfl⟩

variable {s}

/-- A coasting loop with a reference to re-enter on starts its walk (R80). -/
theorem does_phaseWalkStart (hrun : s.running = true) (hi : s.integrity = false) (theta : Fin 12800) {r : Bool} {cause : Nat}
    (hst : s.clkState = 3) (htarget : s.clk.target = some (r, cause)) (hne : theta.val ≠ 0) :
    Does (.phaseWalkStart theta) s fun u =>
        u.clkState = 4 ∧ u.clkSel = r ∧ u.rf Reg.CLK_WALK 0 14 = theta.val ∧ u.bit Reg.CLK_WALK 14 = true ∧
        u.bit Reg.CLK_WALK 15 = decide (6400 < theta.val) ∧ u.clk.target = none ∧
        Raises s u ((0x0105, 0, [theta.val, (decide (6400 < theta.val)).toNat]) ::
          if r = s.clkSel then [] else [(0x0107, 0, [r.toNat, cause])]) ∧
        KeepsRegs s u [Reg.CLK_STAT, Reg.CLK_WALK, Reg.CLK_COAST_T, Reg.CLK_FLAGS, Reg.THW_AVS_STAT] ∧
        OnlyRegsAnd s u fun u => { u with clk := s.clk } := by
  refine Does_main s (walkStart theta.val) rfl hrun ?_
  rw [walkStart_coasting s hst hi htarget hne]
  have hstep := (s.beginWalk_step r theta.val).tellMoved (by decide) (r != s.clkSel) r cause
  obtain ⟨hclk, hkeep⟩ := (s.beginWalk r theta.val).tellMoved_keeps (r != s.clkSel) r cause
  obtain ⟨hdelay, hgoes, hdir⟩ := s.beginWalk_walk r theta.isLt
  refine ⟨(State.rf_of_rg 0 3 (hkeep _ (by decide))).trans (s.beginWalk_clkState r _),
    (State.bit_of_rg 3 (hkeep _ (by decide))).trans (s.beginWalk_clkSel r _), (State.rf_of_rg 0 14 (hkeep _ (by decide))).trans hdelay,
    (State.bit_of_rg 14 (hkeep _ (by decide))).trans hgoes, (State.bit_of_rg 15 (hkeep _ (by decide))).trans hdir,
    congrArg Clk.target hclk, ?_, hstep.regs, hstep.onlyRegsAnd⟩
  have hmoved : (if (r != s.clkSel) = true then [(0x0107, 0, [r.toNat, cause])] else ([] : List (Nat × Nat × List Nat))) =
      if r = s.clkSel then [] else [(0x0107, 0, [r.toNat, cause])] := by
    by_cases h : r = s.clkSel <;> simp [h]
  rw [← hmoved]
  exact hstep.raises

/-! ### A step of the walk -/

/-- The delay behind one step of a walk: 6.4 ns counts as 0. -/
def State.nextDelay (s : State) : Nat :=
  if s.bit Reg.CLK_WALK 15 then (s.rf Reg.CLK_WALK 0 14 + 1) % 12800 else s.rf Reg.CLK_WALK 0 14 - 1

theorem walkStep_walking (hst : s.clkState = 4) (hi : s.integrity = false) (hd : s.rf Reg.CLK_WALK 0 14 < 12800) :
    walkStep s = if s.nextDelay = 0 then (s.wf Reg.CLK_WALK 0 14 s.nextDelay).walkDone else s.wf Reg.CLK_WALK 0 14 s.nextDelay := by
  have hnext : (if s.bit Reg.CLK_WALK 15 then (if s.rf Reg.CLK_WALK 0 14 + 1 = 12800 then 0 else s.rf Reg.CLK_WALK 0 14 + 1)
      else s.rf Reg.CLK_WALK 0 14 - 1) = s.nextDelay := by
    unfold State.nextDelay
    split
    · split <;> omega
    · rfl
  unfold walkStep
  rw [if_neg (by simp [hst, hi])]
  simp only [hnext]

theorem State.nextDelay_lt (hd : s.rf Reg.CLK_WALK 0 14 < 12800) : s.nextDelay < 12800 := by
  unfold State.nextDelay
  split <;> omega

/-- The registers of a walk that ends. -/
theorem State.walkDone_reads (s : State) : s.walkDone.rf Reg.CLK_WALK 0 14 = 0 ∧ s.walkDone.clkState = 2 := by
  constructor
  · rw [State.walkDone, State.rf_raise, State.rf_wbit_ne _ _ _ _ _ (by decide), State.rf_wf_ne _ _ _ _ _ _ (by decide)]
    exact State.rf_wf_within _ _ (lo := 0) (lo' := 0) (n' := 14) 0 (by decide) (by decide)
  · rw [State.clkState, State.walkDone, State.rf_raise, State.rf_wbit_ne _ _ _ _ _ (by decide), State.rf_wf_same _ _ _ _ _ (by decide)]
    rfl

theorem does_walkStep (hrun : s.running = true) (hi : s.integrity = false) (hst : s.clkState = 4)
    (hd : s.rf Reg.CLK_WALK 0 14 < 12800) {d : Nat} (hnext : d = s.nextDelay) : Does .walkStep s fun u =>
      u.rf Reg.CLK_WALK 0 14 = d ∧ u.clkState = (if d = 0 then 2 else 4) ∧
      Raises s u (if d = 0 then [(0x0106, 0, [(s.now - s.clk.walkSince) * 2 / 625])] else []) ∧
      KeepsRegs s u [Reg.CLK_STAT, Reg.CLK_WALK, Reg.CLK_FLAGS] ∧ OnlyRegs s u := by
  refine Does_main s walkStep rfl hrun ?_
  rw [walkStep_walking hst hi hd, ← hnext]
  have hmove : RootStep [Reg.CLK_STAT, Reg.CLK_WALK, Reg.CLK_FLAGS] [] s (s.wf Reg.CLK_WALK 0 14 d) :=
    (RootStep.refl _ s).wf (by decide) _ _ _
  by_cases hzero : d = 0
  · rw [if_pos hzero, if_pos hzero, if_pos hzero]
    obtain ⟨hdelay, hstate⟩ := (s.wf Reg.CLK_WALK 0 14 d).walkDone_reads
    have hstep : RootStep [Reg.CLK_STAT, Reg.CLK_WALK, Reg.CLK_FLAGS] [(0x0106, 0, [(s.now - s.clk.walkSince) * 2 / 625])] s
        (s.wf Reg.CLK_WALK 0 14 d).walkDone :=
      (((hmove.wf (by decide) 0 15 0).wf (by decide) 0 3 2).wbit (by decide) 5 true).raise _ _ _
    exact ⟨hdelay.trans hzero.symm, hstate, hstep.raises, hstep.regs, rfl⟩
  · rw [if_neg hzero, if_neg hzero, if_neg hzero]
    have hdelay : (s.wf Reg.CLK_WALK 0 14 d).rf Reg.CLK_WALK 0 14 = d :=
      (s.rf_wf_same _ _ _ _ (by decide)).trans (Nat.mod_eq_of_lt (by have := State.nextDelay_lt hd; omega))
    exact ⟨hdelay, (State.rf_wf_ne _ _ _ _ _ _ (by decide)).trans hst, hmove.raises, hmove.regs, rfl⟩

end Sys2Proof.Machine

open Sys2Proof Sys2Proof.Machine Sys2Proof.Safety

/-- Settles O14: the band search finds the band nearest mid-range, and the phase walk steps to zero. -/
theorem loopFindsAndWalks : Obligations.LoopFindsAndWalks := by
  unfold Obligations.LoopFindsAndWalks
  refine ⟨fun s band codes code best hrun hbest hlen => ⟨fun hi => leaves_search hrun hi band codes code,
    fun hi hdue hf hq => does_bandSearchStart hrun hi hdue hf hq, fun hs hi => ⟨does_lockDeclared hrun hs hi hlen code hbest,
    does_bandSearchFailed hrun hs hi band⟩, fun hf => Leaves_main s searchStart rfl hrun (searchStart_idle (.inr hf))⟩,
    fun s theta r cause hrun hi => ⟨fun hst htarget hne => does_phaseWalkStart hrun hi theta hst htarget hne,
    fun hst hd d hnext => does_walkStep hrun hi hst hd hnext⟩⟩
end

section
/-! PROOFS. The references of the clock root: what they show, and how one loses its qualification (R69, R70, R71). -/

namespace Sys2Proof.Machine

open Safety

variable (s : State)

/-! ### The status registers of the references -/

theorem refReg_ne (b : Bool) {a : Nat} (h : a ∉ [Reg.CLK_REFA, Reg.CLK_REFB]) : a ≠ refReg b := by
  simp only [List.mem_cons, List.not_mem_nil, or_false, not_or] at h
  cases b
  · exact h.1
  · exact h.2

theorem refReg_not (b : Bool) : refReg (!b) ≠ refReg b := by cases b <;> decide

/-- What a loop injects shows in CLK_STAT. -/
theorem State.injecting_of_stat {s t : State} (h : t.rg Reg.CLK_STAT = s.rg Reg.CLK_STAT) (b : Bool) :
    t.injecting b = s.injecting b := by
  have hstate : t.clkState = s.clkState := State.rf_of_rg 0 3 h
  have hsel : t.clkSel = s.clkSel := State.bit_of_rg 3 h
  have hint : t.integrity = s.integrity := State.bit_of_rg 6 h
  rw [State.injecting, hstate, hsel, hint, State.injecting]

theorem State.injecting_iff {b : Bool} : s.injecting b = true ↔ (s.clkState = 2 ∨ s.clkState = 4) ∧ s.clkSel = b ∧ s.integrity = false := by
  simp [State.injecting, and_assoc]

section Qualified

variable (b q : Bool)

theorem State.setQualified_clk : (s.setQualified b q).clk = s.clk := by simp [State.setQualified]

theorem State.setQualified_rg {a : Nat} (h : a ≠ refReg b) (h' : a ≠ Reg.CLK_STAT) : (s.setQualified b q).rg a = s.rg a :=
  (State.rg_wbit_ne _ _ _ h').trans (s.rg_wbit_ne _ _ h)

/-- CLK_STAT stands but for the qualification it shows. -/
theorem State.setQualified_stat {lo n : Nat} (h : lo + n ≤ 4 ∨ 6 ≤ lo) :
    (s.setQualified b q).rf Reg.CLK_STAT lo n = s.rf Reg.CLK_STAT lo n := by
  have hb : b.toNat ≤ 1 := Bool.toNat_le b
  rw [State.setQualified, State.rf_wbit_apart _ _ _ (by omega) (by omega), State.rf_wbit_ne _ _ _ _ _ (refReg_ne b (by decide))]

theorem State.setQualified_clkState : (s.setQualified b q).clkState = s.clkState := s.setQualified_stat b q (.inl (by decide))

theorem State.setQualified_clkSel : (s.setQualified b q).clkSel = s.clkSel :=
  congrArg (· == 1) (s.setQualified_stat b q (.inl (by decide)))

theorem State.setQualified_integrity : (s.setQualified b q).integrity = s.integrity :=
  congrArg (· == 1) (s.setQualified_stat b q (.inr (by decide)))

theorem State.setQualified_shown : (s.setQualified b q).bit Reg.CLK_STAT (4 + b.toNat) = q :=
  State.bit_wbit_same _ _ _ (by have := Bool.toNat_le b; omega)

theorem State.setQualified_refReg (r : Bool) : (s.setQualified b q).rg (refReg r) = (s.wbit (refReg b) 17 q).rg (refReg r) :=
  State.rg_wbit_ne _ _ _ (refReg_ne r (by decide)).symm

theorem State.setQualified_refQualified : (s.setQualified b q).refQualified b = q :=
  (State.bit_of_rg 17 (s.setQualified_refReg b q b)).trans (s.bit_wbit_same _ _ (by decide))

theorem State.setQualified_other : (s.setQualified b q).refQualified (!b) = s.refQualified (!b) :=
  (State.bit_of_rg 17 (s.setQualified_refReg b q (!b))).trans (s.bit_wbit_ne _ _ _ (refReg_not b))

theorem State.setQualified_refPresent : (s.setQualified b q).refPresent b = s.refPresent b :=
  (State.bit_of_rg 16 (s.setQualified_refReg b q b)).trans (s.bit_wbit_apart _ _ (by decide) (by decide))

theorem RootStep.setQualified {l : List Nat} {e : List (Nat × Nat × List Nat)} {s t : State} (h : RootStep l e s t)
    (hr : refReg b ∈ l) (hl : Reg.CLK_STAT ∈ l) : RootStep l e s (t.setQualified b q) := (h.wbit hr _ _).wbit hl _ _

end Qualified

/-! ### A reference that is lost (R69, R71, R89) -/

/-- The code of the event of a lost reference (R89). -/
def lostCode (b : Bool) : Nat := if b then 0x0103 else 0x0102

theorem RootStep.reportLost {l : List Nat} {e : List (Nat × Nat × List Nat)} {s t : State} (h : RootStep l e s t)
    (hl : Reg.CLK_FLAGS ∈ l) (b : Bool) : RootStep l (e ++ [(lostCode b, 0, [])]) s (t.reportLost b) := (h.wbit hl _ _).raise _ _ _

theorem State.reportLost_clk (b : Bool) : (s.reportLost b).clk = s.clk := by simp [State.reportLost]

theorem State.reportLost_rg (b : Bool) {a : Nat} (h : a ≠ Reg.CLK_FLAGS) : (s.reportLost b).rg a = s.rg a := s.rg_wbit_ne _ _ h

theorem State.reportLost_flag (b : Bool) : (s.reportLost b).bit Reg.CLK_FLAGS b.toNat = true :=
  s.bit_wbit_same _ _ (by have := Bool.toNat_le b; omega)

/-- A reference that no loop injects loses its qualification alone. -/
theorem State.dropReference_idle {b : Bool} (why : Nat) (ht : s.clk.target = none) (hi : s.injecting b = false) :
    s.dropReference b why = s.setQualified b false := by
  simp [State.dropReference, hi, s.setQualified_clk, ht]

/-- A loop coasts whose injected reference loses its qualification. -/
theorem State.dropReference_injected {b : Bool} (why : Nat) (ht : s.clk.target = none) (hi : s.injecting b = true) :
    s.dropReference b why = (s.setQualified b false).coast why := by
  simp [State.dropReference, hi, s.setQualified_clk, ht]

/-- A reference is no longer present, and its loss is told. -/
def State.loseEdges (s : State) (b : Bool) : State := (s.wbit (refReg b) 16 false).reportLost b

theorem refLost_eq (b : Bool) : refLost b s = (s.loseEdges b).dropReference b 0 := rfl

theorem State.loseEdges_clk (b : Bool) : (s.loseEdges b).clk = s.clk := (State.reportLost_clk _ b).trans (s.wbit_clk _ _ _)

theorem State.loseEdges_stat (b : Bool) : (s.loseEdges b).rg Reg.CLK_STAT = s.rg Reg.CLK_STAT :=
  (State.reportLost_rg _ b (by decide)).trans (s.rg_wbit_ne _ _ (refReg_ne b (by decide)))

theorem State.loseEdges_refReg (b r : Bool) : (s.loseEdges b).rg (refReg r) = (s.wbit (refReg b) 16 false).rg (refReg r) :=
  State.reportLost_rg _ b (refReg_ne r (by decide)).symm

theorem State.loseEdges_refPresent (b : Bool) : (s.loseEdges b).refPresent b = false :=
  (State.bit_of_rg 16 (s.loseEdges_refReg b b)).trans (s.bit_wbit_same _ _ (by decide))

theorem State.loseEdges_other (b : Bool) : (s.loseEdges b).refQualified (!b) = s.refQualified (!b) :=
  (State.bit_of_rg 17 (s.loseEdges_refReg b (!b))).trans (s.bit_wbit_ne _ _ _ (refReg_not b))

theorem RootStep.loseEdges {l : List Nat} {e : List (Nat × Nat × List Nat)} {s t : State} (h : RootStep l e s t) (b : Bool)
    (hr : refReg b ∈ l) (hl : Reg.CLK_FLAGS ∈ l) : RootStep l (e ++ [(lostCode b, 0, [])]) s (t.loseEdges b) :=
  (h.wbit hr _ _).reportLost hl b

/-! ### The offset of a reference (R69, R70) -/

/-- The offset of a reference is shown and kept for the next interval. -/
def State.showOffset (s : State) (b : Bool) (offset : Int) : State :=
  (s.wf (refReg b) 0 16 (unsigned 16 (clampInt (-32768) 32767 offset))).setClk
    { s.clk with freq := s.clk.freq.put b.toNat none (some offset) }

theorem State.showOffset_clk (b : Bool) (offset : Int) :
    (s.showOffset b offset).clk = { s.clk with freq := s.clk.freq.put b.toNat none (some offset) } := State.clk_setClk _ _

theorem State.showOffset_rg (b : Bool) (offset : Int) {a : Nat} (h : a ≠ refReg b) : (s.showOffset b offset).rg a = s.rg a :=
  s.rg_wf_ne _ _ _ h

theorem State.showOffset_stat (b : Bool) (offset : Int) : (s.showOffset b offset).rg Reg.CLK_STAT = s.rg Reg.CLK_STAT :=
  s.showOffset_rg b offset (refReg_ne b (by decide))

theorem State.showOffset_refQualified (b r : Bool) (offset : Int) : (s.showOffset b offset).refQualified r = s.refQualified r := by
  by_cases h : refReg r = refReg b
  · have hfield := s.rf_wf_apart (refReg b) (lo := 0) (n := 16) (lo' := 17) (n' := 1)
      (unsigned 16 (clampInt (-32768) 32767 offset)) (by decide) (.inl (by decide))
    rw [State.refQualified, State.refQualified, h]
    exact congrArg (· == 1) hfield
  · exact State.bit_of_rg 17 (s.showOffset_rg b offset h)

theorem State.showOffset_stepped (b r : Bool) (offset : Int) (last : Option Int) (o : Int) :
    (s.showOffset b offset).stepped r last o = s.stepped r last o := by
  have hstat := s.showOffset_stat b offset
  have hstate : (s.showOffset b offset).clkState = s.clkState := State.rf_of_rg 0 3 hstat
  have hsel : (s.showOffset b offset).clkSel = s.clkSel := State.bit_of_rg 3 hstat
  rw [State.stepped, hstate, hsel, State.stepped]

/-- A step of the selected reference is told with its size. -/
def State.tellStep (s : State) (b : Bool) (step : Int) : State :=
  (s.wbit Reg.CLK_FLAGS 3 true).raise 0x0108 0 [b.toNat, unsigned 32 step]

theorem refInterval_eq (b : Bool) (offset : Int) : refInterval b offset s =
    if s.stepped b (s.clk.freq.at b.toNat none) offset then
      ((s.showOffset b offset).tellStep b (offset - (s.clk.freq.at b.toNat none).getD 0)).dropReference b 1
    else if decide (s.freqLimit < offset.natAbs) && s.refQualified b then ((s.showOffset b offset).reportLost b).dropReference b 0
    else s.showOffset b offset := by
  rw [← s.showOffset_stepped b b offset, ← s.showOffset_refQualified b b offset]
  rfl

theorem State.tellStep_clk (b : Bool) (step : Int) : (s.tellStep b step).clk = s.clk := by simp [State.tellStep]

theorem RootStep.showOffset {l : List Nat} {e : List (Nat × Nat × List Nat)} {s t : State} (h : RootStep l e s t) {b : Bool}
    (hr : refReg b ∈ l) (offset : Int) : RootStep l e s (t.showOffset b offset) := (h.wf hr _ _ _).setClk _

theorem RootStep.tellStep {l : List Nat} {e : List (Nat × Nat × List Nat)} {s t : State} (h : RootStep l e s t)
    (hl : Reg.CLK_FLAGS ∈ l) (b : Bool) (step : Int) :
    RootStep l (e ++ [(0x0108, 0, [b.toNat, unsigned 32 step])]) s (t.tellStep b step) := (h.wbit hl _ _).raise _ _ _

theorem State.stepped_some {b : Bool} {last offset : Int} (hst : 2 ≤ s.clkState) (hsel : s.clkSel = b)
    (hstep : 20 < (offset - last).natAbs) : s.stepped b (some last) offset = true := by
  simp [State.stepped, hst, hsel, hstep]

/-- A step of the selected reference drops it (R70). -/
theorem refInterval_stepped {b : Bool} {last offset : Int} (hlast : s.clk.freq.at b.toNat none = some last) (hst : 2 ≤ s.clkState)
    (hsel : s.clkSel = b) (hstep : 20 < (offset - last).natAbs) :
    refInterval b offset s = ((s.showOffset b offset).tellStep b (offset - last)).dropReference b 1 := by
  rw [refInterval_eq, hlast, if_pos (s.stepped_some hst hsel hstep)]
  rfl

end Sys2Proof.Machine
end

section
/-! PROOFS. Reference monitoring while the loop does not inject the reference (R69, R70, R557). -/

namespace Sys2Proof.Machine

open Safety

/-- A reference is present, and its next interval is its first. -/
def State.seeEdges (s : State) (b : Bool) : State :=
  (s.wbit (refReg b) 16 true).setClk { s.clk with freq := s.clk.freq.put b.toNat none none }

theorem refPresent_eq (b : Bool) (s : State) : refPresent b s = s.seeEdges b := rfl

variable {s : State} (hrun : s.running = true) {b : Bool}

include hrun

theorem does_referencePresent : Does (.referencePresent b) s fun u => u.refPresent b = true ∧ Raises s u [] ∧
    (∀ b', b' ≠ b → u.rg (refReg b') = s.rg (refReg b')) ∧ KeepsRegs s u [refReg b] ∧
    OnlyRegsAnd s u fun u => { u with clk.freq := s.clk.freq } := by
  have hstep : RootStep [refReg b] [] s (s.seeEdges b) := ((RootStep.refl _ s).wbit (by simp) 16 true).setClk _
  refine Does_main s (refPresent b) rfl hrun ?_
  rw [refPresent_eq]
  refine ⟨?_, hstep.raises, fun b' hb => ?_, hstep.regs, hstep.onlyFreq (State.clk_setClk _ _)⟩
  · rw [State.refPresent, State.seeEdges, State.bit_setClk, State.bit_wbit_same _ _ _ (by decide)]
  · rw [Bool.eq_not_of_ne hb]
    exact hstep.regs _ (by simpa using refReg_not b)

/-- A present reference qualifies; a loop that does not coast goes on as it is. -/
theorem does_referenceQualified (hp : s.refPresent b = true) (hst : s.clkState ≠ 3) :
    Does (.referenceQualified b) s fun u => u.refQualified b = true ∧ u.bit Reg.CLK_STAT (4 + b.toNat) = true ∧
      u.clkState = s.clkState ∧ Raises s u [] ∧ KeepsRegs s u [refReg b, Reg.CLK_STAT] ∧ OnlyRegs s u := by
  have heq : refQualify b s = s.setQualified b true := by simp [refQualify, hp, s.setQualified_clkState b true, hst]
  have hstep : RootStep [refReg b, Reg.CLK_STAT] [] s (s.setQualified b true) :=
    (RootStep.refl _ s).setQualified b true (by simp) (by simp)
  refine Does_main s (refQualify b) rfl hrun ?_
  rw [heq]
  exact ⟨s.setQualified_refQualified b true, s.setQualified_shown b true, s.setQualified_clkState b true, hstep.raises, hstep.regs,
    hstep.onlyRegs (s.setQualified_clk b true)⟩

/-- A loop that coasts without a reference re-enters on the one that qualifies (R71). -/
theorem does_referenceQualified_coasting (hp : s.refPresent b = true) (ht : s.clk.target = none) (hst : s.clkState = 3)
    (hi : s.integrity = false) :
    Does (.referenceQualified b) s fun u => u.refQualified b = true ∧ u.clk.target = some (b, 0) := by
  have heq : refQualify b s = (s.setQualified b true).setClk { (s.setQualified b true).clk with target := some (b, 0) } := by
    simp [refQualify, hp, s.setQualified_clkState b true, s.setQualified_integrity b true, hst, hi, s.setQualified_clk b true, ht,
      State.setClk]
  refine Does_main s (refQualify b) rfl hrun ?_
  rw [heq]
  refine ⟨?_, congrArg Clk.target (State.clk_setClk _ _)⟩
  rw [State.refQualified, State.bit_setClk]
  exact s.setQualified_refQualified b true

variable (hinj : s.injecting b = false)

section Dropped

variable (htarget : s.clk.target = none)

include hinj htarget

theorem does_referenceLost_idle : Does (.referenceLost b) s fun u => u.refPresent b = false ∧ u.refQualified b = false ∧
    u.bit Reg.CLK_FLAGS b.toNat = true ∧ u.bit Reg.CLK_STAT (4 + b.toNat) = false ∧ u.clkState = s.clkState ∧
    Raises s u [(if b then 0x0103 else 0x0102, 0, [])] ∧ KeepsRegs s u [refReg b, Reg.CLK_FLAGS, Reg.CLK_STAT] ∧ OnlyRegs s u := by
  have hidle : (s.loseEdges b).injecting b = false := (State.injecting_of_stat (s.loseEdges_stat b) b).trans hinj
  have hstep : RootStep [refReg b, Reg.CLK_FLAGS, Reg.CLK_STAT] [(lostCode b, 0, [])] s ((s.loseEdges b).setQualified b false) :=
    ((RootStep.refl _ s).loseEdges b (by simp) (by simp)).setQualified b false (by simp) (by simp)
  refine Does_main s (refLost b) rfl hrun ?_
  rw [refLost_eq, State.dropReference_idle _ 0 (by rw [s.loseEdges_clk, htarget]) hidle]
  exact ⟨(State.setQualified_refPresent _ b false).trans (s.loseEdges_refPresent b), State.setQualified_refQualified _ b false,
    (State.bit_of_rg _ (State.setQualified_rg _ b false (refReg_ne b (by decide)) (by decide))).trans (State.reportLost_flag _ b),
    State.setQualified_shown _ b false, (State.setQualified_clkState _ b false).trans (State.rf_of_rg 0 3 (s.loseEdges_stat b)),
    hstep.raises, hstep.regs, hstep.onlyRegs ((State.setQualified_clk _ _ _).trans (s.loseEdges_clk b))⟩

variable {offset : Int}

/-- A step of the selected reference while the loop coasts or a fault is latched takes its qualification alone (R70). -/
theorem does_refFreqInterval_stepped {last : Int} (hlast : s.clk.freq.at b.toNat none = some last) (hsel : s.clkSel = b)
    (hst : 2 ≤ s.clkState) (hbig : 20 < (offset - last).natAbs) : Does (.refFreqInterval b offset) s fun u =>
      u.refQualified b = false ∧ u.bit Reg.CLK_FLAGS 3 = true ∧ Raises s u [(0x0108, 0, [b.toNat, unsigned 32 (offset - last)])] ∧
      KeepsRegs s u [refReg b, Reg.CLK_FLAGS, Reg.CLK_STAT] ∧ OnlyRegsAnd s u fun u => { u with clk.freq := s.clk.freq } := by
  have hstat : ((s.showOffset b offset).tellStep b (offset - last)).rg Reg.CLK_STAT = s.rg Reg.CLK_STAT :=
    (State.rg_wbit_ne _ _ _ (by decide)).trans (s.showOffset_stat b offset)
  have hstep : RootStep [refReg b, Reg.CLK_FLAGS, Reg.CLK_STAT] [(0x0108, 0, [b.toNat, unsigned 32 (offset - last)])] s
      (((s.showOffset b offset).tellStep b (offset - last)).setQualified b false) :=
    (((RootStep.refl _ s).showOffset (by simp) offset).tellStep (by simp) b _).setQualified b false (by simp) (by simp)
  refine Does_main s (refInterval b offset) rfl hrun ?_
  have hclk : ((s.showOffset b offset).tellStep b (offset - last)).clk = { s.clk with freq := s.clk.freq.put b.toNat none (some offset) } :=
    (State.tellStep_clk _ _ _).trans (s.showOffset_clk b offset)
  rw [refInterval_stepped s hlast hst hsel hbig,
    State.dropReference_idle _ 1 (by rw [hclk, htarget]) ((State.injecting_of_stat hstat b).trans hinj)]
  refine ⟨State.setQualified_refQualified _ b false, ?_, hstep.raises, hstep.regs,
    hstep.onlyFreq ((State.setQualified_clk _ _ _).trans hclk)⟩
  exact (State.bit_of_rg 3 (State.setQualified_rg _ b false (refReg_ne b (by decide)) (by decide))).trans
    (State.bit_wbit_same _ _ _ (by decide))

/-- A reference that leaves its range loses its qualification (R69). -/
theorem does_refFreqInterval_outside (hout : s.freqLimit < offset.natAbs) (hq : s.refQualified b = true)
    (hno : s.stepped b (s.clk.freq.at b.toNat none) offset = false) : Does (.refFreqInterval b offset) s fun u =>
      u.refQualified b = false ∧ Raises s u [(if b then 0x0103 else 0x0102, 0, [])] ∧
      KeepsRegs s u [refReg b, Reg.CLK_FLAGS, Reg.CLK_STAT] ∧ OnlyRegsAnd s u fun u => { u with clk.freq := s.clk.freq } := by
  have hstat : ((s.showOffset b offset).reportLost b).rg Reg.CLK_STAT = s.rg Reg.CLK_STAT :=
    (State.reportLost_rg _ b (by decide)).trans (s.showOffset_stat b offset)
  have hstep : RootStep [refReg b, Reg.CLK_FLAGS, Reg.CLK_STAT] [(lostCode b, 0, [])] s
      (((s.showOffset b offset).reportLost b).setQualified b false) :=
    (((RootStep.refl _ s).showOffset (by simp) offset).reportLost (by simp) b).setQualified b false (by simp) (by simp)
  refine Does_main s (refInterval b offset) rfl hrun ?_
  have hclk : ((s.showOffset b offset).reportLost b).clk = { s.clk with freq := s.clk.freq.put b.toNat none (some offset) } :=
    (State.reportLost_clk _ _).trans (s.showOffset_clk b offset)
  rw [refInterval_eq, if_neg (by simp [hno]), if_pos (by simp [hout, hq]),
    State.dropReference_idle _ 0 (by rw [hclk, htarget]) ((State.injecting_of_stat hstat b).trans hinj)]
  exact ⟨State.setQualified_refQualified _ b false, hstep.raises, hstep.regs,
    hstep.onlyFreq ((State.setQualified_clk _ _ _).trans hclk)⟩

end Dropped

omit hinj in
/-- An offset within the range shows alone (R69). -/
theorem does_refFreqInterval_inside {offset : Int} (hlo : -32768 ≤ offset) (hhi : offset ≤ 32767)
    (hin : offset.natAbs ≤ s.freqLimit) (hno : s.stepped b (s.clk.freq.at b.toNat none) offset = false) :
    Does (.refFreqInterval b offset) s fun u => u.rf (refReg b) 0 16 = unsigned 16 offset ∧ u.refQualified b = s.refQualified b ∧
      u.clk.freq.at b.toNat none = some offset ∧ Raises s u [] ∧ KeepsRegs s u [refReg b] ∧
      OnlyRegsAnd s u fun u => { u with clk.freq := s.clk.freq } := by
  have hclamp : clampInt (-32768) 32767 offset = offset := by
    unfold clampInt
    omega
  have hstep : RootStep [refReg b] [] s (s.showOffset b offset) := (RootStep.refl _ s).showOffset (by simp) offset
  refine Does_main s (refInterval b offset) rfl hrun ?_
  rw [refInterval_eq, if_neg (by simp [hno]), if_neg (by simp [hin])]
  refine ⟨?_, s.showOffset_refQualified b b offset, ?_, hstep.raises, hstep.regs, hstep.onlyFreq (s.showOffset_clk b offset)⟩
  · rw [State.showOffset, State.rf_setClk, State.rf_wf_same _ _ _ _ _ (by decide), hclamp]
    exact Nat.mod_eq_of_lt (by unfold unsigned; omega)
  · rw [s.showOffset_clk, Tab.at, Tab.get_set_same]

end Sys2Proof.Machine
end

section
/-! PROOFS. Coasting of the clock root: what it shows, which reference it re-enters on, and the planned handover it asks for
(R71, R77, R78, R79, R82, R87). -/

namespace Sys2Proof.Machine

open Safety

variable (s : State)

/-! ### Injection stops (R77) -/

/-- The registers in which coasting shows. -/
def coastRegs : List Nat :=
  [Reg.CLK_STAT, Reg.CLK_WALK, Reg.CLK_FLAGS, Reg.CLK_COAST_T, Reg.THW_AVS_STAT, Reg.CLK_PHERR, Reg.CLK_PHPEAK]

/-- What injection leaves shows in CLK_PHERR and CLK_PHPEAK alone. -/
theorem RootStep.latchError {l : List Nat} {e : List (Nat × Nat × List Nat)} {s t : State} (h : RootStep l e s t)
    (he : Reg.CLK_PHERR ∈ l) (hp : Reg.CLK_PHPEAK ∈ l) : RootStep l e s t.latchError :=
  RootStep.ite ((h.wf he _ _ _).wf hp _ _ _) h

theorem State.latchError_clk : s.latchError.clk = s.clk := by
  unfold State.latchError
  split <;> simp

/-- A loop that enters coasting stands as it shows, but for the time it began. -/
theorem RootStep.enterCoasting {e : List (Nat × Nat × List Nat)} {s t : State} (h : RootStep coastRegs e s t) :
    RootStep coastRegs e s t.enterCoasting :=
  ((((((h.latchError (by decide) (by decide)).wf (by decide) 0 3 3).wbit (by decide) 14 false).setClk _).wn (by decide) 0).wbit
    (by decide) 11 true).wbit (a := Reg.CLK_FLAGS) (by decide) 2 true

/-- CLK_STAT of a loop that enters coasting. -/
theorem State.enterCoasting_stat : s.enterCoasting.rg Reg.CLK_STAT = (s.wf Reg.CLK_STAT 0 3 3).rg Reg.CLK_STAT := by
  have herr : s.latchError.rg Reg.CLK_STAT = s.rg Reg.CLK_STAT :=
    ((RootStep.refl [Reg.CLK_PHERR, Reg.CLK_PHPEAK] s).latchError (by decide) (by decide)).regs _ (by decide)
  have hlate : s.enterCoasting.rg Reg.CLK_STAT = (s.latchError.wf Reg.CLK_STAT 0 3 3).rg Reg.CLK_STAT :=
    (((((RootStep.refl [Reg.CLK_WALK, Reg.CLK_FLAGS, Reg.CLK_COAST_T, Reg.THW_AVS_STAT] (s.latchError.wf Reg.CLK_STAT 0 3 3)).wbit
      (by decide) 14 false).setClk _).wn (by decide) 0).wbit (by decide) 11 true).wbit (a := Reg.CLK_FLAGS) (by decide) 2 true
      |>.regs _ (by decide)
  rw [hlate, State.rg_wf, State.rg_wf, herr]

theorem State.enterCoasting_clkState : s.enterCoasting.clkState = 3 :=
  (State.rf_of_rg 0 3 s.enterCoasting_stat).trans (s.rf_wf_same _ _ _ _ (by decide))

theorem State.enterCoasting_clkSel : s.enterCoasting.clkSel = s.clkSel :=
  (State.bit_of_rg 3 s.enterCoasting_stat).trans (congrArg (· == 1) (s.rf_wf_apart _ _ (by decide) (.inl (by decide))))

theorem State.enterCoasting_flag : s.enterCoasting.bit Reg.CLK_FLAGS 2 = true := State.bit_wbit_same _ _ _ (by decide)

/-- The other flags stand. -/
theorem State.enterCoasting_flags {i : Nat} (h : i ≠ 2) : s.enterCoasting.bit Reg.CLK_FLAGS i = s.bit Reg.CLK_FLAGS i := by
  have hstop : s.stopInjecting.rg Reg.CLK_FLAGS = s.rg Reg.CLK_FLAGS :=
    (((((((RootStep.refl [Reg.CLK_STAT, Reg.CLK_WALK, Reg.CLK_COAST_T, Reg.THW_AVS_STAT, Reg.CLK_PHERR, Reg.CLK_PHPEAK] s).latchError
      (by decide) (by decide)).wf (by decide) 0 3 3).wbit (by decide) 14 false).setClk _).wn (by decide) 0).wbit
      (a := Reg.THW_AVS_STAT) (by decide) 11 true).regs _ (by decide)
  rw [State.enterCoasting, State.bit_wbit_apart _ _ _ (by decide) h, State.bit_of_rg i hstop]

/-- Core-voltage requests are suspended (R78). -/
theorem State.enterCoasting_avs : s.enterCoasting.bit Reg.THW_AVS_STAT 11 = true := by
  rw [State.enterCoasting, State.bit_wbit_ne _ _ _ _ (by decide)]
  exact State.bit_wbit_same _ _ _ (by decide)

/-- CLK_COAST_T starts from zero. -/
theorem State.enterCoasting_coastT : s.enterCoasting.rn Reg.CLK_COAST_T = 0 := by
  rw [State.enterCoasting, State.rn_of_rg (State.rg_wbit_ne _ _ _ (by decide)), State.stopInjecting,
    State.rn_of_rg (State.rg_wbit_ne _ _ _ (by decide)), State.rn_wn, if_pos rfl]

/-! ### The handover that coasting asks for (R79) -/

/-- A planned handover is under way. -/
def State.askHandover (s : State) : State :=
  { s.wbit Reg.PAR_STAT 6 true with par.hoSince := some s.now, par.finalDue := true, par.hoPeriod := none }

/-- A request of a fault that is not carried on leaves the machine, or is refused, or asks for the handover. -/
theorem State.faultHandover_cases (cause : Nat) (extra : Bool) {P : State → Prop} (hnone : P s)
    (hrefused : ∀ reason, P ((s.wbit Reg.PAR_FLAGS 5 true).raise 0x0a08 0 [reason]))
    (hasked : P (s.askHandover.raise 0x0a07 0 [cause])) : P (s.faultHandover cause extra) := by
  unfold State.faultHandover
  split
  case isFalse => exact hnone
  case isTrue =>
    unfold State.requestHandover
    simp only []
    split
    · exact hrefused 4
    · split
      · exact hrefused 1
      · split
        · exact hrefused 2
        · split
          · exact hnone
          · exact hasked

theorem State.coastHandover_off (h : s.bit Reg.CLK_CFG 2 = false) : s.coastHandover = s := if_neg (by simp [h])

/-- An eligible partner whose clock is locked and does not coast is asked to take over. -/
theorem State.coastHandover_asked (h : s.bit Reg.CLK_CFG 2 = true) (hask : HandoverAsked s)
    (hlocked : s.bit Reg.PAR_HLTH_PEER 8 = true) (hcoast : s.bit Reg.PAR_HLTH_PEER 9 = false) :
    s.coastHandover = s.askHandover.raise 0x0a07 0 [0x0104] := by
  obtain ⟨hactive, hup, helig, hfree⟩ := hask
  simp [State.coastHandover, h, State.faultHandover, State.requestHandover, hactive, hup, helig, hfree, hlocked, hcoast,
    State.askHandover]

/-- The request shows in the registers of the pair alone. -/
theorem State.coastHandover_keeps : s.coastHandover.clk = s.clk ∧ s.coastHandover.keys = s.keys ∧
    KeepsRegs s s.coastHandover [Reg.PAR_STAT, Reg.PAR_FLAGS] := by
  have hreg {a : Nat} (i : Nat) (h : a ∈ [Reg.PAR_STAT, Reg.PAR_FLAGS]) :
      KeepsRegs s (s.wbit a i true) [Reg.PAR_STAT, Reg.PAR_FLAGS] := (s.wr_sameTick _ h).regs
  unfold State.coastHandover
  split
  · exact s.faultHandover_cases (P := fun t => t.clk = s.clk ∧ t.keys = s.keys ∧ KeepsRegs s t [Reg.PAR_STAT, Reg.PAR_FLAGS]) _ _
      ⟨rfl, rfl, fun _ _ => rfl⟩ (fun reason => ⟨rfl, rfl, hreg 5 (by decide)⟩) ⟨rfl, rfl, hreg 6 (by decide)⟩
  · exact ⟨rfl, rfl, fun _ _ => rfl⟩

/-- What asks for a handover stands while only registers of the clock root change. -/
theorem handoverAsked_of_step {e : List (Nat × Nat × List Nat)} {l : List Nat} {s t : State} (h : RootStep l e s t)
    (hstat : Reg.PAR_STAT ∉ l) (hpeer : Reg.PAR_HLTH_PEER ∉ l) (hask : HandoverAsked s) : HandoverAsked t := by
  obtain ⟨hactive, hup, helig, hfree⟩ := hask
  have hs := h.regs _ hstat
  have hp := h.regs _ hpeer
  exact ⟨(State.rf_of_rg 0 2 hs).trans hactive, (State.bit_of_rg 3 hs).trans hup, (State.bit_of_rg 11 hp).trans helig,
    (State.bit_of_rg 6 hs).trans hfree⟩

/-- The handover that a loop asks for as it coasts (R79), behind the events of the loop. -/
theorem coastHandover_spec {e : List (Nat × Nat × List Nat)} {l : List Nat} {s t : State} (h : RootStep l e s t)
    (hl : ∀ a ∈ [Reg.PAR_STAT, Reg.PAR_HLTH_PEER, Reg.CLK_CFG], a ∉ l) (hcfg : s.bit Reg.CLK_CFG 2 = true) (hask : HandoverAsked s)
    (hlocked : s.bit Reg.PAR_HLTH_PEER 8 = true) (hcoast : s.bit Reg.PAR_HLTH_PEER 9 = false) :
    t.coastHandover.bit Reg.PAR_STAT 6 = true ∧ Raises s t.coastHandover (e ++ [(0x0a07, 0, [0x0104])]) := by
  have hpeer := h.regs Reg.PAR_HLTH_PEER (hl _ (by decide))
  rw [t.coastHandover_asked ((State.bit_of_rg 2 (h.regs _ (hl _ (by decide)))).trans hcfg)
    (handoverAsked_of_step h (hl _ (by decide)) (hl _ (by decide)) hask) ((State.bit_of_rg 8 hpeer).trans hlocked)
    ((State.bit_of_rg 9 hpeer).trans hcoast)]
  exact ⟨t.bit_wbit_same _ _ (by decide), raises_trans h.raises rfl h.tim⟩

/-! ### A reference that is lost or disturbed (R71, R77) -/

/-- A loop that coasts, and re-enters on the other reference if that is qualified. -/
def State.coasting (s : State) (why : Nat) : State := (s.enterCoasting.raise 0x0104 0 [why]).seekReference 0

theorem State.coast_eq (why : Nat) : s.coast why = (s.coasting why).coastHandover := rfl

theorem State.seekReference_eq (cause : Nat) : s.seekReference cause =
    s.setClk { s.clk with target := if s.refQualified (!s.clkSel) then some (!s.clkSel, cause) else none } := by
  unfold State.seekReference
  split <;> rfl

theorem RootStep.coasting {e : List (Nat × Nat × List Nat)} {s t : State} (h : RootStep coastRegs e s t) (why : Nat) :
    RootStep coastRegs (e ++ [(0x0104, 0, [why])]) s (t.coasting why) := by
  rw [State.coasting, State.seekReference_eq]
  exact (h.enterCoasting.raise _ _ _).setClk _

theorem State.coasting_rg (why a : Nat) : (s.coasting why).rg a = s.enterCoasting.rg a := by
  rw [State.coasting, State.seekReference_eq, State.rg_setClk, State.rg_raise]

theorem State.coasting_target (why : Nat) :
    (s.coasting why).clk.target = if s.refQualified (!s.clkSel) then some (!s.clkSel, 0) else none := by
  have hq : s.enterCoasting.refQualified (!s.clkSel) = s.refQualified (!s.clkSel) :=
    State.bit_of_rg 17 ((RootStep.refl _ s).enterCoasting.regs _ fun h => by revert h; cases s.clkSel <;> decide)
  have hsel : (s.enterCoasting.raise 0x0104 0 [why]).clkSel = s.clkSel := by
    rw [State.clkSel, State.bit_raise]
    exact s.enterCoasting_clkSel
  rw [State.coasting, State.seekReference_eq, State.clk_setClk, hsel, State.refQualified, State.bit_raise]
  exact congrArg (fun p : Bool => if p then some (!s.clkSel, 0) else none) hq

/-- The registers in which a loop shows that coasts because reference `b` was lost or disturbed. -/
def dropRegs (b : Bool) : List Nat :=
  [refReg b, Reg.CLK_FLAGS, Reg.CLK_STAT, Reg.CLK_WALK, Reg.CLK_COAST_T, Reg.THW_AVS_STAT, Reg.CLK_PHERR, Reg.CLK_PHPEAK]

theorem coastRegs_sub_dropRegs (b : Bool) : ∀ a ∈ coastRegs, a ∈ dropRegs b := by
  intro a
  simp only [coastRegs, dropRegs, List.mem_cons, List.not_mem_nil, or_false]
  tauto

theorem not_mem_dropRegs (b : Bool) : ∀ a ∈ [Reg.PAR_STAT, Reg.PAR_HLTH_PEER, Reg.CLK_CFG], a ∉ dropRegs b := by cases b <;> decide

section Drop

variable {s} {t : State} {b : Bool} {e : List (Nat × Nat × List Nat)} (why : Nat) (h : RootStep (dropRegs b) e s t)
  (hstat : t.rg Reg.CLK_STAT = s.rg Reg.CLK_STAT) (hinj : s.injecting b = true)

include h in
theorem dropped_step :
    RootStep (dropRegs b) (e ++ [(0x0104, 0, [why])]) s ((t.setQualified b false).coasting why) :=
  (h.setQualified b false (by simp [dropRegs]) (by simp [dropRegs])).trans
    (((RootStep.refl coastRegs _).coasting why).mono (coastRegs_sub_dropRegs b))

include hstat hinj in
theorem dropped_clkSel : (t.setQualified b false).clkSel = b := by
  rw [State.setQualified_clkSel, State.clkSel, State.bit_of_rg 3 hstat]
  exact ((s.injecting_iff).1 hinj).2.1

theorem dropped_clkState : ((t.setQualified b false).coasting why).clkState = 3 :=
  (State.rf_of_rg 0 3 (State.coasting_rg _ why _)).trans (State.enterCoasting_clkState _)

/-- The other flags stand. -/
theorem dropped_flags {i : Nat} (hi : i ≠ 2) :
    ((t.setQualified b false).coasting why).bit Reg.CLK_FLAGS i = t.bit Reg.CLK_FLAGS i :=
  (State.bit_of_rg i (State.coasting_rg _ why _)).trans ((State.enterCoasting_flags _ hi).trans
    (State.bit_of_rg i (State.setQualified_rg _ _ _ (refReg_ne b (by decide)) (by decide))))

theorem dropped_refQualified : ((t.setQualified b false).coasting why).refQualified b = false := by
  have hkeep := ((RootStep.refl coastRegs (t.setQualified b false)).coasting why).regs (refReg b) (by cases b <;> decide)
  exact (State.bit_of_rg 17 hkeep).trans (t.setQualified_refQualified b false)

include hstat hinj in
/-- The loop re-enters on the other reference if that is qualified (R71). -/
theorem dropped_target (hother : t.refQualified (!b) = s.refQualified (!b)) :
    ((t.setQualified b false).coasting why).clk.target = if s.refQualified (!b) then some (!b, 0) else none := by
  rw [State.coasting_target, dropped_clkSel hstat hinj, t.setQualified_other b false, hother]

include h hinj hstat in
/-- Without COAST_HO nothing but the clock root changes. -/
theorem dropReference_coasts (htarget : t.clk.target = none) (hcfg : s.bit Reg.CLK_CFG 2 = false) :
    t.dropReference b why = (t.setQualified b false).coasting why := by
  have hoff : ((t.setQualified b false).coasting why).bit Reg.CLK_CFG 2 = false :=
    (State.bit_of_rg 2 ((dropped_step why h).regs _ (not_mem_dropRegs b _ (by decide)))).trans hcfg
  rw [t.dropReference_injected why htarget ((State.injecting_of_stat hstat b).trans hinj), State.coast_eq,
    State.coastHandover_off _ hoff]

include h hinj hstat in
/-- With COAST_HO an eligible partner is asked to take over (R79). -/
theorem dropReference_asks (htarget : t.clk.target = none) (hcfg : s.bit Reg.CLK_CFG 2 = true) (hask : HandoverAsked s)
    (hlocked : s.bit Reg.PAR_HLTH_PEER 8 = true) (hcoast : s.bit Reg.PAR_HLTH_PEER 9 = false) :
    (t.dropReference b why).clkState = 3 ∧ (t.dropReference b why).bit Reg.PAR_STAT 6 = true ∧
      Raises s (t.dropReference b why) (e ++ [(0x0104, 0, [why])] ++ [(0x0a07, 0, [0x0104])]) := by
  rw [t.dropReference_injected why htarget ((State.injecting_of_stat hstat b).trans hinj), State.coast_eq]
  obtain ⟨-, -, hkeep⟩ := ((t.setQualified b false).coasting why).coastHandover_keeps
  obtain ⟨hstat6, hraises⟩ := coastHandover_spec (dropped_step why h) (not_mem_dropRegs b) hcfg hask hlocked hcoast
  exact ⟨(State.rf_of_rg 0 3 (hkeep _ (by decide))).trans (dropped_clkState why), hstat6, hraises⟩

end Drop

/-! ### The commands -/

section Commands

variable {s} {b : Bool} (hrun : s.running = true) (hinj : s.injecting b = true) (htarget : s.clk.target = none)

include hrun hinj htarget

theorem does_referenceLost_coasting (hcfg : s.bit Reg.CLK_CFG 2 = false) : Does (.referenceLost b) s fun u =>
    u.clkState = 3 ∧ u.clkSel = b ∧ u.rn Reg.CLK_COAST_T = 0 ∧ u.bit Reg.CLK_FLAGS 2 = true ∧ u.bit Reg.THW_AVS_STAT 11 = true ∧
      u.refQualified b = false ∧ u.clk.target = (if s.refQualified (!b) then some (!b, 0) else none) ∧
      Raises s u [(if b then 0x0103 else 0x0102, 0, []), (0x0104, 0, [0])] ∧ KeepsRegs s u (dropRegs b) ∧
      OnlyRegsAnd s u fun u => { u with clk := s.clk } := by
  have hlost : RootStep (dropRegs b) [(lostCode b, 0, [])] s (s.loseEdges b) :=
    (RootStep.refl _ s).loseEdges b (by simp [dropRegs]) (by simp [dropRegs])
  have hstat := s.loseEdges_stat b
  refine Does_main s (refLost b) rfl hrun ?_
  rw [refLost_eq, dropReference_coasts 0 hlost hstat hinj (by rw [s.loseEdges_clk, htarget]) hcfg]
  have hstep := dropped_step 0 hlost
  have hrg := ((s.loseEdges b).setQualified b false).coasting_rg 0
  refine ⟨dropped_clkState 0, ?_, ?_, ?_, ?_, dropped_refQualified 0, dropped_target 0 hstat hinj (s.loseEdges_other b),
    hstep.raises, hstep.regs, hstep.onlyRegsAnd⟩
  · exact (State.bit_of_rg 3 (hrg _)).trans ((State.enterCoasting_clkSel _).trans (dropped_clkSel hstat hinj))
  · exact (State.rn_of_rg (hrg _)).trans (State.enterCoasting_coastT _)
  · exact (State.bit_of_rg 2 (hrg _)).trans (State.enterCoasting_flag _)
  · exact (State.bit_of_rg 11 (hrg _)).trans (State.enterCoasting_avs _)

theorem does_referenceLost_asking (hcfg : s.bit Reg.CLK_CFG 2 = true) (hask : HandoverAsked s)
    (hlocked : s.bit Reg.PAR_HLTH_PEER 8 = true) (hcoast : s.bit Reg.PAR_HLTH_PEER 9 = false) :
    Does (.referenceLost b) s fun u => u.clkState = 3 ∧ u.bit Reg.PAR_STAT 6 = true ∧
      Raises s u [(if b then 0x0103 else 0x0102, 0, []), (0x0104, 0, [0]), (0x0a07, 0, [0x0104])] := by
  have hlost : RootStep (dropRegs b) [(lostCode b, 0, [])] s (s.loseEdges b) :=
    (RootStep.refl _ s).loseEdges b (by simp [dropRegs]) (by simp [dropRegs])
  refine Does_main s (refLost b) rfl hrun ?_
  rw [refLost_eq]
  exact dropReference_asks 0 hlost (s.loseEdges_stat b) hinj (by rw [s.loseEdges_clk, htarget]) hcfg hask hlocked hcoast

theorem does_refFreqInterval_coasting {offset last : Int} (hcfg : s.bit Reg.CLK_CFG 2 = false)
    (hlast : s.clk.freq.at b.toNat none = some last) (hbig : 20 < (offset - last).natAbs) :
    Does (.refFreqInterval b offset) s fun u => u.clkState = 3 ∧ u.refQualified b = false ∧
      u.clk.target = (if s.refQualified (!b) then some (!b, 0) else none) ∧ u.bit Reg.CLK_FLAGS 3 = true ∧
      Raises s u [(0x0108, 0, [b.toNat, unsigned 32 (offset - last)]), (0x0104, 0, [1])] ∧ KeepsRegs s u (dropRegs b) ∧
      OnlyRegsAnd s u fun u => { u with clk := s.clk } := by
  obtain ⟨hst, hsel, -⟩ := (s.injecting_iff).1 hinj
  have htold : RootStep (dropRegs b) [(0x0108, 0, [b.toNat, unsigned 32 (offset - last)])] s
      ((s.showOffset b offset).tellStep b (offset - last)) :=
    ((RootStep.refl _ s).showOffset (by simp [dropRegs]) offset).tellStep (by simp [dropRegs]) b _
  have hstat : ((s.showOffset b offset).tellStep b (offset - last)).rg Reg.CLK_STAT = s.rg Reg.CLK_STAT :=
    (State.rg_wbit_ne _ _ _ (by decide)).trans (s.showOffset_stat b offset)
  have hother : ((s.showOffset b offset).tellStep b (offset - last)).refQualified (!b) = s.refQualified (!b) :=
    (State.bit_of_rg 17 (State.rg_wbit_ne _ _ _ (refReg_ne (!b) (by decide)).symm)).trans (s.showOffset_refQualified b (!b) offset)
  refine Does_main s (refInterval b offset) rfl hrun ?_
  rw [refInterval_stepped s hlast (by omega) hsel hbig,
    dropReference_coasts 1 htold hstat hinj (by rw [State.tellStep_clk, s.showOffset_clk, htarget]) hcfg]
  have hstep := dropped_step 1 htold
  exact ⟨dropped_clkState 1, dropped_refQualified 1, dropped_target 1 hstat hinj hother,
    (dropped_flags 1 (by decide)).trans (State.bit_wbit_same _ _ _ (by decide)), hstep.raises, hstep.regs, hstep.onlyRegsAnd⟩

end Commands

end Sys2Proof.Machine
end

section
/-! PROOFS. Moving to the other reference, by the revert timer or on command, and starting a new search (R71, R72, R73, R74, R79,
R85). With reference monitoring this settles the obligation about the references. -/

namespace Sys2Proof.Machine

open Safety

variable {s : State}

/-! ### Moving to the other reference (R72) -/

theorem State.switchTo_unqualified {b : Bool} (cause : Nat) (h : s.refQualified b = false) : s.switchTo b cause = s :=
  if_pos (by simp [h])

/-- A loop that moves to reference `b` coasts with that as its target. -/
def State.moveTo (s : State) (b : Bool) (cause : Nat) : State :=
  s.enterCoasting.setClk { s.enterCoasting.clk with target := some (b, cause) }

theorem State.switchTo_injecting {b : Bool} (cause : Nat) (hq : s.refQualified b = true) (hi : s.integrity = false)
    (hinj : s.injecting (!b) = true) : s.switchTo b cause = (s.moveTo b cause).coastHandover := by
  simp [State.switchTo, hq, hi, hinj, State.moveTo, State.setClk]

/-- A loop that coasts already changes the reference it re-enters on. -/
theorem State.switchTo_coasting {b : Bool} (cause : Nat) (hq : s.refQualified b = true) (hi : s.integrity = false)
    (hst : s.clkState = 3) (hsel : s.clkSel = !b) (hnew : s.clk.target.map Prod.fst ≠ some b) :
    s.switchTo b cause = s.setClk { s.clk with target := some (b, cause) } := by
  simp [State.switchTo, hq, hi, hst, hsel, hnew, State.injecting, State.setClk]

theorem State.moveTo_step (b : Bool) (cause : Nat) : RootStep coastRegs [] s (s.moveTo b cause) :=
  (RootStep.refl _ s).enterCoasting.setClk _

/-- What a loop shows that moves to the other reference, and the handover it asks for with COAST_HO. -/
theorem State.switchTo_spec {b : Bool} (cause : Nat) (hq : s.refQualified b = true) (hst : s.clkState = 2 ∨ s.clkState = 4)
    (hi : s.integrity = false) (hsel : s.clkSel = !b) {u : State} (hu : u = s.switchTo b cause) :
    u.clkState = 3 ∧ u.clk.target = some (b, cause) ∧ u.keys = s.keys ∧ (s.bit Reg.CLK_CFG 2 = false → RootStep coastRegs [] s u) ∧
      (s.bit Reg.CLK_CFG 2 = true → HandoverAsked s → s.bit Reg.PAR_HLTH_PEER 8 = true → s.bit Reg.PAR_HLTH_PEER 9 = false →
        u.bit Reg.PAR_STAT 6 = true ∧ Raises s u [(0x0a07, 0, [0x0104])]) := by
  have hmove := s.moveTo_step b cause
  obtain ⟨hclk, hkeys, hkeep⟩ := (s.moveTo b cause).coastHandover_keeps
  have hstate : (s.moveTo b cause).clkState = 3 := by
    rw [State.clkState, State.moveTo, State.rf_setClk]
    exact s.enterCoasting_clkState
  rw [hu, s.switchTo_injecting cause hq hi ((s.injecting_iff).2 ⟨hst, hsel, hi⟩)]
  refine ⟨(State.rf_of_rg 0 3 (hkeep _ (by decide))).trans hstate, congrArg Clk.target hclk, hkeys.trans hmove.keys, fun hcfg => ?_,
    fun hcfg hask hlocked hcoast => coastHandover_spec hmove (by decide) hcfg hask hlocked hcoast⟩
  rwa [State.coastHandover_off _ ((State.bit_of_rg 2 (hmove.regs _ (by decide))).trans hcfg)]

/-- The revert timer takes the loop back to the preferred reference (R71). -/
theorem does_revertTimer (hrun : s.running = true) (hrev : s.bit Reg.CLK_CFG 1 = true)
    (hq : s.refQualified (s.bit Reg.CLK_CFG 0) = true) (hst : s.clkState = 2 ∨ s.clkState = 4) (hi : s.integrity = false)
    (hsel : s.clkSel = !s.bit Reg.CLK_CFG 0) : Does .revertTimer s fun u => u.clkState = 3 ∧
        u.clk.target = some (s.bit Reg.CLK_CFG 0, 1) ∧ (s.bit Reg.CLK_CFG 2 = false → Raises s u [] ∧
        KeepsRegs s u coastRegs ∧ OnlyRegsAnd s u fun u => { u with clk := s.clk }) ∧
        (s.bit Reg.CLK_CFG 2 = true → HandoverAsked s → s.bit Reg.PAR_HLTH_PEER 8 = true →
          s.bit Reg.PAR_HLTH_PEER 9 = false → u.bit Reg.PAR_STAT 6 = true ∧ Raises s u [(0x0a07, 0, [0x0104])]) := by
  have heq : revert s = s.switchTo (s.bit Reg.CLK_CFG 0) 1 := if_pos hrev
  obtain ⟨hstate, htarget, -, hplain, hask⟩ := State.switchTo_spec 1 hq hst hi hsel heq
  exact Does_main s revert rfl hrun ⟨hstate, htarget, fun hcfg => ⟨(hplain hcfg).raises, (hplain hcfg).regs, (hplain hcfg).onlyRegsAnd⟩,
    hask⟩

section Keyed

variable {src : Src} (hk : KeyPasses s src Reg.CLK_CTRL)

include hk

theorem does_clkSwitch {P : State → Prop} (h : P ((s.disarm src).switchTo (!s.clkSel) 2)) : Does (.clkSwitch src) s P :=
  Does_keyed s switchRef rfl hk h

theorem does_clkSwitch_injecting (hq : s.refQualified (!s.clkSel) = true) (hst : s.clkState = 2 ∨ s.clkState = 4)
    (hi : s.integrity = false) : Does (.clkSwitch src) s fun u =>
      u.clkState = 3 ∧ u.clk.target = some (!s.clkSel, 2) ∧ u.slot src = {} ∧ (s.bit Reg.CLK_CFG 2 = false → Raises s u [] ∧
        KeepsRegs s u coastRegs ∧ OnlyRegsAnd s u fun u => { u with clk := s.clk, keys := s.keys }) := by
  obtain ⟨hstate, htarget, hkeys, hplain, -⟩ :=
    State.switchTo_spec (s := s.disarm src) (b := !s.clkSel) 2 hq hst hi (Bool.not_not _).symm rfl
  refine does_clkSwitch hk ⟨hstate, htarget, ?_, fun hcfg => (hplain hcfg).of_disarm.2⟩
  rw [State.slot, hkeys]
  exact s.slot_disarm src

theorem does_clkSwitch_coasting (hq : s.refQualified (!s.clkSel) = true) (hst : s.clkState = 3) (hi : s.integrity = false)
    (hnew : s.clk.target.map Prod.fst ≠ some (!s.clkSel)) : Does (.clkSwitch src) s fun u =>
      u.clk.target = some (!s.clkSel, 2) ∧ u.slot src = {} ∧ Raises s u [] ∧ KeepsRegs s u [] ∧
        OnlyRegsAnd s u fun u => { u with clk := s.clk, keys := s.keys } := by
  refine does_clkSwitch hk ?_
  rw [State.switchTo_coasting (s := s.disarm src) 2 hq hi hst (Bool.not_not _).symm hnew]
  have hstep : RootStep [] [] (s.disarm src) ((s.disarm src).setClk { s.clk with target := some (!s.clkSel, 2) }) :=
    (RootStep.refl _ _).setClk _
  obtain ⟨hslot, hraises, hregs, honly⟩ := hstep.of_disarm
  exact ⟨rfl, hslot, hraises, hregs, honly⟩

/-- A switch to a reference that is not qualified is ignored (R71). -/
theorem does_clkSwitch_unqualified (hq : s.refQualified (!s.clkSel) = false) : Does (.clkSwitch src) s fun u =>
    u.slot src = {} ∧ ({ u with keys := s.keys } : State) = s := by
  refine does_clkSwitch hk ?_
  rw [State.switchTo_unqualified (s := s.disarm src) 2 hq]
  exact ⟨s.slot_disarm src, rfl⟩

end Keyed

/-! ### A new search on command (R73) -/

theorem relock_running (h : s.halted = false) : relock s = s.refuse Reg.CLK_CTRL 0x25 := if_pos (by simp [h])

theorem relock_blocked (h : s.halted = true) (hb : s.integrity = true ∨ s.clk.failed = true) : relock s = s := by
  rcases hb with hb | hb <;> simp [relock, h, hb]

/-- Coasting has ended: CLK_COAST_T stands at the time spent in it, and what injection leaves is kept. -/
def State.leaveCoast (s : State) : State := (if s.clkState = 3 then s.showCoast else s).latchError

/-- A search is due in place of coasting and a walk. -/
def State.searchAnew (s : State) : State :=
  (((s.leaveCoast.wf Reg.CLK_STAT 0 3 0).wf Reg.CLK_WALK 0 16 0).wbit Reg.THW_AVS_STAT 11 false).setClk
    { s.leaveCoast.clk with searchDue := true, searching := false, target := none }

theorem relock_free (h : s.halted = true) (hi : s.integrity = false) (hf : s.clk.failed = false) : relock s = s.searchAnew := by
  unfold relock
  rw [if_neg (by simp [h]), if_neg (by simp [hi, hf])]
  rfl

/-- The registers in which a new search shows. -/
def relockRegs : List Nat :=
  [Reg.CLK_STAT, Reg.CLK_WALK, Reg.CLK_COAST_T, Reg.THW_AVS_STAT, Reg.CLK_PHERR, Reg.CLK_PHPEAK]

theorem State.searchAnew_step : RootStep relockRegs [] s s.searchAnew :=
  have hcoast : RootStep relockRegs [] s (if s.clkState = 3 then s.showCoast else s) :=
    RootStep.ite ((RootStep.refl _ s).wn (by decide) _) (RootStep.refl _ s)
  ((((hcoast.latchError (by decide) (by decide)).wf (by decide) _ _ _).wf (by decide) _ _ _).wbit (by decide) _ _).setClk _

theorem State.searchAnew_reads : s.searchAnew.clkState = 0 ∧ s.searchAnew.rf Reg.CLK_WALK 0 16 = 0 ∧
    s.searchAnew.bit Reg.THW_AVS_STAT 11 = false := by
  refine ⟨?_, ?_, ?_⟩
  · rw [State.clkState, State.searchAnew, State.rf_setClk, State.rf_wbit_ne _ _ _ _ _ (by decide),
      State.rf_wf_ne _ _ _ _ _ _ (by decide), State.rf_wf_same _ _ _ _ _ (by decide)]
    rfl
  · rw [State.searchAnew, State.rf_setClk, State.rf_wbit_ne _ _ _ _ _ (by decide), State.rf_wf_same _ _ _ _ _ (by decide)]
    rfl
  · rw [State.searchAnew, State.bit_setClk, State.bit_wbit_same _ _ _ (by decide)]

section Relock

variable {src : Src} (hk : KeyPasses s src Reg.CLK_CTRL)

include hk

theorem does_clkRelock_free (hh : s.halted = true) (hi : s.integrity = false) (hf : s.clk.failed = false) :
    Does (.clkRelock src) s fun u => u.clkState = 0 ∧ u.clk.searchDue = true ∧ u.clk.searching = false ∧ u.clk.target = none ∧
      u.rf Reg.CLK_WALK 0 16 = 0 ∧ u.bit Reg.THW_AVS_STAT 11 = false ∧ u.slot src = {} ∧ Raises s u [] ∧
      KeepsRegs s u relockRegs ∧ OnlyRegsAnd s u fun u => { u with clk := s.clk, keys := s.keys } := by
  obtain ⟨hstate, hwalk, havs⟩ := (s.disarm src).searchAnew_reads
  refine Does_keyed s relock rfl hk ?_
  rw [relock_free (s := s.disarm src) hh hi hf]
  exact ⟨hstate, rfl, rfl, rfl, hwalk, havs, (s.disarm src).searchAnew_step.of_disarm⟩

theorem does_clkRelock_blocked (hh : s.halted = true) (hb : s.integrity = true ∨ s.clk.failed = true) :
    Does (.clkRelock src) s fun u => u.slot src = {} ∧ ({ u with keys := s.keys } : State) = s := by
  refine Does_keyed s relock rfl hk ?_
  rw [relock_blocked (s := s.disarm src) hh hb]
  exact ⟨s.slot_disarm src, rfl⟩

/-- A search on a device that runs is refused with 0x25 (R73). -/
theorem does_clkRelock_running (hh : s.halted = false) : Does (.clkRelock src) s fun u =>
    u.clkState = s.clkState ∧ u.slot src = {} ∧ u.rn Reg.CFG_REFUSE_ADDR = Reg.CLK_CTRL ∧
      Raises s u [(0x0325, 0, [Reg.CLK_CTRL])] ∧ KeepsRegs s u [Reg.CFG_REFUSE_CNT, Reg.CFG_REFUSE_ADDR] ∧
      OnlyRegsAnd s u fun u => { u with keys := s.keys } := by
  have hstep : RootStep [Reg.CFG_REFUSE_CNT, Reg.CFG_REFUSE_ADDR] [(0x0325, 0, [Reg.CLK_CTRL])] (s.disarm src)
      ((s.disarm src).refuse Reg.CLK_CTRL 0x25) :=
    (((RootStep.refl _ _).wf (by decide) 0 32 _).wn (by decide) Reg.CLK_CTRL).raise _ _ _
  have haddr : ((s.disarm src).refuse Reg.CLK_CTRL 0x25).rn Reg.CFG_REFUSE_ADDR = Reg.CLK_CTRL := by
    rw [State.refuse, State.rn_raise, State.rn_wn, if_pos rfl]
    rfl
  obtain ⟨hslot, hraises, hregs, -⟩ := hstep.of_disarm
  refine Does_keyed s relock rfl hk ?_
  rw [relock_running (s := s.disarm src) hh]
  refine ⟨State.rf_of_rg 0 3 (hregs _ (by decide)), hslot, haddr, hraises, hregs, ?_⟩
  exact congrArg (fun t : State => { t with keys := s.keys }) (hstep.onlyRegs rfl)

end Relock

end Sys2Proof.Machine

open Sys2Proof Sys2Proof.Machine Sys2Proof.Safety

/-- Settles O15: what a reference shows, when it loses its qualification, and how the loop moves between its references. -/
theorem referenceMonitorAndSwitch : Obligations.ReferenceMonitorAndSwitch := by
  unfold Obligations.ReferenceMonitorAndSwitch
  refine ⟨fun s b offset hrun hinj htarget => ⟨does_referencePresent hrun, does_referenceLost_idle hrun hinj htarget,
    fun hp hst => does_referenceQualified hrun hp hst, fun hp hst hi => does_referenceQualified_coasting hrun hp htarget hst hi,
    fun last hlast hsel hst hbig => does_refFreqInterval_stepped hrun hinj htarget hlast hsel hst hbig,
    fun hlo hhi hin hno => does_refFreqInterval_inside hrun hlo hhi hin hno,
    fun hout hq hno => does_refFreqInterval_outside hrun hinj htarget hout hq hno⟩, fun s src hrun =>
    ⟨fun hrev hq hst hi hsel => does_revertTimer hrun hrev hq hst hi hsel,
    fun hrev => Leaves_main s revert rfl hrun (if_neg (by simp [hrev])), fun hk => ?_⟩⟩
  exact ⟨does_clkSwitch_injecting hk, does_clkSwitch_coasting hk, does_clkSwitch_unqualified hk, does_clkRelock_free hk,
    does_clkRelock_blocked hk, does_clkRelock_running hk⟩
end

section
/-! PROOFS. Halting (R334, R565): what the device shows once it has entered HALTED, and what it leaves. -/

namespace Sys2Proof.Machine

open Safety

variable (s : State)

theorem DrivesOnly.clk {l : List Nat} {s t : State} (h : DrivesOnly l s t) : t.clk = s.clk := by
  obtain ⟨_, _, _, _, _, _, rfl⟩ := h
  rfl

/-- A device that ran shows HALTED. -/
def State.leaveRun (s : State) : State := if s.devState = 7 then s.wf Reg.GLB_STAT 0 4 8 else s

/-- The registers of a halted device, before its balls follow. -/
def State.showHalted (s : State) : State :=
  ((s.outputsOff.setPairState 0).leaveRun.wbit Reg.GLB_STAT 5 false).wbit Reg.PAR_STAT 6 false

/-- No handover, checkpoint or ARM is under way, and HB_OUT is low. -/
def State.dropRoles (s : State) : State :=
  State.stopHeartbeat { s with par.hoSince := none, par.hoPeriod := none, par.finalDue := false, par.capture := none,
                               par.loaded := false, par.prepared := false, par.announce := false, sys.armWait := false }

theorem State.enterHalted_eq : s.enterHalted = s.showHalted.dropRoles.settle := rfl

theorem State.leaveRun_drivesOnly : DrivesOnly haltRegs s s.leaveRun :=
  DrivesOnly.ite (s.wr_drivesOnly _ (by decide)) (DrivesOnly.refl _ s)

theorem State.leaveRun_devState : s.leaveRun.devState = if s.devState = 7 then 8 else s.devState := by
  unfold State.leaveRun
  split
  · rw [State.devState, s.rf_wf_same _ _ _ _ (by decide)]
    rfl
  · rfl

theorem State.leaveRun_rg {a : Nat} (h : a ≠ Reg.GLB_STAT) : s.leaveRun.rg a = s.rg a := by
  unfold State.leaveRun
  split
  · exact s.rg_wf_ne _ _ _ h
  · rfl

theorem State.showHalted_drivesOnly : DrivesOnly haltRegs s s.showHalted :=
  ((((State.outputsOff_drivesOnly s).mono (by decide)).trans (State.setPairState_drivesOnly _ 0)).trans
    (State.leaveRun_drivesOnly _)).trans ((State.wr_drivesOnly _ _ (by decide)).trans (State.wr_drivesOnly _ _ (by decide)))

/-- Halting shows in the registers of R334 and R565 alone. -/
theorem State.enterHalted_keeps : KeepsRegs s s.enterHalted haltRegs := fun a ha =>
  ((State.settle_drivesOnly _).rg fun h => ha (by revert h; simp; rintro rfl; decide)).trans (s.showHalted_drivesOnly.rg ha)

/-- Halting leaves time, memories, events and the clock root. -/
theorem State.enterHalted_leaves : s.enterHalted.tim = s.tim ∧ s.enterHalted.mem = s.mem ∧ s.enterHalted.evt = s.evt ∧
    s.enterHalted.clk = s.clk := by
  have hshow := s.showHalted_drivesOnly
  have hballs := s.showHalted.dropRoles.settle_drivesOnly
  rw [State.enterHalted_eq]
  exact ⟨hballs.tim.trans hshow.tim, hballs.mem.trans hshow.mem, hballs.evt.trans hshow.evt, hballs.clk.trans hshow.clk⟩

theorem State.enterHalted_hbOut : s.enterHalted.sys.hbOut = false := by
  rw [State.enterHalted_eq, (State.settle_drivesOnly _).sys]
  rfl

/-- A register of a halted device but GPR_BYPO stands as it is shown. -/
theorem State.enterHalted_rg {a : Nat} (h : a ≠ Reg.GPR_BYPO) : s.enterHalted.rg a = s.showHalted.rg a :=
  (State.settle_drivesOnly _).rg (by simpa using h)

/-- A pair state shows in PAR_STAT, the arbiter's mode, the lane directions and the partner link. -/
theorem State.setPairState_rg (p : Nat) {a : Nat} (h : a ∉ [Reg.PAR_STAT, Reg.ARB_STAT, Reg.RNG_LINK] ++ awakeRegs) :
    (s.setPairState p).rg a = s.rg a := by
  rw [List.mem_append, not_or] at h
  obtain ⟨hpair, hawake⟩ := h
  obtain ⟨t, ht, he⟩ := ((s.wf Reg.PAR_STAT 0 2 p).wbit Reg.ARB_STAT 0 (p == 0)).laneUses_cases
  simp only [List.mem_cons, List.not_mem_nil, or_false, not_or] at hpair
  obtain ⟨hstat, harb, hlink⟩ := hpair
  rw [State.setPairState, he, t.showPartner_drivesOnly.rg (by simp [hstat, hlink]), ht.rg hawake, State.rg_wbit_ne _ _ _ harb,
    State.rg_wf_ne _ _ _ _ hstat]

theorem State.showHalted_devState : s.showHalted.devState = if s.devState = 7 then 8 else s.devState := by
  have hkeep : (s.outputsOff.setPairState 0).devState = s.devState :=
    State.rf_of_rg 0 4 ((State.setPairState_rg _ 0 (by decide)).trans (s.outputsOff_drivesOnly.rg (by decide)))
  rw [State.devState, State.showHalted, State.rf_wbit_ne _ _ _ _ _ (by decide),
    State.rf_wbit_apart _ _ _ (by decide) (.inr (by decide)), ← hkeep]
  exact State.leaveRun_devState _

theorem State.enterHalted_devState : s.enterHalted.devState = if s.devState = 7 then 8 else s.devState :=
  (State.rf_of_rg 0 4 (s.enterHalted_rg (by decide))).trans s.showHalted_devState

theorem State.enterHalted_pairState : s.enterHalted.pairState = 0 := by
  have hleave : (s.outputsOff.setPairState 0).leaveRun.rg Reg.PAR_STAT = (s.outputsOff.setPairState 0).rg Reg.PAR_STAT :=
    State.leaveRun_rg _ (by decide)
  rw [State.pairState, State.rf_of_rg 0 2 (s.enterHalted_rg (by decide)), State.showHalted,
    State.rf_wbit_apart _ _ _ (by decide) (.inr (by decide)), State.rf_wbit_ne _ _ _ _ _ (by decide), State.rf_of_rg 0 2 hleave]
  exact State.setPairState_pairState _ 0

theorem State.enterHalted_outEn : s.enterHalted.outEn = false := by
  have hleave : (s.outputsOff.setPairState 0).leaveRun.rg Reg.PWM_STAT = (s.outputsOff.setPairState 0).rg Reg.PWM_STAT :=
    State.leaveRun_rg _ (by decide)
  rw [State.outEn, State.bit_of_rg 8 (s.enterHalted_rg (by decide)), State.showHalted, State.bit_wbit_ne _ _ _ _ (by decide),
    State.bit_wbit_ne _ _ _ _ (by decide), State.bit_of_rg 8 hleave]
  exact (State.setPairState_outEn _ 0).trans s.outputsOff_outEn

end Sys2Proof.Machine
end

section
/-! PROOFS. Clock integrity (R83, R84, R85): Flint's log, the fault with what it latches, and what waits for the root to run again. -/

namespace Sys2Proof.Machine

open Safety

variable (s : State)

/-! ### Flint's log (R397) -/

/-- The entry of Flint's log that is written next. -/
def State.logIndex (s : State) : Nat := s.rf Reg.FLT_STAT 4 4

theorem State.logIndex_lt : s.logIndex < 16 := Nat.mod_lt _ (by decide)

theorem fltLog_apart : ∀ i < 16, Reg.FLT_LOG i ∉ [Reg.FLT_STAT, Reg.FLT_CYCLES, Reg.CLK_STAT, Reg.CLK_PHERR, Reg.CLK_PHPEAK] ++ haltRegs := by
  decide

theorem State.flintLog_eq (code : Nat) : s.flintLog code =
    (s.wn (Reg.FLT_LOG s.logIndex) (code + s.rf Reg.FLT_CYCLES 0 16 * 65536)).wf Reg.FLT_STAT 4 4 (s.logIndex + 1) := rfl

theorem RootStep.flintLog {l : List Nat} {e : List (Nat × Nat × List Nat)} {s t : State} (h : RootStep l e s t)
    (hs : Reg.FLT_STAT ∈ l) (hl : Reg.FLT_LOG t.logIndex ∈ l) (code : Nat) : RootStep l e s (t.flintLog code) :=
  (h.wn hl _).wf hs _ _ _

theorem State.flintLog_clk (code : Nat) : (s.flintLog code).clk = s.clk := by simp [State.flintLog]

/-- The log holds the code with the low half of Flint's cycle count. -/
theorem State.flintLog_entry {code : Nat} (h : code < 65536) :
    (s.flintLog code).rn (Reg.FLT_LOG s.logIndex) = code + s.rf Reg.FLT_CYCLES 0 16 * 65536 := by
  have hne : Reg.FLT_LOG s.logIndex ≠ Reg.FLT_STAT := fun he => fltLog_apart _ s.logIndex_lt (by rw [he]; decide)
  have hcycles : s.rf Reg.FLT_CYCLES 0 16 < 65536 := Nat.mod_lt _ (by decide)
  rw [State.flintLog_eq, State.rn_of_rg (State.rg_wf_ne _ _ _ _ hne), State.rn_wn, if_pos rfl, Nat.mod_eq_of_lt (by omega)]

/-! ### The fault (R83, R84) -/

/-- The registers in which a clock integrity fault is latched and logged. -/
def latchRegs (t : Nat) : List Nat := [Reg.CLK_STAT, Reg.CLK_PHERR, Reg.CLK_PHPEAK, Reg.FLT_STAT, Reg.FLT_LOG t]

/-- The registers in which a clock integrity fault shows, with those of the halt behind it. -/
def faultRegs (t : Nat) : List Nat := latchRegs t ++ haltRegs

/-- INTEGRITY and CAUSE are latched, with what injection leaves. -/
def State.latchFault (s : State) (cause : Nat) : State := (s.latchError.wbit Reg.CLK_STAT 6 true).wf Reg.CLK_STAT 8 2 cause

/-- The clock root of a device with a clock integrity fault: Flint's override is in force, and nothing searches. -/
def faultClk (c : Clk) : Clk :=
  { c with override := true, target := none, searchDue := false, searching := false, releasing := false, goodWindows := 0 }

/-- A clock integrity fault, before the device halts. -/
def State.tellFault (s : State) (cause code : Nat) : State :=
  ((s.latchFault cause).flintLog code).setClk (faultClk ((s.latchFault cause).flintLog code).clk)

theorem State.integrityFault_eq (cause code : Nat) : s.integrityFault cause code = (s.tellFault cause code).cancelAll.enterHalted := rfl

theorem State.latchFault_step (cause : Nat) :
    RootStep [Reg.CLK_STAT, Reg.CLK_PHERR, Reg.CLK_PHPEAK] [] s (s.latchFault cause) :=
  (((RootStep.refl _ s).latchError (by decide) (by decide)).wbit (by decide) 6 true).wf (by decide) 8 2 cause

theorem State.latchFault_logIndex (cause : Nat) : (s.latchFault cause).logIndex = s.logIndex :=
  State.rf_of_rg 4 4 ((s.latchFault_step cause).regs _ (by decide))

theorem State.tellFault_step (cause code : Nat) : RootStep (latchRegs s.logIndex) [] s (s.tellFault cause code) := by
  have hlatch : RootStep (latchRegs s.logIndex) [] s (s.latchFault cause) :=
    (s.latchFault_step cause).mono fun a ha => List.mem_append_left [Reg.FLT_STAT, Reg.FLT_LOG s.logIndex] ha
  refine (hlatch.flintLog (by simp [latchRegs]) ?_ code).setClk _
  rw [s.latchFault_logIndex]
  simp [latchRegs]

theorem State.tellFault_clk (cause code : Nat) : (s.tellFault cause code).clk = faultClk s.clk := by
  have hlatch : (s.latchFault cause).clk = s.clk := by simp [State.latchFault, s.latchError_clk]
  rw [State.tellFault, State.clk_setClk, State.flintLog_clk, hlatch]

/-- CLK_STAT of a fault: STATE as it was, INTEGRITY and CAUSE. -/
theorem State.tellFault_stat {cause : Nat} (code : Nat) (hc : cause < 4) : (s.tellFault cause code).clkState = s.clkState ∧
    (s.tellFault cause code).integrity = true ∧ (s.tellFault cause code).rf Reg.CLK_STAT 8 2 = cause := by
  have herr : s.latchError.rg Reg.CLK_STAT = s.rg Reg.CLK_STAT :=
    ((RootStep.refl [Reg.CLK_PHERR, Reg.CLK_PHPEAK] s).latchError (by decide) (by decide)).regs _ (by decide)
  have hlog : (s.tellFault cause code).rg Reg.CLK_STAT = (s.latchFault cause).rg Reg.CLK_STAT := by
    refine ((((RootStep.refl [Reg.FLT_STAT, Reg.FLT_LOG (s.latchFault cause).logIndex] _).flintLog (by simp) (by simp) code).setClk
      (faultClk ((s.latchFault cause).flintLog code).clk)).regs _ ?_)
    have hne := fltLog_apart _ (s.latchFault cause).logIndex_lt
    simp only [List.mem_cons, List.not_mem_nil, or_false, not_or]
    exact ⟨by decide, fun he => hne (by rw [← he]; decide)⟩
  refine ⟨?_, ?_, ?_⟩
  · rw [State.clkState, State.rf_of_rg 0 3 hlog, State.latchFault, State.rf_wf_apart _ _ _ (by decide) (.inr (by decide)),
      State.rf_wbit_apart _ _ _ (by decide) (.inr (by decide)), State.rf_of_rg 0 3 herr, State.clkState]
  · rw [State.integrity, State.bit_of_rg 6 hlog, State.bit, State.latchFault, State.rf_wf_apart _ _ _ (by decide) (.inr (by decide))]
    exact State.bit_wbit_same _ _ _ (by decide)
  · rw [State.rf_of_rg 8 2 hlog, State.latchFault, State.rf_wf_same _ _ _ _ _ (by decide)]
    exact Nat.mod_eq_of_lt hc

theorem State.tellFault_log (cause : Nat) {code : Nat} (h : code < 65536) :
    (s.tellFault cause code).rn (Reg.FLT_LOG s.logIndex) = code + s.rf Reg.FLT_CYCLES 0 16 * 65536 := by
  have hentry := (s.latchFault cause).flintLog_entry h
  rw [s.latchFault_logIndex, State.rf_of_rg 0 16 ((s.latchFault_step cause).regs Reg.FLT_CYCLES (by decide))] at hentry
  rw [State.tellFault, State.rn_setClk, hentry]

/-- What a clock integrity fault makes of the machine (R84, R85). -/
structure FaultLatched (s u : State) (cause code : Nat) : Prop where
  integrity : u.integrity = true
  cause : u.rf Reg.CLK_STAT 8 2 = cause
  clkState : u.clkState = s.clkState
  clk : u.clk = faultClk s.clk
  hbOut : u.sys.hbOut = false
  pairState : u.pairState = 0
  devState : u.devState = if s.devState = 7 then 8 else s.devState
  outEn : u.outEn = false
  log : u.rn (Reg.FLT_LOG s.logIndex) = code + s.rf Reg.FLT_CYCLES 0 16 * 65536
  regs : KeepsRegs s u (faultRegs s.logIndex)
  mem : u.mem = s.mem
  evt : u.evt.batch = s.evt.batch

theorem State.integrityFault_latched {cause code : Nat} (hcause : cause < 4) (hcode : code < 65536) :
    FaultLatched s (s.integrityFault cause code) cause code := by
  have htell := s.tellFault_step cause code
  have hcancel := (s.tellFault cause code).cancelAll_drivesOnly []
  obtain ⟨hstate, hint, hcause'⟩ := s.tellFault_stat code hcause
  obtain ⟨-, hmem, hevt, hclk⟩ := (s.tellFault cause code).cancelAll.enterHalted_leaves
  have hrg {a : Nat} (h : a ∉ haltRegs) : (s.tellFault cause code).cancelAll.enterHalted.rg a = (s.tellFault cause code).rg a :=
    (State.enterHalted_keeps _ a h).trans (hcancel.rg (by simp))
  have hdev : (s.tellFault cause code).cancelAll.devState = s.devState := by
    have hne : Reg.GLB_STAT ∉ latchRegs s.logIndex := by
      have hlog := fltLog_apart _ s.logIndex_lt
      simp only [latchRegs, List.mem_cons, List.not_mem_nil, or_false, not_or]
      exact ⟨by decide, by decide, by decide, by decide, fun he => hlog (by rw [← he]; decide)⟩
    exact State.rf_of_rg 0 4 ((hcancel.rg (by simp)).trans (htell.regs _ hne))
  obtain ⟨r, c, b, hframe⟩ := htell.only
  rw [s.integrityFault_eq]
  refine ⟨(State.bit_of_rg 6 (hrg (by decide))).trans hint, (State.rf_of_rg 8 2 (hrg (by decide))).trans hcause',
    (State.rf_of_rg 0 3 (hrg (by decide))).trans hstate, hclk.trans (hcancel.clk.trans (s.tellFault_clk cause code)),
    State.enterHalted_hbOut _, State.enterHalted_pairState _, ?_, State.enterHalted_outEn _, ?_, fun a ha => ?_, ?_, ?_⟩
  · rw [State.enterHalted_devState, hdev]
  · refine (State.rn_of_rg (hrg fun h => ?_)).trans (s.tellFault_log cause hcode)
    exact fltLog_apart _ s.logIndex_lt (List.mem_append_right _ h)
  · exact (hrg fun h => ha (List.mem_append_right _ h)).trans (htell.regs a fun h => ha (List.mem_append_left _ h))
  · exact hmem.trans (hcancel.mem.trans (by rw [hframe]))
  · rw [hevt, hcancel.evt]
    simpa [Raises] using htell.raises

end Sys2Proof.Machine
end

section
/-! PROOFS. The commands of clock integrity (R75, R83, R84, R85): loss of lock, the SCLK windows and a stopped SCLK. With coasting
this settles the obligation about both. -/

namespace Sys2Proof.Machine

open Safety

variable {s : State}

/-! ### Loss of lock (R75) -/

/-- The phase error of a loss of lock is shown, and the largest one. -/
def State.showError (s : State) (err : Int) : State :=
  let s := s.wf Reg.CLK_PHERR 0 16 (unsigned 16 (clampInt (-32768) 32767 err))
  s.wf Reg.CLK_PHPEAK 0 16 (max (s.rf Reg.CLK_PHPEAK 0 16) (min err.natAbs 65535))

theorem lossOfLock_injecting {err : Int} (hinj : s.injecting s.clkSel = true) (hq : s.refQualified s.clkSel = true) :
    lossOfLock err s = ((s.raise 0x0110 0 [unsigned 32 err]).integrityFault 1 0x0110).showError err := if_pos (by simp [hinj, hq])

theorem FaultLatched.keepsMem {u : State} {cause code : Nat} (h : FaultLatched s u cause code) : KeepsMem s u := fun a => by
  rw [State.byte, h.mem]
  rfl

/-- The registers of the phase error stand apart from what a fault latches. -/
theorem FaultLatched.showError {u : State} {cause code : Nat} (h : FaultLatched s u cause code) (err : Int) :
    FaultLatched s (u.showError err) cause code := by
  have hstep : RootStep [Reg.CLK_PHERR, Reg.CLK_PHPEAK] [] u (u.showError err) :=
    ((RootStep.refl _ u).wf (by decide) _ _ _).wf (by decide) _ _ _
  have hlog : Reg.FLT_LOG s.logIndex ∉ [Reg.CLK_PHERR, Reg.CLK_PHPEAK] := by
    have hne := fltLog_apart _ s.logIndex_lt
    simp only [List.mem_cons, List.not_mem_nil, or_false, not_or]
    exact ⟨fun he => hne (by rw [he]; decide), fun he => hne (by rw [he]; decide)⟩
  exact ⟨(State.bit_of_rg 6 (hstep.regs _ (by decide))).trans h.integrity,
    (State.rf_of_rg 8 2 (hstep.regs _ (by decide))).trans h.cause, (State.rf_of_rg 0 3 (hstep.regs _ (by decide))).trans h.clkState,
    h.clk, h.hbOut, (State.rf_of_rg 0 2 (hstep.regs _ (by decide))).trans h.pairState,
    (State.rf_of_rg 0 4 (hstep.regs _ (by decide))).trans h.devState, (State.bit_of_rg 8 (hstep.regs _ (by decide))).trans h.outEn,
    (State.rn_of_rg (hstep.regs _ hlog)).trans h.log,
    fun a ha => (hstep.regs a fun hm => ha (by simp [faultRegs, latchRegs] at hm ⊢; tauto)).trans (h.regs a ha), h.mem, h.evt⟩

theorem does_lossOfLock (hon : s.onMain = true) (hrun : s.clk.stopped = false) (err : Int) (hinj : s.injecting s.clkSel = true)
    (hq : s.refQualified s.clkSel = true) {t run : Nat} (ht : t = s.logIndex) (hdev : run = if s.devState = 7 then 8 else s.devState) :
    Does (.lossOfLock err) s fun u =>
      u.integrity = true ∧ u.rf Reg.CLK_STAT 8 2 = 1 ∧ u.clkState = s.clkState ∧ u.clk.override = true ∧
      u.sys.hbOut = false ∧ u.pairState = 0 ∧ u.devState = run ∧ u.outEn = false ∧
      u.rn (Reg.FLT_LOG t) = 0x0110 + s.rf Reg.FLT_CYCLES 0 16 * 65536 ∧
      Raises s u [(0x0110, 0, [unsigned 32 err])] ∧ KeepsRegs s u (faultRegs t) ∧ KeepsMem s u := by
  subst ht hdev
  have hlatched := (State.integrityFault_latched (s.raise 0x0110 0 [unsigned 32 err]) (cause := 1) (code := 0x0110) (by decide)
    (by decide)).showError err
  refine Does_main s (lossOfLock err) rfl (by simp [State.running, hon, hrun]) ?_
  rw [lossOfLock_injecting hinj hq]
  generalize ((s.raise 0x0110 0 [unsigned 32 err]).integrityFault 1 0x0110).showError err = u at hlatched
  have hev : Raises s u [(0x0110, 0, [unsigned 32 err])] := hlatched.evt
  exact ⟨hlatched.integrity, hlatched.cause, hlatched.clkState, congrArg Clk.override hlatched.clk, hlatched.hbOut,
    hlatched.pairState, hlatched.devState, hlatched.outEn, hlatched.log, hev, hlatched.regs, hlatched.keepsMem⟩

/-! ### Behind a window (R83, R84) -/

/-- The records that domains which run again queue behind a window of `count` edges. -/
def State.freed (s : State) (count : Nat) : List Raised :=
  if s.clk.stopFresh = false ∧ 0 < count then s.clk.held.toList.map (fun e => { ev := e }) else []

/-- The clock root behind a window of `count` edges: one that edges are counted in lets a stopped root run again, but for the
window in which it stopped. -/
def windowClk (c : Clk) (count : Nat) : Clk :=
  if c.stopFresh then { c with stopFresh := false } else if 0 < count then { c with held := none, stopped := false } else c

/-- The machine behind a window of `count` edges, before the count is judged. -/
def State.behindWindow (s : State) (count : Nat) : State :=
  { s with clk := windowClk s.clk count, evt.batch := s.evt.batch ++ s.freed count }

theorem State.rootRuns_eq (s : State) (count : Nat) : s.rootRuns count = s.behindWindow count := by
  have hnone (c : Clk) : ({ s with clk := c } : State) = { s with clk := c, evt.batch := s.evt.batch ++ [] } := by
    rw [List.append_nil]
  unfold State.rootRuns State.behindWindow windowClk State.freed
  cases hfresh : s.clk.stopFresh with
  | true => exact hnone _
  | false =>
    by_cases hc : 0 < count
    · simp [hc, hfresh]
    · simp [hc]

theorem windowClk_stopped {c : Clk} (h : c.stopped = false) (count : Nat) : (windowClk c count).stopped = false := by
  unfold windowClk
  split
  · exact h
  · split
    · rfl
    · exact h

theorem windowClk_freqTold (c : Clk) (count : Nat) : (windowClk c count).freqTold = c.freqTold := by
  unfold windowClk
  split
  · rfl
  · split <;> rfl

/-- An SCLK count out of range is told, once. -/
def State.tellCount (s : State) (count : Nat) : State :=
  ((s.behindWindow count).raise 0x0111 0 [count]).setClk { windowClk s.clk count with freqTold := true }

theorem sclkWindow_outside {count : Nat} (hstop : s.clk.stopped = false) (htold : s.clk.freqTold = false)
    (hout : count < 180 ∨ 211 < count) : sclkWindow count s =
      if s.integrity then (s.tellCount count).flintLog 0x0111 else (s.tellCount count).integrityFault 2 0x0111 := by
  have hquiet : ((s.behindWindow count).clk.stopped || (s.behindWindow count).clk.freqTold) = false := by
    simp [State.behindWindow, windowClk_stopped hstop, windowClk_freqTold, htold]
  unfold sclkWindow
  rw [s.rootRuns_eq, if_neg (by omega), if_neg (by rw [hquiet]; decide)]
  rfl

theorem sclkWindow_inside {count : Nat} (hlo : 180 ≤ count) (hhi : count ≤ 211) :
    sclkWindow count s = (s.behindWindow count).countGoodWindow := by
  unfold sclkWindow
  rw [s.rootRuns_eq, if_pos ⟨hlo, hhi⟩]

/-! ### A count out of range (R83, R84) -/

section Window

variable (hon : s.onMain = true) {count t : Nat} (ht : t = s.logIndex)

include hon

/-- The first fault of the root: a count out of range halts the device. -/
theorem does_sclkWindowEnd_fault {run : Nat} (hdev : run = if s.devState = 7 then 8 else s.devState) {held : List Raised}
    (hheld : held = s.freed count) (hi : s.integrity = false) (hstop : s.clk.stopped = false) (htold : s.clk.freqTold = false)
    (hout : count < 180 ∨ 211 < count) : Does (.sclkWindowEnd count) s fun u =>
      u.integrity = true ∧ u.rf Reg.CLK_STAT 8 2 = 2 ∧ u.clkState = s.clkState ∧ u.clk.override = true ∧
      u.sys.hbOut = false ∧ u.devState = run ∧
      u.evt.batch = s.evt.batch ++ held ++ [{ ev := { code := 0x0111, data := words [count], ts32 := s.tim.ts32 } }] ∧
      KeepsRegs s u (faultRegs s.logIndex) ∧ KeepsMem s u := by
  subst hdev hheld
  have hlatched := State.integrityFault_latched (s.tellCount count) (cause := 2) (code := 0x0111) (by decide) (by decide)
  refine Does_access s (sclkWindow count) rfl hon ?_
  rw [sclkWindow_outside hstop htold hout, if_neg (by simp [hi])]
  generalize (s.tellCount count).integrityFault 2 0x0111 = u at hlatched
  exact ⟨hlatched.integrity, hlatched.cause, hlatched.clkState, congrArg Clk.override hlatched.clk, hlatched.hbOut,
    hlatched.devState, hlatched.evt, hlatched.regs, hlatched.keepsMem⟩

include ht

/-- Behind another fault a count out of range is raised and logged, and CAUSE keeps the first. -/
theorem does_sclkWindowEnd_again {held : List Raised} (hheld : held = s.freed count) (hi : s.integrity = true)
    (hstop : s.clk.stopped = false) (htold : s.clk.freqTold = false) (hout : count < 180 ∨ 211 < count) :
    Does (.sclkWindowEnd count) s fun u =>
      u.rg Reg.CLK_STAT = s.rg Reg.CLK_STAT ∧ u.rn (Reg.FLT_LOG t) = 0x0111 + s.rf Reg.FLT_CYCLES 0 16 * 65536 ∧
      u.clk.freqTold = true ∧
      u.evt.batch = s.evt.batch ++ held ++ [{ ev := { code := 0x0111, data := words [count], ts32 := s.tim.ts32 } }] ∧
      KeepsRegs s u [Reg.FLT_STAT, Reg.FLT_LOG t] := by
  subst ht hheld
  have hlog : RootStep [Reg.FLT_STAT, Reg.FLT_LOG s.logIndex] [] (s.tellCount count) ((s.tellCount count).flintLog 0x0111) :=
    (RootStep.refl [Reg.FLT_STAT, Reg.FLT_LOG s.logIndex] (s.tellCount count)).flintLog List.mem_cons_self
      (List.mem_cons_of_mem _ List.mem_cons_self) 0x0111
  have hentry := (s.tellCount count).flintLog_entry (code := 0x0111) (by decide)
  have hclk := (s.tellCount count).flintLog_clk 0x0111
  have hne := fltLog_apart _ s.logIndex_lt
  refine Does_access s (sclkWindow count) rfl hon ?_
  rw [sclkWindow_outside hstop htold hout, if_pos hi]
  generalize (s.tellCount count).flintLog 0x0111 = u at hlog hentry hclk
  refine ⟨hlog.regs _ ?_, hentry, congrArg Clk.freqTold hclk, ?_, hlog.regs⟩
  · simp only [List.mem_cons, List.not_mem_nil, or_false, not_or]
    exact ⟨by decide, fun he => hne (by rw [← he]; decide)⟩
  · have hev := hlog.raises
    simpa [Raises, State.tellCount, State.behindWindow, State.setClk] using hev

end Window

/-! ### A stopped SCLK (R83, R84) -/

/-- The domains of the root have stopped; the stamped record waits. -/
def State.holdRecord (s : State) (ts : Word) : State :=
  s.setClk { s.clk with stopped := true, stopFresh := true, held := some { code := 0x0112, ts32 := ts } }

theorem sclkStop_running (h : s.clk.stopped = false) : sclkStop s =
    (if s.integrity then s.flintLog 0x0112 else s.integrityFault 3 0x0112).holdRecord s.tim.ts32 := if_neg (by simp [h])

theorem sclkStop_stopped (h : s.clk.stopped = true) : sclkStop s = s := if_pos h

section Stop

variable (hon : s.onMain = true) (hstop : s.clk.stopped = false)

include hon hstop

theorem does_sclkStopped_fault {run : Nat} (hdev : run = if s.devState = 7 then 8 else s.devState) (hi : s.integrity = false) :
    Does .sclkStopped s fun u =>
      u.integrity = true ∧ u.rf Reg.CLK_STAT 8 2 = 3 ∧ u.clk.override = true ∧ u.sys.hbOut = false ∧ u.devState = run ∧
      u.clk.stopped = true ∧ u.clk.held = some { code := 0x0112, ts32 := s.tim.ts32 } ∧ Raises s u [] ∧
      KeepsRegs s u (faultRegs s.logIndex) ∧ KeepsMem s u := by
  subst hdev
  have hlatched := s.integrityFault_latched (cause := 3) (code := 0x0112) (by decide) (by decide)
  refine Does_access s sclkStop rfl hon ?_
  rw [sclkStop_running hstop, if_neg (by simp [hi])]
  generalize s.integrityFault 3 0x0112 = u at hlatched
  exact ⟨hlatched.integrity, hlatched.cause, congrArg Clk.override hlatched.clk, hlatched.hbOut, hlatched.devState, rfl, rfl,
    raises_none hlatched.evt, hlatched.regs, hlatched.keepsMem⟩

/-- Behind another fault the stop is logged and its record waits, and CAUSE keeps the first. -/
theorem does_sclkStopped_again {t : Nat} (ht : t = s.logIndex) (hi : s.integrity = true) : Does .sclkStopped s fun u =>
    u.clk.stopped = true ∧ u.clk.held = some { code := 0x0112, ts32 := s.tim.ts32 } ∧ u.rg Reg.CLK_STAT = s.rg Reg.CLK_STAT ∧
      u.rn (Reg.FLT_LOG t) = 0x0112 + s.rf Reg.FLT_CYCLES 0 16 * 65536 ∧ Raises s u [] ∧
      KeepsRegs s u [Reg.FLT_STAT, Reg.FLT_LOG t] := by
  subst ht
  have hlog : RootStep [Reg.FLT_STAT, Reg.FLT_LOG s.logIndex] [] s (s.flintLog 0x0112) :=
    (RootStep.refl _ _).flintLog (by simp) (by simp) 0x0112
  have hentry := s.flintLog_entry (code := 0x0112) (by decide)
  have hne := fltLog_apart _ s.logIndex_lt
  refine Does_access s sclkStop rfl hon ?_
  rw [sclkStop_running hstop, if_pos hi]
  generalize s.flintLog 0x0112 = u at hlog hentry
  refine ⟨rfl, rfl, hlog.regs _ ?_, hentry, hlog.raises, hlog.regs⟩
  simp only [List.mem_cons, List.not_mem_nil, or_false, not_or]
  exact ⟨by decide, fun he => hne (by rw [← he]; decide)⟩

end Stop

/-! ### A count within the range (R85) -/

/-- A good window leaves the root, counts while Flint's override waits for its release, or releases it. -/
theorem State.countGoodWindow_cases (s : State) {P : State → Prop} (hnone : P s)
    (hcount : P (s.setClk { s.clk with goodWindows := s.clk.goodWindows + 1 }))
    (hrelease : P (s.setClk { s.clk with goodWindows := 0, releasing := false, override := false }).settle) :
    P s.countGoodWindow := by
  unfold State.countGoodWindow
  split
  · simp only []
    split
    · exact hcount
    · exact hrelease
  · exact hnone

theorem State.countGoodWindow_idle (h : s.clk.releasing = false) : s.countGoodWindow = s := if_neg (by simp [h])

section Good

variable (hrel : s.clk.releasing = true) (hlock : s.clk.locked = true) (hi : s.integrity = false)

include hrel hlock hi

theorem State.countGoodWindow_first (h : s.clk.goodWindows = 0) :
    s.countGoodWindow = s.setClk { s.clk with goodWindows := 1 } := by
  simp [State.countGoodWindow, hrel, hlock, hi, h, State.setClk]

theorem State.countGoodWindow_second (h : s.clk.goodWindows = 1) :
    s.countGoodWindow = (s.setClk { s.clk with goodWindows := 0, releasing := false, override := false }).settle := by
  simp [State.countGoodWindow, hrel, hlock, hi, h, State.setClk]

end Good

/-- A good window leaves INTEGRITY, the events of the tick and what is known of a stopped root. -/
theorem State.countGoodWindow_leaves (s : State) : s.countGoodWindow.integrity = s.integrity ∧ s.countGoodWindow.evt = s.evt ∧
    s.countGoodWindow.clk.stopFresh = s.clk.stopFresh ∧ s.countGoodWindow.clk.held = s.clk.held ∧
    s.countGoodWindow.clk.stopped = s.clk.stopped := by
  have hballs := (s.setClk { s.clk with goodWindows := 0, releasing := false, override := false }).settle_drivesOnly
  refine s.countGoodWindow_cases (P := fun u => u.integrity = s.integrity ∧ u.evt = s.evt ∧ u.clk.stopFresh = s.clk.stopFresh ∧
    u.clk.held = s.clk.held ∧ u.clk.stopped = s.clk.stopped) ⟨rfl, rfl, rfl, rfl, rfl⟩ ⟨rfl, rfl, rfl, rfl, rfl⟩ ?_
  generalize State.settle _ = u at hballs ⊢
  exact ⟨State.bit_of_rg 6 (hballs.rg (by decide)), hballs.evt,
    (congrArg Clk.stopFresh hballs.clk).trans rfl, (congrArg Clk.held hballs.clk).trans rfl, (congrArg Clk.stopped hballs.clk).trans rfl⟩

theorem windowClk_keeps (c : Clk) (count : Nat) : (windowClk c count).releasing = c.releasing ∧
    (windowClk c count).locked = c.locked ∧ (windowClk c count).goodWindows = c.goodWindows ∧
    (windowClk c count).override = c.override := by
  unfold windowClk
  split
  · exact ⟨rfl, rfl, rfl, rfl⟩
  · split <;> exact ⟨rfl, rfl, rfl, rfl⟩

theorem windowClk_stopFresh (c : Clk) (count : Nat) : (windowClk c count).stopFresh = false := by
  unfold windowClk
  split
  case isTrue => rfl
  case isFalse h =>
    rw [Bool.not_eq_true] at h
    split <;> exact h

theorem does_sclkWindowEnd_good (hon : s.onMain = true) {count : Nat} {held : List Raised} (hheld : held = s.freed count)
    (hlo : 180 ≤ count) (hhi : count ≤ 211) : Does (.sclkWindowEnd count) s fun u =>
      u.integrity = s.integrity ∧ u.evt.batch = s.evt.batch ++ held ∧ u.clk.stopFresh = false ∧
      (s.clk.stopFresh = false → u.clk.held = none ∧ u.clk.stopped = false) ∧
      (s.clk.stopFresh = true → u.clk.held = s.clk.held ∧ u.clk.stopped = s.clk.stopped) ∧
      (s.clk.releasing = false → KeepsRegs s u [] ∧ OnlyRegsAnd s u fun u => { u with clk := s.clk }) ∧
      (s.clk.releasing = true → s.clk.locked = true → s.integrity = false →
        (s.clk.goodWindows = 0 → u.clk.override = s.clk.override ∧ u.clk.goodWindows = 1) ∧
        (s.clk.goodWindows = 1 → u.clk.override = false ∧ u.clk.releasing = false)) := by
  subst hheld
  obtain ⟨hint, hevt, hfresh, hrecord, hstop⟩ := (s.behindWindow count).countGoodWindow_leaves
  obtain ⟨hrelk, hlockk, hgoodk, hoverk⟩ := windowClk_keeps s.clk count
  refine Does_access s (sclkWindow count) rfl hon ?_
  rw [sclkWindow_inside hlo hhi]
  refine ⟨hint, congrArg Evt.batch hevt, hfresh.trans (windowClk_stopFresh _ _), fun h => ?_, fun h => ?_, fun h => ?_,
    fun hrel hlock hi => ⟨fun h => ?_, fun h => ?_⟩⟩
  · have hruns : windowClk s.clk count = { s.clk with held := none, stopped := false } := by
      rw [windowClk, if_neg (by simp [h]), if_pos (by omega)]
    exact ⟨hrecord.trans ((congrArg Clk.held hruns).trans rfl), hstop.trans ((congrArg Clk.stopped hruns).trans rfl)⟩
  · have hwaits : windowClk s.clk count = { s.clk with stopFresh := false } := if_pos h
    exact ⟨hrecord.trans ((congrArg Clk.held hwaits).trans rfl), hstop.trans ((congrArg Clk.stopped hwaits).trans rfl)⟩
  · rw [State.countGoodWindow_idle (s := s.behindWindow count) (hrelk.trans h)]
    exact ⟨fun _ _ => rfl, rfl⟩
  · rw [State.countGoodWindow_first (s := s.behindWindow count) (hrelk.trans hrel) (hlockk.trans hlock) hi (hgoodk.trans h)]
    exact ⟨hoverk, rfl⟩
  · rw [State.countGoodWindow_second (s := s.behindWindow count) (hrelk.trans hrel) (hlockk.trans hlock) hi (hgoodk.trans h),
      (State.settle_drivesOnly _).clk]
    exact ⟨rfl, rfl⟩

end Sys2Proof.Machine

open Sys2Proof Sys2Proof.Machine Sys2Proof.Safety

/-- Settles O16: a loop that injects a reference coasts when it loses it, and a clock integrity fault halts the device. -/
theorem coastingAndIntegrity : Obligations.CoastingAndIntegrity := by
  unfold Obligations.CoastingAndIntegrity
  refine ⟨fun s b offset last hrun hinj htarget => ⟨fun hcfg => ⟨does_referenceLost_coasting hrun hinj htarget hcfg,
    fun hlast hbig => does_refFreqInterval_coasting hrun hinj htarget hcfg hlast hbig⟩,
    fun hcfg hask hlocked hcoast => does_referenceLost_asking hrun hinj htarget hcfg hask hlocked hcoast⟩,
    fun s err count t run held hon ht hdev hheld => ⟨fun hstop hinj hq => does_lossOfLock hon hstop err hinj hq ht hdev,
    fun hi hstop => ?_, fun hi hstop => ?_, fun hstop => ?_, fun hlo hhi => does_sclkWindowEnd_good hon hheld hlo hhi⟩⟩
  · subst ht
    exact ⟨fun htold hout => does_sclkWindowEnd_fault hon hdev hheld hi hstop htold hout, does_sclkStopped_fault hon hstop hdev hi⟩
  · exact ⟨fun htold hout => does_sclkWindowEnd_again hon ht hheld hi hstop htold hout, does_sclkStopped_again hon hstop ht hi⟩
  · exact Leaves_access s sclkStop rfl hon (sclkStop_stopped hstop)
end

section
/-! PROOFS. Stack time (R90, R93) in the operations of the model: which of them leave the whole of it, and which its clock. First
the shared operations: the registers, the memory, the queues and the reactions. -/

namespace Sys2Proof.Machine

variable (s : State)

/-! ### The clock -/

/-- The instant of stack time and its TS32: what a tick and a step set (R90, R92, R93). -/
def Tim.clock (t : Tim) : Nat × Nat × Nat × Word := (t.s, t.ns, t.sub, t.ts32)

@[simp] theorem Tim.clock_eta (t : Tim) : (t.s, t.ns, t.sub, t.ts32) = t.clock := rfl

@[simp] theorem Tim.clock_mk (s ns sub : Nat) (ts32 : Word) (past period slew stopped good bad alignFault holdSince integral ofs
    follow hops setSeq delays pps fifo lastEdge capTold tpo tpoNext tpoHigh tpoIdle ppsOut ppsEnd port announce sync last
    echo pathDelay) :
    (Tim.mk s ns sub ts32 past period slew stopped good bad alignFault holdSince integral ofs follow hops setSeq delays pps
      fifo lastEdge capTold tpo tpoNext tpoHigh tpoIdle ppsOut ppsEnd port announce sync last echo pathDelay).clock =
      (s, ns, sub, ts32) := rfl

@[simp] theorem Tim.ite_clock (c : Prop) [Decidable c] (a b : Tim) :
    (if c then a else b).clock = if c then a.clock else b.clock := apply_ite ..

theorem foldl_keeps {α β : Type} {g : State → β} {f : State → α → State} (h : ∀ t x, g (f t x) = g t) (l : List α) :
    g (l.foldl f s) = g s := by
  induction l generalizing s with
  | nil => rfl
  | cons x l ih => exact (ih (f s x)).trans (h s x)

@[simp] theorem foldl_tim {α : Type} {f : State → α → State} (h : ∀ t x, (f t x).tim = t.tim) (l : List α) :
    (l.foldl f s).tim = s.tim := foldl_keeps s h l
@[simp] theorem foldl_clock {α : Type} {f : State → α → State} (h : ∀ t x, (f t x).tim.clock = t.tim.clock) (l : List α) :
    (l.foldl f s).tim.clock = s.tim.clock := foldl_keeps (g := fun t => t.tim.clock) s h l
@[simp] theorem State.each_tim {f : State → Nat → State} (h : ∀ t x, (f t x).tim = t.tim) (n : Nat) :
    (s.each n f).tim = s.tim := foldl_keeps s h _
@[simp] theorem State.each_clock {f : State → Nat → State} (h : ∀ t x, (f t x).tim.clock = t.tim.clock) (n : Nat) :
    (s.each n f).tim.clock = s.tim.clock := foldl_keeps (g := fun t => t.tim.clock) s h _
@[simp] theorem State.doIf_tim (b : Bool) {f : State → State} (h : ∀ t, (f t).tim = t.tim) :
    (s.doIf b f).tim = s.tim := by cases b; exacts [rfl, h s]

/-- A fold that carries something beside the state. -/
theorem foldl_pair_tim {α β : Type} {f : State × β → α → State × β} (h : ∀ p x, (f p x).1.tim = p.1.tim) (l : List α)
    (p : State × β) : (l.foldl f p).1.tim = p.1.tim := by
  induction l generalizing p with
  | nil => rfl
  | cons x l ih => exact (ih (f p x)).trans (h p x)

theorem foldr_tim {α : Type} {f : α → State → State} (h : ∀ t x, (f x t).tim = t.tim) (l : List α) :
    (l.foldr f s).tim = s.tim := by
  induction l with
  | nil => rfl
  | cons x l ih => exact (h _ x).trans ih

@[simp] theorem State.doIf_clock (b : Bool) {f : State → State} (h : ∀ t, (f t).tim.clock = t.tim.clock) :
    (s.doIf b f).tim.clock = s.tim.clock := by cases b; exacts [rfl, h s]

/-! ### Registers, memory and the transmit side -/

@[simp] theorem State.poke_tim (a : Nat) (v : Word) : (s.poke a v).tim = s.tim := by simp [State.poke]

@[simp] theorem State.setBytes_tim (l : List Byte) (a : Nat) : (s.setBytes a l).tim = s.tim := by
  induction l generalizing s a with
  | nil => rfl
  | cons b l ih => exact ih (s.setByte a b) (a + 1)

@[simp] theorem State.storeBlock_tim (a : Nat) (l : List Byte) :
    (s.storeBlock a l).tim = s.tim := by simp [State.storeBlock]

@[simp] theorem State.setMem32_tim (a : Nat) (v : Word) : (s.setMem32 a v).tim = s.tim := s.setBytes_tim _ _
@[simp] theorem State.send_tim (n : Nat) (o : Out) : (s.send n o).tim = s.tim := by simp [State.send]
@[simp] theorem State.sendEth_tim (p kind : Nat) : (s.sendEth p kind).tim = s.tim := by simp [State.sendEth]
@[simp] theorem State.setPoint_tim (k : Nat) (p : MtrPoint) : (s.setPoint k p).tim = s.tim := by simp [State.setPoint]

/-! ### The event queues -/

theorem QueuesOnly.tim {s t : State} (h : QueuesOnly s t) : t.tim = s.tim := by obtain ⟨_, _, rfl⟩ := h; rfl

@[simp] theorem State.dropRecord_tim (q : Nat) : (s.dropRecord q).1.tim = s.tim := rfl

@[simp] theorem State.enqueue_tim (q : Nat) (r : Record) : (s.enqueue q r).1.tim = s.tim := (s.enqueue_queuesOnly q r).tim
@[simp] theorem State.buffer_tim (q : Nat) (r : Record) : (s.buffer q r).1.tim = s.tim := (s.buffer_queuesOnly q r).tim
@[simp] theorem State.countEvent_tim (e : Event) : (s.countEvent e).tim = s.tim := by simp [State.countEvent]

@[simp] theorem State.writeLast_tim (l : List Word) (i : Nat) : (s.writeLast i l).tim = s.tim := by
  induction l generalizing s i with
  | nil => rfl
  | cons w l ih => exact ih (s.ewr (Reg.EVT_LAST i) w) (i + 1)

@[simp] theorem State.keepLast_tim (r : Record) : (s.keepLast r).tim = s.tim := (s.keepLast_queuesOnly r).tim
@[simp] theorem State.queueOnce_tim (e : Event) : (s.queueOnce e).1.tim = s.tim := (s.queueOnce_queuesOnly e).tim
@[simp] theorem State.queueEvent_tim (e : Event) : (s.queueEvent e).tim = s.tim := (s.queueEvent_queuesOnly e).tim

@[simp] theorem State.overflowed_tim (q : Nat) (newly : Bool) :
    (s.overflowed q newly).tim = s.tim := by simp [State.overflowed]

@[simp] theorem State.reportEvent_tim (q : Nat) (e : Event) :
    (s.reportEvent q e).tim = s.tim := by simp [State.reportEvent]

@[simp] theorem State.report_tim (q code unit : Nat) (data : List Nat) :
    (s.report q code unit data).tim = s.tim := by simp [State.report]

@[simp] theorem State.epochMark_tim : s.epochMark.tim = s.tim := by simp [State.epochMark]
@[simp] theorem State.flush_tim : s.flush.tim = s.tim := s.flush_queuesOnly.tim

/-! ### Pads -/

@[simp] theorem State.setPair_tim (q : Nat) (p : Pair) : (s.setPair q p).tim = s.tim := by simp [State.setPair]
@[simp] theorem State.setLatch_tim (g : Nat) (b : Bool) : (s.setLatch g b).tim = s.tim := by simp [State.setLatch]
@[simp] theorem State.setGate_tim (g : Nat) (b : Bool) : (s.setGate g b).tim = s.tim := by simp [State.setGate]

@[simp] theorem State.settleGate_tim (g : Nat) :
    (s.settleGate g).tim = s.tim := by unfold State.settleGate; split <;> simp

@[simp] theorem State.settleByp_tim : s.settleByp.tim = s.tim := by simp [State.settleByp]
@[simp] theorem State.settleCell_tim (c : Nat) : (s.settleCell c).tim = s.tim := by simp [State.settleCell]
@[simp] theorem State.settle_tim : s.settle.tim = s.tim := by simp [State.settle]
@[simp] theorem State.bypFree_tim : s.bypFree.tim = s.tim := by simp [State.bypFree]
@[simp] theorem State.cancelPending_tim (q : Nat) : (s.cancelPending q).tim = s.tim := by simp [State.cancelPending]
@[simp] theorem State.cancelCell_tim (c : Nat) : (s.cancelCell c).tim = s.tim := by simp [State.cancelCell]
@[simp] theorem State.cancelAll_tim : s.cancelAll.tim = s.tim := by simp [State.cancelAll]
@[simp] theorem State.patternTurnOn_tim (g : Nat) : (s.patternTurnOn g).tim = s.tim := by simp [State.patternTurnOn]

/-! ### Reactions and trips -/

@[simp] theorem State.refuse_tim (addr code : Nat) : (s.refuse addr code).tim = s.tim := by simp [State.refuse]

@[simp] theorem State.keyRefused_tim (src : Src) (a : Nat) :
    (s.keyRefused src a).tim = s.tim := by simp [State.keyRefused]

@[simp] theorem State.toPartner_tim (m : Msg) : (s.toPartner m).tim = s.tim := by simp [State.toPartner]
@[simp] theorem State.toRing_tim (except : Nat) (m : Msg) : (s.toRing except m).tim = s.tim := by simp [State.toRing]
@[simp] theorem State.stopHeartbeat_tim : s.stopHeartbeat.tim = s.tim := by simp [State.stopHeartbeat]
@[simp] theorem State.startHeartbeat_tim : s.startHeartbeat.tim = s.tim := by simp [State.startHeartbeat]
@[simp] theorem State.driveTrip_tim (n : Nat) (b : Bool) : (s.driveTrip n b).tim = s.tim := by simp [State.driveTrip]
@[simp] theorem State.abandonEngines_tim : s.abandonEngines.tim = s.tim := by simp [State.abandonEngines]
@[simp] theorem State.engineRest_tim (k : Nat) : (s.engineRest k).tim = s.tim := by simp [State.engineRest]
@[simp] theorem State.enginesOn_tim : s.enginesOn.tim = s.tim := by simp [State.enginesOn]
@[simp] theorem State.setAwake_tim (n : Nat) (tx b : Bool) : (s.setAwake n tx b).tim = s.tim := by simp [State.setAwake]
@[simp] theorem State.showPartner_tim : s.showPartner.tim = s.tim := by simp [State.showPartner]
@[simp] theorem State.laneUses_tim : s.laneUses.tim = s.tim := by simp [State.laneUses]
@[simp] theorem State.setPairState_tim (p : Nat) : (s.setPairState p).tim = s.tim := by simp [State.setPairState]
@[simp] theorem State.stopPairs_tim : s.stopPairs.tim = s.tim := by simp [State.stopPairs]
@[simp] theorem State.outputsOff_tim : s.outputsOff.tim = s.tim := by simp [State.outputsOff]
@[simp] theorem State.enterHalted_tim : s.enterHalted.tim = s.tim := by simp [State.enterHalted]

@[simp] theorem State.requestHandover_tim (cause : Nat) :
    (s.requestHandover cause).tim = s.tim := by simp [State.requestHandover]

@[simp] theorem State.faultHandover_tim (cause : Nat) (extra : Bool) :
    (s.faultHandover cause extra).tim = s.tim := by simp [State.faultHandover]

@[simp] theorem State.latchTrip_tim (t : TripSet) (own : Bool) :
    (s.latchTrip t own).tim = s.tim := by simp [State.latchTrip]

@[simp] theorem State.originateTrip_tim (cause : Nat) :
    (s.originateTrip cause).tim = s.tim := by simp [State.originateTrip]

@[simp] theorem State.sendLatches_tim : s.sendLatches.tim = s.tim := by simp [State.sendLatches]
@[simp] theorem State.countLatches_tim : s.countLatches.tim = s.tim := by simp [State.countLatches]

@[simp] theorem State.clusterFault_tim (cause ncell : Nat) :
    (s.clusterFault cause ncell).tim = s.tim := by simp [State.clusterFault]

@[simp] theorem State.enterCellFs_tim (c cause : Nat) : (s.enterCellFs c cause).tim = s.tim := by simp [State.enterCellFs]
@[simp] theorem State.countCell_tim (c : Nat) : (s.countCell c).tim = s.tim := by simp [State.countCell]

@[simp] theorem State.cellFault_tim (c cause sw1 sw2 : Nat) :
    (s.cellFault c cause sw1 sw2).tim = s.tim := by simp [State.cellFault]

@[simp] theorem State.flintLog_tim (code : Nat) : (s.flintLog code).tim = s.tim := by simp [State.flintLog]

@[simp] theorem State.flintRaise_tim (code unit : Nat) (data : List Nat) :
    (s.flintRaise code unit data).tim = s.tim := by simp [State.flintRaise]

end Sys2Proof.Machine
end

section
/-! PROOFS. Stack time stands in the reference clock, in the operations of chapter 4 themselves, in measurement and in protection. -/

namespace Sys2Proof.Machine

variable (s : State)

/-! ### The clock of the stack (chapter 3) -/

@[simp] theorem State.setQualified_tim (b q : Bool) : (s.setQualified b q).tim = s.tim := by simp [State.setQualified]
@[simp] theorem State.showCoast_tim : s.showCoast.tim = s.tim := by simp [State.showCoast]
@[simp] theorem State.latchError_tim : s.latchError.tim = s.tim := by simp [State.latchError]
@[simp] theorem State.stopInjecting_tim : s.stopInjecting.tim = s.tim := by simp [State.stopInjecting]

@[simp] theorem State.seekReference_tim (cause : Nat) :
    (s.seekReference cause).tim = s.tim := by simp [State.seekReference]

@[simp] theorem State.coastHandover_tim : s.coastHandover.tim = s.tim := by simp [State.coastHandover]
@[simp] theorem State.enterCoasting_tim : s.enterCoasting.tim = s.tim := by simp [State.enterCoasting]
@[simp] theorem State.coast_tim (why : Nat) : (s.coast why).tim = s.tim := by simp [State.coast]

@[simp] theorem State.dropReference_tim (b : Bool) (why : Nat) :
    (s.dropReference b why).tim = s.tim := by simp [State.dropReference]

@[simp] theorem State.reportLost_tim (b : Bool) : (s.reportLost b).tim = s.tim := by simp [State.reportLost]
@[simp] theorem refLost_tim (b : Bool) : (refLost b s).tim = s.tim := by simp [refLost]
@[simp] theorem refPresent_tim (b : Bool) : (refPresent b s).tim = s.tim := by simp [refPresent]
@[simp] theorem refQualify_tim (b : Bool) : (refQualify b s).tim = s.tim := by simp [refQualify]
@[simp] theorem refInterval_tim (b : Bool) (offset : Int) : (refInterval b offset s).tim = s.tim := by simp [refInterval]
@[simp] theorem State.switchTo_tim (b : Bool) (cause : Nat) : (s.switchTo b cause).tim = s.tim := by simp [State.switchTo]
@[simp] theorem revert_tim : (revert s).tim = s.tim := by simp [revert]
@[simp] theorem searchStart_tim : (searchStart s).tim = s.tim := by simp [searchStart]

@[simp] theorem lockDeclared_clock (codes : List Nat) (code : Nat) :
    (lockDeclared codes code s).tim.clock = s.tim.clock := by simp [lockDeclared]

@[simp] theorem searchFailed_tim (band : Nat) : (searchFailed band s).tim = s.tim := by simp [searchFailed]
@[simp] theorem relock_tim : (relock s).tim = s.tim := by simp [relock]
@[simp] theorem switchRef_tim : (switchRef s).tim = s.tim := by simp [switchRef]
@[simp] theorem State.walkDone_tim : s.walkDone.tim = s.tim := by simp [State.walkDone]
@[simp] theorem walkStart_tim (theta : Nat) : (walkStart theta s).tim = s.tim := by unfold walkStart; split <;> simp
@[simp] theorem walkStep_tim : (walkStep s).tim = s.tim := by simp [walkStep]

@[simp] theorem State.integrityFault_tim (cause code : Nat) :
    (s.integrityFault cause code).tim = s.tim := by simp [State.integrityFault]

@[simp] theorem lossOfLock_tim (err : Int) : (lossOfLock err s).tim = s.tim := by simp [lossOfLock]
@[simp] theorem State.countGoodWindow_tim : s.countGoodWindow.tim = s.tim := by simp [State.countGoodWindow]
@[simp] theorem State.rootRuns_tim (count : Nat) : (s.rootRuns count).tim = s.tim := by simp [State.rootRuns]
@[simp] theorem sclkWindow_tim (count : Nat) : (sclkWindow count s).tim = s.tim := by simp [sclkWindow]
@[simp] theorem sclkStop_tim : (sclkStop s).tim = s.tim := by simp [sclkStop]

/-! ### Stack time (chapter 4) -/

@[simp] theorem State.keepTick_clock (n : Nat) : (s.keepTick n).tim.clock = s.tim.clock := by simp [State.keepTick]
@[simp] theorem State.ringRestart_tim : s.ringRestart.tim = s.tim := by simp [State.ringRestart]

theorem State.restart_clock (k : Int) : ({ s.ringRestart with tim.period := k } : State).tim.clock = s.tim.clock := rfl

@[simp] theorem State.regrid_clock : s.regrid.tim.clock = s.tim.clock := by
  unfold State.regrid
  generalize s.gridIndex s.perOfs s.perLen = k
  dsimp only
  refine (congrArg Tim.clock (State.each_tim _ (fun _ _ => State.wf_tim ..) 8)).trans ?_
  split
  · rfl
  · exact State.restart_clock s k

@[simp] theorem State.stepGrid_clock : s.stepGrid.tim.clock = s.tim.clock := by
  unfold State.stepGrid
  dsimp only
  refine (congrArg Tim.clock (State.each_tim _ (fun _ _ => State.wf_tim ..) 8)).trans ?_
  split
  · rfl
  · exact State.restart_clock s _

@[simp] theorem State.stepTpo_clock : s.stepTpo.tim.clock = s.tim.clock := by
  refine State.each_clock s (fun t n => ?_) 8
  split
  · rfl
  · split
    · rfl
    · split <;> rfl

@[simp] theorem timSnap_tim (v : Word) : (timSnap v s).tim = s.tim := by simp [timSnap]
@[simp] theorem timRateWrite_tim (v : Word) : (timRateWrite v s).tim = s.tim := by simp [timRateWrite]
@[simp] theorem timSlewWrite_clock (v : Word) : (timSlewWrite v s).tim.clock = s.tim.clock := by simp [timSlewWrite]
@[simp] theorem State.servo_clock : s.servo.tim.clock = s.tim.clock := by simp [State.servo]
@[simp] theorem State.ppsLow_clock : s.ppsLow.tim.clock = s.tim.clock := by simp [State.ppsLow]
@[simp] theorem State.choosePort_clock : s.choosePort.tim.clock = s.tim.clock := by simp [State.choosePort]

@[simp] theorem State.silencePort_clock (p : Nat) :
    (s.silencePort p).tim.clock = s.tim.clock := by simp [State.silencePort]

@[simp] theorem sourceTimeout_clock : (sourceTimeout s).tim.clock = s.tim.clock := by simp [sourceTimeout]

@[simp] theorem State.alignmentFault_clock (cause : Nat) :
    (s.alignmentFault cause).tim.clock = s.tim.clock := by simp [State.alignmentFault]

@[simp] theorem holdoverLimit_clock : (holdoverLimit s).tim.clock = s.tim.clock := by simp [holdoverLimit]
@[simp] theorem State.checkAlignment_clock : s.checkAlignment.tim.clock = s.tim.clock := by simp [State.checkAlignment]

@[simp] theorem State.setPathDelay_clock (port : Nat) (d : Int) :
    (s.setPathDelay port d).tim.clock = s.tim.clock := by simp [State.setPathDelay]

@[simp] theorem State.ptpSend_tim (port kind : Nat) : (s.ptpSend port kind).tim = s.tim := by simp [State.ptpSend]
@[simp] theorem State.askDelay_tim (port : Nat) : (s.askDelay port).tim = s.tim := by simp [State.askDelay]

/-! ### Measurement (chapter 5) -/

@[simp] theorem State.showSdm_tim : s.showSdm.tim = s.tim := by simp [State.showSdm]
@[simp] theorem State.recover_tim (c : Nat) (qual : Bool) : (s.recover c qual).tim = s.tim := by simp [State.recover]

@[simp] theorem State.sdAction_tim (c cond : Nat) :
    (s.sdAction c cond).tim = s.tim := by simp only [State.sdAction]; split <;> simp

@[simp] theorem sincResult_tim (c : Nat) (bits : List (Option Bool)) (rate : Nat) (qual : Bool) :
    (sincResult c bits rate qual s).tim = s.tim := by simp [sincResult]

@[simp] theorem State.countViolations_tim (c n : Nat) :
    (s.countViolations c n).tim = s.tim := by simp [State.countViolations]

@[simp] theorem State.showRate_tim (c rate : Nat) : (s.showRate c rate).tim = s.tim := by simp [State.showRate]

@[simp] theorem channelFault_tim (c cause : Nat) :
    (channelFault c cause s).tim = s.tim := by simp only [channelFault]; split <;> simp

@[simp] theorem channelRecovered_tim (c : Nat) :
    (channelRecovered c s).tim = s.tim := by unfold channelRecovered; split <;> simp

@[simp] theorem channelSettled_tim (c : Nat) : (channelSettled c s).tim = s.tim := by simp [channelSettled]
@[simp] theorem State.channelInit_tim (c : Nat) : (s.channelInit c).tim = s.tim := by simp [State.channelInit]
@[simp] theorem State.measInit_tim : s.measInit.tim = s.tim := by simp [State.measInit]

@[simp] theorem State.cmpSettle_tim (c : Nat) (settled : Bool) :
    (s.cmpSettle c settled).tim = s.tim := by simp [State.cmpSettle]

@[simp] theorem cmpAssert_tim (c : Nat) (hi : Bool) (bits : List (Option Bool)) :
    (cmpAssert c hi bits s).tim = s.tim := by unfold cmpAssert; split <;> simp

@[simp] theorem cmpDeassert_tim (c : Nat) (hi : Bool) (bits : List (Option Bool)) :
    (cmpDeassert c hi bits s).tim = s.tim := by simp [cmpDeassert]

@[simp] theorem State.setAdc_tim (k : Nat) (a : Adc) : (s.setAdc k a).tim = s.tim := by simp [State.setAdc]

@[simp] theorem State.setStream_tim (e : Nat) (x : Option Stream) :
    (s.setStream e x).tim = s.tim := by simp [State.setStream]

@[simp] theorem State.loseTrigger_tim (k t cause : Nat) :
    (s.loseTrigger k t cause).tim = s.tim := by simp [State.loseTrigger]

@[simp] theorem State.startRegular_tim (k : Nat) (deferred : Bool) :
    (s.startRegular k deferred).tim = s.tim := by simp [State.startRegular]

@[simp] theorem State.startStream_tim (k : Nat) : (s.startStream k).tim = s.tim := by simp [State.startStream]

@[simp] theorem State.abortRegular_tim (k : Nat) :
    (s.abortRegular k).tim = s.tim := by simp only [State.abortRegular]; split <;> simp

@[simp] theorem State.inject_tim (k t i : Nat) : (s.inject k t i).tim = s.tim := by unfold State.inject; split <;> simp

@[simp] theorem State.fireStream_tim (k t : Nat) :
    (s.fireStream k t).tim = s.tim := by unfold State.fireStream; split <;> simp

@[simp] theorem State.fireRegular_tim (k t : Nat) : (s.fireRegular k t).tim = s.tim := by simp [State.fireRegular]
@[simp] theorem State.fireSet_tim (j t : Nat) : (s.fireSet j t).tim = s.tim := by simp [State.fireSet]
@[simp] theorem State.fire_tim (t : Nat) : (s.fire t).tim = s.tim := by simp [State.fire]
@[simp] theorem State.sourceOf_tim (t : Nat) : (s.sourceOf t).tim = s.tim := by simp [State.sourceOf]
@[simp] theorem State.adcSource_tim (src : Nat) : (s.adcSource src).tim = s.tim := by simp [State.adcSource]
@[simp] theorem triggerFire_tim (t : Nat) : (triggerFire t s).tim = s.tim := by simp [triggerFire]
@[simp] theorem timerTrigger_tim (t : Nat) : (timerTrigger t s).tim = s.tim := by simp [timerTrigger]
@[simp] theorem swTrigger_tim (v : Word) : (swTrigger v s).tim = s.tim := by simp [swTrigger]

@[simp] theorem State.sampleRegular_tim (k : Nat) :
    (s.sampleRegular k).tim = s.tim := by simp only [State.sampleRegular]; split <;> simp

@[simp] theorem State.sampleStream_tim (k : Nat) :
    (s.sampleStream k).tim = s.tim := by simp only [State.sampleStream]; split <;> simp

@[simp] theorem sampleInstant_tim (k : Nat) :
    (sampleInstant k s).tim = s.tim := by simp only [sampleInstant]; (repeat' split) <;> simp

@[simp] theorem State.putResult_tim (reg key : Nat) (code : Int) (j : Job) :
    (s.putResult reg key code j).tim = s.tim := by simp [State.putResult]

@[simp] theorem State.nextStep_tim (k : Nat) (j : Job) : (s.nextStep k j).tim = s.tim := by simp [State.nextStep]

@[simp] theorem State.streamDone_tim (k : Nat) (code : Int) :
    (s.streamDone k code).tim = s.tim := by simp only [State.streamDone]; (repeat' split) <;> simp

@[simp] theorem conversionComplete_tim (k : Nat) (nanovolt : Int) :
    (conversionComplete k nanovolt s).tim = s.tim := by simp only [conversionComplete]; (repeat' split) <;> simp

@[simp] theorem State.dropRegular_tim (k : Nat) :
    (s.dropRegular k).tim = s.tim := by simp only [State.dropRegular]; split <;> simp

@[simp] theorem State.requestCal_tim (k : Nat) :
    (s.requestCal k).tim = s.tim := by unfold State.requestCal; split <;> simp

@[simp] theorem calCmd_tim (v : Word) : (calCmd v s).tim = s.tim := by simp [calCmd]
@[simp] theorem calStart_tim (k : Nat) : (calStart k s).tim = s.tim := by simp [calStart]

@[simp] theorem calComplete_tim (k : Nat) (offset gain : Word) (weights : List Word) :
    (calComplete k offset gain weights s).tim = s.tim := by simp [calComplete]

/-! ### Protection -/

@[simp] theorem State.showEval_tim : s.showEval.tim = s.tim := by simp [State.showEval]
@[simp] theorem State.setDsat_tim (g : Nat) (b : Bool) : (s.setDsat g b).tim = s.tim := by simp [State.setDsat]

@[simp] theorem State.recordSwitch_tim (g : Nat) (desat hard : Bool) :
    (s.recordSwitch g desat hard).tim = s.tim := by simp [State.recordSwitch]

@[simp] theorem State.latchSwitch_tim (g : Nat) : (s.latchSwitch g).tim = s.tim := by simp [State.latchSwitch]
@[simp] theorem State.unlatch_tim (g : Nat) : (s.unlatch g).tim = s.tim := by simp [State.unlatch]
@[simp] theorem State.escalate_tim (g : Nat) : (s.escalate g).tim = s.tim := by simp only [State.escalate]; split <;> simp

@[simp] theorem switchFault_tim (g : Nat) (hard : Bool) :
    (switchFault g hard s).tim = s.tim := by unfold switchFault; split <;> simp

@[simp] theorem tripInput_tim (n : Nat) : (tripInput n s).tim = s.tim := by simp [tripInput]
@[simp] theorem tripPulseEnd_tim : (tripPulseEnd s).tim = s.tim := by simp [tripPulseEnd]
@[simp] theorem State.awaitOpening_tim (c : Nat) : (s.awaitOpening c).tim = s.tim := by simp [State.awaitOpening]
@[simp] theorem bypFb_tim (c : Nat) (closed : Bool) : (bypFb c closed s).tim = s.tim := by simp [bypFb]
@[simp] theorem bypTimeout_tim (c : Nat) : (bypTimeout c s).tim = s.tim := by simp [bypTimeout]

@[simp] theorem State.clearDone_tim (scope index reason : Nat) :
    (s.clearDone scope index reason).tim = s.tim := by simp [State.clearDone]

@[simp] theorem clearSwitch_tim (g : Nat) : (clearSwitch g s).tim = s.tim := by simp [clearSwitch]
@[simp] theorem State.holdCell_tim (c : Nat) (own : Bool) : (s.holdCell c own).tim = s.tim := by simp [State.holdCell]
@[simp] theorem clearCell_tim (c : Nat) : (clearCell c s).tim = s.tim := by simp [clearCell]
@[simp] theorem State.showThermal_tim : s.showThermal.tim = s.tim := by simp [State.showThermal]
@[simp] theorem State.leaveLevel_tim (k : Nat) : (s.leaveLevel k).tim = s.tim := by simp [State.leaveLevel]
@[simp] theorem clearCluster_tim : (clearCluster s).tim = s.tim := by simp [clearCluster]
@[simp] theorem State.releasePattern_tim : s.releasePattern.tim = s.tim := by simp [State.releasePattern]
@[simp] theorem clearTrip_tim (n : Nat) : (clearTrip n s).tim = s.tim := by simp [clearTrip]
@[simp] theorem gprClear_tim (v : Word) : (gprClear v s).tim = s.tim := by unfold gprClear; split <;> simp

@[simp] theorem State.releaseFsreq_tim (serves req : Nat) :
    (s.releaseFsreq serves req).tim = s.tim := by simp [State.releaseFsreq]

/-! ### Flint -/

@[simp] theorem State.setFunc_tim (f st cause : Nat) : (s.setFunc f st cause).tim = s.tim := by simp [State.setFunc]
@[simp] theorem State.setSout_tim (n : Nat) (low on : Bool) : (s.setSout n low on).tim = s.tim := by simp [State.setSout]
@[simp] theorem State.driveOuts_tim : s.driveOuts.tim = s.tim := by simp [State.driveOuts]
@[simp] theorem State.outsOff_tim : s.outsOff.tim = s.tim := by simp [State.outsOff]
@[simp] theorem State.flintState_tim (v : Nat) : (s.flintState v).tim = s.tim := by simp [State.flintState]
@[simp] theorem State.lockAll_tim (cause : Nat → Nat) : (s.lockAll cause).tim = s.tim := by simp [State.lockAll]

@[simp] theorem State.flintReset_tim (power : Bool) :
    (s.flintReset power).tim = s.tim := by simp only [State.flintReset]; (repeat' split) <;> simp

@[simp] theorem flintPower_tim (asserted : Bool) (node : Nat) :
    (flintPower asserted node s).tim = s.tim := by unfold flintPower; split <;> simp

@[simp] theorem vddFlint_tim : (vddFlint s).tim = s.tim := by simp [vddFlint]
@[simp] theorem State.flintFault_tim : s.flintFault.tim = s.tim := by simp [State.flintFault]
@[simp] theorem selftestComplete_tim (pass : Bool) : (selftestComplete pass s).tim = s.tim := by simp [selftestComplete]
@[simp] theorem watchdogExpiry_tim : (watchdogExpiry s).tim = s.tim := by simp [watchdogExpiry]
@[simp] theorem flintMemoryError_tim : (flintMemoryError s).tim = s.tim := by simp [flintMemoryError]

@[simp] theorem diagnosticStep_tim (kind : Nat) (pass : Bool) :
    (diagnosticStep kind pass s).tim = s.tim := by simp [diagnosticStep]

@[simp] theorem sinAccepted_tim (n : Nat) (b level : Bool) :
    (sinAccepted n b level s).tim = s.tim := by simp [sinAccepted]

@[simp] theorem State.latchPair_tim (n : Nat) (test : Bool) :
    (s.latchPair n test).tim = s.tim := by simp [State.latchPair]

@[simp] theorem inputTest_tim (bad : Nat) : (inputTest bad s).tim = s.tim := by simp [inputTest]
@[simp] theorem State.judgePair_tim (n : Nat) : (s.judgePair n).tim = s.tim := by simp [State.judgePair]
@[simp] theorem State.judgeHigh_tim (n : Nat) : (s.judgeHigh n).1.tim = s.tim := by simp [State.judgeHigh]

@[simp] theorem State.clearStep_tim (n : Nat) (reset : Bool) :
    (s.clearStep n reset).1.tim = s.tim := by simp only [State.clearStep]; (repeat' split) <;> simp

@[simp] theorem State.frameInvalid_tim (net : Nat) : (s.frameInvalid net).tim = s.tim := by simp [State.frameInvalid]

@[simp] theorem State.pairFrames_tim (cmd : Nat) (u : Unpaired) :
    (s.pairFrames cmd u).tim = s.tim := by simp [State.pairFrames]

@[simp] theorem State.validFrame_tim (net cmd seq : Nat) :
    (s.validFrame net cmd seq).tim = s.tim := by simp only [State.validFrame]; split <;> simp

@[simp] theorem safetyFrame_tim (net dst : Nat) (etherType : BitVec 16) (p : List Byte) :
    (safetyFrame net dst etherType p s).tim = s.tim := by unfold safetyFrame; split <;> simp

@[simp] theorem networkSilence_tim (net : Nat) : (networkSilence net s).tim = s.tim := by simp [networkSilence]
@[simp] theorem unpairedTimeout_tim (net : Nat) : (unpairedTimeout net s).tim = s.tim := by simp [unpairedTimeout]

@[simp] theorem State.readbackTrip_tim (n : Nat) :
    (s.readbackTrip n).tim = s.tim := by simp only [State.readbackTrip]; split <;> simp

@[simp] theorem State.readback_tim (n : Nat) (low level : Bool) :
    (s.readback n low level).tim = s.tim := by simp [State.readback]

@[simp] theorem readbackCompare_tim (n : Nat) (low level settled : Bool) :
    (readbackCompare n low level settled s).tim = s.tim := by simp only [readbackCompare]; (repeat' split) <;> simp

@[simp] theorem State.showTest_tim (n : Nat) (low : Bool) (result : Nat) :
    (s.showTest n low result).tim = s.tim := by simp [State.showTest]

@[simp] theorem pulseStart_tim (n : Nat) : (pulseStart n s).tim = s.tim := by unfold pulseStart; split <;> simp

@[simp] theorem State.pulseCycle_tim (n : Nat) (demanded : Nat → Bool) :
    (s.pulseCycle n demanded).tim = s.tim := by unfold State.pulseCycle; (repeat' split) <;> simp

@[simp] theorem State.takeRequests_tim : (s.takeRequests).1.tim = s.tim := by simp [State.takeRequests]
@[simp] theorem State.unlockReset_tim : s.unlockReset.tim = s.tim := by simp [State.unlockReset]
@[simp] theorem State.freset_tim : s.freset.tim = s.tim := by unfold State.freset; simp

@[simp] theorem flintCycle_tim : (flintCycle s).tim = s.tim := by
  unfold flintCycle
  split
  · rfl
  · split
    · split <;> simp
    · extract_lets t
      split
      next t1 host fr heq =>
      have h1 : t1.tim = s.tim := by
        have := t.takeRequests_tim
        rw [heq] at this
        exact this.trans (s.wn_tim ..)
      split
      · simp [h1]
      · extract_lets t2
        split
        next t3 button heq3 =>
        extract_lets src reset t4 demand t5 t6 t7 t8 t9 t10 _ t11
        have h3 : t3.tim = s.tim := by
          have h := foldl_pair_tim (f := fun (p : State × Bool) n => ((p.1.judgeHigh n).1, p.2 || (p.1.judgeHigh n).2))
            (fun p n => State.judgeHigh_tim ..) (List.range 8) (t2, false)
          exact ((congrArg (fun p : State × Bool => p.1.tim) heq3).symm.trans h).trans (by simp [t2, h1])
        have h6 : t6.tim = s.tim := by simp [t6, t5, t4, h3]
        have h7 : t7.tim = t6.tim := foldl_tim t6 (fun u f => by split <;> simp) _
        have h8 : t8.tim = t7.tim := foldl_tim t7 (fun u f => by split <;> simp) _
        have h9 : t9.tim = t8.tim := foldl_tim t8 (fun u n => by simp) _
        simp [t11, t10, h9, h8, h7, h6]

@[simp] theorem State.acceptSafe_tim (d : Safe) :
    (s.acceptSafe d).tim = s.tim := by simp only [State.acceptSafe]; split <;> simp

@[simp] theorem flintRequest_tim (v : Word) : (flintRequest v s).tim = s.tim := by simp [flintRequest]

end Sys2Proof.Machine
end

section
/-! PROOFS. Stack time stands in the engines, the memories, the commits, modulation and the ring. -/

namespace Sys2Proof.Machine

variable (s : State)

/-! ### The arbiter -/

@[simp] theorem State.setArbBank_tim (b : Nat) (x : ArbBank) :
    (s.setArbBank b x).tim = s.tim := by simp [State.setArbBank]

@[simp] theorem State.setLockSeq_tim (r : Nat) (q : Option LockSeq) :
    (s.setLockSeq r q).tim = s.tim := by simp [State.setLockSeq]

@[simp] theorem State.grant_tim (b cycle : Nat) (q : ArbReq) :
    (s.grant b cycle q).tim = s.tim := by simp only [State.grant]; split <;> simp

@[simp] theorem State.grantNext_tim (b cycle : Nat) :
    (s.grantNext b cycle).tim = s.tim := by unfold State.grantNext; (repeat' split) <;> simp

@[simp] theorem State.returned_tim (h : ArbReq) (cycle : Nat) :
    (s.returned h cycle).tim = s.tim := by simp [State.returned]

@[simp] theorem State.ungrant_tim (b cycle : Nat) (h : ArbReq) :
    (s.ungrant b cycle h).tim = s.tim := by simp only [State.ungrant]; split <;> simp

@[simp] theorem State.dropSeq_tim (r cycle : Nat) (banks : List Nat) : (s.dropSeq r cycle banks).tim = s.tim := by
  refine (State.each_tim _ (fun t b => ?_) 16).trans rfl
  simp only [State.setArbBank_tim]
  split <;> simp

@[simp] theorem State.wound_tim (r cycle : Nat) : (s.wound r cycle).tim = s.tim := by unfold State.wound; split <;> simp

@[simp] theorem State.challenge_tim (b cycle : Nat) (q : ArbReq) :
    (s.challenge b cycle q).tim = s.tim := by unfold State.challenge; (repeat' split) <;> simp

@[simp] theorem State.contest_tim (b cycle : Nat) : (s.contest b cycle).tim = s.tim := by
  unfold State.contest
  dsimp only
  split
  · rfl
  · split
    · split <;> simp
    · simp

@[simp] theorem arbRequest_tim (q : ArbReq) (b cycle : Nat) : (arbRequest q b cycle s).tim = s.tim := by
  unfold arbRequest
  extract_lets may q'
  split
  rename_i t r h
  refine (State.contest_tim ..).trans ?_
  split at h
  · cases h; rfl
  · split at h <;> cases h <;> rfl

@[simp] theorem arbUrgent_tim (r b cycle : Nat) :
    (arbUrgent r b cycle s).tim = s.tim := by unfold arbUrgent; simp

@[simp] theorem State.promote_tim (cycle : Nat) :
    (s.promote cycle).tim = s.tim := by unfold State.promote; simp

@[simp] theorem classWrite_tim (r : Nat) (v : Word) (cycle : Nat) :
    (classWrite r v cycle s).tim = s.tim := by unfold classWrite; split <;> simp

@[simp] theorem State.cutOff_tim (r b cause cycle : Nat) :
    (s.cutOff r b cause cycle).tim = s.tim := by simp only [State.cutOff]; (repeat' split) <;> simp

@[simp] theorem holdCutoff_tim (r b cycle : Nat) :
    (holdCutoff r b cycle s).tim = s.tim := by unfold holdCutoff; (repeat' split) <;> simp

@[simp] theorem withdraw_tim (r b cycle : Nat) :
    (withdraw r b cycle s).tim = s.tim := by unfold withdraw; (repeat' split) <;> simp

/-! ### Memory errors -/

@[simp] theorem State.putLog_tim (i : Nat) (e : LogEntry) : (s.putLog i e).tim = s.tim := by simp [State.putLog]
@[simp] theorem State.rewritten_tim (w : Nat) : (s.rewritten w).tim = s.tim := by simp [State.rewritten]
@[simp] theorem State.writeBack_tim (w : Nat) : (s.writeBack w).tim = s.tim := by unfold State.writeBack; split <;> simp

@[simp] theorem State.threshold_tim (was : Nat) (e : LogEntry) :
    (s.threshold was e).tim = s.tim := by unfold State.threshold; split <;> simp

@[simp] theorem State.logCorrection_tim (reader w : Nat) :
    (s.logCorrection reader w).tim = s.tim := by simp only [State.logCorrection]; (repeat' split) <;> simp

@[simp] theorem State.logOne_tim : s.logOne.tim = s.tim := by unfold State.logOne; (repeat' split) <;> simp
@[simp] theorem State.scrubFail_tim (w : Nat) : (s.scrubFail w).tim = s.tim := by simp [State.scrubFail]
@[simp] theorem State.correction_tim (reader w : Nat) : (s.correction reader w).tim = s.tim := by simp [State.correction]
@[simp] theorem State.recordUe_tim (reader w : Nat) : (s.recordUe reader w).tim = s.tim := by simp [State.recordUe]
@[simp] theorem State.scrubUe_tim (w : Nat) : (s.scrubUe w).tim = s.tim := by simp [State.scrubUe]

@[simp] theorem State.meet_tim (reader a n : Nat) : (s.meet reader a n).1.tim = s.tim := by
  refine foldl_pair_tim (fun p x => ?_) _ (s, none)
  dsimp only
  split
  · rfl
  · split <;> simp

@[simp] theorem State.scrubRead_tim (w n : Nat) :
    (s.scrubRead w n).tim = s.tim := by unfold State.scrubRead; (repeat' split) <;> simp

@[simp] theorem State.scrubAsk_tim : s.scrubAsk.tim = s.tim := by unfold State.scrubAsk; split <;> simp
@[simp] theorem State.scrubTick_tim : s.scrubTick.tim = s.tim := by simp [State.scrubTick]
@[simp] theorem State.scrubDrop_tim : s.scrubDrop.tim = s.tim := by simp [State.scrubDrop]
@[simp] theorem State.scrubEnd_tim (state last : Nat) : (s.scrubEnd state last).tim = s.tim := by simp [State.scrubEnd]
@[simp] theorem scrubGo_tim (wb : Bool) : (scrubGo wb s).tim = s.tim := by simp [scrubGo]
@[simp] theorem scrubAbort_tim (last : Nat) : (scrubAbort last s).tim = s.tim := by simp [scrubAbort]
@[simp] theorem scrubDone_tim : (scrubDone s).tim = s.tim := by simp [scrubDone]

/-! ### The ring map -/

@[simp] theorem State.setRcd_tim : s.setRcd.tim = s.tim := by simp [State.setRcd]
@[simp] theorem State.showRing_tim : s.showRing.tim = s.tim := by simp [State.showRing]

@[simp] theorem State.chooseDirection_clock (report : Bool) :
    (s.chooseDirection report).tim.clock = s.tim.clock := by simp [State.chooseDirection]

/-! ### Commits -/

@[simp] theorem State.showPending_tim : s.showPending.tim = s.tim := by simp [State.showPending]

@[simp] theorem State.commitStat_tim (st code c i chk : Nat) :
    (s.commitStat st code c i chk).tim = s.tim := by simp [State.commitStat]

@[simp] theorem State.commitRefused_tim (governed : Bool) (code c i chk mem : Nat) :
    (s.commitRefused governed code c i chk mem).tim = s.tim := by simp [State.commitRefused]

@[simp] theorem State.keepScales_tim (k : Nat) : (s.keepScales k).tim = s.tim := by simp [State.keepScales]

@[simp] theorem State.copyGroup_tim (c i : Nat) :
    (s.copyGroup c i).tim = s.tim := by simp only [State.copyGroup]; (repeat' split) <;> simp

@[simp] theorem State.copyUnsourced_tim : s.copyUnsourced.tim = s.tim := by simp [State.copyUnsourced]
@[simp] theorem State.seedAdt_tim (q : Nat) : (s.seedAdt q).tim = s.tim := by simp [State.seedAdt]
@[simp] theorem State.showCoarse_tim : s.showCoarse.tim = s.tim := by simp [State.showCoarse]
@[simp] theorem State.showLoad_tim : s.showLoad.tim = s.tim := by simp [State.showLoad]
@[simp] theorem State.patchDone_tim (n : Nat) : (s.patchDone n).tim = s.tim := by unfold State.patchDone; split <;> simp
@[simp] theorem State.atDone_tim (n : Nat) : (s.atDone n).tim = s.tim := by simp [State.atDone]

@[simp] theorem State.setAdt_tim (q : Nat) (up : Bool) (dt clean : Nat) :
    (s.setAdt q up dt clean).tim = s.tim := by simp [State.setAdt]

@[simp] theorem State.clampLive_tim (q np : Nat) : (s.clampLive q np).tim = s.tim := by simp [State.clampLive]
@[simp] theorem State.limitAdt_tim (q : Nat) : (s.limitAdt q).tim = s.tim := by simp [State.limitAdt]
@[simp] theorem State.fitPairs_tim (g : Nat) : (s.fitPairs g).tim = s.tim := by simp [State.fitPairs]

@[simp] theorem State.goLive_clock (c i : Nat) : (s.goLive c i).tim.clock = s.tim.clock := by
  unfold State.goLive
  extract_lets p s1 cfg s2 s3 s4 s5 s6 s7 s8 s9 t
  have h : s9.tim.clock = s.tim.clock := by simp [s9, s8, s7, s6, s5, s4, s3, s2, s1]
  split
  · split
    · exact h
    · simp [h]
  · split <;> simp [t, h]

@[simp] theorem State.commitPoint_clock (c i : Nat) :
    (s.commitPoint c i).tim.clock = s.tim.clock := by simp [State.commitPoint]

@[simp] theorem State.commitNow_clock : s.commitNow.tim.clock = s.tim.clock := by simp [State.commitNow]

@[simp] theorem startCommit_tim (r : CommitReq) :
    (startCommit r s).tim = s.tim := by simp only [startCommit]; (repeat' split) <;> simp

@[simp] theorem State.makePending_tim (c i : Nat) (p : Pend) :
    (s.makePending c i p).tim = s.tim := by simp [State.makePending]

@[simp] theorem commitChecked_clock : (commitChecked s).tim.clock = s.tim.clock := by
  unfold commitChecked
  split
  · rfl
  · extract_lets _ t l at' t1 t2
    have h : t2.tim.clock = s.tim.clock := by simp [t2, t1, t]
    split
    · simp [t]
    · split
      · simp [t]
      · split <;> simp [h]

@[simp] theorem State.releasePatch_clock : s.releasePatch.tim.clock = s.tim.clock := by
  refine foldl_clock s (fun t g => ?_) allGroups
  split
  · simp
  · rfl

@[simp] theorem State.commitBoundary_clock : s.commitBoundary.tim.clock = s.tim.clock := by simp [State.commitBoundary]

/-! ### Modulation -/

@[simp] theorem State.showPend_tim : s.showPend.tim = s.tim := by simp [State.showPend]

@[simp] theorem State.placeEdge_tim (line : Nat) (level : Bool) (t : Int) :
    (s.placeEdge line level t).tim = s.tim := by simp [State.placeEdge]

@[simp] theorem State.turnOn_tim (q : Nat) (up : Bool) (pos : Int) :
    (s.turnOn q up pos).tim = s.tim := by simp [State.turnOn]

@[simp] theorem State.actTransition_tim (q : Nat) (v : Bool) (pos : Int) :
    (s.actTransition q v pos).tim = s.tim := by simp [State.actTransition]

@[simp] theorem State.removeInterval_tim (q : Nat) (v : Bool) (w : Nat) :
    (s.removeInterval q v w).tim = s.tim := by simp [State.removeInterval]

@[simp] theorem State.stretchInterval_tim (q : Nat) (v : Bool) (d : Nat) :
    (s.stretchInterval q v d).tim = s.tim := by simp [State.stretchInterval]

@[simp] theorem State.judge_tim (q : Nat) (v : Bool) (t : Int) (e : Option Nat) (short : Bool) :
    (s.judge q v t e short).tim = s.tim := by unfold State.judge; split <;> simp

@[simp] theorem State.transitionAt_tim (q x : Nat) : (s.transitionAt q x).tim = s.tim := by simp [State.transitionAt]

@[simp] theorem State.rejudge_tim (q c : Nat) :
    (s.rejudge q c).tim = s.tim := by simp only [State.rejudge]; (repeat' split) <;> simp

@[simp] theorem State.insertCut_tim (q g : Nat) (c : Nat × Nat) :
    (s.insertCut q g c).tim = s.tim := by simp [State.insertCut]

@[simp] theorem State.refresh_tim (q g : Nat) : (s.refresh q g).tim = s.tim := by simp [State.refresh]
@[simp] theorem State.refreshMid_tim (q g c : Nat) : (s.refreshMid q g c).tim = s.tim := by simp [State.refreshMid]

@[simp] theorem shadowWrite_tim (q : Nat) (wid : Bool) (v : Word) :
    (shadowWrite q wid v s).tim = s.tim := by simp [shadowWrite]

@[simp] theorem State.loadAll_tim (g : Nat) : (s.loadAll g).tim = s.tim := by simp [State.loadAll]
@[simp] theorem pwmLoad_tim (v : Word) : (pwmLoad v s).tim = s.tim := by simp [pwmLoad]

@[simp] theorem closeSet_tim (g : Nat) : (closeSet g s).tim = s.tim := by
  refine (State.each_tim _ (fun t q => ?_) 96).trans rfl
  split <;> simp

@[simp] theorem State.commitPair_tim (q np : Nat) :
    (s.commitPair q np).tim = s.tim := by unfold State.commitPair; split <;> simp

@[simp] theorem State.takeoverDone_tim : s.takeoverDone.tim = s.tim := by simp [State.takeoverDone]
@[simp] theorem State.releasePair_tim (q pos : Nat) : (s.releasePair q pos).tim = s.tim := by simp [State.releasePair]
@[simp] theorem State.leaveHold_tim (q pos : Nat) : (s.leaveHold q pos).tim = s.tim := by simp [State.leaveHold]

@[simp] theorem State.pwmCommit_clock (g pos : Nat) (mid : Bool) :
    (s.pwmCommit g pos mid).tim.clock = s.tim.clock := by simp [State.pwmCommit]

@[simp] theorem groupBoundary_clock (g : Nat) (mid : Bool) :
    (groupBoundary g mid s).tim.clock = s.tim.clock := by simp [groupBoundary]

@[simp] theorem commandTransition_tim (q pos : Nat) :
    (commandTransition q pos s).tim = s.tim := by simp [commandTransition]

@[simp] theorem deadTimeExpiry_tim (q : Nat) :
    (deadTimeExpiry q s).tim = s.tim := by unfold deadTimeExpiry; split <;> simp

@[simp] theorem adtSample_tim (g : Nat) (level : Bool) : (adtSample g level s).tim = s.tim := by simp [adtSample]

@[simp] theorem biasUpdate_tim (loop code : Nat) (atEnd : Bool) :
    (biasUpdate loop code atEnd s).tim = s.tim := by simp [biasUpdate]

@[simp] theorem measureStart_tim (line fine : Nat) : (measureStart line fine s).tim = s.tim := by simp [measureStart]

@[simp] theorem measureDone_tim (line tap : Nat) :
    (measureDone line tap s).tim = s.tim := by unfold measureDone; split <;> simp

@[simp] theorem lineAged_tim (line : Nat) : (lineAged line s).tim = s.tim := by simp [lineAged]

/-! ### Timed outputs and captures -/

@[simp] theorem State.tpoStat_tim (n : Nat) (active err late : Bool) :
    (s.tpoStat n active err late).tim = s.tim := by simp [State.tpoStat]

@[simp] theorem State.tpoRest_clock (n : Nat) (activeLow : Bool) :
    (s.tpoRest n activeLow).tim.clock = s.tim.clock := by simp [State.tpoRest]

@[simp] theorem State.tpoSet_clock (n : Nat) (t : Option Tpo) :
    (s.tpoSet n t).tim.clock = s.tim.clock := by unfold State.tpoSet; split <;> simp

@[simp] theorem State.tpoTake_clock (n : Nat) (t : Option Tpo) :
    (s.tpoTake n t).tim.clock = s.tim.clock := by simp [State.tpoTake]

@[simp] theorem tpoArm_clock (n : Nat) (v : Word) : (tpoArm n v s).tim.clock = s.tim.clock := by
  unfold tpoArm
  extract_lets s1 t x
  split
  · simp
  · split
    · simp [s1]
    · split
      · simp [s1]
      · split <;> simp [s1]

@[simp] theorem State.tpoDrive_clock (n : Nat) (t : Tpo) (on : Bool) (at50 : Nat) :
    (s.tpoDrive n t on at50).tim.clock = s.tim.clock := by simp [State.tpoDrive]

@[simp] theorem State.tpoWaited_clock (n : Nat) (u : Option Tpo) (at50 : Nat) :
    (s.tpoWaited n u at50).tim.clock = s.tim.clock := by simp [State.tpoWaited]

@[simp] theorem tpoEdge_clock (n : Nat) (leading : Bool) : (tpoEdge n leading s).tim.clock = s.tim.clock := by
  unfold tpoEdge
  split
  · rfl
  · dsimp only
    split
    · split <;> simp
    · split
      · rfl
      · split
        · simp
        · split <;> simp

@[simp] theorem State.showLevel_tim (n : Nat) : (s.showLevel n).tim = s.tim := by simp [State.showLevel]

@[simp] theorem State.capture_clock (n stamp : Nat) :
    (s.capture n stamp).tim.clock = s.tim.clock := by simp [State.capture]

@[simp] theorem State.popFifo_clock (n : Nat) : (s.popFifo n).1.tim.clock = s.tim.clock := by
  unfold State.popFifo
  dsimp only
  split <;> simp

@[simp] theorem tcapPop_clock (n : Nat) : (tcapPop n s).tim.clock = s.tim.clock := by simp [tcapPop]
@[simp] theorem ppsPulse_clock (rising : Bool) : (ppsPulse rising s).tim.clock = s.tim.clock := by simp [ppsPulse]

/-! ### The engines -/

@[simp] theorem State.setData_tim (l : List Word) (k off : Nat) : (s.setData k off l).tim = s.tim := by
  induction l generalizing s off with
  | nil => rfl
  | cons w l ih => exact (ih (s.setMem32 (dataAt k off) w) (off + 4)).trans (State.setMem32_tim ..)

@[simp] theorem State.engineState_tim (k st seg : Nat) :
    (s.engineState k st seg).tim = s.tim := by simp [State.engineState]

@[simp] theorem State.setRun_tim (k : Nat) (r : Option SegRun) : (s.setRun k r).tim = s.tim := by simp [State.setRun]
@[simp] theorem windowStart_tim (e : Nat) : (windowStart e s).tim = s.tim := by simp [windowStart]

@[simp] theorem State.readBlock_tim (k : Nat) (r : SegRun) (b : Block) : (s.readBlock k r b).1.tim = s.tim := by
  unfold State.readBlock
  split
  · rfl
  · refine foldl_pair_tim (fun p x => ?_) _ (s, none)
    exact State.meet_tim ..

@[simp] theorem State.execBlock_tim (k : Nat) (r : SegRun) (b : Block) :
    (s.execBlock k r b).1.tim = s.tim := by simp [State.execBlock]

@[simp] theorem State.skipBlock_tim (k : Nat) (r : SegRun) (b : Block) :
    (s.skipBlock k r b).tim = s.tim := by simp [State.skipBlock]

@[simp] theorem State.engineFault_tim (k cause seg blk : Nat) :
    (s.engineFault k cause seg blk).tim = s.tim := by simp [State.engineFault]

@[simp] theorem blockDone_tim (k mismatch : Nat) : (blockDone k mismatch s).tim = s.tim := by
  unfold blockDone
  split
  · rfl
  · split
    · rfl
    · split
      · rfl
      · split
        · dsimp only
          split <;> simp
        · split
          · simp
          · dsimp only
            split
            · simp
            · split <;> simp

@[simp] theorem State.releaseValue_tim (d : Dest) (w : Word) :
    (s.releaseValue d w).tim = s.tim := by unfold State.releaseValue; split <;> simp

@[simp] theorem State.releaseOne_tim (k j : Nat) (x : Send) :
    (s.releaseOne k j x).tim = s.tim := by unfold State.releaseOne; split <;> simp

@[simp] theorem State.noteCycles_tim (k j c : Nat) : (s.noteCycles k j c).tim = s.tim := by simp [State.noteCycles]

@[simp] theorem State.commitSegment_tim (k : Nat) (r : SegRun) :
    (s.commitSegment k r).tim = s.tim := by simp [State.commitSegment]

@[simp] theorem State.overrun_tim (k : Nat) (r : SegRun) : (s.overrun k r).tim = s.tim := by simp [State.overrun]

@[simp] theorem State.closeWindow_tim (k : Nat) :
    (s.closeWindow k).tim = s.tim := by simp only [State.closeWindow]; (repeat' split) <;> simp

@[simp] theorem windowEnd_tim (e : Nat) : (windowEnd e s).tim = s.tim := by simp only [windowEnd]; split <;> simp

@[simp] theorem State.enginesBoundary_tim :
    s.enginesBoundary.tim = s.tim := by unfold State.enginesBoundary; simp

@[simp] theorem State.stopDry_tim : s.stopDry.tim = s.tim := by simp [State.stopDry]
@[simp] theorem setDry_tim (v : Word) : (setDry v s).tim = s.tim := by simp [setDry]
@[simp] theorem State.clearNew_tim : s.clearNew.tim = s.tim := by simp [State.clearNew]
@[simp] theorem State.latchSet_tim (mid : Bool) : (s.latchSet mid).tim = s.tim := by simp [State.latchSet]
@[simp] theorem State.showRouted_tim : s.showRouted.tim = s.tim := by simp [State.showRouted]
@[simp] theorem State.takeInputs_tim : s.takeInputs.tim = s.tim := by simp only [State.takeInputs]; split <;> simp

@[simp] theorem State.fillBoundary_tim :
    s.fillBoundary.tim = s.tim := by unfold State.fillBoundary; simp

@[simp] theorem State.fillMid_tim : s.fillMid.tim = s.tim := by unfold State.fillMid; simp
@[simp] theorem midPeriod_tim : (midPeriod s).tim = s.tim := by simp [midPeriod]
@[simp] theorem gprHold_tim (v : Word) : (gprHold v s).tim = s.tim := by simp [gprHold]

/-! ### The ring -/

@[simp] theorem State.setMemb_tim (m : Nat) : (s.setMemb m).tim = s.tim := by simp [State.setMemb]

@[simp] theorem State.setLink_clock (node lane : Nat) (up : Bool) :
    (s.setLink node lane up).tim.clock = s.tim.clock := by simp [State.setLink]

@[simp] theorem State.sendRing_tim (lane : Nat) (m : Msg) : (s.sendRing lane m).tim = s.tim := by simp [State.sendRing]

@[simp] theorem State.ringLane_clock (lane : Nat) (up : Bool) :
    (s.ringLane lane up).tim.clock = s.tim.clock := by simp [State.ringLane]

@[simp] theorem ringStateSet_clock (lane node lane'' : Nat) (up : Bool) :
    (ringStateSet lane node lane'' up s).tim.clock = s.tim.clock := by simp [ringStateSet]

@[simp] theorem State.sendTime_clock (lane : Nat) : (s.sendTime lane).tim.clock = s.tim.clock := by simp [State.sendTime]

@[simp] theorem State.framePartner_clock (f : Frame) :
    (s.framePartner f).tim.clock = s.tim.clock := by simp [State.framePartner]

@[simp] theorem State.sendFrame_clock (copy : Bool) (payload : List Byte) :
    (s.sendFrame copy payload).tim.clock = s.tim.clock := by simp [State.sendFrame]

@[simp] theorem State.forwardFrame_clock (lane : Nat) (f : Frame) (bad : Bool) :
    (s.forwardFrame lane f bad).tim.clock = s.tim.clock := by simp [State.forwardFrame]

@[simp] theorem State.setGctBit_tim (k : Int) (o n : Nat) : (s.setGctBit k o n).tim = s.tim := by simp [State.setGctBit]
@[simp] theorem State.declare_tim : s.declare.tim = s.tim := by unfold State.declare; split <;> simp

@[simp] theorem State.enterEntry_tim (k : Int) (n : Nat) (p : List Byte) :
    (s.enterEntry k n p).tim = s.tim := by simp [State.enterEntry]

@[simp] theorem State.takeFrame_tim (p : List Byte) : (s.takeFrame p).tim = s.tim := by
  unfold State.takeFrame
  extract_lets n m q d u1 u2 u3
  have h2 : u2.tim = s.tim := by simp [u2, u1]
  split
  · rfl
  · split
    · split
      · exact (State.enterEntry_tim ..).trans (State.wn_tim ..)
      · rfl
    · split
      · rfl
      · split <;> simp [h2]

@[simp] theorem State.badFrame_tim (lane : Nat) (f : Frame) : (s.badFrame lane f).tim = s.tim := by simp [State.badFrame]

@[simp] theorem periodFrame_clock (lane : Nat) (f : Frame) :
    (periodFrame lane f s).tim.clock = s.tim.clock := by simp [periodFrame]

@[simp] theorem partnerFrame_clock (lane : Nat) (f : Frame) :
    (partnerFrame lane f s).tim.clock = s.tim.clock := by simp [partnerFrame]

@[simp] theorem State.strata_tim (k : Int) : (s.strata k).tim = s.tim := by simp only [State.strata]; split <;> simp

@[simp] theorem sortDone_tim (cycles : Nat) :
    (sortDone cycles s).tim = s.tim := by unfold sortDone; (repeat' split) <;> simp

@[simp] theorem State.takeOp_tim (o : Option (Nat × Bool)) : (s.takeOp o).tim = s.tim := by
  unfold State.takeOp
  split
  · rfl
  · dsimp only
    split
    · rfl
    · split <;> simp

@[simp] theorem State.showGov_tim : s.showGov.tim = s.tim := by simp [State.showGov]

@[simp] theorem State.uncertain_tim (k : Int) (cause : Nat) :
    (s.uncertain k cause).tim = s.tim := by simp [State.uncertain]

@[simp] theorem State.holdGov_tim : s.holdGov.tim = s.tim := by simp [State.holdGov]
@[simp] theorem State.adoptMembers_tim (k : Int) : (s.adoptMembers k).tim = s.tim := by simp [State.adoptMembers]

@[simp] theorem State.govern_tim (k : Int) (mem : Nat) : (s.govern k mem).tim = s.tim := by
  unfold State.govern
  extract_lets need d missing s1 s2 gap mis s3 s4 s5
  have h2 : s2.tim = s.tim := by simp [s2, s1]
  have h4 : s4.tim = s.tim := by simp [s4, s3, h2]
  split
  · simp [h2]
  · split
    · simp [h4]
    · simp [s5, h4]

@[simp] theorem State.judgeAge_tim : s.judgeAge.tim = s.tim := by simp only [State.judgeAge]; (repeat' split) <;> simp
@[simp] theorem State.countNodes_tim (k : Int) : (s.countNodes k).tim = s.tim := by simp [State.countNodes]

@[simp] theorem State.closeSnapshot_tim (k : Int) (mem : Nat) :
    (s.closeSnapshot k mem).tim = s.tim := by simp only [State.closeSnapshot]; split <;> simp

@[simp] theorem State.clearBank_tim (k : Int) : (s.clearBank k).tim = s.tim := by simp [State.clearBank]
@[simp] theorem State.propose_tim : s.propose.tim = s.tim := by simp only [State.propose]; split <;> simp
@[simp] theorem State.originate_clock (si : Bool) : (s.originate si).tim.clock = s.tim.clock := by simp [State.originate]

@[simp] theorem State.raiseMargin_tim (exhausted : Bool) (r n : Nat) :
    (s.raiseMargin exhausted r n).tim = s.tim := by simp [State.raiseMargin]

@[simp] theorem State.checkMargin_tim (k : Int) : (s.checkMargin k).tim = s.tim := by simp [State.checkMargin]
@[simp] theorem State.repeatSets_tim : s.repeatSets.tim = s.tim := by simp [State.repeatSets]
@[simp] theorem State.carryOn_tim : s.carryOn.tim = s.tim := by unfold State.carryOn; split <;> simp
@[simp] theorem State.ringBoundary_clock : s.ringBoundary.tim.clock = s.tim.clock := by simp [State.ringBoundary]
@[simp] theorem stackTrip_tim (lane d1 d2 d3 : Nat) : (stackTrip lane d1 d2 d3 s).tim = s.tim := by simp [stackTrip]
@[simp] theorem tripClear_tim : (tripClear s).tim = s.tim := by unfold tripClear; split <;> simp
@[simp] theorem discoverySend_tim : (discoverySend s).tim = s.tim := by simp [discoverySend]

@[simp] theorem discoveryReceived_tim (lane : Nat) (d : Disc) :
    (discoveryReceived lane d s).tim = s.tim := by simp [discoveryReceived]

end Sys2Proof.Machine
end

section
/-! PROOFS. Stack time stands in metering, the sensors, the pair, the lanes, the host interface and start-up. -/

namespace Sys2Proof.Machine

variable (s : State)

/-! ### Metering -/

@[simp] theorem State.setMpo_tim (n : Nat) (p : Mpo) : (s.setMpo n p).tim = s.tim := by simp [State.setMpo]
@[simp] theorem State.setMpi_tim (n : Nat) (p : Mpi) : (s.setMpi n p).tim = s.tim := by simp [State.setMpi]
@[simp] theorem State.showMtr_tim : s.showMtr.tim = s.tim := by simp [State.showMtr]
@[simp] theorem State.driveMpo_tim (n : Nat) (on : Bool) : (s.driveMpo n on).tim = s.tim := by simp [State.driveMpo]
@[simp] theorem State.mpoStart_tim (n : Nat) : (s.mpoStart n).tim = s.tim := by simp [State.mpoStart]
@[simp] theorem State.mpoDue_tim (n m t : Nat) : (s.mpoDue n m t).tim = s.tim := by simp [State.mpoDue]

@[simp] theorem State.mpoAdvance_tim (k : Nat) (exp : Bool) (u t : Nat) :
    (s.mpoAdvance k exp u t).tim = s.tim := by simp [State.mpoAdvance]

@[simp] theorem mpoPulseEnd_tim (n : Nat) : (mpoPulseEnd n s).tim = s.tim := by simp only [mpoPulseEnd]; split <;> simp

@[simp] theorem State.trackSign_tim (k : Nat) (sg : Int) (t : Nat) :
    (s.trackSign k sg t).tim = s.tim := by simp [State.trackSign]

@[simp] theorem State.quantities_tim (k t dt : Nat) : (s.quantities k t dt).tim = s.tim := by simp [State.quantities]

@[simp] theorem State.pairResults_tim (k j : Nat) (p : MtrPoint) :
    (s.pairResults k j p).1.tim = s.tim := by simp only [State.pairResults]; split <;> simp

@[simp] theorem windowResults_tim (k : Nat) : (windowResults k s).tim = s.tim := by
  unfold windowResults
  extract_lets p ac
  have h := foldl_pair_tim (f := fun (x : State × Word × Word) j => (((x.1.pairResults k j p).1,
    fAdd x.2.1 (x.1.pairResults k j p).2.1, fAdd x.2.2 (x.1.pairResults k j p).2.2))) (fun x j => State.pairResults_tim ..)
    (List.range (s.pairsOf k)) (s, 0, 0)
  split
  · rfl
  · dsimp only
    simp only [State.setPoint_tim, State.draw_tim, State.wn_tim, State.wr_tim, State.ite_tim, ite_self]
    exact h

@[simp] theorem crossingAbsent_tim (k : Nat) : (crossingAbsent k s).tim = s.tim := by simp [crossingAbsent]
@[simp] theorem State.latchPoint_tim (k : Nat) (ts : Word) : (s.latchPoint k ts).tim = s.tim := by simp [State.latchPoint]
@[simp] theorem State.takeSample_tim (k t : Nat) : (s.takeSample k t).tim = s.tim := by simp [State.takeSample]

@[simp] theorem State.closeInterval_tim (k next : Nat) :
    (s.closeInterval k next).tim = s.tim := by simp [State.closeInterval]

@[simp] theorem State.openInterval_tim (k t : Nat) :
    (s.openInterval k t).tim = s.tim := by unfold State.openInterval; split <;> simp

@[simp] theorem State.setScales_tim (k : Nat) (l : List Word) : (s.setScales k l).tim = s.tim := by simp [State.setScales]

@[simp] theorem State.scaledSample_tim (k t : Nat) :
    (s.scaledSample k t).tim = s.tim := by unfold State.scaledSample; split <;> simp

@[simp] theorem meterSample_clock (k at'' : Nat) : (meterSample k at'' s).tim.clock = s.tim.clock := by simp [meterSample]
@[simp] theorem intervalEnd_tim (k : Nat) : (intervalEnd k s).tim = s.tim := by simp [intervalEnd]

@[simp] theorem State.fitCap_tim (j : Nat) (imf : Word) (l : List MfSample) :
    (s.fitCap j imf l).tim = s.tim := by unfold State.fitCap; split <;> simp

@[simp] theorem mfPeriod_tim (c start : Nat) (l : List MfSample) :
    (mfPeriod c start l s).tim = s.tim := by simp only [mfPeriod]; (repeat' split) <;> simp

@[simp] theorem mpiTransition_tim (n : Nat) (level : Bool) :
    (mpiTransition n level s).tim = s.tim := by simp [mpiTransition]

@[simp] theorem checkWindow_tim (n : Nat) : (checkWindow n s).tim = s.tim := by simp [checkWindow]
@[simp] theorem attemptSave_tim : (attemptSave s).tim = s.tim := by simp [attemptSave]

@[simp] theorem saveComplete_tim (result : Nat) :
    (saveComplete result s).tim = s.tim := by unfold saveComplete; split <;> simp

@[simp] theorem mtrLoad_tim : (mtrLoad s).tim = s.tim := by simp [mtrLoad]

@[simp] theorem loadDone_tim (l : List (List Byte)) :
    (loadDone l s).tim = s.tim := by unfold loadDone; (repeat' split) <;> simp

@[simp] theorem State.addRecord_tim (r : List Byte) : (s.addRecord r).tim = s.tim := by simp [State.addRecord]
@[simp] theorem mtrRestore_tim : (mtrRestore s).tim = s.tim := by simp [mtrRestore]
@[simp] theorem mtrSnap_tim (v : Word) : (mtrSnap v s).tim = s.tim := by simp [mtrSnap]
@[simp] theorem State.takeAcc_tim (a : MtrAcc) : (s.takeAcc a).tim = s.tim := by simp [State.takeAcc]
@[simp] theorem State.spareWindows_tim : s.spareWindows.tim = s.tim := by simp [State.spareWindows]

/-! ### Temperature and wear -/

@[simp] theorem State.setSensor_tim (i : Nat) (x : Sensor) : (s.setSensor i x).tim = s.tim := by simp [State.setSensor]
@[simp] theorem State.breakSensor_tim (i cause : Nat) : (s.breakSensor i cause).tim = s.tim := by simp [State.breakSensor]
@[simp] theorem State.convert_tim (i : Nat) (code : Int) : (s.convert i code).tim = s.tim := by simp [State.convert]
@[simp] theorem State.levelAction_tim (level : Nat) : (s.levelAction level).tim = s.tim := by simp [State.levelAction]

@[simp] theorem State.judgeThreshold_tim (prev now : Int) (t : Threshold) :
    (s.judgeThreshold prev now t).tim = s.tim := by simp [State.judgeThreshold]

@[simp] theorem State.correctCoast_tim : s.correctCoast.tim = s.tim := by simp [State.correctCoast]

@[simp] theorem sensorConversion_tim (codes : List Int) :
    (sensorConversion codes s).tim = s.tim := by simp only [sensorConversion]; (repeat' split) <;> simp

@[simp] theorem sensorSelfcheck_tim (dev : List (Int × Int)) :
    (sensorSelfcheck dev s).tim = s.tim := by simp [sensorSelfcheck]

@[simp] theorem sensClr_tim (sensor : Nat) : (sensClr sensor s).tim = s.tim := by simp [sensClr]

@[simp] theorem State.pmbus_tim (command : Nat) (write : Option Nat) :
    (s.pmbus command write).tim = s.tim := by simp [State.pmbus]

@[simp] theorem State.avsEnable_tim : s.avsEnable.tim = s.tim := by simp [State.avsEnable]
@[simp] theorem State.askVolt_tim (mv : Int) (retry : Bool) : (s.askVolt mv retry).tim = s.tim := by simp [State.askVolt]
@[simp] theorem cpmReport_tim (mon slack : Nat) : (cpmReport mon slack s).tim = s.tim := by simp [cpmReport]
@[simp] theorem avsInterval_tim : (avsInterval s).tim = s.tim := by unfold avsInterval; split <;> simp
@[simp] theorem State.avsFail_tim (cause : Nat) : (s.avsFail cause).tim = s.tim := by simp [State.avsFail]

@[simp] theorem pmbusReadback_tim (a : Pmbus) :
    (pmbusReadback a s).tim = s.tim := by simp only [pmbusReadback]; (repeat' split) <;> simp

@[simp] theorem pmbusRetry_tim (ack : Bool) : (pmbusRetry ack s).tim = s.tim := by simp [pmbusRetry]
@[simp] theorem avsResume_tim : (avsResume s).tim = s.tim := by simp [avsResume]
@[simp] theorem capEstimate_tim (j : Nat) : (capEstimate j s).tim = s.tim := by simp [capEstimate]
@[simp] theorem ageing_tim (l : List (Nat × Nat)) : (ageing l s).tim = s.tim := by simp [ageing]
@[simp] theorem State.tellDamage_tim (k : Nat) (d : Dy) : (s.tellDamage k d).tim = s.tim := by simp [State.tellDamage]
@[simp] theorem State.wearRecord_tim (k r rul : Nat) : (s.wearRecord k r rul).tim = s.tim := by simp [State.wearRecord]

@[simp] theorem State.wearSample_tim (k : Nat) :
    (s.wearSample k).tim = s.tim := by unfold State.wearSample; split <;> simp

@[simp] theorem wearHistory_tim : (wearHistory s).tim = s.tim := by simp [wearHistory]
@[simp] theorem State.wearLoad_tim (w : Option WearSec) : (s.wearLoad w).tim = s.tim := by simp [State.wearLoad]

@[simp] theorem State.restoreSwitch_tim (g : Nat) :
    (s.restoreSwitch g).tim = s.tim := by unfold State.restoreSwitch; (repeat' split) <;> simp

@[simp] theorem State.restoreCap_tim (j : Nat) : (s.restoreCap j).tim = s.tim := by simp [State.restoreCap]
@[simp] theorem wearRestore_tim : (wearRestore s).tim = s.tim := by simp [wearRestore]

/-! ### The pair -/

@[simp] theorem State.showElig_tim : s.showElig.tim = s.tim := by simp [State.showElig]
@[simp] theorem healthSend_tim : (healthSend s).tim = s.tim := by simp [healthSend]
@[simp] theorem State.dropBuffers_tim : s.dropBuffers.tim = s.tim := by simp [State.dropBuffers]
@[simp] theorem State.enterStandby_tim : s.enterStandby.tim = s.tim := by simp [State.enterStandby]
@[simp] theorem State.outputsOn_tim : s.outputsOn.tim = s.tim := by simp [State.outputsOn]
@[simp] theorem State.holdPairs_tim : s.holdPairs.tim = s.tim := by simp [State.holdPairs]
@[simp] theorem State.enterActive_tim : s.enterActive.tim = s.tim := by simp [State.enterActive]
@[simp] theorem State.captureCkpt_tim : s.captureCkpt.tim = s.tim := by simp [State.captureCkpt]
@[simp] theorem stagingDone_tim : (stagingDone s).tim = s.tim := by unfold stagingDone; split <;> simp
@[simp] theorem ckptSent_tim : (ckptSent s).tim = s.tim := by unfold ckptSent; split <;> simp

@[simp] theorem State.invalidBuffer_tim (b : Nat) (seq : Word) (reason : Nat) :
    (s.invalidBuffer b seq reason).tim = s.tim := by simp only [State.invalidBuffer]; split <;> simp

@[simp] theorem State.spoilBuffer_tim (b : Nat) :
    (s.spoilBuffer b).tim = s.tim := by unfold State.spoilBuffer; (repeat' split) <;> simp

@[simp] theorem State.loadEngine_tim (k : Nat) (e : Word × List (Nat × List Word)) : (s.loadEngine k e).tim = s.tim := by
  refine (foldl_tim _ (fun t x => ?_) _).trans (s.wr_tim _ _)
  split <;> simp

@[simp] theorem State.loadPair_tim (q : Nat) (c : CkptPair) : (s.loadPair q c).tim = s.tim := by simp [State.loadPair]

@[simp] theorem State.loadLatches_tim (c : Ckpt) :
    (s.loadLatches c).tim = s.tim := by simp only [State.loadLatches]; split <;> simp

@[simp] theorem State.loadWear_tim (c : Ckpt) : (s.loadWear c).tim = s.tim := by simp [State.loadWear]
@[simp] theorem State.loadCkpt_tim (c : Ckpt) : (s.loadCkpt c).tim = s.tim := by simp [State.loadCkpt]
@[simp] theorem State.resumeSegments_tim (c : Ckpt) : (s.resumeSegments c).tim = s.tim := by simp [State.resumeSegments]
@[simp] theorem heartbeatDead_tim : (heartbeatDead s).tim = s.tim := by simp [heartbeatDead]
@[simp] theorem heartbeatAlive_tim : (heartbeatAlive s).tim = s.tim := by simp [heartbeatAlive]
@[simp] theorem partnerLoss_tim : (partnerLoss s).tim = s.tim := by simp only [partnerLoss]; (repeat' split) <;> simp
@[simp] theorem prepareDone_tim : (prepareDone s).tim = s.tim := by simp only [prepareDone]; (repeat' split) <;> simp
@[simp] theorem State.resume_tim : s.resume.tim = s.tim := by unfold State.resume; split <;> simp
@[simp] theorem State.takeoverBoundary_tim : s.takeoverBoundary.tim = s.tim := by simp [State.takeoverBoundary]

@[simp] theorem State.handoverBoundary_tim :
    s.handoverBoundary.tim = s.tim := by simp only [State.handoverBoundary]; (repeat' split) <;> simp

@[simp] theorem State.takeMetering_tim (c : Ckpt) :
    (s.takeMetering c).tim = s.tim := by unfold State.takeMetering; split <;> simp

@[simp] theorem State.keepBase_tim : s.keepBase.tim = s.tim := by simp [State.keepBase]

@[simp] theorem ckptReceived_tim (c : Ckpt) : (ckptReceived c s).tim = s.tim := by
  unfold ckptReceived
  split
  · rfl
  · split
    · simp
    · dsimp only
      split <;> simp

@[simp] theorem vectorReceived_tim (v : LatchVec) : (vectorReceived v s).tim = s.tim := by simp [vectorReceived]
@[simp] theorem State.dualActive_tim (by'' : Nat) : (s.dualActive by'').tim = s.tim := by simp [State.dualActive]
@[simp] theorem dualTimeout_tim : (dualTimeout s).tim = s.tim := by simp [dualTimeout]

@[simp] theorem healthReceived_tim (w : Word) (digest : Word × Word) (l3 : Bool) :
    (healthReceived w digest l3 s).tim = s.tim := by simp [healthReceived]

@[simp] theorem handoverMessage_tim (period : Int) : (handoverMessage period s).tim = s.tim := by simp [handoverMessage]
@[simp] theorem handoverTimeout_tim : (handoverTimeout s).tim = s.tim := by simp [handoverTimeout]
@[simp] theorem State.showLaneFail_tim : s.showLaneFail.tim = s.tim := by simp [State.showLaneFail]
@[simp] theorem State.setFail_tim (item : Nat) (b : Bool) : (s.setFail item b).tim = s.tim := by simp [State.setFail]

@[simp] theorem selftest_tim (item : Nat) (pass last : Bool) :
    (selftest item pass last s).tim = s.tim := by simp [selftest]

/-! ### Lanes -/

@[simp] theorem State.sendLaneState_tim : s.sendLaneState.tim = s.tim := by simp [State.sendLaneState]
@[simp] theorem State.singleLane_tim : s.singleLane.tim = s.tim := by simp [State.singleLane]
@[simp] theorem State.showEth_clock (p : Nat) : (s.showEth p).tim.clock = s.tim.clock := by simp [State.showEth]
@[simp] theorem State.showPort_clock (n : Nat) : (s.showPort n).tim.clock = s.tim.clock := by simp [State.showPort]
@[simp] theorem lockGained_clock (n : Nat) : (lockGained n s).tim.clock = s.tim.clock := by simp [lockGained]
@[simp] theorem State.laneBit_tim (n : Nat) (lost : Bool) : (s.laneBit n lost).tim = s.tim := by simp [State.laneBit]

@[simp] theorem State.qlockLost_clock (n : Nat) (signal : Bool) : (s.qlockLost n signal).tim.clock = s.tim.clock := by
  unfold State.qlockLost
  extract_lets s1 s2 s3
  have h2 : s2.tim.clock = s.tim.clock := by simp [s2, s1]
  split
  · simp [h2]
  · split
    · split
      · simp [s3, h2]
      · split <;> simp [s3, h2]
    · exact h2

@[simp] theorem State.dropLock_clock (n : Nat) (signal : Bool) (invalid : Nat) :
    (s.dropLock n signal invalid).tim.clock = s.tim.clock := by simp [State.dropLock]

@[simp] theorem lockLost_clock (n : Nat) (signal : Bool) (invalid : Nat) :
    (lockLost n signal invalid s).tim.clock = s.tim.clock := by simp [lockLost]

@[simp] theorem qlockSet_clock (n : Nat) : (qlockSet n s).tim.clock = s.tim.clock := by simp [qlockSet]
@[simp] theorem laneState_tim (l2 : Bool) : (laneState l2 s).tim = s.tim := by simp [laneState]
@[simp] theorem singleExit_tim : (singleExit s).tim = s.tim := by simp [singleExit]
@[simp] theorem State.setPrbs_tim (n : Nat) (p : Prbs) : (s.setPrbs n p).tim = s.tim := by simp [State.setPrbs]

@[simp] theorem State.countPrbs_tim (n errors : Nat) :
    (s.countPrbs n errors).tim = s.tim := by simp only [State.countPrbs]; split <;> simp

@[simp] theorem prbsLock_tim (n : Nat) (gained : Bool) (errors : Nat) :
    (prbsLock n gained errors s).tim = s.tim := by unfold prbsLock; split <;> simp

@[simp] theorem State.sendPattern_tim (n : Nat) (old : Word) :
    (s.sendPattern n old).tim = s.tim := by simp [State.sendPattern]

@[simp] theorem lanCtl_tim (n : Nat) (v : Word) : (lanCtl n v s).tim = s.tim := by unfold lanCtl; split <;> simp

@[simp] theorem State.prbsLo_tim (n : Nat) (bitCount : Bool) (errors : Nat) :
    (s.prbsLo n bitCount errors).1.tim = s.tim := by unfold State.prbsLo; (repeat' split) <;> simp

@[simp] theorem prbsRead_tim (n : Nat) (bitCount : Bool) (errors : Nat) :
    (prbsRead n bitCount errors s).tim = s.tim := by simp [prbsRead]

@[simp] theorem eye_tim (n h v : Nat) (rxeq : Word) (taps : BitVec 16) :
    (eye n h v rxeq taps s).tim = s.tim := by simp [eye]

@[simp] theorem laneWake_tim (n : Nat) (tx : Bool) :
    (laneWake n tx s).tim = s.tim := by unfold laneWake; (repeat' split) <;> simp

@[simp] theorem State.sleepRx_clock (n : Nat) : (s.sleepRx n).tim.clock = s.tim.clock := by simp [State.sleepRx]
@[simp] theorem laneSleep_clock (n : Nat) : (laneSleep n s).tim.clock = s.tim.clock := by simp [laneSleep]

@[simp] theorem State.applyUses_clock : s.applyUses.tim.clock = s.tim.clock := by
  unfold State.applyUses
  extract_lets t
  have h : t.tim.clock = s.tim.clock := by
    refine State.each_clock s (fun u n => ?_) 8
    extract_lets u1
    have h1 : u1.tim.clock = u.tim.clock := by unfold u1; split <;> simp
    split
    · simp [h1]
    · split
      · exact (State.sleepRx_clock ..).trans h1
      · exact h1
    · exact h1
  simp [h]

@[simp] theorem State.lanesOn_tim : s.lanesOn.tim = s.tim := by simp [State.lanesOn]
@[simp] theorem ethLink_clock (p status : Nat) : (ethLink p status s).tim.clock = s.tim.clock := by simp [ethLink]
@[simp] theorem State.ethAnswer_tim (p kind : Nat) : (s.ethAnswer p kind).tim = s.tim := by simp [State.ethAnswer]
@[simp] theorem ethFrame_tim (p : Nat) (f : List Byte) : (ethFrame p f s).tim = s.tim := by simp [ethFrame]

/-! ### Memory and its test -/

@[simp] theorem correctionUpdate_tim (l : List (Nat × Nat)) :
    (correctionUpdate l s).tim = s.tim := by simp [correctionUpdate]

@[simp] theorem logClear_tim (v : Word) : (logClear v s).tim = s.tim := by simp only [logClear]; (repeat' split) <;> simp

@[simp] theorem State.react_tim (reader w : Nat) :
    (s.react reader w).tim = s.tim := by unfold State.react; (repeat' split) <;> simp

@[simp] theorem uncorrectable_tim (reader w : Nat) : (uncorrectable reader w s).tim = s.tim := by simp [uncorrectable]
@[simp] theorem State.testWrite_tim (w data : Nat) : (s.testWrite w data).tim = s.tim := by simp [State.testWrite]

@[simp] theorem State.bar2Write_tim (off : Nat) (bytes : List Byte) (err : Nat) :
    (s.bar2Write off bytes err).tim = s.tim := by unfold State.bar2Write; (repeat' split) <;> simp

@[simp] theorem State.latchTest_tim (w : Nat) : (s.latchTest w).tim = s.tim := by simp [State.latchTest]

@[simp] theorem State.bar2Read_tim (off n err : Nat) :
    (s.bar2Read off n err).tim = s.tim := by unfold State.bar2Read; (repeat' split) <;> simp

@[simp] theorem State.bar2_tim (off : Nat) (x : Bar2) (err : Nat) :
    (s.bar2 off x err).tim = s.tim := by unfold State.bar2; (repeat' split) <;> simp

@[simp] theorem bar2HostWrite_tim (off : Nat) (x : Bar2) (err : Fin 3) :
    (bar2HostWrite off x err s).tim = s.tim := by simp [bar2HostWrite]

@[simp] theorem fillDone_tim : (fillDone s).tim = s.tim := by simp [fillDone]
@[simp] theorem State.setTest_tim (en : Bool) : (s.setTest en).tim = s.tim := by simp [State.setTest]
@[simp] theorem memTest_tim (en : Bool) : (memTest en s).tim = s.tim := by simp [memTest]

@[simp] theorem State.storeWords_tim (addr : Nat) (data : List Nat) :
    (s.storeWords addr data).tim = s.tim := by simp [State.storeWords]

@[simp] theorem State.complete_tim (b cycle : Nat) (h : ArbReq) : (s.complete b cycle h).tim = s.tim := by
  unfold State.complete
  split
  · simp
  · simp
  · split
    · dsimp only
      split <;> simp
    · split
      · split <;> simp
      · simp

@[simp] theorem grantDecision_tim (b cycle : Nat) :
    (grantDecision b cycle s).tim = s.tim := by simp only [grantDecision]; (repeat' split) <;> simp

@[simp] theorem lockRelease_tim (r cycle : Nat) : (lockRelease r cycle s).tim = s.tim := by
  unfold lockRelease
  split
  · rfl
  · simp [foldr_tim]

/-! ### Host queues -/

@[simp] theorem State.signal_tim (v : Nat) : (s.signal v).tim = s.tim := by simp [State.signal]
@[simp] theorem queueEnable_tim (q : Nat) (v : Word) : (queueEnable q v s).tim = s.tim := by simp [queueEnable]
@[simp] theorem headWrite_tim (q : Nat) (v : Word) : (headWrite q v s).tim = s.tim := by simp [headWrite]
@[simp] theorem State.dropNext_tim (q : Nat) : (s.dropNext q).tim = s.tim := by simp only [State.dropNext]; split <;> simp

@[simp] theorem State.writeEntries_tim (q : Nat) (r : Record) :
    (s.writeEntries q r).tim = s.tim := by simp [State.writeEntries]

@[simp] theorem State.moderate_tim (q : Nat) : (s.moderate q).tim = s.tim := by simp [State.moderate]
@[simp] theorem moderation_tim (q : Nat) : (moderation q s).tim = s.tim := by simp [moderation]

@[simp] theorem State.tunnel_tim (n : Nat) (m : Tun) :
    (s.tunnel n m).tim = s.tim := by unfold State.tunnel; split <;> simp

@[simp] theorem State.relayed_tim (q : Nat) (x : RelayRec) :
    (s.relayed q x).tim = s.tim := by unfold State.relayed; split <;> simp

@[simp] theorem State.completeDesc_tim (q : Nat) (st : Word) :
    (s.completeDesc q st).tim = s.tim := by unfold State.completeDesc; split <;> simp

@[simp] theorem State.refuseDescs_tim (q n : Nat) : (s.refuseDescs q n).tim = s.tim := by
  induction n generalizing s with
  | zero => rfl
  | succ n ih =>
    unfold State.refuseDescs
    split
    · split
      · exact (ih _).trans (State.completeDesc_tim ..)
      · rfl
    · rfl

@[simp] theorem State.descDone_tim (q : Nat) (st : Word) : (s.descDone q st).tim = s.tim := by simp [State.descDone]

@[simp] theorem State.readDone_tim (d : Desc) (data : List Byte) (st : Word) :
    (s.readDone d data st).tim = s.tim := by unfold State.readDone; split <;> simp

@[simp] theorem State.resultWritten_tim (q : Nat) (r : Record) :
    (s.resultWritten q r).tim = s.tim := by unfold State.resultWritten; (repeat' split) <;> simp

@[simp] theorem recordWrite_tim (q : Nat) :
    (recordWrite q s).tim = s.tim := by unfold recordWrite; (repeat' split) <;> simp

@[simp] theorem recordRelay_tim (q : Nat) :
    (recordRelay q s).tim = s.tim := by unfold recordRelay; (repeat' split) <;> simp

@[simp] theorem doorbell_tim (q : Nat) (v : Word) (l : List Desc) : (doorbell q v l s).tim = s.tim := by simp [doorbell]

@[simp] theorem State.sendDesc_tim (q : Nat) (d : Desc) (data : List Byte) :
    (s.sendDesc q d data).tim = s.tim := by simp [State.sendDesc]

@[simp] theorem State.linkDown_tim (w r : Nat) : (s.linkDown w r).tim = s.tim := by simp [State.linkDown]

@[simp] theorem State.lateDone_tim (q : Nat) (st : Word) (data : List Byte) :
    (s.lateDone q st data).tim = s.tim := by unfold State.lateDone; (repeat' split) <;> simp

@[simp] theorem linkChange_tim (up : Bool) (width rate : Nat) :
    (linkChange up width rate s).tim = s.tim := by simp [linkChange]

@[simp] theorem State.hqReset_tim : s.hqReset.tim = s.tim := by
  unfold State.hqReset
  extract_lets s1 s2 s3 hq s4
  have h1 : s1.tim = s.tim := by
    refine State.each_tim s (fun t q => ?_) 32
    dsimp only
    split <;> simp
  have h2 : s2.tim = s1.tim := State.each_tim s1 (fun _ _ => State.hwr_tim ..) _
  clear_value s1 s2
  have h4 : s4.tim = s.tim := h2.trans h1
  split
  · simp [h4]
  · exact h4

@[simp] theorem flr_tim : (flr s).tim = s.tim := by simp only [flr]; simp
@[simp] theorem perst_tim (low : Bool) : (perst low s).tim = s.tim := by simp only [perst]; split <;> simp

/-! ### Images -/

@[simp] theorem State.restoreShadows_tim : s.restoreShadows.tim = s.tim := by simp [State.restoreShadows]

@[simp] theorem State.loadRefused_tim (code sect : Nat) (data : List Nat) :
    (s.loadRefused code sect data).tim = s.tim := by simp [State.loadRefused]

@[simp] theorem State.abortLoad_tim : s.abortLoad.tim = s.tim := by unfold State.abortLoad; split <;> simp
@[simp] theorem cfgLoad_tim (cmd src : Nat) : (cfgLoad cmd src s).tim = s.tim := by simp [cfgLoad]
@[simp] theorem loadTimeout_tim : (loadTimeout s).tim = s.tim := by unfold loadTimeout; split <;> simp

@[simp] theorem State.receive_tim (ring : Bool) (ofs : Nat) (data : List Byte) :
    (s.receive ring ofs data).1.tim = s.tim := by simp only [State.receive]; (repeat' split) <;> simp

@[simp] theorem imageChunk_tim (data : List Byte) :
    (imageChunk data s).tim = s.tim := by simp only [imageChunk]; split <;> simp

@[simp] theorem State.setRegs_tim (l : List (Nat × Word)) : (s.setRegs l).tim = s.tim := by simp [State.setRegs]

@[simp] theorem State.blockInit_tim (k j i : Nat) (b : Block) :
    (s.blockInit k j i b).tim = s.tim := by simp [State.blockInit]

@[simp] theorem State.graphReset_tim (k : Nat) : (s.graphReset k).tim = s.tim := by
  refine State.each_tim s (fun t j => ?_) 8
  split
  · refine foldl_tim t (fun u i => ?_) _
    split <;> simp
  · rfl

@[simp] theorem State.graphInit_tim (ids : List Nat) (c : ImageContent) :
    (s.graphInit ids c).tim = s.tim := by unfold State.graphInit; simp

@[simp] theorem State.meterInit_tim : s.meterInit.tim = s.tim := by simp [State.meterInit]
@[simp] theorem State.pwmInit_tim : s.pwmInit.tim = s.tim := by simp [State.pwmInit]
@[simp] theorem State.firstImage_tim : s.firstImage.tim = s.tim := by simp [State.firstImage]
@[simp] theorem State.loadDone_tim (code : Nat) : (s.loadDone code).tim = s.tim := by simp [State.loadDone]
@[simp] theorem State.publish_tim (d : List Byte) : (s.publish d).tim = s.tim := by simp [State.publish]

@[simp] theorem State.takeSections_tim (ids : List Nat) (c : ImageContent) :
    (s.takeSections ids c).tim = s.tim := by simp [State.takeSections]

@[simp] theorem State.showImage_clock : s.showImage.tim.clock = s.tim.clock := by simp [State.showImage]

@[simp] theorem State.imageLive_clock (d : List Byte) (c : ImageContent) :
    (s.imageLive d c).tim.clock = s.tim.clock := by unfold State.imageLive; split <;> simp

@[simp] theorem State.patchHalted_clock (t : State) (d : List Byte) (c : ImageContent) :
    (s.patchHalted t d c).tim.clock = s.tim.clock := by
  unfold State.patchHalted
  extract_lets s1 cfg s2 s3 s4
  have h1 : s1.tim.clock = s.tim.clock := by simp [s1]
  have h2 : s2.tim = s1.tim := (State.each_tim _ (fun u i => by split <;> simp) 72).trans rfl
  have h3 : s3.tim = s2.tim := foldl_tim _ (fun u g => by split <;> simp) _
  have h4 : s4.tim = s3.tim := by unfold s4; split <;> simp
  simp [h4, h3, h2, h1]

@[simp] theorem State.patchApply_clock (t : State) (d : List Byte) (c : ImageContent) :
    (s.patchApply t d c).tim.clock = s.tim.clock := by
  unfold State.patchApply State.doIf
  generalize digestWords (sha256 d) = w
  dsimp only
  rw [State.ite_tim, Tim.ite_clock, State.patchHalted_clock, ite_self]
  split <;> simp

@[simp] theorem State.stage_tim (d : List Byte) (c : ImageContent) (patch : Bool) :
    (s.stage d c patch).tim = s.tim := by simp [State.stage]

@[simp] theorem imageChecked_clock (c : ImageContent) : (imageChecked c s).tim.clock = s.tim.clock := by
  unfold imageChecked
  split
  · rfl
  · split
    · rfl
    · extract_lets d patch t why
      split
      · simp
      · split
        · simp
        · split
          · simp
          · split
            · simp
            · split <;> simp [t]

/-! ### Start-up -/

@[simp] theorem State.pinsLow_tim : s.pinsLow.tim = s.tim := by simp [State.pinsLow]
@[simp] theorem State.resetCause_tim (bit : Nat) : (s.resetCause bit).tim = s.tim := by simp [State.resetCause]
@[simp] theorem State.startUp_tim : s.startUp.tim = s.tim := by simp [State.startUp]
@[simp] theorem State.latchStraps_tim (straps : Nat) : (s.latchStraps straps).tim = s.tim := by simp [State.latchStraps]
@[simp] theorem prstRelease_tim (straps : Nat) : (prstRelease straps s).tim = s.tim := by simp [prstRelease]
@[simp] theorem holdEnd_tim : (holdEnd s).tim = s.tim := by simp [holdEnd]
@[simp] theorem State.keepFailed_tim (s' : State) : (s.keepFailed s').tim = s.tim := by simp [State.keepFailed]

@[simp] theorem bistComplete_tim (items banks : Nat) (trim : Bool) :
    (bistComplete items banks trim s).tim = s.tim := by simp [bistComplete]

@[simp] theorem gioFault_tim (b : Nat) : (gioFault b s).tim = s.tim := by simp [gioFault]
@[simp] theorem gioReturn_tim (b : Nat) : (gioReturn b s).tim = s.tim := by simp [gioReturn]
@[simp] theorem State.armRefused_tim (bits : Nat) : (s.armRefused bits).tim = s.tim := by simp [State.armRefused]
@[simp] theorem State.park_tim : s.park.tim = s.tim := by simp [State.park]
@[simp] theorem State.endDry_tim : s.endDry.tim = s.tim := by simp [State.endDry]
@[simp] theorem State.armDone_tim (active : Bool) : (s.armDone active).tim = s.tim := by simp [State.armDone]
@[simp] theorem State.armNow_tim : s.armNow.tim = s.tim := by simp [State.armNow]
@[simp] theorem arm_tim : (arm s).tim = s.tim := by simp [arm]
@[simp] theorem State.armBoundary_tim : s.armBoundary.tim = s.tim := by simp [State.armBoundary]
@[simp] theorem armDecision_tim : (armDecision s).tim = s.tim := by simp [armDecision]
@[simp] theorem halt_tim (force : Bool) : (halt force s).tim = s.tim := by simp [halt]

/-! ### The register map -/

@[simp] theorem State.unmask_tim (v : Nat) : (s.unmask v).tim = s.tim := by simp [State.unmask]

@[simp] theorem State.afterWrite_clock (a : Nat) :
    (s.afterWrite a).tim.clock = s.tim.clock := by unfold State.afterWrite; (repeat' split) <;> simp

@[simp] theorem fieldWrite_clock (r : Row) (a : Nat) (v : Word) :
    (fieldWrite r a v s).tim.clock = s.tim.clock := by unfold fieldWrite; split <;> simp

@[simp] theorem State.flagsCleared_tim (a : Nat) (gone : Word) :
    (s.flagsCleared a gone).tim = s.tim := by simp [State.flagsCleared]

@[simp] theorem flagWrite_tim (r : Row) (a : Nat) (v : Word) : (flagWrite r a v s).tim = s.tim := by simp [flagWrite]
@[simp] theorem keyWrite_tim (src : Src) (v : Word) : (keyWrite src v s).tim = s.tim := by simp [keyWrite]
@[simp] theorem qcodeWrite_tim (v : Word) : (qcodeWrite v s).tim = s.tim := by simp [qcodeWrite]
@[simp] theorem liveWrite_tim (a : Nat) : (liveWrite a s).tim = s.tim := by simp [liveWrite]
@[simp] theorem scrubCtl_tim (v : Word) : (scrubCtl v s).tim = s.tim := by simp [scrubCtl]

@[simp] theorem State.keyed_clock (src : Src) (a : Nat) {f : State → State} (h : ∀ t, (f t).tim.clock = t.tim.clock) :
    (s.keyed src a f).tim.clock = s.tim.clock := by
  simp [State.keyed, h]

@[simp] theorem State.unkeyed_clock (src : Src) (a : Nat) {f : State → State} (h : ∀ t, (f t).tim.clock = t.tim.clock) :
    (s.unkeyed src a f).tim.clock = s.tim.clock := by
  simp [State.unkeyed, h]

/-- The actions of a plain write keep the clock (R54). -/
def KeepsClock (f : State → State) : Prop := ∀ t, (f t).tim.clock = t.tim.clock

theorem ite_some_forall {α : Type} {P : α → Prop} {c : Prop} [Decidable c] {a : α} {o : Option α} (ha : P a)
    (ho : ∀ f, o = some f → P f) : ∀ f, (if c then some a else o) = some f → P f := by
  split
  · rintro f ⟨rfl⟩; exact ha
  · exact ho

theorem orElse_forall {α : Type} {P : α → Prop} {o p : Option α} (ho : ∀ f, o = some f → P f)
    (hp : ∀ f, p = some f → P f) : ∀ f, (o <|> p) = some f → P f := by
  cases o with
  | none => simpa using hp
  | some a => simpa using ho

theorem map_forall {α β : Type} {P : β → Prop} {g : α → β} (h : ∀ a, P (g a)) (o : Option α) :
    ∀ f, o.map g = some f → P f := by
  cases o with
  | none => simp
  | some a => simpa using h a

theorem oneAction_clock (a : Nat) (v : Word) : ∀ f, oneAction a v = some f → KeepsClock f := by
  unfold oneAction
  refine ite_some_forall (fun t => ?_) (ite_some_forall (fun t => ?_) (ite_some_forall (fun t => ?_) (ite_some_forall (fun t => ?_)
    (ite_some_forall (fun t => ?_) (ite_some_forall (fun t => ?_) (ite_some_forall (fun t => ?_) (ite_some_forall (fun t => ?_)
    (ite_some_forall (fun t => ?_) (ite_some_forall (fun t => ?_) (ite_some_forall (fun t => ?_) (ite_some_forall (fun t => ?_)
    (fun f h => nomatch h)))))))))))) <;> simp

theorem arrayAction_clock (a : Nat) (v : Word) : ∀ f, arrayAction a v = some f → KeepsClock f := by
  unfold arrayAction
  refine ite_some_forall (fun t => ?_) (orElse_forall (map_forall (fun n t => ?_) _) (orElse_forall
    (map_forall (fun n t => ?_) _) (orElse_forall (map_forall (fun n t => ?_) _) (orElse_forall (map_forall (fun n t => ?_) _)
    (orElse_forall (map_forall (fun n t => ?_) _) (map_forall (fun n t => ?_) _)))))) <;> simp

@[simp] theorem codeWrite_clock (a : Nat) (v : Word) :
    (codeWrite a v s).tim.clock = s.tim.clock := by unfold codeWrite; (repeat' split) <;> simp

@[simp] theorem plainWrite_clock (src : Src) (a : Nat) (v : Word) : (plainWrite src a v s).tim.clock = s.tim.clock := by
  unfold plainWrite
  split
  · simp
  · split
    · simp
    · split
      next f h => exact orElse_forall (oneAction_clock a v) (arrayAction_clock a v) f h s
      · simp

@[simp] theorem State.readRearms_tim (a : Nat) :
    (s.readRearms a).tim = s.tim := by unfold State.readRearms; (repeat' split) <;> simp

@[simp] theorem rcRead_tim (a : Nat) : (rcRead a s).1.tim = s.tim := by simp [rcRead]
@[simp] theorem lastRead_tim (i : Nat) : (lastRead i s).1.tim = s.tim := by unfold lastRead; (repeat' split) <;> simp

@[simp] theorem State.readReg_clock (a : Nat) :
    (s.readReg a).1.tim.clock = s.tim.clock := by unfold State.readReg; (repeat' split) <;> simp

@[simp] theorem State.readValue_clock (a : Nat) :
    (s.readValue a).1.tim.clock = s.tim.clock := by unfold State.readValue; split <;> simp

@[simp] theorem hostRead_clock (a : Nat) : (hostRead a s).tim.clock = s.tim.clock := by simp [hostRead]

/-! ### Host accesses -/

@[simp] theorem State.transferRefused_tim (off : Nat) (write : Bool) :
    (s.transferRefused off write).1.tim = s.tim := by simp [State.transferRefused]

@[simp] theorem storeTransfer_tim (l : List (List Byte)) (off : Nat) : (storeTransfer s off l).tim = s.tim := by
  induction l generalizing s off with
  | nil => rfl
  | cons w l ih => exact (ih (s.bar2Write off w 0) (off + 8)).trans (State.bar2Write_tim ..)

@[simp] theorem State.memWrite_tim (d : Desc) (data : List Byte) :
    (s.memWrite d data).1.tim = s.tim := by unfold State.memWrite; (repeat' split) <;> simp

@[simp] theorem State.memRead_tim (d : Desc) (bad : Option Nat) : (s.memRead d bad).1.tim = s.tim := by
  unfold State.memRead
  split
  · rfl
  · split
    · exact s.transferRefused_tim ..
    · split
      · simp
      · dsimp only
        split <;> split <;> simp

@[simp] theorem memoryWrite_tim (data : List Byte) :
    (memoryWrite data s).tim = s.tim := by simp only [memoryWrite]; split <;> simp

@[simp] theorem memoryRead_tim (bad : Option Nat) :
    (memoryRead bad s).tim = s.tim := by simp only [memoryRead]; split <;> simp

@[simp] theorem State.windowRefused_tim : s.windowRefused.tim = s.tim := by simp [State.windowRefused]
@[simp] theorem State.sendKey_tim (n : Nat) : (s.sendKey n).tim = s.tim := by unfold State.sendKey; split <;> simp
@[simp] theorem windowRead_clock (n off : Nat) : (windowRead n off s).tim.clock = s.tim.clock := by simp [windowRead]
@[simp] theorem keyPairTimeout_tim (n : Nat) : (keyPairTimeout n s).tim = s.tim := by simp [keyPairTimeout]

@[simp] theorem tunnelResponse_tim (n off tag : Nat) (v : Option Word) :
    (tunnelResponse n off tag v s).tim = s.tim := by unfold tunnelResponse; split <;> simp

@[simp] theorem tunnelTimeout_tim (n off : Nat) : (tunnelTimeout n off s).tim = s.tim := by
  cases h : takeRead n off none s.hq.reads <;> simp [tunnelTimeout, h]

/-! ### The control period -/

@[simp] theorem periodBoundary_clock : (periodBoundary s).tim.clock = s.tim.clock := by simp [periodBoundary]

end Sys2Proof.Machine
end

section
/-! PROOFS. Valid stack time (R90, R93): what passes time, what steps it, and the resets. -/

namespace Sys2Proof.Machine

open Safety (TimeOk)

variable {s t : State}

/-! ### Valid stack time -/

theorem timeOk_of_clock {sec ns sub : Nat} {ts : Word} (h : t.tim.clock = (sec, ns, sub, ts)) (hns : ns < 2 ^ 30)
    (hsub : sub < 4294967296) (hsec : sec < 2 ^ 48) (hts : ts = BitVec.ofNat 32 (sec * 1000000000 + ns)) : TimeOk t := by
  simp only [Tim.clock, Prod.mk.injEq] at h
  obtain ⟨rfl, rfl, rfl, rfl⟩ := h
  exact ⟨hns, hsub, hsec, hts⟩

/-- Stack time stays valid where the clock stands. -/
theorem timeOk_congr (h : TimeOk s) (e : t.tim.clock = s.tim.clock) : TimeOk t := by
  obtain ⟨hns, hsub, hsec, hts⟩ := h
  exact timeOk_of_clock e hns hsub hsec hts

/-- 2⁴⁸ seconds are whole turns of TS32. -/
theorem ts32_wrap (n ns : Nat) :
    BitVec.ofNat 32 (n % 2 ^ 48 * 1000000000 + ns) = BitVec.ofNat 32 (n * 1000000000 + ns) := by
  apply BitVec.eq_of_toNat_eq
  simp only [BitVec.toNat_ofNat]
  omega

/-! ### The counter (R90, R93) -/

/-- Nanoseconds carried into seconds leave TS32 on the low word of the time. -/
theorem ts32_advance (sec ns n : Nat) (h : ns ≤ n) :
    BitVec.ofNat 32 (sec * 1000000000 + ns) + BitVec.ofNat 32 (n - ns) =
      BitVec.ofNat 32 ((sec + n / 1000000000) % 2 ^ 48 * 1000000000 + n % 1000000000) := by
  rw [ts32_wrap, ← BitVec.ofNat_add]
  exact congrArg (BitVec.ofNat 32) (by omega)

theorem State.advance_timeOk (h : TimeOk s) (n : Nat) : TimeOk (s.advance n) := by
  obtain ⟨-, -, -, hts⟩ := h
  have hns : s.tim.ns ≤ (s.tim.ns * 4294967296 + s.tim.sub + s.covers n) / 4294967296 := by omega
  refine timeOk_of_clock rfl ((Nat.mod_lt _ (by decide)).trans (by decide)) (Nat.mod_lt _ (by decide))
    (Nat.mod_lt _ (by decide)) ?_
  exact (congrArg (· + _) hts).trans (ts32_advance _ _ _ hns)

theorem State.pass_timeOk (h : TimeOk s) (n : Nat) : TimeOk (s.pass n) := by
  unfold State.pass
  split
  · exact h
  · extract_lets _ t u _
    have hu : TimeOk u := timeOk_congr h (by simp [u, t])
    split
    · exact timeOk_congr hu rfl
    · exact State.advance_timeOk (timeOk_congr hu (State.keepTick_clock ..)) n

theorem State.tick_timeOk (h : TimeOk s) : TimeOk s.tick := by
  unfold State.tick
  dsimp only
  split
  · exact timeOk_congr (State.pass_timeOk h 1) (by simp)
  · exact State.pass_timeOk h 1

theorem epochTick_timeOk (h : TimeOk s) : TimeOk (epochTick s) := by
  unfold epochTick
  split
  · exact h
  · exact timeOk_congr (State.pass_timeOk h _) (congrArg Tim.clock (State.epochMark_tim _))

theorem idle_timeOk (h : TimeOk s) : TimeOk (idle s) := by
  unfold idle
  dsimp only
  split
  · exact timeOk_congr (State.tick_timeOk h) (by simp)
  · exact State.tick_timeOk h

/-! ### Steps (R92) -/

theorem State.stepTime_clock (s : State) (sec ns sub : Nat) :
    (s.stepTime sec ns sub).tim.clock = (sec % 2 ^ 48, ns, sub, BitVec.ofNat 32 (sec * 1000000000 + ns)) := by
  simp [State.stepTime]

theorem State.stepTime_timeOk (s : State) {sec ns sub : Nat} (hns : ns < 2 ^ 30) (hsub : sub < 4294967296) :
    TimeOk (s.stepTime sec ns sub) :=
  timeOk_of_clock (s.stepTime_clock sec ns sub) hns hsub (Nat.mod_lt _ (by decide)) (ts32_wrap ..).symm

theorem timStep_timeOk (h : TimeOk s) : TimeOk (timStep s) := by
  unfold timStep
  split
  · exact timeOk_congr h (by simp)
  · exact s.stepTime_timeOk (Nat.mod_lt _ (by decide)) (by decide)

theorem State.noOffset_timeOk (h : TimeOk s) : TimeOk { s with tim.ofs := 0 } := timeOk_congr h rfl

/-- Twentieths of a nanosecond are a fraction of 2³². -/
theorem stampParts_lt (t : Nat) : t / 20 % 1000000000 < 2 ^ 30 ∧ t % 20 * 4294967296 / 20 < 4294967296 := by
  omega

theorem State.stepBy_timeOk (s : State) (t : Nat) :
    TimeOk { s.stepTime (t / 20000000000) (t / 20 % 1000000000) (t % 20 * 4294967296 / 20) with tim.ofs := 0 } :=
  State.noOffset_timeOk (s.stepTime_timeOk (stampParts_lt t).1 (stampParts_lt t).2)

/-! ### A measurement (R101), in its three parts -/

/-- A measurement shown: the offset, the source and the port (R116). -/
def State.shown (s : State) (ofs : Int) (port : Nat) : State :=
  let t := { s.wn Reg.TIM_OFS (unsigned 32 ofs) with tim.ofs := ofs }
  (t.wf Reg.TIM_STAT 2 2 t.timeSrc).wf Reg.TIM_STAT 4 2 port

/-- The first measurement of a source makes it acquired. -/
def State.acquired (s : State) : State := { (s.wf Reg.TIM_STAT 0 2 1).ppsLow with tim.good := 0 }

/-- The step of a halted device by the offset. -/
def State.stepBack (s : State) (ofs : Int) : State :=
  let t := ((s.stamp50 : Int) - ofs).toNat
  { s.stepTime (t / 20000000000) (t / 20 % 1000000000) (t % 20 * 4294967296 / 20) with tim.ofs := 0 }

/-- The measurements in a row within the threshold. -/
def State.counted (s : State) (good : Nat) : State := { s with tim.good := good }

/-- A lock ends a time alignment fault. -/
def State.aligned (s : State) : State := { s with tim.alignFault := false, tim.bad := 0 }

/-- The servo behind a count of measurements, and TRACEABLE as the source has it while LOCKED. -/
def State.tracked (s : State) (good : Nat) (traceable : Bool) : State :=
  if s.timState = 2 then (s.counted good).servo.wbit Reg.TIM_STAT 6 traceable else (s.counted good).servo

/-- The time base is LOCKED. -/
def State.locked (s : State) (ofs : Int) (traceable : Bool) : State :=
  ((s.aligned.wf Reg.TIM_STAT 0 2 2).wbit Reg.TIM_STAT 6 traceable).raise 0x0202 0 [s.aligned.timeSrc, unsigned 32 ofs]

/-- A further measurement of a source, with the count it leaves: the 16th in a row locks. -/
def State.judged (s : State) (good : Nat) (ofs : Int) (traceable : Bool) : State :=
  if s.timState = 1 && decide (16 ≤ good) then (s.tracked good traceable).locked ofs traceable else s.tracked good traceable

/-- A further measurement of a source. -/
def State.followed (s : State) (ofs : Int) (traceable : Bool) : State :=
  s.judged (if ofs.natAbs ≤ s.lockThr then s.tim.good + 1 else 0) ofs traceable

theorem State.measured_eq (s : State) (ofs : Int) (port : Nat) (traceable : Bool) :
    s.measured ofs port traceable =
      if (s.shown ofs port).timState = 0 ∨ (s.shown ofs port).timState = 3 then
        if (s.shown ofs port).acquired.halted then (s.shown ofs port).acquired.stepBack ofs
        else (s.shown ofs port).acquired.servo
      else (s.shown ofs port).followed ofs traceable := by
  unfold State.measured
  extract_lets +onlyGivenNames _ _ r v st
  have hv : s.shown ofs port = v := rfl
  rw [hv]
  refine if_congr Iff.rfl ?_ rfl
  unfold State.stepBack State.acquired
  rfl

theorem State.shown_clock (s : State) (ofs : Int) (port : Nat) : (s.shown ofs port).tim.clock = s.tim.clock := by
  simp [State.shown]

theorem State.acquired_clock (s : State) : s.acquired.tim.clock = s.tim.clock := by
  simp [State.acquired]

theorem State.stepBack_timeOk (s : State) (ofs : Int) : TimeOk (s.stepBack ofs) :=
  s.stepBy_timeOk ((s.stamp50 : Int) - ofs).toNat

theorem State.followed_clock (s : State) (ofs : Int) (traceable : Bool) :
    (s.followed ofs traceable).tim.clock = s.tim.clock := by
  unfold State.followed State.judged State.locked State.aligned State.tracked State.counted
  (repeat' split) <;> simp

theorem State.measured_timeOk (h : TimeOk s) (ofs : Int) (port : Nat) (traceable : Bool) :
    TimeOk (s.measured ofs port traceable) := by
  have hv : TimeOk (s.shown ofs port) := timeOk_congr h (State.shown_clock ..)
  rw [State.measured_eq]
  split
  · split
    · exact State.stepBack_timeOk _ ofs
    · exact timeOk_congr hv ((State.servo_clock _).trans (State.acquired_clock _))
  · exact timeOk_congr hv (State.followed_clock ..)

theorem State.supplySeconds_timeOk (h : TimeOk s) (ofs : Int) (port : Nat) : TimeOk (s.supplySeconds ofs port) := by
  unfold State.supplySeconds
  split
  · exact State.measured_timeOk h ofs port true
  · split
    · exact h
    · dsimp only
      split <;> exact timeOk_congr h rfl

theorem State.ptpOffset_timeOk (h : TimeOk s) (port : Nat) (origin arrival corr : Int) :
    TimeOk (s.ptpOffset port origin arrival corr) := by
  unfold State.ptpOffset
  extract_lets _ t ofs src
  have ht : TimeOk t := timeOk_congr h rfl
  split
  · exact ht
  · split
    · split
      · exact State.measured_timeOk ht ofs port true
      · split
        · exact State.supplySeconds_timeOk ht ofs port
        · exact ht
    · exact timeOk_congr ht (by simp)

theorem State.ptpTake_timeOk (h : TimeOk s) (port : Nat) (udp : Bool) (domain : Nat) (m : PtpMsg) (stamp : Nat) :
    TimeOk (s.ptpTake port udp domain m stamp) := by
  have keeps {t : State} (e : t.tim.clock = s.tim.clock) : TimeOk t := timeOk_congr h e
  unfold State.ptpTake
  split
  · exact h
  · cases m with
    | announce d => exact keeps (by simp)
    | sync seq origin corr => exact timeOk_congr (State.ptpOffset_timeOk h port origin stamp corr) (by simp)
    | syncTwoStep seq corr => exact keeps rfl
    | followUp seq origin corr =>
      dsimp only
      split
      · split
        · refine timeOk_congr (State.ptpOffset_timeOk ?_ _ _ _ _) (congrArg Tim.clock (State.askDelay_tim ..))
          exact keeps rfl
        · exact h
      · exact h
    | delayResp t3 t4 =>
      dsimp only
      split
      · exact h
      · exact keeps (by simp)
    | pdelayResp t1 t2 t3 t4 => exact keeps (by dsimp only; split <;> simp)
    | pdelayReq => exact keeps (by dsimp only; split <;> simp)
    | other => exact h

theorem ptpMessage_timeOk (h : TimeOk s) (port : Nat) (udp : Bool) (domain : Nat) (m : PtpMsg) :
    TimeOk (ptpMessage port udp domain m s) := by
  unfold ptpMessage
  split
  · exact h
  · refine State.ptpTake_timeOk ?_ port udp domain m _
    exact timeOk_congr h rfl

theorem timeTransfer_timeOk (h : TimeOk s) (lane : Nat) (t : TimeSet) : TimeOk (timeTransfer lane t s) := by
  unfold timeTransfer
  dsimp only
  split
  · refine State.measured_timeOk ?_ _ _ _
    exact timeOk_congr h (by simp)
  · exact timeOk_congr h rfl

theorem tcapEdge_timeOk (h : TimeOk s) (n : Nat) (rising : Bool) (fine : Nat) : TimeOk (tcapEdge n rising fine s) := by
  unfold tcapEdge
  extract_lets stamp pps sel last _ u v
  have hu : TimeOk u := timeOk_congr h rfl
  have hv : TimeOk v := by
    unfold v
    split
    · exact State.measured_timeOk hu _ _ _
    · exact hu
  split
  · exact h
  · split
    · exact timeOk_congr hu (by simp)
    · split
      · exact timeOk_congr hv (by simp)
      · exact hv

/-! ### Resets (R554, R566, R568) -/

theorem timeOk_of_reset (h : t.tim = {}) : TimeOk t := by
  refine timeOk_of_clock (congrArg Tim.clock h) ?_ ?_ ?_ ?_ <;> decide

theorem mainPower_timeOk (h : TimeOk s) (asserted : Bool) (straps : Nat) (fuses : Fuses) :
    TimeOk (mainPower asserted straps fuses s) := by
  unfold mainPower
  split
  · exact timeOk_of_reset ((State.settle_tim ..).trans rfl)
  · split
    · exact h
    · dsimp only
      split <;> exact timeOk_congr h (by simp)

theorem prstReset_timeOk (h : TimeOk s) : TimeOk (prstReset s) := by
  unfold prstReset
  split
  · exact h
  · split
    · exact timeOk_congr h rfl
    · exact timeOk_of_reset ((State.settle_tim ..).trans rfl)

@[simp] theorem softReset_clock (s : State) : (softReset s).tim.clock = s.tim.clock := by
  simp [softReset]

@[simp] theorem glbCtrl_clock (v : Word) (s : State) : (glbCtrl v s).tim.clock = s.tim.clock := by
  unfold glbCtrl
  dsimp only
  repeat' split
  all_goals simp

end Sys2Proof.Machine
end

section
/-! PROOFS. Writes and messages keep stack time valid: only a step among them moves the clock. -/

namespace Sys2Proof.Machine

open Safety (TimeOk)

variable {s t : State}

/-! ### Writes (R54, R521) -/

theorem State.doIf_timeOk (h : TimeOk s) (b : Bool) {f : State → State} (hf : TimeOk s → TimeOk (f s)) :
    TimeOk (s.doIf b f) := by
  cases b
  · exact h
  · exact hf h

theorem State.keyed_timeOk (h : TimeOk s) (src : Src) (a : Nat) {f : State → State}
    (hf : TimeOk (s.disarm src) → TimeOk (f (s.disarm src))) : TimeOk (s.keyed src a f) := by
  have hd : TimeOk (s.disarm src) := timeOk_congr h (by simp)
  unfold State.keyed
  split
  · exact h
  · split
    · exact hf hd
    · exact timeOk_congr h (by simp)

/-- Of the keyed actions only the step moves the clock. -/
theorem keyedAction_timeOk (a : Nat) (v : Word) (h : TimeOk s) : TimeOk (keyedAction a v s) := by
  unfold keyedAction
  iterate 3 refine iteInduction (fun _ => timeOk_congr h (by simp)) fun _ => ?_
  refine iteInduction (fun _ => State.doIf_timeOk h _ timStep_timeOk) fun _ => ?_
  repeat' split
  all_goals exact timeOk_congr h (by simp)

theorem hostWrite_timeOk (src : Src) (a : Nat) (v : Word) (h : TimeOk s) : TimeOk (hostWrite src a v s) := by
  unfold hostWrite
  split_ifs
  · exact timeOk_congr h (by simp)
  · exact State.keyed_timeOk h src a (keyedAction_timeOk a v)
  · exact timeOk_congr h (by simp)

theorem applyList_timeOk (l : List (Nat × Word)) (h : TimeOk s) (n first i : Nat) :
    TimeOk (applyList s n first i l).1 := by
  induction l generalizing s n first i with
  | nil => exact timeOk_congr h (congrArg Tim.clock (State.disarm_tim ..))
  | cons e l ih =>
    have ht := hostWrite_timeOk .list e.1 e.2 h
    unfold applyList
    dsimp only
    split_ifs
    · exact ht
    · exact ih ht ..
    · exact ih ht ..
    · exact ih ht ..

theorem State.runList_timeOk (l : List (Nat × Word)) (h : TimeOk s) : TimeOk (s.runList l).1 :=
  applyList_timeOk l h 0 0 0

theorem commandList_timeOk (l : List (Nat × Word)) (h : TimeOk s) : TimeOk (commandList l s) := by
  unfold commandList
  split
  · exact h
  · dsimp only
    split
    · exact timeOk_congr h (by simp)
    · exact timeOk_congr (State.runList_timeOk (l.take (_ / 8)) h) (congrArg Tim.clock (State.descDone_tim ..))

theorem windowWrite_timeOk (n off : Nat) (v : Word) (h : TimeOk s) : TimeOk (windowWrite n off v s) := by
  unfold windowWrite
  dsimp only
  split
  · split
    · exact timeOk_congr h (by simp)
    · exact hostWrite_timeOk .pcie off v h
  · repeat' split
    all_goals exact timeOk_congr h (by simp)

theorem State.runDesc_timeOk (q : Nat) (d : Desc) (data : List Byte) (h : TimeOk s) : TimeOk (s.runDesc q d data).1 := by
  unfold State.runDesc
  dsimp only
  split_ifs
  · exact timeOk_congr h (by simp)
  · exact State.runList_timeOk _ h
  · exact timeOk_congr h (by simp)
  · exact timeOk_congr h (by simp)

theorem State.takeTunnel_timeOk (src : Nat) (m : Tun) (h : TimeOk s) : TimeOk (s.takeTunnel src m) := by
  cases m with
  | write off v => exact hostWrite_timeOk .tunnel off v h
  | pair k off v => exact hostWrite_timeOk .tunnel off v (hostWrite_timeOk .tunnel Reg.GLB_KEY k h)
  | desc q no d data => exact timeOk_congr (State.runDesc_timeOk q d data h) (by simp [State.takeTunnel])
  | read off tag => exact timeOk_congr h (by unfold State.takeTunnel; dsimp only; split <;> simp)
  | response off tag v => exact timeOk_congr h (by simp [State.takeTunnel])
  | record q r => exact timeOk_congr h (by simp [State.takeTunnel])
  | ack q no st data => exact timeOk_congr h (by unfold State.takeTunnel; dsimp only; repeat' split; all_goals simp)

theorem tunnelReceived_timeOk (lane src dst : Nat) (m : Tun) (h : TimeOk s) : TimeOk (tunnelReceived lane src dst m s) := by
  unfold tunnelReceived
  split
  · exact State.takeTunnel_timeOk src m h
  · exact timeOk_congr h (by split <;> simp)

end Sys2Proof.Machine
end

section
/-! PROOFS. Every command, and so every step, keeps stack time valid. -/

namespace Sys2Proof.Machine

open Safety (TimeOk)

variable {s : State}

/-! ### Commands -/

/-- An outcome that goes on with a valid stack time. -/
def KeepsTime (o : Host.Outcome State Fault Refusal) : Prop := ∃ t, o = .next t ∧ TimeOk t

theorem finish_keepsTime (h : TimeOk s) : KeepsTime (State.finish s) :=
  ⟨_, rfl, timeOk_congr h (congrArg Tim.clock s.flush_tim)⟩

theorem main_keepsTime {f : State → State} (h : TimeOk s) (hf : TimeOk (f s)) : KeepsTime (s.main f) :=
  finish_keepsTime (iteInduction (fun _ => hf) fun _ => h)

theorem access_keepsTime {f : State → State} (h : TimeOk s) (hf : TimeOk (f s)) : KeepsTime (s.access f) :=
  finish_keepsTime (iteInduction (fun _ => hf) fun _ => h)

theorem heard_keepsTime {f : State → State} (n : Nat) (h : TimeOk s) (hf : TimeOk (f s)) : KeepsTime (s.heard n f) :=
  main_keepsTime h (iteInduction (fun _ => hf) fun _ => h)

theorem finish_keepsTime_of_clock {t : State} (h : TimeOk s) (ht : t.tim.clock = s.tim.clock) :
    KeepsTime (State.finish t) := finish_keepsTime (timeOk_congr h ht)

theorem exec_keepsTime (c : Instr) (h : TimeOk s) : KeepsTime (exec c s) := by
  cases c
  case mainPowerOnReset asserted straps fuses => exact finish_keepsTime (mainPower_timeOk h asserted _ fuses)
  case supplyUndervoltage => exact finish_keepsTime (mainPower_timeOk h true 0 {})
  case prstNReset => exact finish_keepsTime (prstReset_timeOk h)
  case epochMark => exact main_keepsTime h (epochTick_timeOk h)
  case timStep src => exact access_keepsTime (f := fun s => s.keyed src _ timStep) h (State.keyed_timeOk h src _ timStep_timeOk)
  case ptpMessage port domain m => exact main_keepsTime h (ptpMessage_timeOk h ..)
  case timeTransferSet lane t => exact heard_keepsTime _ h (timeTransfer_timeOk h ..)
  case tcapEdge n rising fine => exact main_keepsTime h (tcapEdge_timeOk h ..)
  case commandList l => exact main_keepsTime h (commandList_timeOk l h)
  case windowWrite n off v => exact access_keepsTime h (windowWrite_timeOk _ off v h)
  case tunnelMessageReceived lane src dst m => exact heard_keepsTime _ h (tunnelReceived_timeOk _ _ _ m h)
  case shadowWrite src a v =>
    refine finish_keepsTime_of_clock h ?_
    dsimp only
    split_ifs
    · simp
    · exact s.unkeyed_clock src a fun t => by repeat' split <;> simp
    · rfl
  case registerWrite src a v => exact access_keepsTime h (hostWrite_timeOk src a v h)
  all_goals exact finish_keepsTime_of_clock h (by simp)

theorem step_keepsTime (h : TimeOk s) : KeepsTime (step s) := by
  unfold step
  split
  · exact finish_keepsTime (idle_timeOk h)
  · exact exec_keepsTime _ (timeOk_congr h rfl)

end Sys2Proof.Machine

open Sys2Proof Sys2Proof.Machine

/-- Settles O4: every command ends in a flush of a state whose clock stands, has passed some ticks or has been set to a time in
range. -/
theorem timeStaysValid : Obligations.TimeStaysValid := by
  unfold Obligations.TimeStaysValid
  intro s t h ht
  obtain ⟨u, hu, hok⟩ := step_keepsTime h
  cases hu.symm.trans ht
  exact hok

end

section
/-! PROOFS. A tick and the epoch mark (R90, R93, R94), from what the passing of ticks does. -/

namespace Sys2Proof.Machine

open Safety

variable {s t : State}

/-! ### What queueing leaves -/

theorem QueuesOnly.rg (h : QueuesOnly s t) (a : Nat) : t.rg a = s.rg a := by obtain ⟨_, _, rfl⟩ := h; rfl

theorem QueuesOnly.mem (h : QueuesOnly s t) : t.mem = s.mem := by obtain ⟨_, _, rfl⟩ := h; rfl

theorem QueuesOnly.now (h : QueuesOnly s t) : t.now = s.now := by obtain ⟨_, _, rfl⟩ := h; rfl

theorem State.raise_queuesOnly (s : State) (c u : Nat) (d : List Nat) : QueuesOnly s (s.raise c u d) := ⟨_, _, rfl⟩

theorem State.reportEvent_queuesOnly (s : State) (q : Nat) (e : Event) : QueuesOnly s (s.reportEvent q e) := by
  refine (s.buffer_queuesOnly q { ev := e, src := s.ownSrc }).trans ?_
  unfold State.reportEvent State.overflowed
  dsimp only
  split
  · exact State.raise_queuesOnly ..
  · exact QueuesOnly.refl _

theorem QueuesOnly.foldl {α : Type} {f : State → α → State} (h : ∀ t x, QueuesOnly t (f t x)) (l : List α) (s : State) :
    QueuesOnly s (l.foldl f s) := by
  induction l generalizing s with
  | nil => exact QueuesOnly.refl s
  | cons x l ih => exact (h s x).trans (ih _)

/-- The mark reaches the queues of each enabled host queue, and the batch of the tick. -/
theorem State.epochMark_queuesOnly (s : State) : QueuesOnly s s.epochMark := by
  refine (QueuesOnly.foldl (fun t q => ?_) [1, 2, 3, 4, 5] s).trans ⟨_, _, rfl⟩
  split
  · exact t.reportEvent_queuesOnly q _
  · exact QueuesOnly.refl t

/-! ### The batch of an epoch mark -/

/-- Events stand, and what waits as a mark on every queue but `q`. -/
def MarksOnly (q : Nat) (s t : State) : Prop := t.evt = s.evt ∧ ∀ p, p ≠ q → t.hq.mark.at p [] = s.hq.mark.at p []

/-- A mark takes its own place where it finds no room, so it drops no record while none waits there. -/
theorem State.enqueue_mark (s : State) {q : Nat} {r : Record} (hr : r.ev.code = 0x0201) (h : s.hq.mark.at q [] = []) :
    (s.enqueue q r).2 = false ∧ MarksOnly q s (s.enqueue q r).1 := by
  unfold State.enqueue
  dsimp only
  split
  · rw [h, List.filter_nil, if_pos rfl]
    exact ⟨rfl, rfl, fun p hp => (Tab.get_set_ne (fun _ => []) s.hq.mark [r] hp :)⟩
  · next hroom =>
    rw [if_pos (by simp_all)]
    exact ⟨rfl, rfl, fun _ _ => rfl⟩

theorem State.reportEvent_mark (s : State) {q : Nat} {e : Event} (he : e.code = 0x0201) (h : s.hq.mark.at q [] = []) :
    MarksOnly q s (s.reportEvent q e) := by
  unfold State.reportEvent State.buffer
  dsimp only
  obtain ⟨hdrop, hmarks⟩ := State.enqueue_mark
    ({ s with hq.seq := s.hq.seq.put q 0 ((s.hq.seq.at q 0 + 1) % 65536) } : State)
    (r := { ev := e, src := s.ownSrc, seq := s.hq.seq.at q 0 }) he h
  rw [State.overflowed, hdrop]
  exact hmarks

/-- A mark on different queues, none of which has one waiting, raises nothing. -/
theorem foldl_reportEvent_mark {e : Event} (he : e.code = 0x0201) : ∀ (l : List Nat) (s : State), l.Nodup →
    (∀ q ∈ l, s.hq.mark.at q [] = []) →
    (l.foldl (fun t q => if t.hrf (Reg.HQ_QCFG q) 0 1 = 1 then t.reportEvent q e else t) s).evt = s.evt
  | [], _, _, _ => rfl
  | q :: l, s, hl, h => by
    obtain ⟨hq, hl⟩ := List.nodup_cons.1 hl
    have hmarks : MarksOnly q s (if s.hrf (Reg.HQ_QCFG q) 0 1 = 1 then s.reportEvent q e else s) := by
      split
      · exact s.reportEvent_mark he (h q List.mem_cons_self)
      · exact ⟨rfl, fun _ _ => rfl⟩
    obtain ⟨hevt, hmark⟩ := hmarks
    refine (foldl_reportEvent_mark he l _ hl fun p hp => ?_).trans hevt
    rw [hmark p (ne_of_mem_of_not_mem hp hq)]
    exact h p (List.mem_cons_of_mem _ hp)

/-- With no mark waiting on a queue the mark is the one event of its tick. -/
theorem State.epochMark_batch (s : State) (h : ∀ q < 6, s.hq.mark.at q [] = []) :
    s.epochMark.evt.batch = s.evt.batch ++ [{ ev := { code := 0x0201, data := markWords s, ts32 := s.tim.ts32 } }] := by
  unfold State.epochMark
  dsimp only
  rw [foldl_reportEvent_mark rfl [1, 2, 3, 4, 5] s (by decide) fun q hq => h q (by simp at hq; omega)]
  rfl

/-! ### The rate of stack time (R90) -/

theorem State.rateAddend_congr (h : KeepsRegs s t [Reg.CLK_COAST_T]) : t.rateAddend = s.rateAddend := by
  have hr {a : Nat} (ha : a ∉ [Reg.CLK_COAST_T]) : t.rg a = s.rg a := h a ha
  have hadd : t.addend = s.addend := by
    rw [State.addend, State.rf_of_rg _ _ (hr (by decide)), State.rn, hr (by decide)]
    rfl
  have hsteer : t.steered = s.steered := by
    rw [State.steered, State.runsFree, State.takesStation, State.timState, State.node, State.pairState,
      State.rf_of_rg 0 2 (hr (a := Reg.TIM_STAT) (by decide)), State.rf_of_rg 0 6 (hr (a := Reg.GLB_STRAP) (by decide)),
      State.rf_of_rg 0 2 (hr (a := Reg.PAR_STAT) (by decide)), State.rf_of_rg 0 2 (hr (a := Reg.TIM_CFG) (by decide))]
    rfl
  rw [State.rateAddend, hadd, hsteer, hr (by decide)]
  rfl

theorem State.rateAddend_lt (s : State) : s.rateAddend < 2 ^ 41 := by
  have hhi : s.rf Reg.TIM_ADDEND_HI_L 0 8 < 2 ^ 8 := Nat.mod_lt _ (by decide)
  have hlo : s.rn Reg.TIM_ADDEND_LO_L < 2 ^ 32 := (s.rg Reg.TIM_ADDEND_LO_L).isLt
  have hrate : (s.rg Reg.TIM_RATE).toInt < 2 ^ 31 := BitVec.toInt_lt
  unfold State.rateAddend State.addend
  split <;> omega

/-- Without a slew time covers the effective addend in each tick. -/
theorem State.covers_of_noSlew (h : s.tim.slew = 0) (n : Nat) : s.covers n = s.rateAddend * n := by
  rw [State.covers, State.slewIn, if_pos (by simp [h]), Int.add_zero, Int.toNat_natCast]

/-! ### Ticks that pass (R90, R93) -/

/-- The clock `n` ticks on. -/
theorem State.advance_clock (s : State) (n total : Nat) (h : total = s.tim.ns * 4294967296 + s.tim.sub + s.covers n) :
    (s.advance n).tim.clock = ((s.tim.s + total / 4294967296 / 1000000000) % 2 ^ 48, total / 4294967296 % 1000000000,
      total % 4294967296, s.tim.ts32 + BitVec.ofNat 32 (total / 4294967296 - s.tim.ns)) := by
  subst h
  rfl

/-- Some ticks have passed, without a trace but in the coasting time. -/
structure Passes (n : Nat) (s t : State) : Prop where
  regs : KeepsRegs s t [Reg.CLK_COAST_T]
  mem : t.mem = s.mem
  memi : t.memi = s.memi
  cfg : t.cfg = s.cfg
  evt : t.evt = s.evt
  hq : t.hq = s.hq
  onMain : t.onMain = s.onMain
  now : t.now = s.now + n

theorem Passes.refl (s : State) : Passes 0 s s := ⟨fun _ _ => rfl, rfl, rfl, rfl, rfl, rfl, rfl, rfl⟩

theorem Passes.tim (s : State) (t : Tim) : Passes 0 s { s with tim := t } := ⟨fun _ _ => rfl, rfl, rfl, rfl, rfl, rfl, rfl, rfl⟩

theorem Passes.trans {n m : Nat} {s t u : State} (h : Passes n s t) (k : Passes m t u) : Passes (n + m) s u :=
  ⟨fun a ha => (k.regs a ha).trans (h.regs a ha), k.mem.trans h.mem, k.memi.trans h.memi, k.cfg.trans h.cfg, k.evt.trans h.evt,
    k.hq.trans h.hq, k.onMain.trans h.onMain, by rw [k.now, h.now, Nat.add_assoc]⟩

theorem State.showCoast_passes (s : State) : Passes 0 s s.showCoast := by
  unfold State.showCoast
  generalize min ((s.now - s.clk.coastSince) / 312500) 0xffffffff = x
  exact ⟨fun a ha => s.rg_wn_ne x (by simpa using ha), rfl, rfl, rfl, rfl, rfl, rfl, rfl⟩

theorem State.keepTick_passes (s : State) (n : Nat) : Passes 0 s (s.keepTick n) := by
  unfold State.keepTick
  split <;> exact Passes.tim s _

theorem State.advance_passes (s : State) (n : Nat) : Passes 0 s (s.advance n) := Passes.tim s _

/-- The clock of the device and the key slots `n` ticks on, with the coasting time. -/
def State.aged (s : State) (n : Nat) : State :=
  let t := { s with now := s.now + n, keys.slots := ageSlots n s.keys.slots }
  if t.onMain && t.clkState == 3 && !t.integrity then t.showCoast else t

theorem State.pass_eq (h : s.clk.stopped = false) (n : Nat) : s.pass n =
    if (s.aged n).tim.stopped || !(s.aged n).onMain then { s.aged n with tim.past := [] }
    else ((s.aged n).keepTick n).advance n := if_neg (by simp [h])

theorem State.aged_passes (s : State) (n : Nat) : Passes n s (s.aged n) := by
  have hn : Passes n s { s with now := s.now + n, keys.slots := ageSlots n s.keys.slots } :=
    ⟨fun _ _ => rfl, rfl, rfl, rfl, rfl, rfl, rfl, rfl⟩
  unfold State.aged
  dsimp only
  split
  · exact hn.trans (State.showCoast_passes _)
  · exact hn

@[simp] theorem State.aged_tim (s : State) (n : Nat) : (s.aged n).tim = s.tim := by
  simp [State.aged]

theorem State.pass_passes (h : s.clk.stopped = false) (n : Nat) : Passes n s (s.pass n) := by
  rw [State.pass_eq h]
  have ha := s.aged_passes n
  split
  · exact ha.trans (Passes.tim _ _)
  · exact (ha.trans (State.keepTick_passes _ n)).trans (State.advance_passes _ n)

/-- Where stack time runs without a slew, `n` ticks add `n` effective addends. -/
theorem State.pass_clock (hmain : s.onMain = true) (hclk : s.clk.stopped = false) (htim : s.tim.stopped = false)
    (hslew : s.tim.slew = 0) (n total : Nat) (h : total = s.tim.ns * 4294967296 + s.tim.sub + s.rateAddend * n) :
    (s.pass n).tim.clock = ((s.tim.s + total / 4294967296 / 1000000000) % 2 ^ 48, total / 4294967296 % 1000000000,
      total % 4294967296, s.tim.ts32 + BitVec.ofNat 32 (total / 4294967296 - s.tim.ns)) := by
  have hp := (s.aged_passes n).trans (State.keepTick_passes _ n)
  have hclock : ((s.aged n).keepTick n).tim.clock = s.tim.clock := by simp
  have hslew' : ((s.aged n).keepTick n).tim.slew = 0 := by
    unfold State.keepTick
    split <;> simp [hslew]
  rw [State.pass_eq hclk, if_neg (by simp [(s.aged_passes n).onMain, hmain, htim])]
  simp only [Tim.clock, Prod.mk.injEq] at hclock
  obtain ⟨hs, hns, hsub, hts⟩ := hclock
  rw [State.advance_clock _ n total, hs, hns, hts]
  rw [State.covers_of_noSlew hslew', hns, hsub, State.rateAddend_congr hp.regs, h]

/-! ### One tick (R90) -/

/-- The carries of R90: what a tick makes of the ns and its fraction, for an addend within its range. -/
theorem tick_carries {sec ns sub a : Nat} (hns : ns < 2 ^ 30) (hsub : sub < 4294967296) (hsec : sec < 2 ^ 48) (ha : a < 2 ^ 41)
    {total sub' ns' : Nat} (ht : total = ns * 4294967296 + sub + a * 1) (hs : sub' = sub + a % 4294967296)
    (hn : ns' = ns + a / 4294967296 + if 4294967296 ≤ sub' then 1 else 0) :
    total % 4294967296 = sub' % 4294967296 ∧ total / 4294967296 = ns' ∧
      ns' % 1000000000 = (if 1000000000 ≤ ns' then ns' - 1000000000 else ns') ∧
      (sec + ns' / 1000000000) % 2 ^ 48 = if 1000000000 ≤ ns' then (sec + 1) % 2 ^ 48 else sec := by
  have hlt : ns' < 2000000000 := by split at hn <;> omega
  refine ⟨by omega, by split at hn <;> omega, by split <;> omega, ?_⟩
  split
  · rw [show ns' / 1000000000 = 1 by omega]
  · rw [show ns' / 1000000000 = 0 by omega, Nat.add_zero, Nat.mod_eq_of_lt hsec]

/-- Nothing waits for the ticks: no commit, no correction and no scrub. -/
theorem idle_quiet (hpend : s.tick.cfg.pend = []) (hqueue : s.tick.memi.queue = []) (hscrub : s.tick.scrubbing = false) :
    idle s = s.tick ∨ idle s = s.tick.showElig := by
  have hcommit : s.tick.commitNow = s.tick := by simp [State.commitNow, hpend]
  have hlog : s.tick.logOne = s.tick := by rw [State.logOne, hqueue]
  have hstep : s.tick.scrubTick = s.tick := by simp [State.scrubTick, hscrub]
  unfold idle
  dsimp only
  split
  · rw [hcommit, hlog, hlog, hstep]; exact .inr rfl
  · exact .inl rfl

/-- The tick, with the mark where the second changes. -/
theorem State.tick_eq (s : State) : s.tick = s.pass 1 ∨ s.tick = (s.pass 1).epochMark := by
  unfold State.tick
  dsimp only
  split
  · exact .inr rfl
  · exact .inl rfl

theorem QueuesOnly.passes (h : QueuesOnly s t) : KeepsRegs s t [] ∧ t.mem = s.mem ∧ t.memi = s.memi ∧ t.cfg = s.cfg ∧
    t.now = s.now ∧ t.tim = s.tim := by
  obtain ⟨_, _, rfl⟩ := h
  exact ⟨fun _ _ => rfl, rfl, rfl, rfl, rfl, rfl⟩

/-- An empty queue lets one tick pass (R90); behind it only the eligibility shown may change (R402). -/
theorem step_tick (hq : s.pending = []) (hpend : s.cfg.pend = []) (hclk : s.clk.stopped = false) (hqueue : s.memi.queue = [])
    (hscrub : s.scrubbing = false) : ∃ t, step s = .next t ∧ t.tim = (s.pass 1).tim ∧ t.now = s.now + 1 ∧ t.mem = s.mem ∧
      KeepsRegs s t [Reg.CLK_COAST_T, Reg.PAR_STAT, Reg.PAR_FLAGS] := by
  have hp := State.pass_passes hclk 1
  have hmark : QueuesOnly (s.pass 1) s.tick := by
    rcases s.tick_eq with h | h <;> rw [h]
    · exact QueuesOnly.refl _
    · exact State.epochMark_queuesOnly _
  obtain ⟨hregs, hmem, hmemi, hcfg, hnow, htim⟩ := hmark.passes
  have hidle : SameTick [Reg.PAR_STAT, Reg.PAR_FLAGS] s.tick (idle s) ∧ (idle s).now = s.tick.now := by
    rcases idle_quiet (s := s) (by rw [hcfg, hp.cfg, hpend]) (by rw [hmemi, hp.memi, hqueue])
      ((State.bit_of_rg 1 ((hregs _ (by simp)).trans (hp.regs _ (by decide)))).trans hscrub) with h | h <;> rw [h]
    · exact ⟨(DrivesOnly.refl _ _).sameTick, rfl⟩
    · exact ⟨State.showElig_sameTick _, State.showElig_now _⟩
  obtain ⟨hsame, hnow'⟩ := hidle
  obtain ⟨hregs₂, hmem₂, -, -, hnow₂, htim₂⟩ := (idle s).flush_queuesOnly.passes
  refine ⟨(idle s).flush, by rw [step, hq]; rfl, by rw [htim₂, hsame.tim, htim], by rw [hnow₂, hnow', hnow, hp.now],
    by rw [hmem₂, hsame.mem, hmem, hp.mem], fun a ha => ?_⟩
  obtain ⟨hcoast, helig⟩ : a ∉ [Reg.CLK_COAST_T] ∧ a ∉ [Reg.PAR_STAT, Reg.PAR_FLAGS] := by simpa using ha
  rw [hregs₂ a (by simp), hsame.regs a helig, hregs a (by simp), hp.regs a hcoast]

/-! ### The epoch mark (R94) -/

/-- The ticks to the carry take time to the next second, by less than one addend more. -/
theorem ticksFor_carry {x a : Nat} (hx : x < secUnits) (ha : 0 < a) (hlt : a < 2 ^ 41) {total : Nat}
    (ht : total = x + a * max 1 ((secUnits - x + a - 1) / a)) :
    total / 4294967296 / 1000000000 = 1 ∧ total / 4294967296 % 1000000000 * 4294967296 + total % 4294967296 < a ∧
      total / 4294967296 = 1000000000 + total / 4294967296 % 1000000000 := by
  have hlo : secUnits - x ≤ a * ((secUnits - x + a - 1) / a) := by
    have := Nat.div_add_mod (secUnits - x + a - 1) a
    have := Nat.mod_lt (secUnits - x + a - 1) ha
    omega
  have hhi : a * ((secUnits - x + a - 1) / a) ≤ secUnits - x + a - 1 := Nat.mul_div_le _ _
  have hone : 1 ≤ (secUnits - x + a - 1) / a := (Nat.one_le_div_iff ha).2 (by omega)
  rw [Nat.max_eq_right hone] at ht
  generalize a * ((secUnits - x + a - 1) / a) = c at *
  simp only [secUnits] at *
  omega

theorem State.ticksFor_of_noSlew (h : s.tim.slew = 0) (r : Nat) :
    s.ticksFor r = (r + s.rateAddend - 1) / s.rateAddend := by
  simp [State.ticksFor, h]

theorem markWords_congr (ht : t.tim = s.tim) (hr : t.rg Reg.TIM_STAT = s.rg Reg.TIM_STAT) : markWords t = markWords s := by
  rw [markWords, ht, State.rf_of_rg 0 2 hr]
  rfl

theorem does_epochMark (hrun : s.running = true) (htim : s.tim.stopped = false) (hslew : s.tim.slew = 0) (hok : TimeOk s)
    (hns : s.tim.ns < 1000000000) (hrate : 0 < s.rateAddend) (hmark : ∀ q < 6, s.hq.mark.at q [] = []) :
    Does .epochMark s fun u =>
      u.tim.s = (s.tim.s + 1) % 2 ^ 48 ∧ u.tim.ns * 4294967296 + u.tim.sub < s.rateAddend ∧
      u.tim.ts32 = s.tim.ts32 + BitVec.ofNat 32 (1000000000 + u.tim.ns - s.tim.ns) ∧
      u.evt.batch = s.evt.batch ++ [{ ev := { code := 0x0201, data := markWords u, ts32 := u.tim.ts32 } }] ∧
      KeepsMem s u ∧ KeepsRegs s u [Reg.CLK_COAST_T] := by
  obtain ⟨hmain, hclk⟩ : s.onMain = true ∧ s.clk.stopped = false := by simpa [State.running] using hrun
  have htick : epochTick s =
      (s.pass (max 1 (s.ticksFor (secUnits - (s.tim.ns * 4294967296 + s.tim.sub))))).epochMark :=
    if_neg (by simp [hclk, htim, hrate.ne'])
  refine Does_main s epochTick rfl hrun ?_
  rw [htick]
  generalize hn : max 1 (s.ticksFor (secUnits - (s.tim.ns * 4294967296 + s.tim.sub))) = n
  have hp := State.pass_passes hclk n
  obtain ⟨hregs, hmem, -, -, -, ht⟩ := (s.pass n).epochMark_queuesOnly.passes
  obtain ⟨-, hsub, -, -⟩ := hok
  obtain ⟨total, htotal⟩ : ∃ x, x = s.tim.ns * 4294967296 + s.tim.sub + s.rateAddend * n := ⟨_, rfl⟩
  obtain ⟨hsec, hlt, hwhole⟩ := ticksFor_carry (x := s.tim.ns * 4294967296 + s.tim.sub) (total := total) (by simp only [secUnits]; omega) hrate
    s.rateAddend_lt (by rw [← State.ticksFor_of_noSlew hslew, hn]; exact htotal)
  have hclock := State.pass_clock hmain hclk htim hslew n total htotal
  simp only [Tim.clock, Prod.mk.injEq, hsec] at hclock
  obtain ⟨hs, hns', hsub', hts⟩ := hclock
  refine ⟨by rw [ht, hs], by rw [ht, hns', hsub']; exact hlt, ?_, ?_, fun a => ?_, fun a ha => ?_⟩
  · rw [ht, hts, hns', ← hwhole]
  · rw [State.epochMark_batch _ (by rw [hp.hq]; exact hmark), hp.evt, ht, ← markWords_congr (s := s.pass n) ht (hregs _ (by simp))]
  · rw [State.byte, hmem, hp.mem]; rfl
  · rw [hregs a (by simp), hp.regs a ha]

end Sys2Proof.Machine

open Sys2Proof Sys2Proof.Machine Sys2Proof.Safety

/-- Settles O5: a tick adds the effective addend, and the fewest ticks that reach the next second end in the mark. -/
theorem stackTimeAdvances : Obligations.StackTimeAdvances := by
  unfold Obligations.StackTimeAdvances
  refine ⟨fun s hq hpend hmain hclk htim hslew hok hqueue hscrub sub ns hs hn => ?_,
    fun s hrun htim hslew hok hns hrate hmark => does_epochMark hrun htim hslew hok hns hrate hmark⟩
  obtain ⟨hlt, hsub, hsec, -⟩ := hok
  obtain ⟨t, hstep, ht, hnow, hmem, hregs⟩ := step_tick hq hpend hclk hqueue hscrub
  have hclock := State.pass_clock hmain hclk htim hslew 1 _ rfl
  obtain ⟨hsub', hns', hns'', hsec'⟩ := tick_carries hlt hsub hsec s.rateAddend_lt rfl hs hn
  simp only [Tim.clock, Prod.mk.injEq, ← ht, hsub', hns', hns'', hsec'] at hclock
  obtain ⟨hs, hn, hb, hw⟩ := hclock
  exact ⟨t, hstep, hb, hn, hs, hw, hnow, hmem, hregs⟩
end

section
/-! PROOFS. Steps, snapshots, the rate and the slew of stack time (R92, R100, R107, R115). -/

namespace Sys2Proof.Machine

open Safety

variable {s t : State}

/-! ### Refusals and key slots (R54, R628) -/

/-- A refusal shows in its two registers and raises one event. -/
theorem State.refuse_step (s : State) (a code : Nat) :
    RootStep [Reg.CFG_REFUSE_CNT, Reg.CFG_REFUSE_ADDR] [(0x0300 + code, 0, [a])] s (s.refuse a code) :=
  (((RootStep.refl _ _).wf (by decide) 0 32 _).wn (by decide) a).raise _ _ _

/-- A step behind the use of a key slot, that leaves the hidden state of the clock root. -/
theorem RootStep.behind_slot {l : List Nat} {e : List (Nat × Nat × List Nat)} {src : Src} (h : RootStep l e (s.disarm src) t)
    (hc : t.clk = s.clk) : t.slot src = {} ∧ Raises s t e ∧ KeepsRegs s t l ∧ OnlyRegsAnd s t fun u => { u with keys := s.keys } := by
  obtain ⟨hslot, hraises, hregs, -⟩ := h.of_disarm
  refine ⟨hslot, hraises, hregs, ?_⟩
  obtain ⟨_, _, _, rfl⟩ := h.only
  subst hc
  rfl

/-- Outside the GLB block a register is reached on a device that is READY (R561). -/
theorem reaches_of_ready {a b : Nat} (ha : a / 0x10000 ≠ 0) (h : Reaches s a) : Reaches s b := by
  obtain ⟨hon, hw⟩ := h
  have hready : s.sys.ready = true := by simpa [State.writable, hon, ha] using hw
  exact ⟨hon, by simp [State.writable, hon, hready]⟩

/-- An unkeyed write that reaches its register acts behind the key slot of its source. -/
theorem Does_unkeyed {c : Instr} {P : State → Prop} {src : Src} {a : Nat} (act : State → State)
    (he : exec c s = s.access fun s => s.unkeyed src a act) (hr : Reaches s a) (hp : P (act (s.disarm src))) : Does c s P := by
  obtain ⟨hon, hw⟩ := hr
  refine Does_access s _ he hon ?_
  rwa [s.unkeyed_pass src a act hw]

/-! ### The grids and the outputs behind a step (R107) -/

theorem KeepsRegs.each {f : State → Nat → State} {n : Nat} {l : List Nat} (h : ∀ t, ∀ i < n, KeepsRegs t (f t i) l) (s : State) :
    KeepsRegs s (s.each n f) l := by
  induction n with
  | zero => exact fun _ _ => rfl
  | succ n ih =>
    rw [State.each_succ]
    exact fun a ha => (h _ n (by omega) a ha).trans (ih (fun t i hi => h t i (by omega)) a ha)

/-- What the grids and the outputs leave of the state. -/
def besideGrids (s : State) : List Host.Cell × Keys × Evt × (Nat × Nat × Nat × Word) × Int :=
  (s.mem, s.keys, s.evt, s.tim.clock, s.tim.slew)

/-- A step gives the control period its number `k` and each group its count (R107). -/
theorem State.stepGrid_eq (s : State) : ∃ (k : Int) (f : State → Nat → Nat),
    k = ((s.time50 : Int) - 1 - s.epoch50 - s.perOfs * 64 * 4294967296) / (s.perLen * 64 * 4294967296 : Nat) ∧
      s.stepGrid = (if k = s.tim.period then s else { s.ringRestart with tim.period := k }).each 8 fun t g =>
        t.wf (Reg.PWM_GSTAT g) 8 24 (f t g) :=
  ⟨_, fun t g => unsigned 24 (((s.time50 : Int) - 1 - s.epoch50 - (t.rn (Reg.PWM_GEPO_L g) : Nat) * 64 * 4294967296) /
    ((t.rn (Reg.PWM_GPER_L g)) * 64 * 4294967296 : Nat)), rfl, rfl⟩

theorem besideGrids_inj {m : List Host.Cell} {k : Keys} {e : Evt} {c : Nat × Nat × Nat × Word} {w : Int}
    (h : besideGrids s = (m, k, e, c, w)) : s.mem = m ∧ s.keys = k ∧ s.evt = e ∧ s.tim.clock = c ∧ s.tim.slew = w := by
  cases h
  exact ⟨rfl, rfl, rfl, rfl, rfl⟩

theorem clock_inj {m : Tim} {sec ns sub : Nat} {w : Word} (h : m.clock = (sec, ns, sub, w)) :
    m.s = sec ∧ m.ns = ns ∧ m.sub = sub ∧ m.ts32 = w := by
  cases h
  exact ⟨rfl, rfl, rfl, rfl⟩

theorem State.stepGrid_beside (s : State) : besideGrids s.stepGrid = besideGrids s := by
  obtain ⟨k, f, -, h⟩ := s.stepGrid_eq
  rw [h]
  refine (State.each_eq _ besideGrids (fun _ _ => rfl) 8).trans ?_
  split <;> rfl

theorem State.stepGrid_regs (s : State) : KeepsRegs s s.stepGrid groupCounts := by
  obtain ⟨k, f, -, h⟩ := s.stepGrid_eq
  intro a ha
  have hwf (t : State) (g : Nat) (hg : g < 8) : KeepsRegs t (t.wf (Reg.PWM_GSTAT g) 8 24 (f t g)) groupCounts :=
    fun b hb => t.rg_wf_ne _ _ _ fun h => hb (h ▸ List.mem_map_of_mem (List.mem_range.2 hg))
  rw [h, KeepsRegs.each hwf _ a ha]
  split <;> rfl

/-- The grid of the control period is taken behind the instant before the present time (R107). -/
theorem State.stepGrid_period (s : State) : s.stepGrid.tim.period =
    ((s.time50 : Int) - 1 - s.epoch50 - s.perOfs * 64 * 4294967296) / (s.perLen * 64 * 4294967296 : Nat) := by
  obtain ⟨k, f, hk, h⟩ := s.stepGrid_eq
  rw [← hk, h]
  refine (State.each_eq _ (fun t => t.tim.period) (fun _ _ => rfl) 8).trans ?_
  split
  · next h => exact h.symm
  · rfl

theorem State.stepTpo_beside (s : State) : besideGrids s.stepTpo = besideGrids s := by
  unfold State.stepTpo
  refine State.each_eq s besideGrids (fun t i => ?_) 8
  split
  · rfl
  · split
    · simp [besideGrids]
    · split <;> simp [besideGrids]

theorem State.stepTpo_period (s : State) : s.stepTpo.tim.period = s.tim.period := by
  unfold State.stepTpo
  refine State.each_eq s (fun t => t.tim.period) (fun t i => ?_) 8
  split
  · rfl
  · split
    · simp
    · split <;> simp

/-- The status registers of the timed outputs. -/
def tpoStats : List Nat := (List.range 8).map Reg.TIM_TPO_STAT

theorem State.stepTpo_regs (s : State) : KeepsRegs s s.stepTpo tpoStats := by
  unfold State.stepTpo
  refine KeepsRegs.each (fun t i hi => ?_) s
  split
  · exact fun _ _ => rfl
  · split
    · exact fun _ _ => rfl
    · split
      · exact fun _ _ => rfl
      · exact fun b hb => State.rg_wbit_ne _ _ _ fun h => hb (h ▸ List.mem_map_of_mem (List.mem_range.2 hi))

/-! ### A step (R92, R107) -/

/-- What holds of the time stepped to. -/
structure SteppedTo (s : State) (sec ns sub : Nat) (u : State) : Prop where
  sec_eq : u.tim.s = sec % 2 ^ 48
  ns_eq : u.tim.ns = ns
  sub_eq : u.tim.sub = sub
  ts32_eq : u.tim.ts32 = BitVec.ofNat 32 (sec * 1000000000 + ns)
  slew : u.tim.slew = 0
  keys : u.keys = s.keys
  mem : u.mem = s.mem
  regs : KeepsRegs s u (groupCounts ++ tpoStats)
  batch : u.evt.batch = s.evt.batch ++
    [{ ev := { code := 0x0205, data := words (s.timeWords ++ u.timeWords), ts32 := u.tim.ts32 } }]
  grid : 0 < u.perLen → gridStart u u.tim.period < u.time50 ∧ (u.time50 : Int) ≤ gridStart u (u.tim.period + 1)

/-- The instant before `t` lies in the period taken. -/
theorem grid_bounds (t e o l k : Int) (hl : 0 < l) (hk : k = (t - 1 - e - o) / l) :
    e + o + k * l < t ∧ t ≤ e + o + (k + 1) * l := by
  have h1 := Int.emod_nonneg (t - 1 - e - o) hl.ne'
  have h2 := Int.emod_lt_of_pos (t - 1 - e - o) hl
  have h3 := Int.emod_add_mul_ediv (t - 1 - e - o) l
  rw [← hk] at h3
  rw [Int.add_mul, Int.mul_comm k l]
  omega

/-- The period length, its offset and the epoch are no registers of a step. -/
theorem gridStart_congr (h : KeepsRegs s t (groupCounts ++ tpoStats)) (k : Int) :
    t.perLen = s.perLen ∧ gridStart t k = gridStart s k := by
  have hlen : t.perLen = s.perLen := State.rf_of_rg 0 18 (h _ (by decide))
  refine ⟨hlen, ?_⟩
  rw [gridStart, State.epoch50, State.perOfs, hlen, State.rf_of_rg 0 16 (h Reg.TIM_EPOCH_S_HI_L (by decide)),
    State.rn, h Reg.TIM_EPOCH_S_LO_L (by decide), State.rf_of_rg 0 30 (h Reg.TIM_EPOCH_NS_L (by decide)),
    State.rf_of_rg 0 18 (h Reg.SLT_PEPO_L (by decide))]
  rfl

/-- The grid of the control period behind `stepGrid` (R106, R107). -/
theorem State.stepGrid_holds (s : State) (hl : 0 < s.perLen) :
    gridStart s s.stepGrid.tim.period < s.time50 ∧ (s.time50 : Int) ≤ gridStart s (s.stepGrid.tim.period + 1) := by
  have hk := s.stepGrid_period
  have hb := grid_bounds s.time50 s.epoch50 (s.perOfs * 274877906944) (s.perLen * 274877906944) s.stepGrid.tim.period
    (by omega) (by rw [hk]; push_cast; ring_nf)
  simpa only [gridStart] using hb

/-- The time of a step before its grids and outputs are judged. -/
def State.atTime (s : State) (sec ns sub : Nat) : State :=
  { s with tim.s := sec % 2 ^ 48, tim.ns := ns, tim.sub := sub, tim.slew := 0, tim.past := [],
           tim.ts32 := BitVec.ofNat 32 (sec * 1000000000 + ns) }

theorem keepsRegs_tim (s : State) (m : Tim) (l : List Nat) : KeepsRegs s { s with tim := m } l := fun _ _ => rfl

theorem State.stepTime_eq (s : State) (sec ns sub : Nat) : s.stepTime sec ns sub =
    (s.atTime sec ns sub).stepGrid.stepTpo.raise 0x0205 0 (s.timeWords ++ (s.atTime sec ns sub).timeWords) := rfl

theorem State.atTime_beside (s : State) (sec ns sub : Nat) : besideGrids (s.atTime sec ns sub) =
    (s.mem, s.keys, s.evt, (sec % 2 ^ 48, ns, sub, BitVec.ofNat 32 (sec * 1000000000 + ns)), 0) := by
  rw [besideGrids, State.atTime, Tim.clock_mk]

theorem time50_congr (h : t.tim.clock = s.tim.clock) : t.time50 = s.time50 := by
  simp only [Tim.clock, Prod.mk.injEq] at h
  obtain ⟨hs, hns, hsub, -⟩ := h
  rw [State.time50, hs, hns, hsub]
  rfl

theorem timeWords_congr (h : t.tim.clock = s.tim.clock) : t.timeWords = s.timeWords := by
  simp only [Tim.clock, Prod.mk.injEq] at h
  obtain ⟨hs, hns, -, -⟩ := h
  rw [State.timeWords, hs, hns]
  rfl

theorem State.stepTime_spec (s : State) (sec ns sub : Nat) : SteppedTo s sec ns sub (s.stepTime sec ns sub) := by
  rw [State.stepTime_eq]
  have ht := s.atTime_beside sec ns sub
  have htr : KeepsRegs s (s.atTime sec ns sub) [] := keepsRegs_tim s _ []
  generalize s.atTime sec ns sub = t at ht htr
  have hb := t.stepGrid.stepTpo_beside.trans t.stepGrid_beside
  have hregs : KeepsRegs t t.stepGrid.stepTpo (groupCounts ++ tpoStats) := fun a ha => by
    obtain ⟨hg, hp⟩ : a ∉ groupCounts ∧ a ∉ tpoStats := by simpa using ha
    rw [t.stepGrid.stepTpo_regs a hp, t.stepGrid_regs a hg]
  have hgrid := t.stepGrid_holds
  have hper := t.stepGrid.stepTpo_period
  generalize t.stepGrid.stepTpo = u at hb hregs hper
  have hclock : u.tim.clock = t.tim.clock := (besideGrids_inj hb).2.2.2.1
  have hbu := hb.trans ht
  obtain ⟨hmem, hkeys, hevt, hbc, hslew⟩ := besideGrids_inj hbu
  obtain ⟨hs, hns, hsub, hts⟩ := clock_inj hbc
  have hvt := u.raise_tim 0x0205 0 (s.timeWords ++ t.timeWords)
  have hvk := u.raise_keys 0x0205 0 (s.timeWords ++ t.timeWords)
  have hvm := u.raise_mem 0x0205 0 (s.timeWords ++ t.timeWords)
  have hvb := u.raise_batch 0x0205 0 (s.timeWords ++ t.timeWords)
  have hvr (a : Nat) := u.rg_raise 0x0205 0 (s.timeWords ++ t.timeWords) a
  generalize u.raise 0x0205 0 (s.timeWords ++ t.timeWords) = v at hvt hvk hvm hvb hvr ⊢
  have hvc : v.tim.clock = t.tim.clock := by rw [hvt, hclock]
  have hregs' : KeepsRegs t v (groupCounts ++ tpoStats) := fun a ha => (hvr a).trans (hregs a ha)
  refine ⟨by rw [hvt, hs], by rw [hvt, hns], by rw [hvt, hsub], by rw [hvt, hts], by rw [hvt, hslew], hvk.trans hkeys,
    hvm.trans hmem, fun a ha => (hregs' a ha).trans (htr a (by simp)), ?_, fun hl => ?_⟩
  · rw [hvb, hevt, timeWords_congr hvc, hvt]
  · obtain ⟨hlen, hk⟩ := gridStart_congr hregs' v.tim.period
    obtain ⟨-, hk'⟩ := gridStart_congr hregs' (v.tim.period + 1)
    rw [hk, hk', time50_congr hvc, hvt, hper]
    exact hgrid (hlen ▸ hl)

/-! ### The commands of stack time -/

section Commands

variable {src : Src} {v : Word}

theorem does_timStep_halted (hk : KeyPasses s src Reg.TIM_CTRL) (hh : s.halted = true) : Does (.timStep src) s fun u =>
    u.tim.s = s.rf Reg.TIM_SET_S_HI 0 16 * 4294967296 + s.rn Reg.TIM_SET_S_LO ∧
    u.tim.ns = s.rf Reg.TIM_SET_NS 0 30 ∧ u.tim.sub = 0 ∧ u.tim.slew = 0 ∧
    u.tim.ts32 = BitVec.ofNat 32 (u.tim.s * 1000000000 + u.tim.ns) ∧
    (0 < u.perLen → gridStart u u.tim.period < u.time50 ∧ (u.time50 : Int) ≤ gridStart u (u.tim.period + 1)) ∧
    u.slot src = {} ∧
    u.evt.batch = s.evt.batch ++
      [{ ev := { code := 0x0205, data := words (s.timeWords ++ u.timeWords), ts32 := u.tim.ts32 } }] ∧
    KeepsMem s u ∧ KeepsRegs s u (groupCounts ++ tpoStats) := by
  have hstep : timStep (s.disarm src) = (s.disarm src).stepTime
      (s.rf Reg.TIM_SET_S_HI 0 16 * 4294967296 + s.rn Reg.TIM_SET_S_LO) (s.rf Reg.TIM_SET_NS 0 30) 0 :=
    if_neg (by simp [show (s.disarm src).halted = true from hh])
  refine Does_keyed s timStep rfl hk ?_
  rw [hstep]
  have hlt : s.rf Reg.TIM_SET_S_HI 0 16 * 4294967296 + s.rn Reg.TIM_SET_S_LO < 2 ^ 48 := by
    have hhi : s.rf Reg.TIM_SET_S_HI 0 16 < 2 ^ 16 := Nat.mod_lt _ (by decide)
    have hlo : s.rn Reg.TIM_SET_S_LO < 2 ^ 32 := (s.rg Reg.TIM_SET_S_LO).isLt
    omega
  obtain ⟨hs, hns, hsub, hts, hslew, hkeys, hmem, hregs, hbatch, hgrid⟩ := (s.disarm src).stepTime_spec
    (s.rf Reg.TIM_SET_S_HI 0 16 * 4294967296 + s.rn Reg.TIM_SET_S_LO) (s.rf Reg.TIM_SET_NS 0 30) 0
  rw [Nat.mod_eq_of_lt hlt] at hs
  refine ⟨hs, hns, hsub, hslew, by rw [hts, hs, hns], hgrid, ?_, hbatch, fun a => ?_, hregs⟩
  · rw [State.slot, hkeys]
    exact s.slot_disarm src
  · rw [State.byte, hmem]
    rfl

theorem does_timStep_running (hk : KeyPasses s src Reg.TIM_CTRL) (hh : s.halted = false) : Does (.timStep src) s fun u =>
    u.tim = s.tim ∧ u.rn Reg.CFG_REFUSE_ADDR = Reg.TIM_CTRL ∧
    Raises s u [(0x0325, 0, [Reg.TIM_CTRL])] ∧ KeepsRegs s u [Reg.CFG_REFUSE_CNT, Reg.CFG_REFUSE_ADDR] ∧
    OnlyRegsAnd s u fun u => { u with keys := s.keys } := by
  have hstep : timStep (s.disarm src) = (s.disarm src).refuse Reg.TIM_CTRL 0x25 :=
    if_pos (by simp [show (s.disarm src).halted = false from hh])
  have href := (s.disarm src).refuse_step Reg.TIM_CTRL 0x25
  obtain ⟨-, hraises, hregs, honly⟩ := href.behind_slot rfl
  refine Does_keyed s timStep rfl hk ?_
  rw [hstep]
  refine ⟨href.tim, ?_, hraises, hregs, honly⟩
  rw [State.refuse, State.rn_raise, State.rn_wn, if_pos rfl]
  rfl

theorem does_timSnap (hr : Reaches s Reg.TIM_SNAP) (hv : fld v 0 1 = 1) : Does (.timSnap src v) s fun u =>
    u.rg Reg.TIM_SNAP_S_LO = BitVec.ofNat 32 s.tim.s ∧
    u.rg Reg.TIM_SNAP_S_HI = BitVec.ofNat 32 (s.tim.s / 4294967296) ∧ u.rg Reg.TIM_SNAP_NS = BitVec.ofNat 32 s.tim.ns ∧
    u.rg Reg.TIM_SNAP_SUB = BitVec.ofNat 32 s.tim.sub ∧ u.slot src = {} ∧ Raises s u [] ∧
    KeepsRegs s u [Reg.TIM_SNAP_S_LO, Reg.TIM_SNAP_S_HI, Reg.TIM_SNAP_NS, Reg.TIM_SNAP_SUB] ∧
    OnlyRegsAnd s u fun u => { u with keys := s.keys } := by
  have hstep : RootStep [Reg.TIM_SNAP_S_LO, Reg.TIM_SNAP_S_HI, Reg.TIM_SNAP_NS, Reg.TIM_SNAP_SUB] [] (s.disarm src)
      (((((s.disarm src).wn Reg.TIM_SNAP_S_LO s.tim.s).wn Reg.TIM_SNAP_S_HI (s.tim.s / 4294967296)).wn
        Reg.TIM_SNAP_NS s.tim.ns).wn Reg.TIM_SNAP_SUB s.tim.sub) :=
    ((((RootStep.refl _ _).wn (by decide) _).wn (by decide) _).wn (by decide) _).wn (by decide) _
  obtain ⟨hslot, hraises, hregs, honly⟩ := hstep.behind_slot rfl
  refine Does_unkeyed (timSnap v) rfl hr ?_
  rw [timSnap, if_neg (by rw [hv]; decide)]
  refine ⟨?_, ?_, ?_, ?_, hslot, hraises, hregs, honly⟩
  · rw [State.rg_wn_ne _ _ (by decide), State.rg_wn_ne _ _ (by decide), State.rg_wn_ne _ _ (by decide), State.rg_wn, if_pos rfl]
    rfl
  · rw [State.rg_wn_ne _ _ (by decide), State.rg_wn_ne _ _ (by decide), State.rg_wn, if_pos rfl]
    rfl
  · rw [State.rg_wn_ne _ _ (by decide), State.rg_wn, if_pos rfl]
    rfl
  · rw [State.rg_wn, if_pos rfl]
    rfl

/-- The term a rate write leaves is in the servo range (R91, R100). -/
theorem limitRate_range (s : State) (v : Int) : -rateMax ≤ s.limitRate v ∧ s.limitRate v ≤ rateMax := by
  have hmax : -rateMax ≤ rateMax := by decide
  exact ⟨le_max_left _ _, max_le hmax (min_le_left _ _)⟩

theorem toInt_ofNat_unsigned {x : Int} (hlo : -rateMax ≤ x) (hhi : x ≤ rateMax) :
    (BitVec.ofNat 32 (unsigned 32 x)).toInt = x := by
  have hmax : rateMax = 6871948 := rfl
  rw [hmax] at hlo hhi
  rw [BitVec.toInt_eq_toNat_cond, BitVec.toNat_ofNat, unsigned]
  split <;> omega

theorem does_timRateWrite (hr : Reaches s Reg.TIM_SNAP) (hext : s.bit Reg.TIM_SERVO 0 = true) (hlo : -rateMax ≤ v.toInt)
    (hhi : v.toInt ≤ rateMax) : Does (.timRateWrite src v) s fun u =>
      u.rg Reg.TIM_RATE = BitVec.ofNat 32 (unsigned 32 (s.limitRate v.toInt)) ∧
      (-rateMax ≤ (u.rg Reg.TIM_RATE).toInt ∧ (u.rg Reg.TIM_RATE).toInt ≤ rateMax) ∧ u.slot src = {} ∧ Raises s u [] ∧
      KeepsRegs s u [Reg.TIM_RATE] ∧ OnlyRegsAnd s u fun u => { u with keys := s.keys } := by
  have hwrite : timRateWrite v (s.disarm src) = (s.disarm src).wn Reg.TIM_RATE (unsigned 32 (s.limitRate v.toInt)) :=
    if_pos (by simp [show (s.disarm src).bit Reg.TIM_SERVO 0 = true from hext, hlo, hhi])
  have hrate : ((s.disarm src).wn Reg.TIM_RATE (unsigned 32 (s.limitRate v.toInt))).rg Reg.TIM_RATE =
      BitVec.ofNat 32 (unsigned 32 (s.limitRate v.toInt)) := by rw [State.rg_wn, if_pos rfl]
  obtain ⟨hmin, hmax⟩ := limitRate_range s v.toInt
  refine Does_unkeyed (timRateWrite v) rfl (reaches_of_ready (by decide) hr) ?_
  rw [hwrite]
  exact ⟨hrate, by rw [hrate, toInt_ofNat_unsigned hmin hmax]; exact ⟨hmin, hmax⟩,
    ((RootStep.refl [Reg.TIM_RATE] (s.disarm src)).wn (by decide) _).behind_slot rfl⟩

/-- A rate is refused without EXT, and outside the servo range (R91, R100). -/
theorem does_timRateWrite_refused (hr : Reaches s Reg.TIM_SNAP)
    (h : s.bit Reg.TIM_SERVO 0 = false ∨ v.toInt < -rateMax ∨ rateMax < v.toInt) : Does (.timRateWrite src v) s fun u =>
      u.rg Reg.TIM_RATE = s.rg Reg.TIM_RATE ∧ Raises s u [(0x0325, 0, [Reg.TIM_RATE])] ∧
      KeepsRegs s u [Reg.CFG_REFUSE_CNT, Reg.CFG_REFUSE_ADDR] := by
  have hwrite : timRateWrite v (s.disarm src) = (s.disarm src).refuse Reg.TIM_RATE 0x25 := by
    refine if_neg fun hand => ?_
    obtain ⟨hext, hrange⟩ := (Bool.and_eq_true _ _).mp hand
    obtain ⟨hlo, hhi⟩ := of_decide_eq_true hrange
    rcases h with h | h | h
    · exact absurd (h.symm.trans hext) (by decide)
    · exact absurd h (not_lt.2 hlo)
    · exact absurd h (not_lt.2 hhi)
  obtain ⟨-, hraises, hregs, -⟩ := ((s.disarm src).refuse_step Reg.TIM_RATE 0x25).behind_slot rfl
  refine Does_unkeyed (timRateWrite v) rfl (reaches_of_ready (by decide) hr) ?_
  rw [hwrite]
  exact ⟨hregs _ (by decide), hraises, hregs⟩

theorem does_timSlewWrite (hr : Reaches s Reg.TIM_SNAP) (hext : s.bit Reg.TIM_SERVO 0 = true) :
    Does (.timSlewWrite src v) s fun u => u.tim.slew = v.toInt * 4294967296 ∧ u.slot src = {} ∧ Raises s u [] ∧
      ({ u with tim.slew := s.tim.slew, keys := s.keys } : State) = s := by
  have hwrite : timSlewWrite v (s.disarm src) = { s.disarm src with tim.slew := v.toInt * 4294967296 } := if_pos hext
  refine Does_unkeyed (timSlewWrite v) rfl (reaches_of_ready (by decide) hr) ?_
  rw [hwrite]
  exact ⟨rfl, s.slot_disarm src, raises_none rfl, rfl⟩

theorem does_timSlewWrite_refused (hr : Reaches s Reg.TIM_SNAP) (hext : s.bit Reg.TIM_SERVO 0 = false) :
    Does (.timSlewWrite src v) s fun u => u.tim = s.tim ∧ Raises s u [(0x0325, 0, [Reg.TIM_SLEW])] ∧
      KeepsRegs s u [Reg.CFG_REFUSE_CNT, Reg.CFG_REFUSE_ADDR] := by
  have hwrite : timSlewWrite v (s.disarm src) = (s.disarm src).refuse Reg.TIM_SLEW 0x25 :=
    if_neg (by simp [show (s.disarm src).bit Reg.TIM_SERVO 0 = false from hext])
  have href := (s.disarm src).refuse_step Reg.TIM_SLEW 0x25
  obtain ⟨-, hraises, hregs, -⟩ := href.behind_slot rfl
  refine Does_unkeyed (timSlewWrite v) rfl (reaches_of_ready (by decide) hr) ?_
  rw [hwrite]
  exact ⟨href.tim, hraises, hregs⟩

end Commands

end Sys2Proof.Machine

open Sys2Proof Sys2Proof.Machine Sys2Proof.Safety

/-- Settles O6: a step takes the time ordered and sets the grids anew; the other commands of stack time write what they are
given, or are refused. -/
theorem timeCommands : Obligations.TimeCommands := by
  unfold Obligations.TimeCommands
  exact fun s src v _ => ⟨fun hk => ⟨does_timStep_halted hk, does_timStep_running hk⟩, fun hr => ⟨does_timSnap hr,
    fun hext => ⟨does_timRateWrite hr hext, fun hout => (does_timRateWrite_refused hr (.inr hout)).imp
      fun _ ⟨hu, hrate, hraises, _⟩ => ⟨hu, hrate, hraises⟩, does_timSlewWrite hr hext⟩,
    fun hext => ⟨does_timRateWrite_refused hr (.inl hext), does_timSlewWrite_refused hr hext⟩⟩⟩
end

section
/-! PROOFS. The sources of stack time: holdover, alignment and ring time (R101 to R104). -/

namespace Sys2Proof.Machine

open Safety

/-! ### Steps of the time base -/

theorem raises_append {e f : List (Nat × Nat × List Nat)} {s t u : State} (h : Raises s t e) (k : Raises t u f)
    (ht : t.tim.ts32 = s.tim.ts32) : Raises s u (e ++ f) := by
  unfold Raises at *
  rw [k, h, ht, List.map_append, List.append_assoc]

/-- Registers of the list, the time base and the events listed differ; TS32 stands. -/
structure TimeStep (l : List Nat) (e : List (Nat × Nat × List Nat)) (s t : State) : Prop where
  regs : KeepsRegs s t l
  raises : Raises s t e
  ts32 : t.tim.ts32 = s.tim.ts32
  only : ∃ r m b, t = { s with regs := r, tim := m, evt.batch := b }

namespace TimeStep

variable {l : List Nat} {e : List (Nat × Nat × List Nat)} {s t u : State}

theorem refl (l : List Nat) (s : State) : TimeStep l [] s s := ⟨fun _ _ => rfl, raises_none rfl, rfl, _, _, _, rfl⟩

theorem trans {f : List (Nat × Nat × List Nat)} (h : TimeStep l e s t) (k : TimeStep l f t u) : TimeStep l (e ++ f) s u := by
  refine ⟨fun a ha => (k.regs a ha).trans (h.regs a ha), raises_append h.raises k.raises h.ts32, k.ts32.trans h.ts32, ?_⟩
  obtain ⟨_, _, _, rfl⟩ := h.only
  obtain ⟨_, _, _, rfl⟩ := k.only
  exact ⟨_, _, _, rfl⟩

theorem mono {l' : List Nat} (hl : ∀ a ∈ l, a ∈ l') (h : TimeStep l e s t) : TimeStep l' e s t :=
  ⟨fun a ha => h.regs a fun hm => ha (hl a hm), h.raises, h.ts32, h.only⟩

theorem onlyRegsAnd (h : TimeStep l e s t) : OnlyRegsAnd s t fun u => { u with tim := s.tim } := by
  obtain ⟨_, _, _, rfl⟩ := h.only
  rfl

theorem mem (h : TimeStep l e s t) : t.mem = s.mem := by obtain ⟨_, _, _, rfl⟩ := h.only; rfl

theorem now (h : TimeStep l e s t) : t.now = s.now := by obtain ⟨_, _, _, rfl⟩ := h.only; rfl

theorem wr (h : TimeStep l e s t) {a : Nat} (v : Word) (ha : a ∈ l) : TimeStep l e s (t.wr a v) := by
  refine ⟨fun b hb => ((t.wr_sameTick v ha).regs b hb).trans (h.regs b hb), h.raises, h.ts32, ?_⟩
  obtain ⟨_, _, _, rfl⟩ := h.only
  exact ⟨_, _, _, rfl⟩

theorem wf (h : TimeStep l e s t) {a : Nat} (ha : a ∈ l) (lo n v : Nat) : TimeStep l e s (t.wf a lo n v) := h.wr _ ha

theorem wbit (h : TimeStep l e s t) {a : Nat} (ha : a ∈ l) (i : Nat) (b : Bool) : TimeStep l e s (t.wbit a i b) := h.wr _ ha

theorem wn (h : TimeStep l e s t) {a : Nat} (ha : a ∈ l) (v : Nat) : TimeStep l e s (t.wn a v) := h.wr _ ha

/-- A change of the time base but for TS32. -/
theorem tim (h : TimeStep l e s t) (m : Tim) (hm : m.ts32 = t.tim.ts32) : TimeStep l e s { t with tim := m } := by
  refine ⟨h.regs, h.raises, hm.trans h.ts32, ?_⟩
  obtain ⟨_, _, _, rfl⟩ := h.only
  exact ⟨_, _, _, rfl⟩

theorem raise (h : TimeStep l e s t) (c n : Nat) (d : List Nat) : TimeStep l (e ++ [(c, n, d)]) s (t.raise c n d) := by
  refine ⟨h.regs, ?_, h.ts32, ?_⟩
  · exact raises_append h.raises (t.raise_raises c n d) h.ts32
  · obtain ⟨_, _, _, rfl⟩ := h.only
    exact ⟨_, _, _, rfl⟩

end TimeStep

variable {s t : State}

/-! ### What the time base reads of other blocks -/

/-- The registers that tell whose time the device takes. -/
def sourceRegs : List Nat := [Reg.GLB_STRAP, Reg.PAR_STAT, Reg.TIM_CFG]

theorem takesStation_congr (h : ∀ a ∈ sourceRegs, t.rg a = s.rg a) : t.takesStation = s.takesStation := by
  rw [State.takesStation, State.node, State.pairState, State.rf_of_rg 0 6 (h Reg.GLB_STRAP (by decide)),
    State.rf_of_rg 0 2 (h Reg.PAR_STAT (by decide))]
  rfl

theorem timeSrc_congr (h : ∀ a ∈ sourceRegs, t.rg a = s.rg a) : t.timeSrc = s.timeSrc := by
  rw [State.timeSrc, takesStation_congr h, State.rf_of_rg 0 2 (h Reg.TIM_CFG (by decide))]
  rfl

/-! ### The port chosen (R98, R99) -/

theorem State.choosePort_same (h : s.bestPort = s.tim.port) : s.choosePort = s := if_pos h

theorem State.choosePort_other (h : s.bestPort ≠ s.tim.port) :
    s.choosePort = ({ s with tim.port := s.bestPort } : State).raise 0x0204 0 [s.bestPort] := if_neg h

theorem State.choosePort_keeps (s : State) : s.choosePort.regs = s.regs ∧ s.choosePort.tim.holdSince = s.tim.holdSince ∧
    s.choosePort.tim.announce = s.tim.announce := by
  unfold State.choosePort
  split <;> exact ⟨rfl, rfl, rfl⟩

/-- The event of a change of the port. -/
def portEvent (s u : State) : List (Nat × Nat × List Nat) :=
  if u.tim.port = s.tim.port then [] else [(0x0204, 0, [u.tim.port])]

theorem TimeStep.choosePort {l : List Nat} {e : List (Nat × Nat × List Nat)} (h : TimeStep l e s t) (hp : t.tim.port = s.tim.port) :
    TimeStep l (e ++ portEvent s t.choosePort) s t.choosePort := by
  rw [portEvent]
  by_cases hb : t.bestPort = t.tim.port
  · rw [State.choosePort_same hb, if_pos hp, List.append_nil]
    exact h
  · rw [State.choosePort_other hb, if_neg fun hs => hb (hs.trans hp.symm)]
    exact (h.tim { t.tim with port := t.bestPort } rfl).raise _ _ _

/-! ### Holdover and alignment (R101, R102) -/

/-- The source is lost: HOLDOVER is shown. -/
def State.heldOver (s : State) : State :=
  let t := ((s.wf Reg.TIM_STAT 0 2 3).wbit Reg.TIM_STAT 6 false).wbit Reg.TIM_FLAGS 0 true
  ({ t with tim.holdSince := t.now, tim.good := 0 } : State).raise 0x0203 0 [t.timeSrc]

theorem State.heldOver_step (s : State) : TimeStep [Reg.TIM_STAT, Reg.TIM_FLAGS] [(0x0203, 0, [s.timeSrc])] s s.heldOver := by
  have h : TimeStep [Reg.TIM_STAT, Reg.TIM_FLAGS] [] s
      (((s.wf Reg.TIM_STAT 0 2 3).wbit Reg.TIM_STAT 6 false).wbit Reg.TIM_FLAGS 0 true) :=
    (((TimeStep.refl _ s).wf (by decide) 0 2 3).wbit (by decide) 6 false).wbit (by decide) 0 true
  rw [← timeSrc_congr fun a ha => h.regs a (by revert ha; decide +revert)]
  exact (h.tim { s.tim with holdSince := s.now, good := 0 } rfl).raise _ _ _

theorem State.heldOver_shows (s : State) : s.heldOver.timState = 3 ∧ s.heldOver.bit Reg.TIM_STAT 6 = false ∧
    s.heldOver.bit Reg.TIM_FLAGS 0 = true ∧ s.heldOver.tim.holdSince = s.now ∧ s.heldOver.tim.port = s.tim.port := by
  have hstat : s.heldOver.rg Reg.TIM_STAT = ((s.wf Reg.TIM_STAT 0 2 3).wbit Reg.TIM_STAT 6 false).rg Reg.TIM_STAT :=
    State.rg_wbit_ne _ _ _ (by decide)
  refine ⟨?_, ?_, State.bit_wbit_same _ _ _ (by decide), rfl, rfl⟩
  · rw [State.timState, State.rf_of_rg 0 2 hstat, State.rf_wbit_apart _ _ _ (by decide) (.inr (by decide)),
      State.rf_wf_same _ _ _ _ _ (by decide)]
    rfl
  · rw [State.bit_of_rg 6 hstat, State.bit_wbit_same _ _ _ (by decide)]

/-- The port followed leaves the comparison (R98). -/
def State.silenced (s : State) : State := { s with tim.announce := s.tim.announce.put s.tim.port none none }

theorem TimeStep.silenced {l : List Nat} {e : List (Nat × Nat × List Nat)} (h : TimeStep l e s t) : TimeStep l e s t.silenced :=
  h.tim _ rfl

theorem sourceTimeout_eq (h : s.timState = 1 ∨ s.timState = 2) : sourceTimeout s =
    if s.heldOver.takesStation then s.heldOver.silenced.choosePort else s.heldOver := if_pos h

theorem does_timeSourceTimeout (hrun : s.running = true) (h : s.timState = 1 ∨ s.timState = 2) :
    Does .timeSourceTimeout s fun u =>
      u.timState = 3 ∧ u.bit Reg.TIM_STAT 6 = false ∧ u.bit Reg.TIM_FLAGS 0 = true ∧ u.rg Reg.TIM_RATE = s.rg Reg.TIM_RATE ∧
      u.tim.holdSince = s.now ∧ (s.takesStation = false → u.tim.port = s.tim.port) ∧
      Raises s u ((0x0203, 0, [s.timeSrc]) :: portEvent s u) ∧ KeepsRegs s u [Reg.TIM_STAT, Reg.TIM_FLAGS] ∧
      OnlyRegsAnd s u fun u => { u with tim := s.tim } := by
  have hheld := s.heldOver_step
  obtain ⟨hstate, htrace, hflag, hsince, hport⟩ := s.heldOver_shows
  have htakes : s.heldOver.takesStation = s.takesStation :=
    takesStation_congr fun a ha => hheld.regs a (by revert ha; decide +revert)
  refine Does_main s sourceTimeout rfl hrun ?_
  rw [sourceTimeout_eq h, htakes]
  split
  · next hmaster =>
    have hsilent := hheld.silenced.choosePort hport
    obtain ⟨hregs, hsince', -⟩ := s.heldOver.silenced.choosePort_keeps
    have hrg (a : Nat) : s.heldOver.silenced.choosePort.rg a = s.heldOver.rg a := congrArg (Tab.get regReset · a) hregs
    exact ⟨(State.rf_of_rg 0 2 (hrg _)).trans hstate, (State.bit_of_rg 6 (hrg _)).trans htrace,
      (State.bit_of_rg 0 (hrg _)).trans hflag, hsilent.regs _ (by decide), hsince'.trans hsince,
      fun hno => absurd (hmaster.symm.trans hno) (by decide), hsilent.raises, hsilent.regs, hsilent.onlyRegsAnd⟩
  · refine ⟨hstate, htrace, hflag, hheld.regs _ (by decide), hsince, fun _ => hport, ?_, hheld.regs, hheld.onlyRegsAnd⟩
    rw [portEvent, if_pos hport]
    exact hheld.raises

theorem leaves_timeSourceTimeout (hrun : s.running = true) (h : s.timState = 0 ∨ s.timState = 3) : Leaves .timeSourceTimeout s :=
  Leaves_main s sourceTimeout rfl hrun (if_neg (by omega))

/-! ### Time alignment (R102) -/

/-- The fault stands and is told. -/
def State.misaligned (s : State) (cause : Nat) : State :=
  (({ s with tim.alignFault := true } : State).wbit Reg.TIM_FLAGS 3 true).raise 0x0210 0 [unsigned 32 s.tim.ofs, cause]

theorem State.misaligned_step (s : State) (cause : Nat) :
    TimeStep [Reg.TIM_FLAGS] [(0x0210, 0, [unsigned 32 s.tim.ofs, cause])] s (s.misaligned cause) :=
  (((TimeStep.refl _ s).tim { s.tim with alignFault := true } rfl).wbit (by decide) 3 true).raise _ _ _

theorem holdoverLimit_eq (hst : s.timState = 3) (hslave : s.takesStation = false) (hfree : s.tim.alignFault = false) :
    holdoverLimit s = (s.misaligned 1).faultHandover 0x0210 (s.bit Reg.PAR_HLTH_PEER 10) := by
  rw [holdoverLimit, if_pos (by simp [hst, hslave]), State.alignmentFault, if_neg (by simp [hfree]),
    ← State.bit_of_rg 10 ((s.misaligned_step 1).regs Reg.PAR_HLTH_PEER (by decide))]
  rfl

section Holdover

variable (hrun : s.running = true) (hst : s.timState = 3) (hslave : s.takesStation = false) (hfree : s.tim.alignFault = false)

include hrun hst hslave hfree

/-- Any device but the active one of a pair keeps the fault to itself. -/
theorem does_holdoverLimit (hpair : s.pairState ≠ 3) : Does .holdoverLimit s fun u => u.tim.alignFault = true ∧
    u.bit Reg.TIM_FLAGS 3 = true ∧ Raises s u [(0x0210, 0, [unsigned 32 s.tim.ofs, 1])] ∧ KeepsRegs s u [Reg.TIM_FLAGS] ∧
    OnlyRegsAnd s u fun u => { u with tim := s.tim } := by
  have h := s.misaligned_step 1
  have hstate : (s.misaligned 1).pairState = s.pairState := State.rf_of_rg 0 2 (h.regs _ (by decide))
  refine Does_main s holdoverLimit rfl hrun ?_
  rw [holdoverLimit_eq hst hslave hfree, State.faultHandover, if_neg (by simp [hstate, hpair])]
  exact ⟨rfl, State.bit_wbit_same _ _ _ (by decide), h.raises, h.regs, h.onlyRegsAnd⟩

/-- An eligible partner that is LOCKED and free of the fault is asked to take over. -/
theorem does_holdoverLimit_asking (hask : HandoverAsked s) (hpeer : s.bit Reg.PAR_HLTH_PEER 10 = true) :
    Does .holdoverLimit s fun u => u.tim.alignFault = true ∧ u.bit Reg.PAR_STAT 6 = true ∧
      Raises s u [(0x0210, 0, [unsigned 32 s.tim.ofs, 1]), (0x0a07, 0, [0x0210])] := by
  have h := s.misaligned_step 1
  have hreg := h.regs Reg.PAR_STAT (by decide)
  obtain ⟨hactive, hup, helig, hnone⟩ := hask
  have hactive' : (s.misaligned 1).pairState = 3 := (State.rf_of_rg 0 2 hreg).trans hactive
  have hup' : (s.misaligned 1).partnerUp = true := (State.bit_of_rg 3 hreg).trans hup
  have hnone' : (s.misaligned 1).bit Reg.PAR_STAT 6 = false := (State.bit_of_rg 6 hreg).trans hnone
  have helig' : (s.misaligned 1).bit Reg.PAR_HLTH_PEER 11 = true := (State.bit_of_rg 11 (h.regs _ (by decide))).trans helig
  have heq : (s.misaligned 1).faultHandover 0x0210 (s.bit Reg.PAR_HLTH_PEER 10) =
      (s.misaligned 1).askHandover.raise 0x0a07 0 [0x0210] := by
    simp [State.faultHandover, State.requestHandover, hactive', hup', helig', hnone', hpeer, State.askHandover]
  refine Does_main s holdoverLimit rfl hrun ?_
  rw [holdoverLimit_eq hst hslave hfree, heq]
  exact ⟨rfl, State.bit_wbit_same _ _ _ (by decide), raises_append h.raises rfl h.ts32⟩

end Holdover

theorem leaves_holdoverLimit (hrun : s.running = true) (hmaster : s.takesStation = true) : Leaves .holdoverLimit s :=
  Leaves_main s holdoverLimit rfl hrun (if_neg (by simp [hmaster]))

end Sys2Proof.Machine
end

section
/-! PROOFS. Ring time (R101, R103, R104): the delay of a link, and what a measurement of the lane followed does. -/

namespace Sys2Proof.Machine

open Safety

variable {s t : State}

/-! ### What the lock threshold and the state of the time base depend on -/

theorem State.wf_lt (s : State) (a lo n : Nat) {v : Nat} (hv : v < 2 ^ n) (h : lo + n ≤ 32) : (s.wf a lo n v).rf a lo n = v := by
  rw [s.rf_wf_same a lo n v h, Nat.mod_eq_of_lt hv]

theorem lockThr_congr (h : ∀ a ∈ sourceRegs ++ [Reg.TIM_SERVO, Reg.TIM_ALIGN], t.rg a = s.rg a) : t.lockThr = s.lockThr := by
  rw [State.lockThr, takesStation_congr fun a ha => h a (List.mem_append_left _ ha),
    State.rf_of_rg 1 15 (h Reg.TIM_SERVO (by decide)), State.rf_of_rg 0 10 (h Reg.TIM_ALIGN (by decide))]
  rfl

/-- With EXT set the servo leaves the rate to its master (R100). -/
theorem State.servo_ext (h : s.bit Reg.TIM_SERVO 0 = true) : s.servo = s := if_pos h

/-! ### A measurement (R101) -/

/-- The registers that show a measurement. -/
def shownRegs : List Nat := [Reg.TIM_STAT, Reg.TIM_OFS]

theorem State.shown_step (s : State) (ofs : Int) (port : Nat) : TimeStep shownRegs [] s (s.shown ofs port) :=
  (((((TimeStep.refl shownRegs s).wn (by decide) (unsigned 32 ofs)).tim { s.tim with ofs := ofs } rfl).wf (by decide) 2 2 _).wf
    (by decide) 4 2 port)

theorem State.shown_shows (s : State) (ofs : Int) (port : Nat) : (s.shown ofs port).timState = s.timState ∧
    (s.shown ofs port).rn Reg.TIM_OFS = unsigned 32 ofs := by
  have hofs : unsigned 32 ofs < 4294967296 := by
    unfold unsigned
    omega
  refine ⟨?_, ?_⟩
  · rw [State.timState, State.shown, State.rf_wf_apart _ _ _ (by decide) (.inr (by decide)),
      State.rf_wf_apart _ _ _ (by decide) (.inr (by decide))]
    exact State.rf_of_rg 0 2 (s.rg_wn_ne _ (by decide))
  · rw [State.rn, State.shown, State.rg_wf_ne _ _ _ _ (by decide), State.rg_wf_ne _ _ _ _ (by decide)]
    refine (congrArg BitVec.toNat ((s.rg_wn _ _ _).trans (if_pos rfl))).trans ?_
    rw [BitVec.toNat_ofNat, Nat.mod_eq_of_lt hofs]

theorem State.tracked_ext (hext : s.bit Reg.TIM_SERVO 0 = true) (hst : s.timState ≠ 2) (good : Nat) (traceable : Bool) :
    s.tracked good traceable = s.counted good :=
  (if_neg hst).trans (State.servo_ext hext)

theorem State.counted_step (s : State) (l : List Nat) (good : Nat) : TimeStep l [] s (s.counted good) :=
  (TimeStep.refl l s).tim _ rfl

theorem State.locked_step (s : State) (ofs : Int) (traceable : Bool) :
    TimeStep [Reg.TIM_STAT] [(0x0202, 0, [s.timeSrc, unsigned 32 ofs])] s (s.locked ofs traceable) ∧
      (s.locked ofs traceable).timState = 2 ∧ (s.locked ofs traceable).tim.alignFault = false := by
  have halign : TimeStep [Reg.TIM_STAT] [] s s.aligned := (TimeStep.refl _ s).tim _ rfl
  refine ⟨((halign.wf (by decide) 0 2 2).wbit (by decide) 6 traceable).raise _ _ _, ?_, rfl⟩
  rw [State.timState, State.locked, State.rf_raise, State.rf_wbit_apart _ _ _ (by decide) (.inr (by decide)),
    State.rf_wf_same _ _ _ _ _ (by decide)]
  rfl

/-- A measurement within the threshold, the 16th in a row, locks (R101). -/
theorem State.followed_locks (hext : s.bit Reg.TIM_SERVO 0 = true) (hst : s.timState = 1) (hgood : s.tim.good = 15) {ofs : Int}
    (hofs : ofs.natAbs ≤ s.lockThr) (traceable : Bool) :
    s.followed ofs traceable = (s.counted 16).locked ofs traceable := by
  rw [State.followed, if_pos hofs, hgood, State.judged, if_pos (by simp [hst]), State.tracked_ext hext (by omega)]

/-- One beyond it starts the count anew. -/
theorem State.followed_beyond (hext : s.bit Reg.TIM_SERVO 0 = true) (hst : s.timState = 1) {ofs : Int}
    (hofs : s.lockThr < ofs.natAbs) (traceable : Bool) : s.followed ofs traceable = s.counted 0 := by
  rw [State.followed, if_neg (by omega), State.judged, if_neg (by simp), State.tracked_ext hext (by omega)]

/-- A running device acquires without a step (R101). -/
theorem State.acquired_spec (hext : s.bit Reg.TIM_SERVO 0 = true) (hrun : s.halted = false) :
    s.acquired.halted = false ∧ s.acquired.servo = s.acquired ∧ s.acquired.timState = 1 ∧ s.acquired.tim.s = s.tim.s ∧
      s.acquired.tim.ns = s.tim.ns ∧ Raises s s.acquired [] := by
  have hlow (t : State) : t.ppsLow.regs = t.regs ∧ t.ppsLow.tim.s = t.tim.s ∧ t.ppsLow.tim.ns = t.tim.ns ∧
      t.ppsLow.evt = t.evt := by
    unfold State.ppsLow
    split <;> exact ⟨rfl, rfl, rfl, rfl⟩
  obtain ⟨hregs, hs, hns, hevt⟩ := hlow (s.wf Reg.TIM_STAT 0 2 1)
  have hrg (a : Nat) : s.acquired.rg a = (s.wf Reg.TIM_STAT 0 2 1).rg a := congrArg (Tab.get regReset · a) hregs
  have hkeep {a : Nat} (ha : a ≠ Reg.TIM_STAT) : s.acquired.rg a = s.rg a := (hrg a).trans (s.rg_wf_ne _ _ _ ha)
  refine ⟨?_, State.servo_ext ((State.bit_of_rg 0 (hkeep (by decide))).trans hext), ?_, hs, hns, raises_none ?_⟩
  · rw [State.halted, State.devState, State.rf_of_rg 0 4 (hkeep (a := Reg.GLB_STAT) (by decide))]
    exact hrun
  · rw [State.timState, State.rf_of_rg 0 2 (hrg Reg.TIM_STAT), State.rf_wf_same _ _ _ _ _ (by decide)]
    rfl
  · exact congrArg Evt.batch hevt

/-! ### A time-transfer set (R103, R104) -/

/-- The set taken: the delays of the lane and the echo of its next set. -/
def State.transferred (s : State) (lane : Nat) (t : TimeSet) (l : List Int) : State :=
  { s with tim.delays := s.tim.delays.put lane [] l, tim.echo := s.tim.echo.put lane (0, 0) (t.t2, t.t1) }

section Transfer

variable {lane : Lane} {t : TimeSet} {d : Int} {l : List Int} (hd : d = 25 * ((t.t4 - t.t1) - (t.t3 - t.t2)) + s.asym lane.val)
  (hl : l = (d :: s.tim.delays.at lane.val []).take 16)

include hd hl

theorem timeTransfer_aside (hfol : s.follows lane.val = false) : timeTransfer lane.val t s = s.transferred lane.val t l := by
  subst hd hl
  exact if_neg fun h : s.follows lane.val = true => absurd (hfol.symm.trans h) (by decide)

theorem timeTransfer_followed (hfol : s.follows lane.val = true) : ∃ port traceable, timeTransfer lane.val t s =
    (((s.transferred lane.val t l).wn Reg.TIM_DELAY (unsigned 32 (average l / 50))).draw).measured
      ((50 * (t.t2 - t.t1) - average l) / 50) port traceable := by
  subst hd hl
  exact ⟨_, _, if_pos hfol⟩

end Transfer

/-- A set of the lane followed, up to its measurement: only TIM_DELAY shows it. -/
def State.delayed (s : State) (lane : Nat) (t : TimeSet) (l : List Int) : State :=
  ((s.transferred lane t l).wn Reg.TIM_DELAY (unsigned 32 (average l / 50))).draw

theorem unsigned_lt (x : Int) : unsigned 32 x < 4294967296 := by
  unfold unsigned
  omega

/-- The registers of a set of the lane followed. -/
def transferRegs : List Nat := [Reg.TIM_STAT, Reg.TIM_OFS, Reg.TIM_DELAY]

/-- A set of the lane followed with its offset shown, before the time base judges it. -/
structure OffsetShown (s : State) (lane : Nat) (l : List Int) (ofs : Int) (t : State) : Prop where
  regs : KeepsRegs s t transferRegs
  state : t.timState = s.timState
  ofs : t.rn Reg.TIM_OFS = unsigned 32 ofs
  delay : t.rn Reg.TIM_DELAY = unsigned 32 (average l / 50)
  delays : t.tim.delays.at lane [] = l
  good : t.tim.good = s.tim.good
  clock : t.tim.clock = s.tim.clock
  evt : t.evt = s.evt
  mem : t.mem = s.mem

theorem State.delayed_shown (s : State) (lane : Nat) (t : TimeSet) (l : List Int) (ofs : Int) (port : Nat) :
    OffsetShown s lane l ofs ((s.delayed lane t l).shown ofs port) := by
  have hdelay : KeepsRegs s (s.delayed lane t l) [Reg.TIM_DELAY] := fun a ha => State.rg_wn_ne _ _ (by simpa using ha)
  have hshown := (s.delayed lane t l).shown_step ofs port
  obtain ⟨hstate, hofs⟩ := (s.delayed lane t l).shown_shows ofs port
  refine ⟨fun a ha => ?_, ?_, hofs, ?_, Tab.get_set_same _ _ _ _, rfl, rfl, rfl, rfl⟩
  · obtain ⟨h1, h2⟩ : a ∉ shownRegs ∧ a ∉ [Reg.TIM_DELAY] := by
      simpa [transferRegs, shownRegs, and_assoc] using ha
    rw [hshown.regs a h1, hdelay a h2]
  · rw [hstate]
    exact State.rf_of_rg 0 2 (hdelay _ (by decide))
  · refine (congrArg BitVec.toNat (hshown.regs Reg.TIM_DELAY (by decide))).trans ((State.rn_wn _ _ _ _).trans ?_)
    rw [if_pos rfl, Nat.mod_eq_of_lt (unsigned_lt _)]

/-- Another state shows the same where only other registers and events differ. -/
theorem OffsetShown.ts32 {lane : Nat} {l : List Int} {ofs : Int} (h : OffsetShown s lane l ofs t) : t.tim.ts32 = s.tim.ts32 :=
  (clock_inj h.clock).2.2.2

theorem does_timeTransferSet {lane : Lane} {t : TimeSet} {P : State → Prop} (hrun : s.running = true)
    (hrcv : s.receives lane.val = true) (h : P (timeTransfer lane.val t s)) : Does (.timeTransferSet lane t) s P :=
  Does_main s (timeTransfer lane.val t) (s.heard_on lane.val _ hrcv) hrun h

section Follow

variable {lane : Lane} {t : TimeSet} {d : Int} {l : List Int} {ofs : Int} (hrun : s.running = true)
  (hrcv : s.receives lane.val = true) (hd : d = 25 * ((t.t4 - t.t1) - (t.t3 - t.t2)) + s.asym lane.val)
  (hl : l = (d :: s.tim.delays.at lane.val []).take 16)

include hrun hrcv hd hl

/-- A set of a lane that is not followed leaves its delay. -/
theorem does_timeTransferSet_aside (hfol : s.follows lane.val = false) : Does (.timeTransferSet lane t) s fun u =>
    u.tim.delays.at lane.val [] = l ∧ Raises s u [] ∧ KeepsRegs s u [] ∧ OnlyRegsAnd s u fun u => { u with tim := s.tim } := by
  refine does_timeTransferSet hrun hrcv ?_
  rw [timeTransfer_aside hd hl hfol]
  exact ⟨Tab.get_set_same _ _ _ _, raises_none rfl, fun _ _ => rfl, rfl⟩

variable (hfol : s.follows lane.val = true) (hext : s.bit Reg.TIM_SERVO 0 = true) (hofs : ofs = (50 * (t.t2 - t.t1) - average l) / 50)

include hfol hofs

/-- A set of the lane followed is a measurement of its offset. -/
theorem does_timeTransferSet_followed {P : State → Prop}
    (h : ∀ port traceable, P ((s.delayed lane.val t l).measured ofs port traceable)) : Does (.timeTransferSet lane t) s P := by
  obtain ⟨port, traceable, heq⟩ := timeTransfer_followed hd hl hfol
  refine does_timeTransferSet hrun hrcv ?_
  rw [heq, ← hofs]
  exact h port traceable

include hext

theorem does_timeTransferSet_locks (hst : s.timState = 1) (hgood : s.tim.good = 15) (hthr : ofs.natAbs ≤ s.lockThr) :
    Does (.timeTransferSet lane t) s fun u =>
      u.timState = 2 ∧ u.tim.delays.at lane.val [] = l ∧ u.rn Reg.TIM_OFS = unsigned 32 ofs ∧
      u.rn Reg.TIM_DELAY = unsigned 32 (average l / 50) ∧ u.tim.alignFault = false ∧
      Raises s u [(0x0202, 0, [s.timeSrc, unsigned 32 ofs])] ∧ KeepsRegs s u transferRegs ∧ KeepsMem s u := by
  refine does_timeTransferSet_followed hrun hrcv hd hl hfol hofs fun port traceable => ?_
  have hshow := s.delayed_shown lane.val t l ofs port
  rw [State.measured_eq]
  generalize (s.delayed lane.val t l).shown ofs port = v at hshow ⊢
  have hv : v.timState = 1 := hshow.state.trans hst
  have hreg {a : Nat} (ha : a ∉ transferRegs) := hshow.regs a ha
  rw [if_neg (by omega), State.followed_locks ((State.bit_of_rg 0 (hreg (by decide))).trans hext) hv (hshow.good.trans hgood)
    (by rw [lockThr_congr fun a ha => hreg (by revert ha; decide +revert)]; exact hthr)]
  obtain ⟨hstep, hstate, hfault⟩ := (v.counted 16).locked_step ofs traceable
  have hall : TimeStep [Reg.TIM_STAT] [(0x0202, 0, [(v.counted 16).timeSrc, unsigned 32 ofs])] v
      ((v.counted 16).locked ofs traceable) := (v.counted_step _ 16).trans hstep
  have hsrc : (v.counted 16).timeSrc = s.timeSrc := timeSrc_congr fun a ha => hreg (by revert ha; decide +revert)
  rw [hsrc] at hall
  refine ⟨hstate, hshow.delays, ?_, ?_, hfault, ?_, fun a ha => ?_, fun a => ?_⟩
  · exact (congrArg BitVec.toNat (hall.regs _ (by decide))).trans hshow.ofs
  · exact (congrArg BitVec.toNat (hall.regs _ (by decide))).trans hshow.delay
  · exact raises_append (raises_none (congrArg Evt.batch hshow.evt)) hall.raises hshow.ts32
  · rw [hall.regs a (fun h => ha (by simp at h; simp [transferRegs, h])), hreg ha]
  · rw [State.byte, hall.mem, hshow.mem]
    rfl

theorem does_timeTransferSet_beyond (hst : s.timState = 1) (hthr : s.lockThr < ofs.natAbs) :
    Does (.timeTransferSet lane t) s fun u => u.timState = 1 ∧ u.tim.good = 0 ∧ Raises s u [] := by
  refine does_timeTransferSet_followed hrun hrcv hd hl hfol hofs fun port traceable => ?_
  have hshow := s.delayed_shown lane.val t l ofs port
  rw [State.measured_eq]
  generalize (s.delayed lane.val t l).shown ofs port = v at hshow ⊢
  have hv : v.timState = 1 := hshow.state.trans hst
  have hreg {a : Nat} (ha : a ∉ transferRegs) := hshow.regs a ha
  rw [if_neg (by omega), State.followed_beyond ((State.bit_of_rg 0 (hreg (by decide))).trans hext) hv
    (by rw [lockThr_congr fun a ha => hreg (by revert ha; decide +revert)]; exact hthr)]
  exact ⟨hv, rfl, raises_none (congrArg Evt.batch hshow.evt)⟩

theorem does_timeTransferSet_acquires (hst : s.timState = 3) (hhalt : s.halted = false) :
    Does (.timeTransferSet lane t) s fun u =>
      u.timState = 1 ∧ u.tim.s = s.tim.s ∧ u.tim.ns = s.tim.ns ∧ Raises s u [] := by
  refine does_timeTransferSet_followed hrun hrcv hd hl hfol hofs fun port traceable => ?_
  have hshow := s.delayed_shown lane.val t l ofs port
  rw [State.measured_eq]
  generalize (s.delayed lane.val t l).shown ofs port = v at hshow ⊢
  have hreg {a : Nat} (ha : a ∉ transferRegs) := hshow.regs a ha
  have hhalt' : v.halted = false := by
    rw [State.halted, State.devState, State.rf_of_rg 0 4 (hreg (a := Reg.GLB_STAT) (by decide))]
    exact hhalt
  obtain ⟨hrunning, hservo, hstate, hs, hns, hraises⟩ :=
    State.acquired_spec ((State.bit_of_rg 0 (hreg (by decide))).trans hext) hhalt'
  obtain ⟨hs', hns', -, -⟩ := clock_inj hshow.clock
  rw [if_pos (.inr (hshow.state.trans hst)), if_neg (by simp [hrunning]), hservo]
  exact ⟨hstate, hs.trans hs', hns.trans hns', raises_append (raises_none (congrArg Evt.batch hshow.evt)) hraises hshow.ts32⟩

end Follow

end Sys2Proof.Machine
end

section
/-! PROOFS. Station time by IEEE 1588 (R97, R98, R99): which messages the time block takes, the port it follows, and a Sync on a
device that only shows it. -/

namespace Sys2Proof.Machine

open Safety

variable {s t : State}

/-! ### The better data set (R98) -/

/-- No data set is better than itself. -/
theorem betterSet_irrefl : ∀ l : List Nat, betterSet l l = false
  | [] => rfl
  | a :: l => by rw [betterSet, if_neg (lt_irrefl a), if_neg (lt_irrefl a), betterSet_irrefl l]

/-- Ties go to L4. -/
theorem bestPort_tie {data : List Nat} (h0 : s.ptpOn 0 = true) (h1 : s.ptpOn 1 = true) (ha : s.tim.announce.at 0 none = some data)
    (hb : s.tim.announce.at 1 none = some data) : s.bestPort = 0 := by
  have hon0 : s.bit Reg.TIM_PTP_CFG 0 = true := h0
  have hon1 : s.bit Reg.TIM_PTP_CFG 1 = true := h1
  simp [State.bestPort, hon0, hon1, ha, hb, betterSet_irrefl]

/-- The data set with which a port takes part in the comparison. -/
def State.announced (s : State) (p : Nat) : Option (List Nat) := if s.bit Reg.TIM_PTP_CFG p then s.tim.announce.at p none else none

/-- Where a port announces the choice does not depend on the port followed. -/
theorem bestPort_congr (hr : t.rg Reg.TIM_PTP_CFG = s.rg Reg.TIM_PTP_CFG) (ha : t.tim.announce = s.tim.announce) {p : Fin 2}
    (hp : (s.announced p.val).isSome) : t.bestPort = s.bestPort := by
  have hdata (q : Nat) : (if t.bit Reg.TIM_PTP_CFG q then t.tim.announce.at q none else none) = s.announced q := by
    rw [State.announced, State.bit_of_rg q hr, ha]
  have h : (s.announced 0).isSome ∨ (s.announced 1).isSome := by
    match p with
    | 0 => exact .inl hp
    | 1 => exact .inr hp
  have hself (q : Nat) : (if s.bit Reg.TIM_PTP_CFG q then s.tim.announce.at q none else none) = s.announced q := rfl
  unfold State.bestPort
  simp only [hdata, hself]
  cases h0 : s.announced 0 <;> cases h1 : s.announced 1
  case none.none => simp [h0, h1] at h
  all_goals rfl

/-- The port chosen is the one that the comparison behind it chooses. -/
theorem State.choosePort_chosen (s : State) {p : Fin 2} (hp : (s.announced p.val).isSome) :
    s.choosePort.tim.port = s.choosePort.bestPort := by
  obtain ⟨hregs, -, hann⟩ := s.choosePort_keeps
  rw [bestPort_congr (congrArg (Tab.get regReset · _) hregs) hann hp]
  unfold State.choosePort
  split
  · next h => exact h.symm
  · rfl

/-- An announcement on a port. -/
def State.hears (s : State) (port : Nat) (data : List Nat) : State :=
  { s with tim.announce := s.tim.announce.put port none (some data) }

/-- An announcement on an enabled port is kept and chooses the port (R98, R99). -/
theorem State.hears_spec {p : Fin 2} (hon : s.ptpOn p.val = true) (data : List Nat) :
    (s.hears p.val data).choosePort.tim.announce.at p.val none = some data ∧
      (s.hears p.val data).choosePort.tim.port = (s.hears p.val data).choosePort.bestPort ∧
      TimeStep [] (if (s.hears p.val data).choosePort.bestPort = s.tim.port then [] else
        [(0x0204, 0, [(s.hears p.val data).choosePort.bestPort])]) s (s.hears p.val data).choosePort := by
  have hput : (s.hears p.val data).tim.announce.at p.val none = some data :=
    Tab.get_set_same (fun _ => none) s.tim.announce p.val (some data)
  have hsome : ((s.hears p.val data).announced p.val).isSome := by
    have hbit : (s.hears p.val data).bit Reg.TIM_PTP_CFG p.val = true := hon
    rw [State.announced, if_pos hbit, hput]
    rfl
  have hchosen := (s.hears p.val data).choosePort_chosen hsome
  have hstep : TimeStep [] [] s (s.hears p.val data) := (TimeStep.refl [] s).tim _ rfl
  refine ⟨?_, hchosen, ?_⟩
  · rw [(s.hears p.val data).choosePort_keeps.2.2, hput]
  · rw [← hchosen]
    exact hstep.choosePort rfl

/-! ### The offset of a Sync on a device that does not take station time (R97) -/

/-- The offset is shown if it is that of the port followed; nothing is applied. -/
theorem State.ptpOffset_shown (hslave : s.takesStation = false) (port : Nat) (origin arrival corr : Int) :
    TimeStep [Reg.TIM_OFS] [] s (s.ptpOffset port origin arrival corr) ∧
      (port = s.tim.port → (s.ptpOffset port origin arrival corr).rn Reg.TIM_OFS =
        unsigned 32 (arrival - origin - corr - s.tim.pathDelay.at port 0)) ∧
      (port ≠ s.tim.port → (s.ptpOffset port origin arrival corr).rg Reg.TIM_OFS = s.rg Reg.TIM_OFS) := by
  have hlast : TimeStep [Reg.TIM_OFS] [] s { s with tim.last := s.tim.last.put port (0, 0) (origin + corr, arrival) } :=
    (TimeStep.refl _ s).tim _ rfl
  by_cases hport : port = s.tim.port
  · have heq : s.ptpOffset port origin arrival corr =
        ({ s with tim.last := s.tim.last.put port (0, 0) (origin + corr, arrival) } : State).wn Reg.TIM_OFS
          (unsigned 32 (arrival - origin - corr - s.tim.pathDelay.at port 0)) :=
      (if_neg (not_not.2 hport)).trans
        (if_neg fun h : s.takesStation = true => absurd (hslave.symm.trans h) (by decide))
    rw [heq]
    refine ⟨hlast.wn (by decide) _, fun _ => ?_, fun hne => absurd hport hne⟩
    rw [State.rn_wn, if_pos rfl, Nat.mod_eq_of_lt (unsigned_lt _)]
  · have heq : s.ptpOffset port origin arrival corr =
        { s with tim.last := s.tim.last.put port (0, 0) (origin + corr, arrival) } := if_pos hport
    rw [heq]
    exact ⟨hlast, fun h => absurd h hport, fun _ => rfl⟩

theorem timOfs_ne_lane {a n : Nat} (h : a ∈ [Reg.LAN_LSTAT n, Reg.LAN_CTL n]) : a ∉ [Reg.TIM_OFS] := by
  simp only [List.mem_cons, List.not_mem_nil, or_false, Reg.LAN_LSTAT, Reg.LAN_CTL, Reg.TIM_OFS] at h ⊢
  omega

theorem sends_congr {n : Nat} (h : ∀ a ∈ [Reg.LAN_LSTAT n, Reg.LAN_CTL n], t.rg a = s.rg a) : t.sends n = s.sends n := by
  rw [State.sends, State.awake, State.looped, State.bit_of_rg _ (h _ List.mem_cons_self), State.bit_of_rg 4 (h _ (by simp))]
  rfl

/-- A frame that leaves the port is counted in LAN_TXOK (R500, R503). -/
theorem State.sendEth_out {p : Nat} (h : s.sends (4 + p) = true) (kind : Nat) :
    s.sendEth p kind = (s.count (Reg.LAN_TXOK p)).emit (.eth p kind) := if_pos h

/-! ### The frame taken (R500) -/

/-- The frame that the MAC passed on first is taken. -/
def State.taken (s : State) (port : Nat) (l : List Nat) : State := { s with lan.ptp := s.lan.ptp.put port [] l }

section Message

variable {port : Fin 2} {udp : Bool} {domain : BitVec 8} {at50 : Nat} {l : List Nat} (hrun : s.running = true)

include hrun

theorem leaves_ptpMessage (m : PtpMsg) (h : s.lan.ptp.at port.val [] = []) : Leaves (.ptpMessage port domain ⟨udp, m⟩) s := by
  refine Leaves_main s (ptpMessage port.val udp domain.toNat m) rfl hrun ?_
  rw [ptpMessage, h]

variable (h : s.lan.ptp.at port.val [] = at50 :: l)

include h

theorem does_ptpMessage {P : State → Prop} {m : PtpMsg} (hp : P ((s.taken port.val l).ptpTake port.val udp domain.toNat m at50)) :
    Does (.ptpMessage port domain ⟨udp, m⟩) s P := by
  refine Does_main s (ptpMessage port.val udp domain.toNat m) rfl hrun ?_
  rw [ptpMessage, h]
  exact hp

/-- The frame is gone; nothing else differs. -/
theorem does_ptpMessage_ignored (m : PtpMsg) (hno : (s.taken port.val l).ptpTake port.val udp domain.toNat m at50 = s.taken port.val l) :
    Does (.ptpMessage port domain ⟨udp, m⟩) s fun u =>
      u.lan.ptp.at port.val [] = l ∧ ({ u with lan.ptp := s.lan.ptp } : State) = s := by
  refine does_ptpMessage hrun h ?_
  rw [hno]
  exact ⟨Tab.get_set_same _ _ _ _, rfl⟩

/-- A message over another transport or of another domain is ignored. -/
theorem does_ptpMessage_foreign (m : PtpMsg) (hno : domain.toNat ≠ s.rf Reg.TIM_PTP_CFG 8 8 ∨ udp ≠ s.bit Reg.TIM_PTP_CFG 2) :
    Does (.ptpMessage port domain ⟨udp, m⟩) s fun u =>
      u.lan.ptp.at port.val [] = l ∧ ({ u with lan.ptp := s.lan.ptp } : State) = s := by
  refine does_ptpMessage_ignored hrun h m (if_pos ?_)
  have hd : (s.taken port.val l).rf Reg.TIM_PTP_CFG 8 8 = s.rf Reg.TIM_PTP_CFG 8 8 := rfl
  have hu : (s.taken port.val l).bit Reg.TIM_PTP_CFG 2 = s.bit Reg.TIM_PTP_CFG 2 := rfl
  rcases hno with hno | hno <;> simp [hd, hu, hno]

variable (hnode : s.node = 0) (hon : s.ptpOn port.val = true) (hdom : domain.toNat = s.rf Reg.TIM_PTP_CFG 8 8)
  (hudp : udp = s.bit Reg.TIM_PTP_CFG 2)

omit hrun h in
include hnode hon hdom hudp in
/-- A message of the configured domain and transport, on an enabled port of node 0, reaches the time block. -/
theorem ptpTake_reaches : ¬((s.taken port.val l).node != 0 || !(s.taken port.val l).ptpOn port.val ||
    udp != (s.taken port.val l).bit Reg.TIM_PTP_CFG 2 || domain.toNat != (s.taken port.val l).rf Reg.TIM_PTP_CFG 8 8) = true := by
  have hn : (s.taken port.val l).node = 0 := hnode
  have ho : (s.taken port.val l).ptpOn port.val = true := hon
  have hd : (s.taken port.val l).rf Reg.TIM_PTP_CFG 8 8 = s.rf Reg.TIM_PTP_CFG 8 8 := rfl
  have hu : (s.taken port.val l).bit Reg.TIM_PTP_CFG 2 = s.bit Reg.TIM_PTP_CFG 2 := rfl
  simp [hn, ho, hd, hu, hdom, hudp]

include hnode hon hdom hudp

theorem does_ptpMessage_other : Does (.ptpMessage port domain ⟨udp, .other⟩) s fun u =>
    u.lan.ptp.at port.val [] = l ∧ ({ u with lan.ptp := s.lan.ptp } : State) = s :=
  does_ptpMessage_ignored hrun h .other (if_neg (ptpTake_reaches hnode hon hdom hudp))

theorem does_ptpMessage_announce (data : List Nat) : Does (.ptpMessage port domain ⟨udp, .announce data⟩) s fun u =>
    u.lan.ptp.at port.val [] = l ∧ u.tim.announce.at port.val none = some data ∧ u.tim.port = u.bestPort ∧
    Raises s u (if u.bestPort = s.tim.port then [] else [(0x0204, 0, [u.bestPort])]) ∧
    KeepsRegs s u [] ∧ OnlyRegsAnd s u fun u => { u with tim := s.tim, lan := s.lan } := by
  have htake : (s.taken port.val l).ptpTake port.val udp domain.toNat (.announce data) at50 =
      ((s.taken port.val l).hears port.val data).choosePort := if_neg (ptpTake_reaches hnode hon hdom hudp)
  obtain ⟨hann, hchosen, hstep⟩ := State.hears_spec (s := s.taken port.val l) hon data
  refine does_ptpMessage hrun h ?_
  rw [htake]
  generalize ((s.taken port.val l).hears port.val data).choosePort = u at hann hchosen hstep ⊢
  refine ⟨?_, hann, hchosen, hstep.raises, hstep.regs, ?_⟩
  · obtain ⟨_, _, _, rfl⟩ := hstep.only
    exact Tab.get_set_same (fun _ => []) s.lan.ptp port.val l
  · obtain ⟨_, _, _, rfl⟩ := hstep.only
    rfl

/-- A device that does not take station time shows the offset of a Sync, and asks for the path delay (R97, R98). -/
theorem does_ptpMessage_sync (seq : Nat) (origin corr : Int) (hslave : s.takesStation = false) (hsends : s.sends (4 + port.val) = true) :
    Does (.ptpMessage port domain ⟨udp, .sync seq origin corr⟩) s fun u => u.lan.ptp.at port.val [] = l ∧
      (port.val = s.tim.port →
        u.rn Reg.TIM_OFS = unsigned 32 ((at50 : Int) - origin - corr - s.tim.pathDelay.at port.val 0)) ∧
      (port.val ≠ s.tim.port → u.rg Reg.TIM_OFS = s.rg Reg.TIM_OFS) ∧
      u.out = .eth port.val (if s.bit Reg.TIM_PTP_CFG 3 then 4 else 1) :: s.out ∧
      Raises s u [] ∧ KeepsRegs s u [Reg.TIM_OFS, Reg.LAN_TXOK port.val] ∧
      OnlyRegsAnd s u fun u => { u with tim := s.tim, lan := s.lan, out := s.out } := by
  have htake : (s.taken port.val l).ptpTake port.val udp domain.toNat (.sync seq origin corr) at50 =
      ((s.taken port.val l).ptpOffset port.val origin at50 corr).askDelay port.val :=
    if_neg (ptpTake_reaches hnode hon hdom hudp)
  obtain ⟨hstep, hshown, hnot⟩ := State.ptpOffset_shown (s := s.taken port.val l) hslave port.val origin at50 corr
  refine does_ptpMessage hrun h ?_
  rw [htake]
  generalize (s.taken port.val l).ptpOffset port.val origin at50 corr = v at hstep hshown hnot ⊢
  have hsends' : v.sends (4 + port.val) = true := (sends_congr fun a ha => hstep.regs a (timOfs_ne_lane ha)).trans hsends
  have hkind : v.bit Reg.TIM_PTP_CFG 3 = s.bit Reg.TIM_PTP_CFG 3 := State.bit_of_rg 3 (hstep.regs _ (by decide))
  rw [State.askDelay, State.ptpSend, State.sendEth_out hsends', hkind]
  have hofs : (v.count (Reg.LAN_TXOK port.val)).rg Reg.TIM_OFS = v.rg Reg.TIM_OFS := State.rg_wf_ne _ _ _ _ (by unfold Reg.TIM_OFS Reg.LAN_TXOK; omega)
  have hcount : TimeStep [Reg.TIM_OFS, Reg.LAN_TXOK port.val] [] (s.taken port.val l) (v.count (Reg.LAN_TXOK port.val)) :=
    (hstep.mono (by simp)).wf (by simp) _ _ _
  refine ⟨?_, fun hp => ?_, fun hp => ?_, ?_, hcount.raises, hcount.regs, ?_⟩
  · obtain ⟨_, _, _, rfl⟩ := hstep.only
    exact Tab.get_set_same (fun _ => []) s.lan.ptp port.val l
  · exact (congrArg BitVec.toNat hofs).trans (hshown hp)
  · exact hofs.trans (hnot hp)
  · obtain ⟨_, _, _, rfl⟩ := hstep.only
    rfl
  · obtain ⟨_, _, _, rfl⟩ := hstep.only
    rfl

end Message

end Sys2Proof.Machine

open Sys2Proof Sys2Proof.Machine Sys2Proof.Safety

/-- Settles O7: holdover and its fault, the time of the lane followed, and the messages of the station ports. -/
theorem timeFollowsRingAndStation : Obligations.TimeFollowsRingAndStation := by
  unfold Obligations.TimeFollowsRingAndStation
  refine ⟨fun s hrun => ⟨does_timeSourceTimeout hrun, leaves_timeSourceTimeout hrun, fun hst hslave hfree =>
    ⟨does_holdoverLimit hrun hst hslave hfree, does_holdoverLimit_asking hrun hst hslave hfree⟩, leaves_holdoverLimit hrun⟩,
    fun s lane t d l hrun hrcv hd hl => ⟨does_timeTransferSet_aside hrun hrcv hd hl, fun hfol hext ofs hofs =>
      ⟨does_timeTransferSet_locks hrun hrcv hd hl hfol hext hofs, does_timeTransferSet_beyond hrun hrcv hd hl hfol hext hofs,
        does_timeTransferSet_acquires hrun hrcv hd hl hfol hext hofs⟩⟩,
    fun s port udp domain m data at50 l hrun => ⟨leaves_ptpMessage hrun m, fun h => ⟨does_ptpMessage_foreign hrun h m,
      fun hnode hon hdom hudp => ⟨does_ptpMessage_other hrun h hnode hon hdom hudp,
        does_ptpMessage_announce hrun h hnode hon hdom hudp data, fun seq origin corr =>
          does_ptpMessage_sync hrun h hnode hon hdom hudp seq origin corr⟩⟩, bestPort_tie⟩⟩
end

section
/-! PROOFS. Timed pulse outputs: arming (R108, R109, R588). -/

namespace Sys2Proof.Machine

open Safety

section Arm

variable {s t : State} {n : Nat} {v : Word} {src : Src}

/-! ### What arming reads and writes -/

/-- The settings and the clock they are judged against rest on the start, period and width registers and stack time. -/
theorem tpoSettings_wr (s : State) (n : Nat) (v w : Word) : (s.wr (Reg.TIM_TPO_CFG n) w).tpoSettings n v = s.tpoSettings n v := by
  have hne (b : Nat) (hb : b ≠ Reg.TIM_TPO_CFG n) : (s.wr (Reg.TIM_TPO_CFG n) w).rg b = s.rg b := (s.rg_wr _ b w).trans (if_neg hb)
  have hsec := State.rn_of_rg (hne (Reg.TIM_TPO_START_S n) (by unfold Reg.TIM_TPO_START_S Reg.TIM_TPO_CFG; omega))
  have hns := State.rf_of_rg 0 30 (hne (Reg.TIM_TPO_START_NS n) (by unfold Reg.TIM_TPO_START_NS Reg.TIM_TPO_CFG; omega))
  have hper := State.rn_of_rg (hne (Reg.TIM_TPO_PER n) (by unfold Reg.TIM_TPO_PER Reg.TIM_TPO_CFG; omega))
  have hwid := State.rn_of_rg (hne (Reg.TIM_TPO_WID n) (by unfold Reg.TIM_TPO_WID Reg.TIM_TPO_CFG; omega))
  simp only [State.tpoSettings, hsec, hns, hper, hwid]

/-- The output stopped by a write of its configuration, with the flags ERR and LATE. -/
def State.tpoStopped (s : State) (n : Nat) (v : Word) (err late : Bool) : State :=
  ((s.wr (Reg.TIM_TPO_CFG n) (v &&& 0x00001f07)).tpoSet n none).tpoStat n false err late

/-- The output armed by a write of its configuration. -/
def State.tpoStarted (s : State) (n : Nat) (v : Word) (t : Tpo) : State :=
  ((s.wr (Reg.TIM_TPO_CFG n) (v &&& 0x00001f07)).tpoSet n (some t)).tpoStat n true false false

/-- An output that is not high takes its setting at once. -/
theorem State.tpoTake_low (hlow : s.tim.tpoHigh.at n false = false) (t : Option Tpo) : s.tpoTake n t = s.tpoSet n t :=
  if_neg (by simp [hlow])

theorem tpoArm_refused (h : 19 < fld v 8 5) : tpoArm n v s = s.refuse (Reg.TIM_TPO_CFG n) 0x25 := if_pos h

section Accepted

variable (hlow : s.tim.tpoHigh.at n false = false) (hv : fld v 8 5 ≤ 19)
include hlow hv

theorem tpoArm_stops (h : fld v 0 1 = 0) : tpoArm n v s = s.tpoStopped n v false false := by
  simp only [tpoArm, if_neg (not_lt.2 hv), if_pos h, State.wr_tim, hlow]
  exact congrArg (·.tpoStat n false false false) (State.tpoTake_low (s := s.wr _ _) hlow _)

theorem tpoArm_fails (h : fld v 0 1 = 1) (hok : tpoOk (s.tpoSettings n v) = false) :
    tpoArm n v s = s.tpoStopped n v true false := by
  simp only [tpoArm, if_neg (not_lt.2 hv), h, one_ne_zero, if_false, tpoSettings_wr, hok, Bool.not_false, if_true, State.wr_tim, hlow]
  exact congrArg (·.tpoStat n false true false) (State.tpoTake_low (s := s.wr _ _) hlow _)

theorem tpoArm_starts (h : fld v 0 1 = 1) (hok : tpoOk (s.tpoSettings n v) = true) {x : Nat}
    (hx : tpoStart (s.tpoSettings n v) (s.startClock + 4096) = some x) :
    tpoArm n v s = s.tpoStarted n v { s.tpoSettings n v with start := x } := by
  have hx' : tpoStart (s.tpoSettings n v) ((s.wr (Reg.TIM_TPO_CFG n) (v &&& 0x00001f07)).startClock + 4096) = some x := hx
  simp only [tpoArm, if_neg (not_lt.2 hv), h, one_ne_zero, if_false, tpoSettings_wr, hok, Bool.not_true, Bool.false_eq_true, hx']
  exact congrArg (·.tpoStat n true false false) (State.tpoTake_low (s := s.wr _ _) hlow _)

theorem tpoArm_late (h : fld v 0 1 = 1) (hok : tpoOk (s.tpoSettings n v) = true)
    (hx : tpoStart (s.tpoSettings n v) (s.startClock + 4096) = none) :
    tpoArm n v s = (s.tpoStopped n v false true).raise 0x0222 n [n] := by
  have hx' : tpoStart (s.tpoSettings n v) ((s.wr (Reg.TIM_TPO_CFG n) (v &&& 0x00001f07)).startClock + 4096) = none := hx
  simp only [tpoArm, if_neg (not_lt.2 hv), h, one_ne_zero, if_false, tpoSettings_wr, hok, Bool.not_true, Bool.false_eq_true, hx',
    State.wr_tim, hlow]
  exact congrArg (fun u => (u.tpoStat n false false true).raise 0x0222 n [n]) (State.tpoTake_low (s := s.wr _ _) hlow _)

end Accepted

/-! ### The output behind it -/

theorem State.tpoStopped_step (s : State) (n : Nat) (v : Word) (err late : Bool) :
    TimeStep [Reg.TIM_TPO_CFG n, Reg.TIM_TPO_STAT n] [] s (s.tpoStopped n v err late) :=
  (((TimeStep.refl _ s).wr _ (by simp)).tim { s.tim with tpo := s.tim.tpo.put n none none } rfl).wn (by simp) _

theorem State.tpoStopped_shows (s : State) (n : Nat) (v : Word) (err late : Bool) :
    (s.tpoStopped n v err late).tim.tpo.at n none = none ∧
      (s.tpoStopped n v err late).rn (Reg.TIM_TPO_STAT n) = err.toNat * 2 + late.toNat * 4 := by
  constructor
  · exact Tab.get_set_same (fun _ => none) _ n none
  · refine (State.rn_wn ..).trans ((if_pos rfl).trans ?_)
    cases err <;> cases late <;> rfl

/-- The level of the output goes to its inactive one, told by the pin where that changes (R588). -/
theorem State.tpoRest_eq (s : State) (n : Nat) (low : Bool) : ∃ m o, m.at n false = low ∧
    s.tpoRest n low = { s with tim.tpoIdle := m, out := o } := by
  unfold State.tpoRest
  split
  next h => exact ⟨_, _, h, rfl⟩
  next h => exact ⟨_, _, Tab.get_set_same (fun _ => false) _ n low, rfl⟩

theorem State.tpoStarted_eq (s : State) (n : Nat) (v : Word) (t : Tpo) : ∃ m o, m.at n false = t.activeLow ∧
    s.tpoStarted n v t = ({ s.wr (Reg.TIM_TPO_CFG n) (v &&& 0x00001f07) with
      tim.tpo := s.tim.tpo.put n none (some t), tim.tpoIdle := m, out := o } : State).wn (Reg.TIM_TPO_STAT n) 1 := by
  obtain ⟨m, o, hm, h⟩ := ({ s.wr (Reg.TIM_TPO_CFG n) (v &&& 0x00001f07) with
    tim.tpo := s.tim.tpo.put n none (some t) } : State).tpoRest_eq n t.activeLow
  exact ⟨m, o, hm, congrArg (·.wn (Reg.TIM_TPO_STAT n) 1) h⟩

/-- What an armed output shows (R108). -/
theorem State.tpoStarted_spec (s : State) (n : Nat) (v : Word) (t : Tpo) :
    (s.tpoStarted n v t).tim.tpo.at n none = some t ∧ (s.tpoStarted n v t).rn (Reg.TIM_TPO_STAT n) = 1 ∧
    (s.tpoStarted n v t).keys = s.keys ∧ Raises s (s.tpoStarted n v t) [] ∧
    (s.tpoStarted n v t).tim.tpoIdle.at n false = t.activeLow ∧
    KeepsRegs s (s.tpoStarted n v t) [Reg.TIM_TPO_CFG n, Reg.TIM_TPO_STAT n] ∧ OnlyRegsAnd s (s.tpoStarted n v t) fun u =>
      { u with tim.tpo := s.tim.tpo, tim.tpoIdle := s.tim.tpoIdle, out := s.out } := by
  obtain ⟨m, o, hm, h⟩ := s.tpoStarted_eq n v t
  rw [h]
  refine ⟨Tab.get_set_same (fun _ => none) _ n (some t), (State.rn_wn ..).trans (if_pos rfl), rfl, raises_none rfl, hm, ?_, rfl⟩
  intro a ha
  obtain ⟨hcfg, hstat⟩ : a ≠ Reg.TIM_TPO_CFG n ∧ a ≠ Reg.TIM_TPO_STAT n := by simpa using ha
  exact (State.rg_wn_ne _ _ hstat).trans ((s.rg_wr _ a _).trans (if_neg hcfg))

/-! ### The start (R108, R109) -/

theorem tpoStart_ahead {t : Tpo} {x : Nat} (h : x ≤ t.first) : tpoStart t x = some t.first := if_pos h

theorem tpoStart_late {t : Tpo} {x : Nat} (h : t.first < x) (hp : t.periodic = false) : tpoStart t x = none := by
  rw [tpoStart, if_neg (not_le.2 h), if_neg (by simp [hp])]

/-- A late periodic output starts at the first instant of its grid that is early enough. -/
theorem tpoStart_periodic {t : Tpo} {x : Nat} (h : t.first < x) (hp : t.periodic = true) (hper : 0 < t.per) :
    ∃ k, tpoStart t x = some (t.first + k * (t.per * 20)) ∧ x ≤ t.first + k * (t.per * 20) ∧
      t.first + k * (t.per * 20) < x + t.per * 20 := by
  refine ⟨(x - t.first + t.per * 20 - 1) / (t.per * 20), by rw [tpoStart, if_neg (not_le.2 h), if_pos hp], ?_⟩
  generalize hP : t.per * 20 = P
  have hpos : 0 < P := by omega
  have hdiv := Nat.div_add_mod (x - t.first + P - 1) P
  have hmod := Nat.mod_lt (x - t.first + P - 1) hpos
  rw [Nat.mul_comm] at hdiv
  omega

theorem tpoStart_of_periodic {t : Tpo} (hp : t.periodic = true) (x : Nat) : ∃ y, tpoStart t x = some y := by
  simp only [tpoStart, hp, if_true]
  split
  · exact ⟨_, rfl⟩
  · exact ⟨_, rfl⟩

theorem tpoSettings_first {t : Tpo} (h : t = s.tpoSettings n v) : t.first = t.start := by
  subst h
  unfold State.tpoSettings
  rfl

theorem Tpo.start_first {t : Tpo} (h : t.first = t.start) : { t with start := t.first } = t := by
  cases t
  cases h
  rfl

theorem tpoOk_iff (t : Tpo) : tpoOk t = true ↔ 7 ≤ t.wid ∧ (t.periodic = true → 20 ≤ t.per ∧ t.wid + 7 ≤ t.per) := by
  cases hp : t.periodic <;> simp [tpoOk, hp]

/-! ### The command -/

section Command

variable {k : Fin 8} {t : Tpo} (hr : Reaches s (Reg.TIM_TPO_CFG k.val)) (ht : t = s.tpoSettings k.val v)
  (hlow : s.tim.tpoHigh.at k.val false = false) (hv : fld v 8 5 ≤ 19)
include hr ht hlow hv

theorem does_tpoArm_starts (h : fld v 0 1 = 1) (hok : tpoOk t = true) {x : Nat} (hx : tpoStart t (s.startClock + 4096) = some x) :
    Does (.tpoArm src k v) s fun u => u.tim.tpo.at k.val none = some { t with start := x } ∧
      u.rn (Reg.TIM_TPO_STAT k.val) = 1 ∧ u.slot src = {} ∧ Raises s u [] ∧ u.tim.tpoIdle.at k.val false = t.activeLow ∧
      KeepsRegs s u [Reg.TIM_TPO_CFG k.val, Reg.TIM_TPO_STAT k.val] ∧ OnlyRegsAnd s u fun u =>
        { u with tim.tpo := s.tim.tpo, tim.tpoIdle := s.tim.tpoIdle, keys := s.keys, out := s.out } := by
  subst ht
  refine Does_unkeyed (tpoArm k.val v) rfl hr ?_
  rw [tpoArm_starts (s := s.disarm src) hlow hv h hok hx]
  obtain ⟨htpo, hstat, hkeys, hraises, hidle, hregs, honly⟩ :=
    (s.disarm src).tpoStarted_spec k.val v { s.tpoSettings k.val v with start := x }
  refine ⟨htpo, hstat, ?_, hraises, hidle, hregs, ?_⟩
  · exact (congrArg (fun ks : Keys => ks.slots.at (srcNum src) {}) hkeys).trans (s.slot_disarm src)
  · exact congrArg (fun u : State => { u with keys := s.keys }) honly

theorem does_tpoArm_fails (h : fld v 0 1 = 1) (hok : tpoOk t = false) : Does (.tpoArm src k v) s fun u =>
    u.tim.tpo.at k.val none = none ∧ u.rn (Reg.TIM_TPO_STAT k.val) = 2 ∧ Raises s u [] := by
  subst ht
  refine Does_unkeyed (tpoArm k.val v) rfl hr ?_
  rw [tpoArm_fails (s := s.disarm src) hlow hv h hok]
  obtain ⟨htpo, hstat⟩ := (s.disarm src).tpoStopped_shows k.val v true false
  exact ⟨htpo, hstat, ((s.disarm src).tpoStopped_step k.val v true false).raises⟩

theorem does_tpoArm_late (h : fld v 0 1 = 1) (hok : tpoOk t = true) (hx : tpoStart t (s.startClock + 4096) = none) :
    Does (.tpoArm src k v) s fun u => u.tim.tpo.at k.val none = none ∧ u.rn (Reg.TIM_TPO_STAT k.val) = 4 ∧
      Raises s u [(0x0222, k.val, [k.val])] := by
  subst ht
  refine Does_unkeyed (tpoArm k.val v) rfl hr ?_
  rw [tpoArm_late (s := s.disarm src) hlow hv h hok hx]
  obtain ⟨htpo, hstat⟩ := (s.disarm src).tpoStopped_shows k.val v false true
  exact ⟨htpo, hstat, (((s.disarm src).tpoStopped_step k.val v false true).raise 0x0222 k.val [k.val]).raises⟩

omit ht in
theorem does_tpoArm_stops (h : fld v 0 1 = 0) : Does (.tpoArm src k v) s fun u =>
    u.tim.tpo.at k.val none = none ∧ u.rn (Reg.TIM_TPO_STAT k.val) = 0 ∧ Raises s u [] := by
  refine Does_unkeyed (tpoArm k.val v) rfl hr ?_
  rw [tpoArm_stops (s := s.disarm src) hlow hv h]
  obtain ⟨htpo, hstat⟩ := (s.disarm src).tpoStopped_shows k.val v false false
  exact ⟨htpo, hstat, ((s.disarm src).tpoStopped_step k.val v false false).raises⟩

omit hlow hv ht in
theorem does_tpoArm_refused (h : 19 < fld v 8 5) : Does (.tpoArm src k v) s fun u => u.tim = s.tim ∧
    Raises s u [(0x0325, 0, [Reg.TIM_TPO_CFG k.val])] ∧ KeepsRegs s u [Reg.CFG_REFUSE_CNT, Reg.CFG_REFUSE_ADDR] := by
  have href := (s.disarm src).refuse_step (Reg.TIM_TPO_CFG k.val) 0x25
  obtain ⟨-, hraises, hregs, -⟩ := href.behind_slot rfl
  refine Does_unkeyed (tpoArm k.val v) rfl hr ?_
  rw [tpoArm_refused h]
  exact ⟨href.tim, hraises, hregs⟩

end Command

end Arm

end Sys2Proof.Machine
end

section
/-! PROOFS. The edges of timed pulse outputs and of PPS_OUT (R109, R110, R113). -/

namespace Sys2Proof.Machine

open Safety

/-! ### The memories behind an ADC source (R132 to R138) -/

section Mem

variable (s : State)

@[simp] theorem foldl_mem {α : Type} {f : State → α → State} (h : ∀ t x, (f t x).mem = t.mem) (l : List α) :
    (l.foldl f s).mem = s.mem := foldl_keeps s h l
@[simp] theorem State.each_mem {f : State → Nat → State} (h : ∀ t x, (f t x).mem = t.mem) (n : Nat) :
    (s.each n f).mem = s.mem := foldl_keeps s h _
@[simp] theorem State.setAdc_mem (k : Nat) (a : Adc) : (s.setAdc k a).mem = s.mem := rfl
@[simp] theorem State.setStream_mem (e : Nat) (x : Option Stream) : (s.setStream e x).mem = s.mem := rfl
@[simp] theorem State.loseTrigger_mem (k t cause : Nat) : (s.loseTrigger k t cause).mem = s.mem := by simp [State.loseTrigger]
@[simp] theorem State.startRegular_mem (k : Nat) (deferred : Bool) : (s.startRegular k deferred).mem = s.mem := by
  simp [State.startRegular]
@[simp] theorem State.startStream_mem (k : Nat) : (s.startStream k).mem = s.mem := rfl
@[simp] theorem State.abortRegular_mem (k : Nat) : (s.abortRegular k).mem = s.mem := by
  simp only [State.abortRegular]; split <;> simp
@[simp] theorem State.inject_mem (k t i : Nat) : (s.inject k t i).mem = s.mem := by unfold State.inject; split <;> simp
@[simp] theorem State.fireStream_mem (k t : Nat) : (s.fireStream k t).mem = s.mem := by unfold State.fireStream; split <;> simp
@[simp] theorem State.fireRegular_mem (k t : Nat) : (s.fireRegular k t).mem = s.mem := by simp [State.fireRegular]
@[simp] theorem State.fireSet_mem (j t : Nat) : (s.fireSet j t).mem = s.mem := by simp [State.fireSet]
@[simp] theorem State.fire_mem (t : Nat) : (s.fire t).mem = s.mem := by simp [State.fire]
@[simp] theorem State.sourceOf_mem (t : Nat) : (s.sourceOf t).mem = s.mem := by simp [State.sourceOf]
@[simp] theorem State.adcSource_mem (src : Nat) : (s.adcSource src).mem = s.mem := by simp [State.adcSource]

theorem keepsMem_of_mem {s t : State} (h : t.mem = s.mem) : KeepsMem s t := fun a => congrArg (Tab.get (fun _ => 0) · a) h

end Mem

/-! ### Driving an output -/

variable {s t u : State} {n : Nat}

/-- Neither registers, memories, events nor TS32 differ: a pin may be driven, and the time base set. -/
structure PinsOnly (s t : State) : Prop where
  regs : t.regs = s.regs
  evt : t.evt = s.evt
  mem : t.mem = s.mem
  ts32 : t.tim.ts32 = s.tim.ts32

namespace PinsOnly

theorem refl (s : State) : PinsOnly s s := ⟨rfl, rfl, rfl, rfl⟩

theorem trans (h : PinsOnly s t) (k : PinsOnly t u) : PinsOnly s u :=
  ⟨k.regs.trans h.regs, k.evt.trans h.evt, k.mem.trans h.mem, k.ts32.trans h.ts32⟩

theorem tim (h : PinsOnly s t) (m : Tim) (hm : m.ts32 = t.tim.ts32) : PinsOnly s { t with tim := m } :=
  ⟨h.regs, h.evt, h.mem, hm.trans h.ts32⟩

/-- What a step of the time base behind the pins shows from the start. -/
theorem then_step {l : List Nat} {e : List (Nat × Nat × List Nat)} (h : PinsOnly s t) (k : TimeStep l e t u) :
    Raises s u e ∧ KeepsRegs s u l ∧ KeepsMem s u := by
  have hraises : Raises s t [] := raises_none (congrArg Evt.batch h.evt)
  refine ⟨raises_append hraises k.raises h.ts32, fun a ha => ?_, keepsMem_of_mem (k.mem.trans h.mem)⟩
  exact (k.regs a ha).trans (congrArg (Tab.get regReset · a) h.regs)

end PinsOnly

theorem State.placeEdge_pinsOnly (s : State) (line : Nat) (level : Bool) (at50 : Int) :
    PinsOnly s (s.placeEdge line level at50) := ⟨rfl, rfl, rfl, s.placeEdge_tim line level at50 ▸ rfl⟩

theorem State.tpoRest_pinsOnly (s : State) (n : Nat) (low : Bool) : PinsOnly s (s.tpoRest n low) := by
  obtain ⟨m, o, -, h⟩ := s.tpoRest_eq n low
  rw [h]
  exact ⟨rfl, rfl, rfl, rfl⟩

theorem State.tpoSet_pinsOnly (s : State) (n : Nat) (x : Option Tpo) : PinsOnly s (s.tpoSet n x) := by
  have h : PinsOnly s { s with tim.tpo := s.tim.tpo.put n none x } := (PinsOnly.refl s).tim _ rfl
  cases x with
  | none => exact h
  | some x => exact h.trans (State.tpoRest_pinsOnly _ n x.activeLow)

theorem State.tpoDrive_pinsOnly (s : State) (n : Nat) (x : Tpo) (on : Bool) (at50 : Nat) : PinsOnly s (s.tpoDrive n x on at50) :=
  ((PinsOnly.refl s).tim { s.tim with tpoHigh := s.tim.tpoHigh.put n false on } rfl).trans (State.placeEdge_pinsOnly ..)

theorem State.tpoDrive_tim (s : State) (n : Nat) (x : Tpo) (on : Bool) (at50 : Nat) :
    (s.tpoDrive n x on at50).tim = { s.tim with tpoHigh := s.tim.tpoHigh.put n false on } := State.placeEdge_tim ..

/-- A setting taken stands, and leaves the level and the setting that waits. -/
theorem State.tpoSet_tim (s : State) (n : Nat) (x : Option Tpo) : (s.tpoSet n x).tim.tpo.at n none = x ∧
    (s.tpoSet n x).tim.tpoHigh = s.tim.tpoHigh ∧ (s.tpoSet n x).tim.tpoNext = s.tim.tpoNext := by
  have hsame : Tab.at (s.tim.tpo.put n none x) n none = x := Tab.get_set_same (fun _ => none) _ n x
  cases x with
  | none => exact ⟨hsame, rfl, rfl⟩
  | some x =>
    obtain ⟨m, o, -, h⟩ := ({ s with tim.tpo := s.tim.tpo.put n none (some x) } : State).tpoRest_eq n x.activeLow
    rw [show s.tpoSet n (some x) = _ from h]
    exact ⟨hsame, rfl, rfl⟩

/-! ### The setting that waits (R110) -/

/-- The event of a waiting setting whose start has passed (R109). -/
def missedEvents (n : Nat) (w : Option Tpo) (at50 : Nat) : List (Nat × Nat × List Nat) :=
  if w.isSome && (laterStart at50 w).isNone then [(0x0222, n, [n])] else []

theorem missedEvents_some (n at50 : Nat) (x : Tpo) :
    missedEvents n (some x) at50 = if (laterStart at50 (some x)).isNone then [(0x0222, n, [n])] else [] := by
  rw [missedEvents, Option.isSome_some, Bool.true_and]

/-- The output behind a high interval, with the setting that waited. -/
def State.tpoTaken (s : State) (n : Nat) (w : Option Tpo) (at50 : Nat) : State :=
  ({ s with tim.tpoNext := s.tim.tpoNext.put n none none } : State).tpoSet n (laterStart at50 w)

theorem State.tpoTaken_pinsOnly (s : State) (n : Nat) (w : Option Tpo) (at50 : Nat) : PinsOnly s (s.tpoTaken n w at50) :=
  ((PinsOnly.refl s).tim { s.tim with tpoNext := s.tim.tpoNext.put n none none } rfl).trans (State.tpoSet_pinsOnly ..)

theorem State.tpoWaited_eq (s : State) (n : Nat) (w : Option Tpo) (at50 : Nat) : s.tpoWaited n w at50 =
    if w.isSome && (laterStart at50 w).isNone then
      (((s.tpoTaken n w at50).wbit (Reg.TIM_TPO_STAT n) 0 (laterStart at50 w).isSome).wbit (Reg.TIM_TPO_STAT n) 2 true).raise
        0x0222 n [n]
    else (s.tpoTaken n w at50).wbit (Reg.TIM_TPO_STAT n) 0 (laterStart at50 w).isSome := rfl

theorem State.tpoWaited_step (s : State) (n : Nat) (w : Option Tpo) (at50 : Nat) :
    TimeStep [Reg.TIM_TPO_STAT n] (missedEvents n w at50) (s.tpoTaken n w at50) (s.tpoWaited n w at50) := by
  have hstat : TimeStep [Reg.TIM_TPO_STAT n] [] (s.tpoTaken n w at50)
      ((s.tpoTaken n w at50).wbit (Reg.TIM_TPO_STAT n) 0 (laterStart at50 w).isSome) := (TimeStep.refl _ _).wbit (by simp) _ _
  rw [s.tpoWaited_eq, missedEvents]
  split
  · exact (hstat.wbit (by simp) 2 true).raise 0x0222 n [n]
  · exact hstat

theorem State.tpoWaited_tim (s : State) (n : Nat) (w : Option Tpo) (at50 : Nat) :
    (s.tpoWaited n w at50).tim = (s.tpoTaken n w at50).tim := by
  rw [s.tpoWaited_eq]
  split <;> rfl

theorem State.tpoWaited_active (s : State) (n : Nat) (w : Option Tpo) (at50 : Nat) :
    (s.tpoWaited n w at50).bit (Reg.TIM_TPO_STAT n) 0 = (laterStart at50 w).isSome := by
  have hstat := (s.tpoTaken n w at50).bit_wbit_same (Reg.TIM_TPO_STAT n) (i := 0) (laterStart at50 w).isSome (by decide)
  rw [s.tpoWaited_eq]
  split
  · rw [State.bit_raise, State.bit_wbit_apart _ _ _ (by decide) (by decide), hstat]
  · exact hstat

/-! ### The edges of an output -/

section Edge

variable {k : Fin 8} {x : Tpo} (hrun : s.running = true)
include hrun

theorem leaves_tpoPulseEdge_idle (h : s.tim.tpo.at k.val none = none) (leading : Bool) : Leaves (.tpoPulseEdge k leading) s :=
  Leaves_main s (tpoEdge k.val leading) rfl hrun (by simp only [tpoEdge, h])

variable (hset : s.tim.tpo.at k.val none = some x)
include hset

theorem leaves_tpoPulseEdge_low (hlow : s.tim.tpoHigh.at k.val false = false) : Leaves (.tpoPulseEdge k false) s :=
  Leaves_main s (tpoEdge k.val false) rfl hrun (by simp [tpoEdge, hset, hlow])

theorem leaves_tpoPulseEdge_high (hhigh : s.tim.tpoHigh.at k.val false = true) : Leaves (.tpoPulseEdge k true) s :=
  Leaves_main s (tpoEdge k.val true) rfl hrun (by simp [tpoEdge, hset, hhigh])

/-- The leading edge drives the output and is an ADC source. -/
theorem does_tpoPulseEdge_leading (hlow : s.tim.tpoHigh.at k.val false = false) : Does (.tpoPulseEdge k true) s fun u =>
    u.tim.tpoHigh.at k.val false = true ∧ u.tim.tpo = s.tim.tpo ∧ KeepsMem s u := by
  have hedge : tpoEdge k.val true s = (s.tpoDrive k.val x true x.start).adcSource (0x13 + k.val) := by simp [tpoEdge, hset, hlow]
  refine Does_main s _ rfl hrun ?_
  rw [hedge, State.adcSource_tim, s.tpoDrive_tim]
  refine ⟨Tab.get_set_same (fun _ => false) _ k.val true, rfl, keepsMem_of_mem ?_⟩
  rw [State.adcSource_mem, (s.tpoDrive_pinsOnly k.val x true x.start).mem]

section Trailing

variable (hhigh : s.tim.tpoHigh.at k.val false = true)
include hhigh

/-- Behind the trailing edge a waiting setting takes effect. -/
theorem does_tpoPulseEdge_waited {w : Option Tpo} (hnext : s.tim.tpoNext.at k.val none = some w) {at50 : Nat}
    (hat : at50 = max s.startClock (x.start + x.wid * 20)) : Does (.tpoPulseEdge k false) s fun u =>
      u.tim.tpoHigh.at k.val false = false ∧ (u.tim.tpo.at k.val none = laterStart at50 w ∧ u.tim.tpoNext.at k.val none = none ∧
        u.bit (Reg.TIM_TPO_STAT k.val) 0 = (u.tim.tpo.at k.val none).isSome) ∧ Raises s u (missedEvents k.val w at50) ∧
      KeepsRegs s u [Reg.TIM_TPO_STAT k.val] ∧ KeepsMem s u := by
  obtain ⟨d, hd⟩ : ∃ d, d = s.tpoDrive k.val x false (x.start + x.wid * 20) := ⟨_, rfl⟩
  have htim : d.tim = { s.tim with tpoHigh := s.tim.tpoHigh.put k.val false false } := hd ▸ s.tpoDrive_tim ..
  have hpins : PinsOnly s d := hd ▸ s.tpoDrive_pinsOnly ..
  have hclock : d.startClock = s.startClock := by simp only [State.startClock, htim]
  have hedge : tpoEdge k.val false s = d.tpoWaited k.val w at50 := by
    simp only [tpoEdge, hset, hhigh, Bool.false_eq_true, if_false, Bool.not_true, ← hd, htim, hnext, hclock, ← hat]
  obtain ⟨htpo, hhigh', hnext'⟩ := State.tpoSet_tim { d with tim.tpoNext := d.tim.tpoNext.put k.val none none } k.val
    (laterStart at50 w)
  have htpo' : (d.tpoWaited k.val w at50).tim.tpo.at k.val none = laterStart at50 w := by rw [d.tpoWaited_tim]; exact htpo
  refine Does_main s _ rfl hrun ?_
  rw [hedge]
  refine ⟨?_, ⟨htpo', ?_, ?_⟩, (hpins.trans (d.tpoTaken_pinsOnly k.val w at50)).then_step (d.tpoWaited_step k.val w at50)⟩
  · rw [d.tpoWaited_tim, State.tpoTaken, hhigh', htim]
    exact Tab.get_set_same (fun _ => false) _ k.val false
  · rw [d.tpoWaited_tim, State.tpoTaken, hnext']
    exact Tab.get_set_same (fun _ => none) _ k.val none
  · rw [htpo', d.tpoWaited_active]

/-- Behind the trailing edge a one-shot output ends and a periodic one moves on. -/
theorem does_tpoPulseEdge_ended (hnext : s.tim.tpoNext.at k.val none = none) : Does (.tpoPulseEdge k false) s fun u =>
    u.tim.tpoHigh.at k.val false = false ∧ u.tim.tpo.at k.val none = (if x.periodic then
      (tpoStart x (max s.startClock (x.start + 1))).map fun y => { x with start := y } else none) ∧
      Raises s u [] ∧ KeepsRegs s u [Reg.TIM_TPO_STAT k.val] ∧ KeepsMem s u := by
  obtain ⟨d, hd⟩ : ∃ d, d = s.tpoDrive k.val x false (x.start + x.wid * 20) := ⟨_, rfl⟩
  have htim : d.tim = { s.tim with tpoHigh := s.tim.tpoHigh.put k.val false false } := hd ▸ s.tpoDrive_tim ..
  have hpins : PinsOnly s d := hd ▸ s.tpoDrive_pinsOnly ..
  have hclock : d.startClock = s.startClock := by simp only [State.startClock, htim]
  have hlow : d.tim.tpoHigh.at k.val false = false := by rw [htim]; exact Tab.get_set_same (fun _ => false) _ k.val false
  refine Does_main s _ rfl hrun ?_
  by_cases hper : x.periodic = true
  · obtain ⟨y, hy⟩ := tpoStart_of_periodic hper (max s.startClock (x.start + 1))
    have hedge : tpoEdge k.val false s =
        { d with tim := { d.tim with tpo := d.tim.tpo.put k.val none (some { x with start := y }) } } := by
      simp only [tpoEdge, hset, hhigh, Bool.false_eq_true, if_false, Bool.not_true, ← hd, htim, hnext, hclock, hy, if_pos hper,
        Option.getD_some]
    rw [hedge, hy]
    have hstep : TimeStep [Reg.TIM_TPO_STAT k.val] [] d
        { d with tim := { d.tim with tpo := d.tim.tpo.put k.val none (some { x with start := y }) } } :=
      (TimeStep.refl _ d).tim _ rfl
    refine ⟨hlow, ?_, hpins.then_step hstep⟩
    rw [if_pos hper]
    exact Tab.get_set_same (fun _ => none) _ k.val (some { x with start := y })
  · have hedge : tpoEdge k.val false s =
        ({ d with tim := { d.tim with tpo := d.tim.tpo.put k.val none none } } : State).wbit (Reg.TIM_TPO_STAT k.val) 0 false := by
      simp only [tpoEdge, hset, hhigh, Bool.false_eq_true, if_false, Bool.not_true, ← hd, htim, hnext, if_neg hper]
    rw [hedge]
    have hstep : TimeStep [Reg.TIM_TPO_STAT k.val] [] d
        (({ d with tim := { d.tim with tpo := d.tim.tpo.put k.val none none } } : State).wbit (Reg.TIM_TPO_STAT k.val) 0 false) :=
      ((TimeStep.refl _ d).tim { d.tim with tpo := d.tim.tpo.put k.val none none } rfl).wbit (List.mem_singleton_self _) 0 false
    refine ⟨hlow, ?_, hpins.then_step hstep⟩
    rw [if_neg hper]
    exact Tab.get_set_same (fun _ => none) _ k.val none

end Trailing

end Edge

/-! ### PPS_OUT (R113) -/

/-- The rise nearest to an instant lies within half a second of it. -/
theorem wholeSeconds_near (y : Int) : (wholeSeconds y * 20000000000 - y).natAbs ≤ 10000000000 := by
  unfold wholeSeconds
  omega

theorem does_ppsOutPulse_rise (hrun : s.running = true) (hlow : s.tim.ppsOut = false) (hst : 2 ≤ s.timState) :
    Does (.ppsOutPulse true) s fun u => u.tim.ppsOut = true ∧ (∃ k : Int,
      u.out = .pps true (k * 20000000000 + s.ppsOfs) :: s.out ∧
        u.tim.ppsEnd = k * 20000000000 + s.ppsOfs + s.rf Reg.TIM_PPS 0 9 * 20000000 ∧
        (k * 20000000000 + s.ppsOfs - s.stamp50).natAbs ≤ 10000000000) ∧
      ({ u with tim.ppsOut := s.tim.ppsOut, tim.ppsEnd := s.tim.ppsEnd, out := s.out } : State) = s := by
  obtain ⟨w, hw⟩ : ∃ w, w = s.ppsRise := ⟨_, rfl⟩
  have hpulse : ppsPulse true s =
      ({ s with tim := { s.tim with ppsOut := true, ppsEnd := w + s.rf Reg.TIM_PPS 0 9 * 20000000 } } : State).emit (.pps true w) := by
    rw [hw, ppsPulse, if_pos rfl, if_neg (by simp [hlow, Nat.not_lt.2 hst])]
  have hnear := wholeSeconds_near (s.stamp50 - s.ppsOfs)
  have hrise : w = wholeSeconds (s.stamp50 - s.ppsOfs) * 20000000000 + s.ppsOfs := hw
  refine Does_main s _ rfl hrun ?_
  rw [hpulse]
  refine ⟨rfl, ⟨_, by rw [← hrise]; rfl, by rw [← hrise]; rfl, ?_⟩, rfl⟩
  generalize wholeSeconds (s.stamp50 - s.ppsOfs) = k at hnear ⊢
  omega

theorem leaves_ppsOutPulse (hrun : s.running = true) (hst : s.timState < 2) : Leaves (.ppsOutPulse true) s :=
  Leaves_main s (ppsPulse true) rfl hrun (by simp [ppsPulse, hst])

theorem does_ppsOutPulse_fall (hrun : s.running = true) (hhigh : s.tim.ppsOut = true) : Does (.ppsOutPulse false) s fun u =>
    u.tim.ppsOut = false ∧ u.out = .pps false s.tim.ppsEnd :: s.out ∧
      ({ u with tim.ppsOut := s.tim.ppsOut, out := s.out } : State) = s := by
  have hpulse : ppsPulse false s = ({ s with tim := { s.tim with ppsOut := false } } : State).emit (.pps false s.tim.ppsEnd) := by
    rw [ppsPulse, if_neg (by decide), if_pos hhigh]
  refine Does_main s _ rfl hrun ?_
  rw [hpulse]
  exact ⟨rfl, rfl, rfl⟩

end Sys2Proof.Machine

open Sys2Proof Sys2Proof.Machine Sys2Proof.Safety

/-- Settles O8: arming takes or refuses the settings, an edge drives the output and moves it on, and PPS_OUT keeps to the stack
seconds. -/
theorem timedOutputs : Obligations.TimedOutputs := by
  unfold Obligations.TimedOutputs
  refine ⟨fun s src n v t hr ht hlow hv => ⟨fun h hok hahead => ?_, fun h hok hp hlate => ?_,
      does_tpoArm_fails hr ht hlow hv, fun h hok hp hlate => does_tpoArm_late hr ht hlow hv h hok (tpoStart_late ?_ hp),
      does_tpoArm_stops hr hlow hv, fun w => does_tpoArm_refused hr, tpoOk_iff t⟩,
    fun s n t hrun => ⟨leaves_tpoPulseEdge_idle hrun,
      fun hset hlow => ⟨leaves_tpoPulseEdge_low hrun hset hlow, does_tpoPulseEdge_leading hrun hset hlow⟩,
      fun hset hhigh => ⟨leaves_tpoPulseEdge_high hrun hset hhigh, ?_⟩⟩,
    fun s hrun => ⟨does_ppsOutPulse_rise hrun, fun _ => leaves_ppsOutPulse hrun, does_ppsOutPulse_fall hrun⟩⟩
  · have hfirst := tpoSettings_first ht
    have hstart := does_tpoArm_starts (src := src) hr ht hlow hv h hok (tpoStart_ahead (hfirst ▸ hahead))
    rwa [Tpo.start_first hfirst] at hstart
  · have hfirst := tpoSettings_first ht
    obtain ⟨-, hper⟩ := (tpoOk_iff t).1 hok
    obtain ⟨k, hstart, hlo, hhi⟩ := tpoStart_periodic (hfirst ▸ hlate) hp (by have := hper hp; omega)
    obtain ⟨u, hu, htpo, hstat, -, hraises, -⟩ := does_tpoArm_starts (src := src) hr ht hlow hv h hok hstart
    rw [← hfirst]
    exact ⟨u, hu, k, htpo, hlo, hhi, hstat, hraises⟩
  · exact tpoSettings_first ht ▸ hlate
  · obtain ⟨at50, hat⟩ : ∃ at50, at50 = max s.startClock (t.start + t.wid * 20) := ⟨_, rfl⟩
    rw [← hat]
    cases hnext : s.tim.tpoNext.at n.val none with
    | none =>
      obtain ⟨u, hu, hhigh', htpo, hraises, hrest⟩ := does_tpoPulseEdge_ended hrun hset hhigh hnext
      exact ⟨u, hu, hhigh', fun w hw => (by cases hw), fun _ => htpo, hraises, hrest⟩
    | some w =>
      obtain ⟨u, hu, hhigh', htaken, hraises, hrest⟩ := does_tpoPulseEdge_waited hrun hset hhigh hnext hat
      refine ⟨u, hu, hhigh', fun w' hw => by cases hw; exact htaken, fun h => (by cases h), ?_, hrest⟩
      cases w with
      | none => exact hraises
      | some x => rwa [missedEvents_some] at hraises
end

section
/-! PROOFS. Capture inputs and their FIFO (R111, R112, R114). -/

namespace Sys2Proof.Machine

open Safety

section Capture

variable {s t u : State} {n : Nat}

theorem TimeStep.out {l : List Nat} {e : List (Nat × Nat × List Nat)} (h : TimeStep l e s t) : t.out = s.out := by
  obtain ⟨_, _, _, rfl⟩ := h.only
  rfl

/-! ### Counters -/

/-- A register that counts saturates at its 32 bits. -/
theorem State.rn_count (s : State) (a : Nat) : (s.count a).rn a = min (s.rn a + 1) 4294967295 := by
  have hrf (v : State) : v.rf a 0 32 = v.rn a := by simpa [State.rf, fld, State.rn] using (v.rg a).isLt
  have hsame : (s.count a).rf a 0 32 = min (s.rf a 0 32 + 1) (2 ^ 32 - 1) % 2 ^ 32 := s.rf_wf_same a 0 32 _ (by decide)
  rw [hrf, hrf] at hsame
  omega

/-! ### A stamp enters the FIFO, or is lost (R111, R112) -/

theorem State.showLevel_rf (s : State) (n : Nat) :
    (s.showLevel n).rf (Reg.TIM_TCAP_F n) 8 5 = (s.tim.fifo.at n []).length % 32 := s.rf_wf_same _ 8 5 _ (by decide)

/-- FIFO `n` with one more entry, and its level shown. -/
def State.entered (s : State) (n stamp : Nat) : State :=
  ({ s with tim.fifo := s.tim.fifo.put n [] (s.tim.fifo.at n [] ++ [stampParts stamp]) } : State).showLevel n

/-- The entry told to the ADC sources, which PPS_IN is not among (R132). -/
def State.sourced (s : State) (n stamp : Nat) : State :=
  if n < 4 then (s.entered n stamp).adcSource (0x1b + n) else s.entered n stamp

theorem State.capture_enters (h : (s.tim.fifo.at n []).length < 16) (stamp : Nat) : s.capture n stamp =
    if (s.sourced n stamp).bit (Reg.TIM_TCAP_CFG n) 3 then (s.sourced n stamp).raise 0x0220 n
      [n, stamp / 20000000000 % 4294967296, stamp / 20000000000 / 4294967296, (stampParts stamp).2.1, (stampParts stamp).2.2]
    else s.sourced n stamp := if_neg (not_le.2 h)

theorem State.entered_step (s : State) (n stamp : Nat) : TimeStep [Reg.TIM_TCAP_F n] [] s (s.entered n stamp) :=
  ((TimeStep.refl _ s).tim { s.tim with fifo := s.tim.fifo.put n [] (s.tim.fifo.at n [] ++ [stampParts stamp]) } rfl).wf
    (List.mem_singleton_self _) 8 5 _

theorem State.entered_fifo (s : State) (n stamp : Nat) :
    (s.entered n stamp).tim.fifo.at n [] = s.tim.fifo.at n [] ++ [stampParts stamp] := Tab.get_set_same (fun _ => []) _ n _

theorem State.entered_level (h : (s.tim.fifo.at n []).length < 16) (stamp : Nat) :
    (s.entered n stamp).rf (Reg.TIM_TCAP_F n) 8 5 = (s.tim.fifo.at n []).length + 1 := by
  have hlevel : (s.entered n stamp).rf (Reg.TIM_TCAP_F n) 8 5 = ((s.entered n stamp).tim.fifo.at n []).length % 32 :=
    State.showLevel_rf _ n
  rw [hlevel, s.entered_fifo, List.length_append, List.length_singleton]
  omega

theorem State.sourced_tim (s : State) (n stamp : Nat) : (s.sourced n stamp).tim = (s.entered n stamp).tim := by
  unfold State.sourced
  split
  · exact State.adcSource_tim ..
  · rfl

theorem State.sourced_mem (s : State) (n stamp : Nat) : (s.sourced n stamp).mem = s.mem := by
  have hmem := (s.entered_step n stamp).mem
  unfold State.sourced
  split
  · rw [State.adcSource_mem, hmem]
  · exact hmem

theorem State.sourced_pps (s : State) (stamp : Nat) : s.sourced 4 stamp = s.entered 4 stamp := if_neg (by decide)

theorem State.capture_fifo (h : (s.tim.fifo.at n []).length < 16) (stamp : Nat) :
    (s.capture n stamp).tim.fifo.at n [] = s.tim.fifo.at n [] ++ [stampParts stamp] ∧ KeepsMem s (s.capture n stamp) := by
  rw [State.capture_enters h]
  split
  · rw [State.raise_tim, s.sourced_tim]
    exact ⟨s.entered_fifo n stamp, keepsMem_of_mem (s.sourced_mem n stamp)⟩
  · rw [s.sourced_tim]
    exact ⟨s.entered_fifo n stamp, keepsMem_of_mem (s.sourced_mem n stamp)⟩

/-- Without EVT an edge of PPS_IN only enters the FIFO. -/
theorem State.capture_pps (h : (s.tim.fifo.at 4 []).length < 16) (stamp : Nat) (hevt : s.bit (Reg.TIM_TCAP_CFG 4) 3 = false) :
    s.capture 4 stamp = s.entered 4 stamp := by
  have hbit : (s.entered 4 stamp).bit (Reg.TIM_TCAP_CFG 4) 3 = false :=
    (State.bit_of_rg 3 ((s.entered_step 4 stamp).regs _ (by decide))).trans hevt
  rw [State.capture_enters h, s.sourced_pps, if_neg (by simp [hbit])]

theorem State.capture_lost (h : 16 ≤ (s.tim.fifo.at n []).length) (htold : s.tim.capTold.at n false = false) (stamp : Nat) :
    s.capture n stamp = (({ s with tim := { s.tim with capTold := s.tim.capTold.put n false true } } : State).count
      (Reg.TIM_TCAP_LOST n)).raise 0x0221 n [n] := by
  simp only [State.capture, if_pos h, htold, Bool.false_eq_true, if_false]

theorem State.capture_lost_step (h : 16 ≤ (s.tim.fifo.at n []).length) (htold : s.tim.capTold.at n false = false) (stamp : Nat) :
    TimeStep [Reg.TIM_TCAP_LOST n] [(0x0221, n, [n])] s (s.capture n stamp) := by
  rw [State.capture_lost h htold]
  exact (((TimeStep.refl [Reg.TIM_TCAP_LOST n] s).tim { s.tim with capTold := s.tim.capTold.put n false true } rfl).wf
    (List.mem_singleton_self _) 0 32 _).raise 0x0221 n [n]

/-! ### An edge -/

/-- The state in which an edge has been stamped. -/
def State.stamped (s : State) (n fine : Nat) : State :=
  { s with tim := { s.tim with lastEdge := s.tim.lastEdge.put n 0 (s.edgeTime fine) } }

theorem State.stamped_step (s : State) (l : List Nat) (n fine : Nat) : TimeStep l [] s (s.stamped n fine) :=
  (TimeStep.refl l s).tim _ rfl

/-- An edge of PPS_IN that only enters the FIFO (R112). -/
theorem State.stamped_enters_pps (s : State) (fine stamp : Nat) (hroom : (s.tim.fifo.at 4 []).length < 16)
    (hevt : s.bit (Reg.TIM_TCAP_CFG 4) 3 = false) :
    ((s.stamped 4 fine).capture 4 stamp).rf (Reg.TIM_TCAP_F 4) 8 5 = (s.tim.fifo.at 4 []).length + 1 ∧
      Raises s ((s.stamped 4 fine).capture 4 stamp) [] ∧ KeepsRegs s ((s.stamped 4 fine).capture 4 stamp) [Reg.TIM_TCAP_F 4] ∧
      OnlyRegsAnd s ((s.stamped 4 fine).capture 4 stamp) fun u => { u with tim := s.tim } := by
  have hstamped := s.stamped_step [Reg.TIM_TCAP_F 4] 4 fine
  have hfifo : (s.stamped 4 fine).tim.fifo = s.tim.fifo := rfl
  have hevt' : (s.stamped 4 fine).bit (Reg.TIM_TCAP_CFG 4) 3 = false :=
    (State.bit_of_rg 3 (hstamped.regs _ (by decide))).trans hevt
  generalize s.stamped 4 fine = t at *
  have hroom' : (t.tim.fifo.at 4 []).length < 16 := hfifo ▸ hroom
  have hstep := hstamped.trans (t.entered_step 4 stamp)
  have hlevel := State.entered_level hroom' stamp
  rw [State.capture_pps hroom' stamp hevt', ← hfifo]
  exact ⟨hlevel, hstep.raises, hstep.regs, hstep.onlyRegsAnd⟩

theorem tcapEdge_falling (hsel : s.rf (Reg.TIM_TCAP_CFG n) 1 2 = 0) (fine : Nat) : tcapEdge n false fine s = s := by
  simp [tcapEdge, State.edgeSelected, hsel]

/-- An edge that follows the last one stamped too closely is part of it. -/
theorem tcapEdge_close {fine : Nat} (h0 : s.tim.lastEdge.at n 0 ≠ 0) (h : s.edgeTime fine < s.tim.lastEdge.at n 0 + 512) :
    tcapEdge n true fine s = s := by
  simp [tcapEdge, h0, h]

theorem tcapEdge_stamps (hen : s.bit (Reg.TIM_TCAP_CFG n) 0 = true) (hsel : s.rf (Reg.TIM_TCAP_CFG n) 1 2 = 0)
    (hsrc : s.rf Reg.TIM_CFG 0 2 = 0) {fine : Nat}
    (h : s.tim.lastEdge.at n 0 = 0 ∨ s.tim.lastEdge.at n 0 + 512 ≤ s.edgeTime fine) :
    tcapEdge n true fine s = if n = 4 ∧ 2000000 < (phaseOf (s.edgeStamp fine)).natAbs then
      (s.stamped n fine).wbit Reg.TIM_FLAGS 2 true else (s.stamped n fine).capture n (s.edgeStamp fine) := by
  have hrising : s.edgeSelected n true = true := by simp [State.edgeSelected, hen, hsel]
  have hspaced : ¬ (s.tim.lastEdge.at n 0 ≠ 0 ∧ s.edgeTime fine < s.tim.lastEdge.at n 0 + 512) := by omega
  simp [tcapEdge, hrising, hsrc, hspaced, State.stamped]

/-! ### A pop (R111) -/

/-- The state behind a read of FIFO `n`, left with `l`; its next lost edge is told again (R112). -/
def State.readOut (s : State) (n : Nat) (l : List (Nat × Nat × Nat)) : State :=
  { s with tim := { s.tim with capTold := s.tim.capTold.put n false false, fifo := s.tim.fifo.put n [] l } }

theorem State.readOut_step (s : State) (r : List Nat) (n : Nat) (l : List (Nat × Nat × Nat)) :
    TimeStep r [] s (s.readOut n l) := (TimeStep.refl r s).tim _ rfl

/-- The holding set with an entry in its three registers, and the level shown. -/
def State.held (s : State) (n a b c : Nat) : State :=
  ((((s.wn (Reg.TIM_TCAP_S n) a).wn (Reg.TIM_TCAP_NS n) b).wf (Reg.TIM_TCAP_F n) 0 5 c).wbit (Reg.TIM_TCAP_F n) 16
    false).showLevel n

theorem tcapPop_entry {a b c : Nat} {l : List (Nat × Nat × Nat)} (h : s.tim.fifo.at n [] = (a, b, c) :: l) :
    tcapPop n s = ((s.readOut n l).held n a b c).emit (.readValue (BitVec.ofNat 32 a)) := by
  simp only [tcapPop, State.popFifo, h]
  rfl

theorem tcapPop_empty (h : s.tim.fifo.at n [] = []) : tcapPop n s =
    (({ s with tim := { s.tim with capTold := s.tim.capTold.put n false false } } : State).wbit (Reg.TIM_TCAP_F n) 16 true).emit
      (.readValue 0xffffffff) := by
  simp only [tcapPop, State.popFifo, h]

theorem State.held_step (s : State) (n a b c : Nat) :
    TimeStep [Reg.TIM_TCAP_S n, Reg.TIM_TCAP_NS n, Reg.TIM_TCAP_F n] [] s (s.held n a b c) :=
  (((((TimeStep.refl _ s).wn (by simp) a).wn (by simp) b).wf (by simp) 0 5 c).wbit (by simp) 16 false).wf (by simp) 8 5 _

/-- What the holding set reads (R111). -/
theorem State.held_shows (s : State) (n a b c : Nat) : (s.held n a b c).rg (Reg.TIM_TCAP_S n) = BitVec.ofNat 32 a ∧
    (s.held n a b c).rg (Reg.TIM_TCAP_NS n) = BitVec.ofNat 32 b ∧ (s.held n a b c).rf (Reg.TIM_TCAP_F n) 0 5 = c % 32 := by
  have hsf : Reg.TIM_TCAP_S n ≠ Reg.TIM_TCAP_F n := by unfold Reg.TIM_TCAP_S Reg.TIM_TCAP_F; omega
  have hnf : Reg.TIM_TCAP_NS n ≠ Reg.TIM_TCAP_F n := by unfold Reg.TIM_TCAP_NS Reg.TIM_TCAP_F; omega
  have hsn : Reg.TIM_TCAP_S n ≠ Reg.TIM_TCAP_NS n := by unfold Reg.TIM_TCAP_S Reg.TIM_TCAP_NS; omega
  unfold State.held State.showLevel
  refine ⟨?_, ?_, ?_⟩
  · rw [State.rg_wf_ne _ _ _ _ hsf, State.rg_wbit_ne _ _ _ hsf, State.rg_wf_ne _ _ _ _ hsf, State.rg_wn_ne _ _ hsn, State.rg_wn,
      if_pos rfl]
  · rw [State.rg_wf_ne _ _ _ _ hnf, State.rg_wbit_ne _ _ _ hnf, State.rg_wf_ne _ _ _ _ hnf, State.rg_wn, if_pos rfl]
  · rw [State.rf_wf_apart _ _ _ (by decide) (by decide), State.rf_wbit_apart _ _ _ (by decide) (by decide),
      State.rf_wf_same _ _ _ _ _ (by decide)]
    rfl

/-! ### The commands -/

section Command

variable {k : Fin 5}

theorem onMain_of_running (hrun : s.running = true) : s.onMain = true := (Bool.and_eq_true_iff.1 hrun).1

theorem does_tcapPop_entry (hrun : s.running = true) (hready : s.sys.ready = true) {a b c : Nat} {l : List (Nat × Nat × Nat)}
    (h : s.tim.fifo.at k.val [] = (a, b, c) :: l) : Does (.tcapPop k) s fun u => u.tim.fifo.at k.val [] = l ∧
      u.rg (Reg.TIM_TCAP_S k.val) = BitVec.ofNat 32 a ∧ u.rg (Reg.TIM_TCAP_NS k.val) = BitVec.ofNat 32 b ∧
      u.rf (Reg.TIM_TCAP_F k.val) 0 5 = c % 32 ∧ u.out = .readValue (BitVec.ofNat 32 a) :: s.out ∧ Raises s u [] ∧
      KeepsRegs s u [Reg.TIM_TCAP_S k.val, Reg.TIM_TCAP_NS k.val, Reg.TIM_TCAP_F k.val] ∧ KeepsMem s u := by
  have hstep := (s.readOut_step _ k.val l).trans ((s.readOut k.val l).held_step k.val a b c)
  obtain ⟨hs, hns, hf⟩ := (s.readOut k.val l).held_shows k.val a b c
  have hfifo : ((s.readOut k.val l).held k.val a b c).tim.fifo.at k.val [] = l := Tab.get_set_same (fun _ => []) _ k.val l
  refine Does_access s (fun s => if s.sys.ready then tcapPop k.val s else s.emit (.readValue 0)) rfl (onMain_of_running hrun) ?_
  rw [if_pos hready, tcapPop_entry h]
  generalize (s.readOut k.val l).held k.val a b c = t at *
  exact ⟨hfifo, hs, hns, hf, congrArg (List.cons _) hstep.out, hstep.raises, hstep.regs, keepsMem_of_mem hstep.mem⟩

theorem does_tcapPop_empty (hrun : s.running = true) (hready : s.sys.ready = true) (h : s.tim.fifo.at k.val [] = []) :
    Does (.tcapPop k) s fun u => u.bit (Reg.TIM_TCAP_F k.val) 16 = true ∧ u.out = .readValue 0xffffffff :: s.out ∧
      Raises s u [] ∧ KeepsRegs s u [Reg.TIM_TCAP_F k.val] := by
  have hstep := ((TimeStep.refl [Reg.TIM_TCAP_F k.val] s).tim
    { s.tim with capTold := s.tim.capTold.put k.val false false } rfl).wbit (List.mem_singleton_self _) 16 true
  have hempty := State.bit_wbit_same { s with tim := { s.tim with capTold := s.tim.capTold.put k.val false false } }
    (Reg.TIM_TCAP_F k.val) (i := 16) true (by decide)
  refine Does_access s (fun s => if s.sys.ready then tcapPop k.val s else s.emit (.readValue 0)) rfl (onMain_of_running hrun) ?_
  rw [if_pos hready, tcapPop_empty h]
  generalize State.wbit _ (Reg.TIM_TCAP_F k.val) 16 true = t at *
  exact ⟨hempty, congrArg (List.cons _) hstep.out, hstep.raises, hstep.regs⟩

theorem leaves_tcapEdge_falling (hrun : s.running = true) (hsel : s.rf (Reg.TIM_TCAP_CFG k.val) 1 2 = 0) {fine : Fin 64} :
    Leaves (.tcapEdge k false fine) s :=
  Leaves_main s (tcapEdge k.val false fine.val) rfl hrun (tcapEdge_falling hsel fine.val)

theorem leaves_tcapEdge_close (hrun : s.running = true) {fine : Fin 64} (h0 : s.tim.lastEdge.at k.val 0 ≠ 0)
    (h : s.edgeTime fine.val < s.tim.lastEdge.at k.val 0 + 512) : Leaves (.tcapEdge k true fine) s :=
  Leaves_main s (tcapEdge k.val true fine.val) rfl hrun (tcapEdge_close h0 h)

variable (hrun : s.running = true) (hen : s.bit (Reg.TIM_TCAP_CFG k.val) 0 = true) (hsel : s.rf (Reg.TIM_TCAP_CFG k.val) 1 2 = 0)
  (hsrc : s.rf Reg.TIM_CFG 0 2 = 0) {fine : Fin 64}
  (hspaced : s.tim.lastEdge.at k.val 0 = 0 ∨ s.tim.lastEdge.at k.val 0 + 512 ≤ s.edgeTime fine.val)
include hrun hen hsel hsrc hspaced

/-- An edge of PPS_IN too far from a stack second is discarded (R114). -/
theorem does_tcapEdge_discarded (hk : k.val = 4) (hfar : 2000000 < (phaseOf (s.edgeStamp fine.val)).natAbs) :
    Does (.tcapEdge k true fine) s fun u => u.bit Reg.TIM_FLAGS 2 = true ∧ u.tim.fifo = s.tim.fifo ∧ Raises s u [] ∧
      KeepsRegs s u [Reg.TIM_FLAGS] ∧ OnlyRegsAnd s u fun u => { u with tim.lastEdge := s.tim.lastEdge } := by
  have hstep := (s.stamped_step [Reg.TIM_FLAGS] k.val fine.val).wbit (List.mem_singleton_self _) 2 true
  refine Does_main s (tcapEdge k.val true fine.val) rfl hrun ?_
  rw [tcapEdge_stamps hen hsel hsrc hspaced, if_pos ⟨hk, hfar⟩]
  exact ⟨State.bit_wbit_same _ _ true (by decide), rfl, hstep.raises, hstep.regs, rfl⟩

/-- Any other edge enters the FIFO or is lost. -/
theorem Does_tcapEdge {P : State → Prop} (hnear : k.val = 4 → (phaseOf (s.edgeStamp fine.val)).natAbs ≤ 2000000)
    (hp : P ((s.stamped k.val fine.val).capture k.val (s.edgeStamp fine.val))) : Does (.tcapEdge k true fine) s P := by
  refine Does_main s (tcapEdge k.val true fine.val) rfl hrun ?_
  rwa [tcapEdge_stamps hen hsel hsrc hspaced, if_neg fun hfar => absurd (hnear hfar.1) (not_le.2 hfar.2)]

variable (hnear : k.val = 4 → (phaseOf (s.edgeStamp fine.val)).natAbs ≤ 2000000)
include hnear

theorem does_tcapEdge_enters (hroom : (s.tim.fifo.at k.val []).length < 16) : Does (.tcapEdge k true fine) s fun u =>
    u.tim.fifo.at k.val [] = s.tim.fifo.at k.val [] ++ [stampParts (s.edgeStamp fine.val)] ∧ KeepsMem s u ∧
      (k.val = 4 → s.bit (Reg.TIM_TCAP_CFG 4) 3 = false →
        u.rf (Reg.TIM_TCAP_F 4) 8 5 = (s.tim.fifo.at 4 []).length + 1 ∧ Raises s u [] ∧ KeepsRegs s u [Reg.TIM_TCAP_F 4] ∧
          OnlyRegsAnd s u fun u => { u with tim := s.tim }) := by
  obtain ⟨stamp, hstamp⟩ : ∃ stamp, stamp = s.edgeStamp fine.val := ⟨_, rfl⟩
  refine Does_tcapEdge hrun hen hsel hsrc hspaced hnear ?_
  rw [← hstamp]
  obtain ⟨hfifo, hmem⟩ := State.capture_fifo (s := s.stamped k.val fine.val) hroom stamp
  refine ⟨hfifo, hmem, fun hk hevt => ?_⟩
  rw [hk] at hroom ⊢
  exact s.stamped_enters_pps fine.val stamp hroom hevt

theorem does_tcapEdge_lost (hfull : 16 ≤ (s.tim.fifo.at k.val []).length) (htold : s.tim.capTold.at k.val false = false) :
    Does (.tcapEdge k true fine) s fun u => u.tim.fifo = s.tim.fifo ∧
      u.rn (Reg.TIM_TCAP_LOST k.val) = min (s.rn (Reg.TIM_TCAP_LOST k.val) + 1) 4294967295 ∧
      Raises s u [(0x0221, k.val, [k.val])] ∧ KeepsRegs s u [Reg.TIM_TCAP_LOST k.val] := by
  obtain ⟨stamp, hstamp⟩ : ∃ stamp, stamp = s.edgeStamp fine.val := ⟨_, rfl⟩
  refine Does_tcapEdge hrun hen hsel hsrc hspaced hnear ?_
  rw [← hstamp]
  have hstep := (s.stamped_step _ k.val fine.val).trans (State.capture_lost_step (s := s.stamped k.val fine.val) hfull htold stamp)
  refine ⟨?_, ?_, hstep.raises, hstep.regs⟩
  · rw [State.capture_lost (s := s.stamped k.val fine.val) hfull htold]
    rfl
  · rw [State.capture_lost (s := s.stamped k.val fine.val) hfull htold, State.rn_raise, State.rn_count]
    rfl

end Command

end Capture

end Sys2Proof.Machine

open Sys2Proof Sys2Proof.Machine Sys2Proof.Safety

/-- Settles O9: a selected edge that stands apart is discarded, enters the FIFO or is lost, and a pop moves the oldest entry to the
holding set. -/
theorem captureInputs : Obligations.CaptureInputs := by
  unfold Obligations.CaptureInputs
  refine fun s n fine a b c hrun hen hsel hsrc hparts => ⟨leaves_tcapEdge_falling hrun hsel,
    fun hspaced => ⟨does_tcapEdge_discarded hrun hen hsel hsrc hspaced,
      fun hnear => ⟨?_, does_tcapEdge_lost hrun hen hsel hsrc hspaced hnear⟩⟩,
    leaves_tcapEdge_close hrun,
    fun hready => ⟨fun x y z l => does_tcapPop_entry hrun hready, does_tcapPop_empty hrun hready⟩⟩
  rw [hparts]
  exact does_tcapEdge_enters hrun hen hsel hsrc hspaced hnear
end

section
/-! PROOFS. What the boundary does to the ring-state sets, and how an owner without ARMV is ranked (R171, R252, R270, R271): two
states that refute what is said of them. -/

namespace Sys2Proof.Machine

open Safety

/-- A command that answers `w` says of `w`'s ring what it does to any. -/
theorem Does_ring_eq {c : Instr} {s w : State} {P : State → Prop} (h : Does c s P) (he : exec c s = .next w.flush) :
    ∃ u, P u ∧ u.ring = w.ring := by
  obtain ⟨u, hu, hp⟩ := h
  have hflush : u.flush = w.flush := Host.Outcome.next.inj (hu.symm.trans he)
  have hring (t : State) : t.flush.ring = t.ring := by
    obtain ⟨e, q, hq⟩ := t.flush_queuesOnly
    rw [hq]
  exact ⟨u, hp, by rw [← hring u, hflush, hring]⟩

/-! ### A ring-state set that was forwarded (R252) -/

/-- Before any image, the device has forwarded a ring-state set of node 1 in this control period. -/
def setForwarded : State := { sys.por := false, sys.ready := true, ring.sets := [(1, 0, false)] }

theorem setForwarded_quiet : QuietBoundary setForwarded := by decide +kernel

/-- The boundary forgets the sets forwarded, with or without an image in force. -/
theorem setForwarded_forgets : (periodBoundary setForwarded).ring.sets = [] := by decide +kernel

/-! ### A group whose owner gives no arm sign (R271) -/

/-- Group 0 ranks cells 0 and 1 by their arm sign (KEY 2). The entry of its owner, node 1, is not held, and so ARMV is not given;
the cells have the values 1 and 2. -/
def armDefaulted : State :=
  { regs := [(Reg.STR_GCFG 0, 21), (Reg.STR_GMAP 0, 0x1010)]
    mem := [(0x400000, 1), (0x400006, 0x10), (0x400008, 2), (0x40000e, 0x10), (0x403400, 1)]
    ring.closedMem := 1 }

theorem armDefaulted_rankedSet : armDefaulted.rankedSet 0 0 = [0, 1] := by decide +kernel

/-- The sort takes the sign as 1, so that the smaller value comes first. -/
theorem armDefaulted_ranks :
    rankIn (armDefaulted.sortKeys 0 0) 0 = some 0 ∧ rankIn (armDefaulted.sortKeys 0 0) 1 = some 1 := by
  rw [State.sortKeys, armDefaulted_rankedSet]
  decide

/-- The sign 0 of the absent header would put the larger value first. -/
theorem armDefaulted_metrics : metricOf armDefaulted 0 0 0 = 65534 ∧ metricOf armDefaulted 0 0 1 = 65533 := by decide

end Sys2Proof.Machine

open Sys2Proof Sys2Proof.Machine Sys2Proof.Safety

/-- Refutes O22: a device without an image that forwarded a ring-state set forgets it at the boundary (R252), while the first
clause leaves the whole ring as it was. -/
theorem not_periodBoundary : ¬ Obligations.PeriodBoundary := by
  unfold Obligations.PeriodBoundary
  intro h
  obtain ⟨hidle, -⟩ := h setForwarded (by decide) setForwarded_quiet
  have he : exec .controlPeriodBoundary setForwarded = .next (periodBoundary setForwarded).flush :=
    State.main_on setForwarded periodBoundary (by decide)
  obtain ⟨u, ⟨-, -, hkept, -⟩, hring⟩ := Does_ring_eq (hidle (by decide) (by decide) (by decide) (by decide)) he
  have hsets : setForwarded.ring.sets = [] := by rw [← hkept, hring, setForwarded_forgets]
  exact absurd hsets (by decide)

/-- Refutes O21: where the owner of a group gives no arm sign the sort takes it as 1 (R271), while the metric of the last clause
takes the sign 0 of the header that is not held, and so orders the cells the other way. -/
theorem not_measurementSetAndStrata : ¬ Obligations.MeasurementSetAndStrata := by
  unfold Obligations.MeasurementSetAndStrata
  rintro ⟨-, -, -, hranks⟩
  have hmem : ∀ g ∈ [0, 1], g ∈ armDefaulted.rankedSet 0 0 := by simp [armDefaulted_rankedSet]
  obtain ⟨p, q, hp, hq, -, -, horder⟩ := hranks armDefaulted 0 0 0 1 (hmem 0 (by decide)) (hmem 1 (by decide))
  obtain ⟨hrank0, hrank1⟩ := armDefaulted_ranks
  obtain ⟨hmetric0, hmetric1⟩ := armDefaulted_metrics
  obtain rfl : 0 = p := Option.some.inj (hrank0.symm.trans hp)
  obtain rfl : 1 = q := Option.some.inj (hrank1.symm.trans hq)
  rw [hmetric0, hmetric1] at horder
  exact absurd (horder.1 one_pos) (by decide)
end

section
/-! PROOFS. Steps of measurement: registers, the hidden state of channels and converters, and events. -/

namespace Sys2Proof.Machine

open Safety

/-! ### Steps of measurement -/

/-- Registers of the list, the hidden state of measurement and the events listed differ. -/
structure MeasStep (l : List Nat) (e : List (Nat × Nat × List Nat)) (s t : State) : Prop where
  regs : KeepsRegs s t l
  raises : Raises s t e
  only : ∃ r m b, t = { s with regs := r, meas := m, evt.batch := b }

namespace MeasStep

variable {l : List Nat} {e f : List (Nat × Nat × List Nat)} {s t u : State}

theorem refl (l : List Nat) (s : State) : MeasStep l [] s s := ⟨fun _ _ => rfl, raises_none rfl, _, _, _, rfl⟩

theorem tim (h : MeasStep l e s t) : t.tim = s.tim := by obtain ⟨_, _, _, rfl⟩ := h.only; rfl

theorem now (h : MeasStep l e s t) : t.now = s.now := by obtain ⟨_, _, _, rfl⟩ := h.only; rfl

theorem keys (h : MeasStep l e s t) : t.keys = s.keys := by obtain ⟨_, _, _, rfl⟩ := h.only; rfl

theorem keepsMem (h : MeasStep l e s t) : KeepsMem s t := by obtain ⟨_, _, _, rfl⟩ := h.only; exact keepsMem_of_mem rfl

theorem trans (h : MeasStep l e s t) (k : MeasStep l f t u) : MeasStep l (e ++ f) s u := by
  refine ⟨fun a ha => (k.regs a ha).trans (h.regs a ha), raises_trans h.raises k.raises h.tim, ?_⟩
  obtain ⟨_, _, _, rfl⟩ := h.only
  obtain ⟨_, _, _, rfl⟩ := k.only
  exact ⟨_, _, _, rfl⟩

theorem mono {l' : List Nat} (hl : ∀ a ∈ l, a ∈ l') (h : MeasStep l e s t) : MeasStep l' e s t :=
  ⟨fun a ha => h.regs a fun hm => ha (hl a hm), h.raises, h.only⟩

theorem wr (h : MeasStep l e s t) {a : Nat} (v : Word) (ha : a ∈ l) : MeasStep l e s (t.wr a v) := by
  refine ⟨fun b hb => ((t.wr_sameTick v ha).regs b hb).trans (h.regs b hb), h.raises, ?_⟩
  obtain ⟨_, _, _, rfl⟩ := h.only
  exact ⟨_, _, _, rfl⟩

theorem wf (h : MeasStep l e s t) {a : Nat} (ha : a ∈ l) (lo n v : Nat) : MeasStep l e s (t.wf a lo n v) := h.wr _ ha

theorem wbit (h : MeasStep l e s t) {a : Nat} (ha : a ∈ l) (i : Nat) (b : Bool) : MeasStep l e s (t.wbit a i b) := h.wr _ ha

theorem wn (h : MeasStep l e s t) {a : Nat} (ha : a ∈ l) (v : Nat) : MeasStep l e s (t.wn a v) := h.wr _ ha

theorem meas (h : MeasStep l e s t) (m : Meas) : MeasStep l e s { t with meas := m } := by
  refine ⟨h.regs, h.raises, ?_⟩
  obtain ⟨_, _, _, rfl⟩ := h.only
  exact ⟨_, _, _, rfl⟩

theorem raise (h : MeasStep l e s t) (c n : Nat) (d : List Nat) : MeasStep l (e ++ [(c, n, d)]) s (t.raise c n d) := by
  refine ⟨h.regs, raises_trans h.raises (t.raise_raises c n d) h.tim, ?_⟩
  obtain ⟨_, _, _, rfl⟩ := h.only
  exact ⟨_, _, _, rfl⟩

theorem ite {p : Prop} [Decidable p] (h : MeasStep l e s t) (k : MeasStep l e s u) : MeasStep l e s (if p then t else u) := by
  split
  · exact h
  · exact k

/-- A step that leaves the hidden state of measurement but for a part, which `f` takes back. -/
theorem onlyRegsAnd (h : MeasStep l e s t) {f : Meas → Meas} (hm : f t.meas = s.meas) :
    OnlyRegsAnd s t fun u => { u with meas := f u.meas } := by
  obtain ⟨r, m, b, rfl⟩ := h.only
  exact congrArg (fun m => ({ s with meas := m } : State)) hm

theorem onlyRegs (h : MeasStep l e s t) (hm : t.meas = s.meas) : OnlyRegs s t := by
  obtain ⟨r, m, b, rfl⟩ := h.only
  subst hm
  rfl

end MeasStep

/-! ### Commands -/

/-- A command of the main domain completes with the state that it is known to come to. -/
theorem Does_main_eq {s u : State} {c : Instr} {P : State → Prop} (f : State → State) (he : exec c s = s.main f)
    (h : s.running = true) (hu : f s = u) (hp : P u) : Does c s P :=
  Does_main s f he h (hu ▸ hp)

/-! ### Counters -/

theorem State.rn_eq_rf (s : State) (a : Nat) : s.rn a = s.rf a 0 32 := by
  rw [State.rn, State.rf, fld, pow_zero, Nat.div_one, Nat.mod_eq_of_lt (s.rg a).isLt]

/-- A register that saturates at its 32 bits, behind an addition. -/
theorem State.rn_satAdd (s : State) (a k : Nat) : (s.satAdd a 0 32 k).rn a = min (s.rn a + k) 4294967295 := by
  have hsame : (s.satAdd a 0 32 k).rf a 0 32 = min (s.rf a 0 32 + k) (2 ^ 32 - 1) % 2 ^ 32 := s.rf_wf_same a 0 32 _ (by decide)
  rw [State.rn_eq_rf, State.rn_eq_rf, hsame]
  omega

end Sys2Proof.Machine
end

section
/-! PROOFS. The sinc filters at full scale, and the results of the decimators (R119 to R126). -/

namespace Sys2Proof.Machine

open Safety

/-! ### Windows of one value (R124, R126) -/

/-- The windows of a constant list sum to one value. -/
theorem boxcar_replicate (r n : Nat) (x : Int) : boxcar r (List.replicate n x) = List.replicate (n + 1 - r) (r * x) := by
  refine List.eq_replicate_of_mem (a := (r : Int) * x) ?_ |>.trans (by simp [boxcar])
  intro y hy
  obtain ⟨i, hi, rfl⟩ := List.mem_map.1 hy
  have hin : i + r ≤ n := by simp at hi; omega
  simp [show min r (n - i) = r by omega]

theorem lastValues_of_const {n : Nat} {l : List Int} {x : Int} (h : ∀ y ∈ l, y = x) (hn : n ≤ l.length) :
    lastValues n l = List.replicate n x := by
  obtain ⟨m, rfl⟩ : ∃ m, l = List.replicate m x := ⟨_, List.eq_replicate_of_mem h⟩
  rw [List.length_replicate] at hn
  simp [lastValues, Nat.sub_eq_zero_of_le hn, Nat.sub_sub_self hn]

section Const

variable {r : Nat} (hr : 0 < r) {l : List Int} {x : Int} (hl : ∀ y ∈ l, y = x)
include hr hl

theorem sinc3Sum_of_const (hn : 3 * r - 2 ≤ l.length) : sinc3Sum r l = x * r ^ 3 := by
  rw [sinc3Sum, lastValues_of_const hl hn, boxcar_replicate, boxcar_replicate, boxcar_replicate,
    show 3 * r - 2 + 1 - r + 1 - r + 1 - r = 1 by omega]
  simp only [List.replicate_one, List.headD_cons]
  ring

theorem sinc2Sum_of_const (hn : 2 * r - 1 ≤ l.length) : sinc2Sum r l = x * r ^ 2 := by
  rw [sinc2Sum, lastValues_of_const hl hn, boxcar_replicate, boxcar_replicate, show 2 * r - 1 + 1 - r + 1 - r = 1 by omega]
  simp only [List.replicate_one, List.headD_cons]
  ring

omit hr hl in
/-- A whole quotient is not rounded. -/
theorem roundAway_mul (k : Int) {d : Nat} (hd : 0 < d) : roundAway (k * d) d = k := by
  have hd' : (0 : Int) < d := by exact_mod_cast hd
  have hwhole (m : Int) : (2 * (m * d) + d) / ((2 * d : Nat) : Int) = m := by
    rw [Nat.cast_mul, Nat.cast_ofNat, show 2 * (m * d) + d = d + m * (2 * d) by ring, Int.add_mul_ediv_right _ _ (by omega),
      Int.ediv_eq_zero_of_lt (by omega) (by omega), zero_add]
  rw [roundAway, hwhole, ← neg_mul, hwhole, neg_neg, ite_self]

theorem sinc3Code_of_const (hn : 3 * r - 2 ≤ l.length) :
    sinc3Code r l = clampInt (-8388608) 8388607 (x * 8388608) := by
  have hscaled : x * r ^ 3 * 8388608 = x * 8388608 * ((r ^ 3 : Nat) : Int) := by push_cast; ring
  rw [sinc3Code, sinc3Sum_of_const hr hl hn, hscaled, roundAway_mul _ (Nat.pow_pos hr)]

theorem sinc2Code_of_const (hn : 2 * r - 1 ≤ l.length) : sinc2Code r l = clampInt (-32768) 32767 (x * 32768) := by
  have hscaled : x * r ^ 2 * 32768 = x * 32768 * ((r ^ 2 : Nat) : Int) := by push_cast; ring
  rw [sinc2Code, sinc2Sum_of_const hr hl hn, hscaled, roundAway_mul _ (Nat.pow_pos hr)]

end Const

/-! ### Channels -/

variable {s t : State} {c : Nat}

theorem sdOn_of_rg (h : t.rg (Reg.SDM_CFG c) = s.rg (Reg.SDM_CFG c)) : t.sdOn c = s.sdOn c := State.bit_of_rg 0 h

theorem sdValues_of_rg (h : t.rg (Reg.SDM_CFG c) = s.rg (Reg.SDM_CFG c)) (bits : List (Option Bool)) :
    t.sdValues c bits = s.sdValues c bits := by rw [State.sdValues, State.bit_of_rg 1 h, State.sdValues]

theorem sdFaulted_of_meas (h : t.meas = s.meas) : t.sdFaulted c = s.sdFaulted c := by rw [State.sdFaulted, h, State.sdFaulted]

/-- Channels show in SDM_STAT alone. -/
theorem State.showSdm_step (s : State) : MeasStep [Reg.SDM_STAT] [] s s.showSdm :=
  (MeasStep.refl _ s).wn (List.mem_singleton_self _) _

/-! ### Recovery (R123) -/

theorem State.recover_false (s : State) (c : Nat) : s.recover c false = s := rfl

theorem State.recover_step (s : State) (c : Nat) (qual : Bool) : MeasStep [Reg.SDM_STAT] [] s (s.recover c qual) :=
  MeasStep.ite (((MeasStep.refl _ s).meas _).trans (State.showSdm_step _)) (MeasStep.refl _ s)

theorem State.recover_meas (s : State) (c : Nat) (qual : Bool) : ∃ r, (s.recover c qual).meas = { s.meas with recov := r } := by
  unfold State.recover
  split
  · exact ⟨_, rfl⟩
  · exact ⟨_, rfl⟩

theorem State.recover_sdFaulted (s : State) (c : Nat) (qual : Bool) :
    (s.recover c qual).sdFaulted c = (s.sdFaulted c && !qual) := by
  unfold State.recover
  split
  next h =>
    obtain ⟨rfl, hf⟩ := Bool.and_eq_true_iff.1 h
    rw [Bool.not_true, Bool.and_false]
    exact Bool.and_eq_false_iff.2 (.inr (congrArg not (Tab.get_set_same (fun _ => false) s.meas.recov c true)))
  next h => cases qual <;> simp_all

/-! ### A frame (R119, R120, R124, R125) -/

/-- The state with `k` more violations of channel `c` counted, and its rate shown. -/
def State.frameShown (s : State) (c k rate : Nat) : State :=
  ({ s.satAdd (Reg.SDM_CV c) 0 32 k with meas.cvSeen := s.meas.cvSeen.put c 0 0 } : State).wf (Reg.SDM_RATE c) 0 16 rate

/-- The state with the result `v` of channel `c` shown. -/
def State.resultShown (s : State) (c : Nat) (v : Int) : State :=
  { s.wf (Reg.SDM_RES c) 0 24 (unsigned 24 v) with meas.done := s.meas.done.put c 0 s.now }

theorem State.frameShown_step (s : State) (c k rate : Nat) :
    MeasStep [Reg.SDM_RATE c, Reg.SDM_CV c] [] s (s.frameShown c k rate) :=
  (((MeasStep.refl _ s).wf (by simp) 0 32 _).meas { s.meas with cvSeen := s.meas.cvSeen.put c 0 0 }).wf (by simp) 0 16 rate

theorem State.frameShown_meas (s : State) (c k rate : Nat) :
    (s.frameShown c k rate).meas = { s.meas with cvSeen := s.meas.cvSeen.put c 0 0 } := rfl

theorem State.frameShown_rate (s : State) (c k : Nat) (rate : BitVec 16) :
    (s.frameShown c k rate.toNat).rf (Reg.SDM_RATE c) 0 16 = rate.toNat :=
  (State.rf_wf_same _ _ _ _ _ (by decide)).trans (Nat.mod_eq_of_lt rate.isLt)

theorem State.frameShown_cv (s : State) (c k rate : Nat) :
    (s.frameShown c k rate).rn (Reg.SDM_CV c) = min (s.rn (Reg.SDM_CV c) + k) 4294967295 := by
  have hne : Reg.SDM_CV c ≠ Reg.SDM_RATE c := by unfold Reg.SDM_CV Reg.SDM_RATE; omega
  rw [State.frameShown, State.rn_of_rg (State.rg_wf_ne _ _ _ _ hne)]
  exact s.rn_satAdd _ k

theorem State.resultShown_step (s : State) (c : Nat) (v : Int) : MeasStep [Reg.SDM_RES c] [] s (s.resultShown c v) :=
  ((MeasStep.refl _ s).wf (List.mem_singleton_self _) 0 24 _).meas _

theorem State.resultShown_meas (s : State) (c : Nat) (v : Int) :
    (s.resultShown c v).meas = { s.meas with done := s.meas.done.put c 0 s.now } := rfl

theorem State.resultShown_res (s : State) (c : Nat) (v : Int) :
    (s.resultShown c v).rf (Reg.SDM_RES c) 0 24 = unsigned 24 v ∧
    (s.resultShown c v).rf (Reg.SDM_RES c) 24 8 = s.rf (Reg.SDM_RES c) 24 8 := by
  have hlt : unsigned 24 v < 2 ^ 24 := by unfold unsigned; omega
  exact ⟨(s.rf_wf_same _ 0 24 _ (by decide)).trans (Nat.mod_eq_of_lt hlt), s.rf_wf_apart _ _ (by decide) (.inl (by decide))⟩

/-! ### A result at its completion tick -/

/-- The violations of the frame that ends which SDM_CV does not hold yet. -/
def State.newViolations (s : State) (c : Nat) (bits : List (Option Bool)) : Nat :=
  ((bits.drop (bits.length - s.rf (Reg.SDM_CFG c) 8 9)).filter Option.isNone).length - s.meas.cvSeen.at c 0

/-- What a frame shows of an enabled channel whatever its faults: violations, rate, and its recovery. -/
def State.frameEnded (s : State) (c : Nat) (bits : List (Option Bool)) (rate : Nat) (qual : Bool) : State :=
  (s.frameShown c (s.newViolations c bits) rate).recover c qual

theorem sincResult_off {bits : List (Option Bool)} {rate : Nat} {qual : Bool} (h : s.sdOn c = false) :
    sincResult c bits rate qual s = s := by simp [sincResult, h]

theorem State.frameEnded_step (s : State) (c : Nat) (bits : List (Option Bool)) (rate : Nat) (qual : Bool) :
    MeasStep [Reg.SDM_RATE c, Reg.SDM_CV c, Reg.SDM_STAT] [] s (s.frameEnded c bits rate qual) :=
  ((s.frameShown_step c _ rate).mono (by simp)).trans ((State.recover_step _ c qual).mono (by simp))

theorem State.frameEnded_cfg (s : State) (c : Nat) (bits : List (Option Bool)) (rate : Nat) (qual : Bool) :
    (s.frameEnded c bits rate qual).rg (Reg.SDM_CFG c) = s.rg (Reg.SDM_CFG c) :=
  (s.frameEnded_step c bits rate qual).regs _ (by simp [Reg.SDM_CFG, Reg.SDM_RATE, Reg.SDM_CV, Reg.SDM_STAT]; omega)

theorem State.frameEnded_sdFaulted (s : State) (c : Nat) (bits : List (Option Bool)) (rate : Nat) (qual : Bool) :
    (s.frameEnded c bits rate qual).sdFaulted c = (s.sdFaulted c && !qual) := State.recover_sdFaulted _ c qual

theorem State.frameEnded_rate (s : State) (c : Nat) (bits : List (Option Bool)) (rate : BitVec 16) (qual : Bool) :
    (s.frameEnded c bits rate.toNat qual).rf (Reg.SDM_RATE c) 0 16 = rate.toNat := by
  have hne : Reg.SDM_RATE c ∉ [Reg.SDM_STAT] := by simp [Reg.SDM_RATE, Reg.SDM_STAT]; omega
  rw [State.frameEnded, State.rf_of_rg 0 16 ((State.recover_step _ c qual).regs _ hne), State.frameShown_rate]

theorem State.frameEnded_cv (s : State) (c : Nat) (bits : List (Option Bool)) (rate : Nat) (qual : Bool) :
    (s.frameEnded c bits rate qual).rn (Reg.SDM_CV c) = min (s.rn (Reg.SDM_CV c) + s.newViolations c bits) 4294967295 := by
  have hne : Reg.SDM_CV c ∉ [Reg.SDM_STAT] := by simp [Reg.SDM_CV, Reg.SDM_STAT]; omega
  rw [State.frameEnded, State.rn_of_rg ((State.recover_step _ c qual).regs _ hne), State.frameShown_cv]

theorem State.frameEnded_meas (s : State) (c : Nat) (bits : List (Option Bool)) (rate : Nat) (qual : Bool) :
    ∃ v r, (s.frameEnded c bits rate qual).meas = { s.meas with cvSeen := v, recov := r } := by
  obtain ⟨r, hr⟩ := (s.frameShown c (s.newViolations c bits) rate).recover_meas c qual
  exact ⟨_, r, hr⟩

theorem sincResult_shows {bits : List (Option Bool)} {rate : Nat} {qual : Bool} (hon : s.sdOn c = true)
    (hgood : s.sdFaulted c = false ∨ qual = true) : sincResult c bits rate qual s =
      (s.frameEnded c bits rate qual).resultShown c (sinc3Code (s.rf (Reg.SDM_CFG c) 8 9) (s.sdValues c bits)) := by
  have hfree : (s.frameEnded c bits rate qual).sdFaulted c = false := by
    rw [State.frameEnded_sdFaulted]
    rcases hgood with h | h <;> simp [h]
  rw [← sdValues_of_rg (s.frameEnded_cfg c bits rate qual)]
  simp only [sincResult, hon, Bool.not_true, Bool.false_eq_true, if_false]
  exact if_neg (Bool.eq_false_iff.1 hfree)

theorem sincResult_frozen {bits : List (Option Bool)} {rate : Nat} (hon : s.sdOn c = true) (hf : s.sdFaulted c = true) :
    sincResult c bits rate false s = s.frameShown c (s.newViolations c bits) rate := by
  simp only [sincResult, hon, Bool.not_true, Bool.false_eq_true, if_false]
  exact if_pos hf

/-! ### The commands -/

section Command

variable {k : Chan} (hrun : s.running = true) {bits : List (Option Bool)} {rate : BitVec 16} {r cv : Nat}
  (hcv : cv = min (s.rn (Reg.SDM_CV k.val) + s.newViolations k.val bits) 4294967295)
include hrun

include hcv in
theorem does_sinc3Result_shows (hr : r = s.rf (Reg.SDM_CFG k.val) 8 9) (hon : s.sdOn k.val = true) {qual : Bool}
    (hgood : s.sdFaulted k.val = false ∨ qual = true) : Does (.sinc3Result k bits (rate, qual)) s fun u =>
      u.rf (Reg.SDM_RES k.val) 0 24 = unsigned 24 (sinc3Code r (s.sdValues k.val bits)) ∧
      u.rf (Reg.SDM_RES k.val) 24 8 = s.rf (Reg.SDM_RES k.val) 24 8 ∧ u.rf (Reg.SDM_RATE k.val) 0 16 = rate.toNat ∧
      u.rn (Reg.SDM_CV k.val) = cv ∧ u.meas.done.at k.val 0 = s.now ∧ u.sdFaulted k.val = false ∧ Raises s u [] ∧
      KeepsRegs s u [Reg.SDM_RES k.val, Reg.SDM_RATE k.val, Reg.SDM_CV k.val, Reg.SDM_STAT] ∧ OnlyRegsAnd s u fun u =>
        { u with meas.done := s.meas.done, meas.cvSeen := s.meas.cvSeen, meas.recov := s.meas.recov } := by
  subst hr hcv
  refine Does_main s (sincResult k.val bits rate.toNat qual) rfl hrun ?_
  rw [sincResult_shows hon hgood]
  have hframe := s.frameEnded_step k.val bits rate.toNat qual
  have hrate := s.frameEnded_rate k.val bits rate qual
  have hcv := s.frameEnded_cv k.val bits rate.toNat qual
  have hfaulted : (s.frameEnded k.val bits rate.toNat qual).sdFaulted k.val = false := by
    rw [State.frameEnded_sdFaulted]
    rcases hgood with h | h <;> simp [h]
  obtain ⟨v, x, hmeas⟩ := s.frameEnded_meas k.val bits rate.toNat qual
  generalize s.frameEnded k.val bits rate.toNat qual = t at *
  generalize sinc3Code (s.rf (Reg.SDM_CFG k.val) 8 9) (s.sdValues k.val bits) = code
  obtain ⟨hres, hkept⟩ := t.resultShown_res k.val code
  have hresult := t.resultShown_step k.val code
  have hstep : MeasStep [Reg.SDM_RES k.val, Reg.SDM_RATE k.val, Reg.SDM_CV k.val, Reg.SDM_STAT] [] s (t.resultShown k.val code) :=
    (hframe.mono (by simp)).trans (hresult.mono (by simp))
  have hresFrame : Reg.SDM_RES k.val ∉ [Reg.SDM_RATE k.val, Reg.SDM_CV k.val, Reg.SDM_STAT] := by
    simp [Reg.SDM_RES, Reg.SDM_RATE, Reg.SDM_CV, Reg.SDM_STAT]; omega
  have hrateRes : Reg.SDM_RATE k.val ∉ [Reg.SDM_RES k.val] := by
    rw [List.mem_singleton]; unfold Reg.SDM_RATE Reg.SDM_RES; omega
  have hcvRes : Reg.SDM_CV k.val ∉ [Reg.SDM_RES k.val] := by
    rw [List.mem_singleton]; unfold Reg.SDM_CV Reg.SDM_RES; omega
  refine ⟨hres, hkept.trans (State.rf_of_rg _ _ (hframe.regs _ hresFrame)),
    (State.rf_of_rg _ _ (hresult.regs _ hrateRes)).trans hrate, (State.rn_of_rg (hresult.regs _ hcvRes)).trans hcv,
    (Tab.get_set_same (fun _ => 0) _ _ _).trans hframe.now, hfaulted, hstep.raises, hstep.regs, ?_⟩
  refine hstep.onlyRegsAnd (f := fun m => { m with done := s.meas.done, cvSeen := s.meas.cvSeen, recov := s.meas.recov }) ?_
  rw [State.resultShown_meas, hmeas]

include hcv in
/-- The result of a faulted channel is frozen, its rate and violations show (R122). -/
theorem does_sinc3Result_frozen (hon : s.sdOn k.val = true) (hf : s.sdFaulted k.val = true) :
    Does (.sinc3Result k bits (rate, false)) s fun u => u.rf (Reg.SDM_RATE k.val) 0 16 = rate.toNat ∧
      u.rn (Reg.SDM_CV k.val) = cv ∧ Raises s u [] ∧ KeepsRegs s u [Reg.SDM_RATE k.val, Reg.SDM_CV k.val] ∧
      OnlyRegsAnd s u fun u => { u with meas.cvSeen := s.meas.cvSeen } := by
  subst hcv
  refine Does_main s (sincResult k.val bits rate.toNat false) rfl hrun ?_
  rw [sincResult_frozen hon hf]
  have hstep := s.frameShown_step k.val (s.newViolations k.val bits) rate.toNat
  exact ⟨s.frameShown_rate k.val _ rate, s.frameShown_cv k.val _ _, hstep.raises, hstep.regs, rfl⟩

theorem does_sdChannelSettled (hon : s.sdOn k.val = true) (hf : s.meas.fault.at k.val none = none) :
    Does (.sdChannelSettled k) s fun u => u.bit (Reg.SDM_RES k.val) 24 = true ∧ Raises s u [] ∧
      KeepsRegs s u [Reg.SDM_RES k.val] ∧ OnlyRegs s u := by
  have hstep := (MeasStep.refl [Reg.SDM_RES k.val] s).wbit (List.mem_singleton_self _) 24 true
  refine Does_main s (channelSettled k.val) rfl hrun ?_
  rw [channelSettled, if_pos (by simp [hon, hf])]
  exact ⟨s.bit_wbit_same _ _ (by decide), hstep.raises, hstep.regs, hstep.onlyRegs (State.wbit_meas ..)⟩

theorem leaves_sinc3Result (hoff : s.sdOn k.val = false) (qual : Bool) : Leaves (.sinc3Result k bits (rate, qual)) s :=
  Leaves_main s (sincResult k.val bits rate.toNat qual) rfl hrun (sincResult_off hoff)

theorem leaves_sdChannelSettled (h : s.sdOn k.val = false ∨ s.meas.fault.at k.val none ≠ none) :
    Leaves (.sdChannelSettled k) s := by
  refine Leaves_main s (channelSettled k.val) rfl hrun (if_neg ?_)
  rcases h with h | h <;> simp [h]

end Command

end Sys2Proof.Machine

open Sys2Proof Sys2Proof.Machine Sys2Proof.Safety

/-- Settles O10: a window of one value sums to full scale, and a frame that ends shows its violations, its rate and, unless the
channel is faulted, its result. -/
theorem decimators : Obligations.Decimators := by
  unfold Obligations.Decimators
  refine ⟨fun r hr l x hl => ⟨sinc3Sum_of_const hr hl, sinc2Sum_of_const hr hl, ?_, ?_, ?_, ?_⟩,
    fun s c bits rate qual r cv hrun hr hcv => ?_⟩
  · rintro hn rfl
    exact sinc3Code_of_const hr hl hn
  · rintro hn rfl
    exact sinc3Code_of_const hr hl hn
  · rintro hn rfl
    exact sinc2Code_of_const hr hl hn
  · rintro hn rfl
    exact sinc2Code_of_const hr hl hn
  · subst hr
    exact ⟨fun hon => ⟨does_sinc3Result_shows hrun hcv rfl hon, does_sinc3Result_frozen hrun hcv hon,
        does_sdChannelSettled hrun hon⟩,
      fun hoff => ⟨leaves_sinc3Result hrun hoff qual, leaves_sdChannelSettled hrun (.inl hoff)⟩,
      fun hf => leaves_sdChannelSettled hrun (.inr hf)⟩
end

section
/-! PROOFS. Channel faults and their reaction (R119 to R123, R329). -/

namespace Sys2Proof.Machine

open Safety

variable {s t : State} {c : Nat}

/-! ### SDM_STAT (R147) -/

theorem chansWith_pos {p : Nat → Bool} (hc : c < 72) (h : p c = true) : 0 < chansWith p :=
  List.length_pos_of_mem (List.mem_filter.2 ⟨List.mem_range.2 hc, h⟩)

theorem chansWith_le (p : Nat → Bool) : chansWith p ≤ 72 := (List.length_filter_le p _).trans (by simp)

@[simp] theorem State.showSdm_meas (s : State) : s.showSdm.meas = s.meas := State.wn_meas ..

/-- A channel that is faulted shows in bit 0. -/
theorem State.showSdm_faulted (s : State) (hc : c < 72) (hon : s.sdOn c = true) (hf : s.sdFaulted c = true) :
    s.showSdm.bit Reg.SDM_STAT 0 = true := by
  have hpos := chansWith_pos (p := fun c => s.sdOn c && s.sdFaulted c) hc (by simp [hon, hf])
  have hle := chansWith_le fun c => s.sdOn c && s.sdFaulted c
  simp only [State.showSdm, State.bit, State.rf, State.rg_wn, fld, if_true, BitVec.toNat_ofNat, decide_eq_true hpos,
    Bool.toNat_true]
  generalize chansWith (fun c => s.sdOn c && s.sdFaulted c) = n at *
  have hb (b : Bool) : b.toNat ≤ 1 := Bool.toNat_le b
  have := hb (decide (0 < chansWith fun c => s.cmpOn c true || s.cmpOn c false))
  rw [beq_iff_eq]
  omega

/-- A comparator that is asserted shows in bit 1. -/
theorem State.showSdm_asserted (s : State) (hc : c < 72) {hi : Bool} (h : s.cmpOn c hi = true) :
    s.showSdm.bit Reg.SDM_STAT 1 = true := by
  have hpos := chansWith_pos (p := fun c => s.cmpOn c true || s.cmpOn c false) hc (by cases hi <;> simp [h])
  have hle := chansWith_le fun c => s.sdOn c && s.sdFaulted c
  simp only [State.showSdm, State.bit, State.rf, State.rg_wn, fld, if_true, BitVec.toNat_ofNat, decide_eq_true hpos,
    Bool.toNat_true]
  generalize chansWith (fun c => s.sdOn c && s.sdFaulted c) = n at *
  have := Bool.toNat_le (decide (0 < n))
  rw [beq_iff_eq]
  omega

/-! ### The reaction of protection (R329) -/

/-- A channel whose reaction is 0 is recorded alone. -/
theorem State.sdAction_record (s : State) {cond : Nat} (hc : c < 72) (h : s.rf (Reg.GPR_SDACT c) (2 * cond) 2 = 0) :
    s.sdAction c cond = (s.wbit Reg.GPR_FLAGS 5 true).raise 0x0806 c [c, cond] := by
  have hne : Reg.GPR_SDACT c ≠ Reg.GPR_FLAGS := by unfold Reg.GPR_SDACT Reg.GPR_FLAGS; omega
  simp only [State.sdAction, s.rf_wbit_ne 5 true _ _ hne, h]

theorem State.record_step (s : State) (cond : Nat) :
    MeasStep [Reg.GPR_FLAGS] [(0x0806, c, [c, cond])] s ((s.wbit Reg.GPR_FLAGS 5 true).raise 0x0806 c [c, cond]) :=
  ((MeasStep.refl _ s).wbit (List.mem_singleton_self _) 5 true).raise ..

/-! ### A channel fault (R122) -/

/-- Channel `c` faulted at this tick, in the hidden state. -/
def State.faulting (s : State) (c : Nat) : Meas :=
  { s.meas with fault := s.meas.fault.put c none (some s.now), recov := s.meas.recov.put c false false
                cmpWait := s.meas.cmpWait.put c false true }

/-- The fault of channel `c` with a cause, held in its own registers. -/
def State.faultHeld (s : State) (c cause : Nat) : State :=
  ((({ s with meas := s.faulting c } : State).wbit (Reg.SDM_FAULT (c / 32)) (c % 32) true).wbit (Reg.SDM_RES c) 24 false).wf
    (Reg.SDM_RES c) 28 2 cause

/-- The state in which the fault of channel `c` with a cause is held and shown. -/
def State.faultShown (s : State) (c cause : Nat) : State := (s.faultHeld c cause).showSdm

theorem channelFault_idle {cause : Nat} (h : s.sdOn c = false ∨ s.sdFaulted c = true) : channelFault c cause s = s :=
  if_pos (by rcases h with h | h <;> simp [h])

theorem channelFault_faults {cause : Nat} (hon : s.sdOn c = true) (hf : s.sdFaulted c = false) :
    channelFault c cause s = ((s.faultShown c cause).raise 0x0401 c [c, cause]).sdAction c 2 := if_neg (by simp [hon, hf])

theorem State.faultShown_step (s : State) (c cause : Nat) :
    MeasStep [Reg.SDM_FAULT (c / 32), Reg.SDM_RES c, Reg.SDM_STAT] [] s (s.faultShown c cause) :=
  (((((MeasStep.refl _ s).meas _).wbit (by simp) (c % 32) true).wbit (by simp) 24 false).wf (by simp) 28 2 cause).wn (by simp) _

theorem State.faultShown_fault (s : State) (c cause : Nat) :
    (s.faultShown c cause).bit (Reg.SDM_FAULT (c / 32)) (c % 32) = true := by
  have hres : Reg.SDM_FAULT (c / 32) ≠ Reg.SDM_RES c := by unfold Reg.SDM_FAULT Reg.SDM_RES; omega
  have hstat : Reg.SDM_FAULT (c / 32) ≠ Reg.SDM_STAT := by unfold Reg.SDM_FAULT Reg.SDM_STAT; omega
  rw [State.faultShown, State.showSdm, State.bit_wn_ne _ _ _ hstat, State.faultHeld,
    State.bit_of_rg _ (State.rg_wf_ne _ _ _ _ hres),
    State.bit_wbit_ne _ _ _ _ hres, State.bit_wbit_same _ _ _ (Nat.mod_lt _ (by decide))]

/-- SDM_RES behind a fault: VALID clear, the cause, and the value and comparators frozen (R122). -/
theorem State.faultShown_res (s : State) (c : Nat) {cause : Nat} (hcause : cause < 4) :
    (s.faultShown c cause).bit (Reg.SDM_RES c) 24 = false ∧ (s.faultShown c cause).rf (Reg.SDM_RES c) 28 2 = cause ∧
    (s.faultShown c cause).rf (Reg.SDM_RES c) 0 24 = s.rf (Reg.SDM_RES c) 0 24 ∧
    ∀ hi, (s.faultShown c cause).cmpOn c hi = s.cmpOn c hi := by
  have hstat : Reg.SDM_RES c ≠ Reg.SDM_STAT := by unfold Reg.SDM_RES Reg.SDM_STAT; omega
  have hfault : Reg.SDM_RES c ≠ Reg.SDM_FAULT (c / 32) := by unfold Reg.SDM_FAULT Reg.SDM_RES; omega
  have hother (lo n : Nat) (h : lo + n ≤ 24 ∨ 25 ≤ lo ∧ lo + n ≤ 28) :
      (s.faultShown c cause).rf (Reg.SDM_RES c) lo n = s.rf (Reg.SDM_RES c) lo n := by
    rw [State.faultShown, State.showSdm, State.faultHeld, State.rf_of_rg _ _ (State.rg_wn_ne _ _ hstat),
      State.rf_wf_apart _ _ _ (by decide) (by omega), State.rf_wbit_apart _ _ _ (by decide) (by omega),
      State.rf_wbit_ne _ _ _ _ _ hfault]
    rfl
  refine ⟨?_, ?_, hother 0 24 (by decide), fun hi => ?_⟩
  · rw [State.faultShown, State.showSdm, State.bit_wn_ne _ _ _ hstat, State.faultHeld, State.bit,
      State.rf_wf_apart _ _ _ (by decide) (by decide)]
    exact State.bit_wbit_same _ _ false (by decide)
  · rw [State.faultShown, State.showSdm, State.faultHeld, State.rf_of_rg _ _ (State.rg_wn_ne _ _ hstat),
      State.rf_wf_same _ _ _ _ _ (by decide)]
    exact Nat.mod_eq_of_lt hcause
  · cases hi
    · exact congrArg (· == 1) (hother 26 1 (by decide))
    · exact congrArg (· == 1) (hother 25 1 (by decide))

theorem State.faultHeld_sdFaulted (s : State) (c cause : Nat) : (s.faultHeld c cause).sdFaulted c = true := by
  have hmeas : (s.faultHeld c cause).meas = s.faulting c := rfl
  simp [State.sdFaulted, hmeas, State.faulting, Tab.at, Tab.put]

theorem State.faultShown_sdFaulted (s : State) (c cause : Nat) : (s.faultShown c cause).sdFaulted c = true :=
  (sdFaulted_of_meas (State.showSdm_meas _)).trans (s.faultHeld_sdFaulted c cause)

theorem State.faultShown_stat (s : State) (hc : c < 72) (hon : s.sdOn c = true) (cause : Nat) :
    (s.faultShown c cause).bit Reg.SDM_STAT 0 = true := by
  have hres : Reg.SDM_CFG c ≠ Reg.SDM_RES c := by unfold Reg.SDM_CFG Reg.SDM_RES; omega
  have hfault : Reg.SDM_CFG c ≠ Reg.SDM_FAULT (c / 32) := by unfold Reg.SDM_FAULT Reg.SDM_CFG; omega
  have hcfg : (s.faultHeld c cause).rg (Reg.SDM_CFG c) = s.rg (Reg.SDM_CFG c) := by
    rw [State.faultHeld, State.rg_wf_ne _ _ _ _ hres, State.rg_wbit_ne _ _ _ hres, State.rg_wbit_ne _ _ _ hfault]
    rfl
  exact State.showSdm_faulted _ hc ((sdOn_of_rg hcfg).trans hon) (s.faultHeld_sdFaulted c cause)

/-- What a channel fault with reaction 0 shows and tells (R122, R329). -/
structure FaultTold (c cause : Nat) (s u : State) : Prop where
  flag : u.bit (Reg.SDM_FAULT (c / 32)) (c % 32) = true
  valid : u.bit (Reg.SDM_RES c) 24 = false
  shown : u.rf (Reg.SDM_RES c) 28 2 = cause
  value : u.rf (Reg.SDM_RES c) 0 24 = s.rf (Reg.SDM_RES c) 0 24
  cmpOn : ∀ hi, u.cmpOn c hi = s.cmpOn c hi
  sdFaulted : u.sdFaulted c = true
  stat : u.bit Reg.SDM_STAT 0 = true
  step : MeasStep [Reg.SDM_FAULT (c / 32), Reg.SDM_RES c, Reg.SDM_STAT, Reg.GPR_FLAGS]
    [(0x0401, c, [c, cause]), (0x0806, c, [c, 2])] s u

theorem channelFault_told {cause : Nat} (hc : c < 72) (hcause : cause < 4) (hon : s.sdOn c = true) (hf : s.sdFaulted c = false)
    (hact : s.rf (Reg.GPR_SDACT c) 4 2 = 0) : FaultTold c cause s (channelFault c cause s) := by
  have hshown := s.faultShown_step c cause
  have hsdact : Reg.GPR_SDACT c ∉ [Reg.SDM_FAULT (c / 32), Reg.SDM_RES c, Reg.SDM_STAT] := by
    simp [Reg.GPR_SDACT, Reg.SDM_FAULT, Reg.SDM_RES, Reg.SDM_STAT]; omega
  have hactShown : ((s.faultShown c cause).raise 0x0401 c [c, cause]).rf (Reg.GPR_SDACT c) (2 * 2) 2 = 0 := by
    rw [State.rf_raise, State.rf_of_rg _ _ (hshown.regs _ hsdact), hact]
  obtain ⟨hvalid, hcauseShown, hvalue, hcmp⟩ := s.faultShown_res c hcause
  have hfault := s.faultShown_fault c cause
  have hfaulted := s.faultShown_sdFaulted c cause
  have hstat := s.faultShown_stat hc hon cause
  rw [channelFault_faults hon hf, State.sdAction_record _ hc hactShown]
  generalize s.faultShown c cause = t at *
  have hrecord := (t.raise 0x0401 c [c, cause]).record_step (c := c) 2
  have hkeep (a : Nat) (h : a / 0x10000 = 4) :
      (((t.raise 0x0401 c [c, cause]).wbit Reg.GPR_FLAGS 5 true).raise 0x0806 c [c, 2]).rg a = t.rg a := by
    have hne : a ∉ [Reg.GPR_FLAGS] := by rw [List.mem_singleton]; unfold Reg.GPR_FLAGS; omega
    rw [hrecord.regs a hne, State.rg_raise]
  have hres := hkeep (Reg.SDM_RES c) (by unfold Reg.SDM_RES; omega)
  refine ⟨?_, (State.bit_of_rg 24 hres).trans hvalid, (State.rf_of_rg 28 2 hres).trans hcauseShown,
    (State.rf_of_rg 0 24 hres).trans hvalue, fun hi => ?_, (sdFaulted_of_meas (by simp)).trans hfaulted, ?_, ?_⟩
  · exact (State.bit_of_rg _ (hkeep _ (by unfold Reg.SDM_FAULT; omega))).trans hfault
  · rw [← hcmp hi, State.cmpOn, State.bit_of_rg _ hres, State.cmpOn]
  · exact (State.bit_of_rg 0 (hkeep _ (by decide))).trans hstat
  · refine MeasStep.trans (e := [(0x0401, c, [c, cause])]) (t := t.raise 0x0401 c [c, cause]) ?_ (hrecord.mono (by simp))
    exact (hshown.raise 0x0401 c [c, cause]).mono (by simp)

/-! ### What a fault shows beforehand (R119, R120) -/

theorem State.countViolations_idle {n : Nat} (h : s.sdOn c = false ∨ s.sdFaulted c = true) : s.countViolations c n = s :=
  if_pos (by rcases h with h | h <;> simp [h])

theorem State.countViolations_counts {n : Nat} (hon : s.sdOn c = true) (hf : s.sdFaulted c = false) : s.countViolations c n =
    ({ s with meas.cvSeen := s.meas.cvSeen.put c 0 (s.meas.cvSeen.at c 0 + n) } : State).satAdd (Reg.SDM_CV c) 0 32 n :=
  if_neg (by simp [hon, hf])

theorem State.showRate_on {rate : Nat} (hon : s.sdOn c = true) : s.showRate c rate = s.wf (Reg.SDM_RATE c) 0 16 rate := if_pos hon

theorem State.showRate_off {rate : Nat} (hoff : s.sdOn c = false) : s.showRate c rate = s := if_neg (by simp [hoff])

/-- The state in which a fault is taken: the violations `cv` and the measured `rate` may be shown in front of it. -/
structure FaultReady (c cv rate : Nat) (s t : State) : Prop where
  step : MeasStep [Reg.SDM_CV c, Reg.SDM_RATE c] [] s t
  fault : t.meas.fault = s.meas.fault
  recov : t.meas.recov = s.meas.recov
  cv : t.rn (Reg.SDM_CV c) = cv
  rate : t.rf (Reg.SDM_RATE c) 0 16 = rate

theorem faultReady_refl (c : Nat) (s : State) : FaultReady c (s.rn (Reg.SDM_CV c)) (s.rf (Reg.SDM_RATE c) 0 16) s s :=
  ⟨MeasStep.refl _ s, rfl, rfl, rfl, rfl⟩

theorem faultReady_violations (c n : Nat) (s : State) :
    FaultReady c (min (s.rn (Reg.SDM_CV c) + n) 4294967295) (s.rf (Reg.SDM_RATE c) 0 16) s
      (({ s with meas.cvSeen := s.meas.cvSeen.put c 0 (s.meas.cvSeen.at c 0 + n) } : State).satAdd (Reg.SDM_CV c) 0 32 n) := by
  have hne : Reg.SDM_RATE c ≠ Reg.SDM_CV c := by unfold Reg.SDM_RATE Reg.SDM_CV; omega
  exact ⟨((MeasStep.refl _ s).meas _).wf (by simp) 0 32 _, rfl, rfl, State.rn_satAdd _ _ n, State.rf_wf_ne _ _ _ _ _ _ hne⟩

theorem faultReady_rate (c : Nat) (rate : BitVec 16) (s : State) :
    FaultReady c (s.rn (Reg.SDM_CV c)) rate.toNat s (s.wf (Reg.SDM_RATE c) 0 16 rate.toNat) := by
  have hne : Reg.SDM_CV c ≠ Reg.SDM_RATE c := by unfold Reg.SDM_RATE Reg.SDM_CV; omega
  exact ⟨(MeasStep.refl _ s).wf (by simp) 0 16 _, rfl, rfl, State.rn_of_rg (s.rg_wf_ne _ _ _ hne),
    (s.rf_wf_same _ 0 16 _ (by decide)).trans (Nat.mod_eq_of_lt rate.isLt)⟩

/-! ### Recovery (R123) -/

/-- Channel `c` behind its recovery, in the hidden state. -/
def State.recovered (s : State) (c : Nat) : Meas :=
  { s.meas with fault := s.meas.fault.put c none none, recov := s.meas.recov.put c false false }

/-- The state in which channel `c` has recovered and is VALID. -/
def State.validAgain (s : State) (c : Nat) : State :=
  (({ s with meas := s.recovered c } : State).wbit (Reg.SDM_RES c) 24 true).showSdm

theorem channelRecovered_some {x : Nat} (h : s.meas.fault.at c none = some x) :
    channelRecovered c s = (s.validAgain c).raise 0x0402 c [c, (s.now - x) * 2 / 625] := by
  simp only [channelRecovered, h]
  rfl

theorem State.validAgain_step (s : State) (c : Nat) : MeasStep [Reg.SDM_RES c, Reg.SDM_STAT] [] s (s.validAgain c) :=
  (((MeasStep.refl _ s).meas (s.recovered c)).wbit (by simp) 24 true).wn (by simp) _

theorem State.validAgain_meas (s : State) (c : Nat) : (s.validAgain c).meas = s.recovered c :=
  (State.showSdm_meas _).trans (State.wbit_meas ..)

theorem State.validAgain_valid (s : State) (c : Nat) : (s.validAgain c).bit (Reg.SDM_RES c) 24 = true := by
  have hne : Reg.SDM_RES c ≠ Reg.SDM_STAT := by unfold Reg.SDM_RES Reg.SDM_STAT; omega
  rw [State.validAgain, State.showSdm, State.bit_wn_ne _ _ _ hne, State.bit_wbit_same _ _ _ (by decide)]

/-! ### The commands -/

section Command

variable {k : Chan} (hrun : s.running = true)
include hrun

/-- A command that takes a fault of channel `k` behind what it shows first. -/
theorem does_channelFault {i : Instr} {cause : Nat} {f : State → State}
    (he : exec i s = s.main fun s => channelFault k.val cause (f s))
    (hcause : cause < 4) (hon : s.sdOn k.val = true) (hf : s.sdFaulted k.val = false)
    (hact : s.rf (Reg.GPR_SDACT k.val) 4 2 = 0) (hfs : f s = t) {cv rate : Nat} (hready : FaultReady k.val cv rate s t) :
    Does i s fun u =>
      u.bit (Reg.SDM_FAULT (k.val / 32)) (k.val % 32) = true ∧ u.bit (Reg.SDM_RES k.val) 24 = false ∧
      u.rf (Reg.SDM_RES k.val) 28 2 = cause ∧ u.rf (Reg.SDM_RES k.val) 0 24 = s.rf (Reg.SDM_RES k.val) 0 24 ∧
      (∀ hi, u.cmpOn k.val hi = s.cmpOn k.val hi) ∧ u.sdFaulted k.val = true ∧ u.bit Reg.SDM_STAT 0 = true ∧
      u.rn (Reg.SDM_CV k.val) = cv ∧ u.rf (Reg.SDM_RATE k.val) 0 16 = rate ∧
      Raises s u [(0x0401, k.val, [k.val, cause]), (0x0806, k.val, [k.val, 2])] ∧
      KeepsRegs s u [Reg.SDM_FAULT (k.val / 32), Reg.SDM_RES k.val, Reg.SDM_STAT, Reg.GPR_FLAGS, Reg.SDM_CV k.val,
        Reg.SDM_RATE k.val] ∧ OnlyRegsAnd s u fun u => { u with meas := s.meas } := by
  have hk := k.isLt
  refine Does_main s (fun s => channelFault k.val cause (f s)) he hrun ?_
  show _ ∧ _
  rw [hfs]
  obtain ⟨hprep, hfault, hrecov, hcv, hrate⟩ := hready
  have hkeep (a : Nat) (h : a ≠ Reg.SDM_CV k.val ∧ a ≠ Reg.SDM_RATE k.val) : t.rg a = s.rg a :=
    hprep.regs a (by simpa using h)
  have hcfg : t.rg (Reg.SDM_CFG k.val) = s.rg (Reg.SDM_CFG k.val) := hkeep _ (by
    unfold Reg.SDM_CFG Reg.SDM_CV Reg.SDM_RATE; omega)
  have hres : t.rg (Reg.SDM_RES k.val) = s.rg (Reg.SDM_RES k.val) := hkeep _ (by
    unfold Reg.SDM_RES Reg.SDM_CV Reg.SDM_RATE; omega)
  have hsdact : t.rg (Reg.GPR_SDACT k.val) = s.rg (Reg.GPR_SDACT k.val) := hkeep _ (by
    unfold Reg.GPR_SDACT Reg.SDM_CV Reg.SDM_RATE; omega)
  have hfree : t.sdFaulted k.val = false := by rw [State.sdFaulted, hfault, hrecov]; exact hf
  have htold := channelFault_told (s := t) k.isLt hcause ((sdOn_of_rg hcfg).trans hon) hfree
    ((State.rf_of_rg 4 2 hsdact).trans hact)
  generalize channelFault k.val cause t = u at *
  have hcvKept : Reg.SDM_CV k.val ∉ [Reg.SDM_FAULT (k.val / 32), Reg.SDM_RES k.val, Reg.SDM_STAT, Reg.GPR_FLAGS] := by
    simp only [List.mem_cons, List.not_mem_nil, or_false]
    unfold Reg.SDM_CV Reg.SDM_FAULT Reg.SDM_RES Reg.SDM_STAT Reg.GPR_FLAGS
    omega
  have hrateKept : Reg.SDM_RATE k.val ∉ [Reg.SDM_FAULT (k.val / 32), Reg.SDM_RES k.val, Reg.SDM_STAT, Reg.GPR_FLAGS] := by
    simp only [List.mem_cons, List.not_mem_nil, or_false]
    unfold Reg.SDM_RATE Reg.SDM_FAULT Reg.SDM_RES Reg.SDM_STAT Reg.GPR_FLAGS
    omega
  have hstep : MeasStep [Reg.SDM_FAULT (k.val / 32), Reg.SDM_RES k.val, Reg.SDM_STAT, Reg.GPR_FLAGS, Reg.SDM_CV k.val,
      Reg.SDM_RATE k.val] [(0x0401, k.val, [k.val, cause]), (0x0806, k.val, [k.val, 2])] s u :=
    (hprep.mono (by simp)).trans (htold.step.mono (by simp))
  refine ⟨htold.flag, htold.valid, htold.shown, htold.value.trans (State.rf_of_rg 0 24 hres), fun hi => ?_, htold.sdFaulted,
    htold.stat, (State.rn_of_rg (htold.step.regs _ hcvKept)).trans hcv,
    (State.rf_of_rg 0 16 (htold.step.regs _ hrateKept)).trans hrate,
    hstep.raises, hstep.regs,    hstep.onlyRegsAnd (f := fun _ => s.meas) rfl⟩
  rw [htold.cmpOn hi, State.cmpOn, State.bit_of_rg _ hres, State.cmpOn]

/-- A command that would take a fault of a channel that is disabled or faulted already. -/
theorem leaves_channelFault {i : Instr} {cause : Nat} {f : State → State}
    (he : exec i s = s.main fun s => channelFault k.val cause (f s)) (hfs : f s = s)
    (h : s.sdOn k.val = false ∨ s.sdFaulted k.val = true) : Leaves i s := by
  refine Leaves_main s (fun s => channelFault k.val cause (f s)) he hrun ?_
  show channelFault k.val cause (f s) = s
  rw [hfs, channelFault_idle h]

/-- Behind 64 valid bits a channel faults anew (R123). -/
theorem does_sdLossOfTransition_again (hon : s.sdOn k.val = true) (hact : s.rf (Reg.GPR_SDACT k.val) 4 2 = 0) :
    Does (.sdLossOfTransition (k, true)) s fun u => u.sdFaulted k.val = true ∧ u.rf (Reg.SDM_RES k.val) 28 2 = 1 ∧
      Raises s u [(0x0401, k.val, [k.val, 1]), (0x0806, k.val, [k.val, 2])] := by
  have hk := k.isLt
  refine Does_main s (fun s => channelFault k.val 1 (s.recover k.val true)) rfl hrun ?_
  have hrecover := s.recover_step k.val true
  have hfree : (s.recover k.val true).sdFaulted k.val = false := (s.recover_sdFaulted k.val true).trans (Bool.and_false _)
  generalize s.recover k.val true = t at *
  have hkeep (a : Nat) (h : a ≠ Reg.SDM_STAT) : t.rg a = s.rg a := hrecover.regs a (by simpa using h)
  have hcfg := hkeep (Reg.SDM_CFG k.val) (by unfold Reg.SDM_CFG Reg.SDM_STAT; omega)
  have hsdact := hkeep (Reg.GPR_SDACT k.val) (by unfold Reg.GPR_SDACT Reg.SDM_STAT; omega)
  have htold := channelFault_told (s := t) (cause := 1) k.isLt (by decide) ((sdOn_of_rg hcfg).trans hon) hfree
    ((State.rf_of_rg 4 2 hsdact).trans hact)
  exact ⟨htold.sdFaulted, htold.shown, raises_trans hrecover.raises htold.step.raises hrecover.tim⟩

/-- A channel that is faulted shows its measured rate all the same (R119). -/
theorem does_sdRateFault_faulted {rate : BitVec 16} (hon : s.sdOn k.val = true) (hf : s.sdFaulted k.val = true) :
    Does (.sdRateFault (k, rate, false)) s fun u => u.rf (Reg.SDM_RATE k.val) 0 16 = rate.toNat ∧ Raises s u [] ∧
      KeepsRegs s u [Reg.SDM_RATE k.val] ∧ OnlyRegs s u := by
  have hstep := (MeasStep.refl [Reg.SDM_RATE k.val] s).wf (List.mem_singleton_self _) 0 16 rate.toNat
  have hshown : (s.wf (Reg.SDM_RATE k.val) 0 16 rate.toNat).rf (Reg.SDM_RATE k.val) 0 16 = rate.toNat :=
    (s.rf_wf_same _ 0 16 _ (by decide)).trans (Nat.mod_eq_of_lt rate.isLt)
  have hfaulted : (s.wf (Reg.SDM_RATE k.val) 0 16 rate.toNat).sdFaulted k.val = true :=
    (sdFaulted_of_meas (State.wf_meas ..)).trans hf
  have hshows : channelFault k.val 3 ((s.recover k.val false).showRate k.val rate.toNat) =
      s.wf (Reg.SDM_RATE k.val) 0 16 rate.toNat := by
    rw [State.recover_false, State.showRate_on hon, channelFault_idle (.inr hfaulted)]
  exact Does_main_eq (fun s => channelFault k.val 3 ((s.recover k.val false).showRate k.val rate.toNat)) rfl hrun hshows
    ⟨hshown, hstep.raises, hstep.regs, hstep.onlyRegs (State.wf_meas ..)⟩

theorem does_sdChannelRecovered {x : Nat} (h : s.meas.fault.at k.val none = some x) : Does (.sdChannelRecovered k) s fun u =>
    u.sdFaulted k.val = false ∧ u.bit (Reg.SDM_RES k.val) 24 = true ∧
      u.bit (Reg.SDM_FAULT (k.val / 32)) (k.val % 32) = s.bit (Reg.SDM_FAULT (k.val / 32)) (k.val % 32) ∧
      Raises s u [(0x0402, k.val, [k.val, (s.now - x) * 2 / 625])] ∧ KeepsRegs s u [Reg.SDM_RES k.val, Reg.SDM_STAT] ∧
      OnlyRegsAnd s u fun u => { u with meas.fault := s.meas.fault, meas.recov := s.meas.recov } := by
  have hstep := s.validAgain_step k.val
  have hmeas := s.validAgain_meas k.val
  have hvalid := s.validAgain_valid k.val
  refine Does_main s (channelRecovered k.val) rfl hrun ?_
  rw [channelRecovered_some h]
  generalize s.validAgain k.val = t at *
  have hfault : Reg.SDM_FAULT (k.val / 32) ∉ [Reg.SDM_RES k.val, Reg.SDM_STAT] := by
    simp only [List.mem_cons, List.not_mem_nil, or_false]
    unfold Reg.SDM_FAULT Reg.SDM_RES Reg.SDM_STAT
    omega
  have hraise := hstep.raise 0x0402 k.val [k.val, (s.now - x) * 2 / 625]
  refine ⟨?_, (State.bit_raise ..).trans hvalid, State.bit_of_rg _ (hraise.regs _ hfault), hraise.raises, hraise.regs, ?_⟩
  · simp [State.sdFaulted, hmeas, State.recovered]
  · refine hraise.onlyRegsAnd (f := fun m => { m with fault := s.meas.fault, recov := s.meas.recov }) ?_
    rw [State.raise_meas, hmeas]
    rfl

theorem leaves_sdChannelRecovered (h : s.meas.fault.at k.val none = none) : Leaves (.sdChannelRecovered k) s :=
  Leaves_main s (channelRecovered k.val) rfl hrun (by simp only [channelRecovered, h])

end Command

end Sys2Proof.Machine
end

section
/-! PROOFS. The fast comparators (R126, R128). With the channel faults this settles the obligation about both. -/

namespace Sys2Proof.Machine

open Safety

variable {s t : State} {c : Nat} {hi : Bool}

/-! ### What a comparator reads -/

/-- A comparator reads configuration, its own channel and its outputs. -/
def cmpRegs (c : Nat) : List Nat := [Reg.SDM_CFG c, Reg.SDM_CMP c, Reg.SDM_CMP_CFG c, Reg.SDM_RES c]

section Congr

variable (h : ∀ a ∈ cmpRegs c, t.rg a = s.rg a)
include h

theorem cmpOn_congr (hi : Bool) : t.cmpOn c hi = s.cmpOn c hi := State.bit_of_rg _ (h (Reg.SDM_RES c) (by simp [cmpRegs]))

theorem cmpHi_congr : t.cmpHi c = s.cmpHi c := congrArg _ (State.rf_of_rg 0 16 (h (Reg.SDM_CMP c) (by simp [cmpRegs])))

theorem cmpLo_congr : t.cmpLo c = s.cmpLo c := congrArg _ (State.rf_of_rg 16 16 (h (Reg.SDM_CMP c) (by simp [cmpRegs])))

theorem cmpHys_congr : t.cmpHys c = s.cmpHys c := congrArg _ (State.rf_of_rg 4 12 (h (Reg.SDM_CMP_CFG c) (by simp [cmpRegs])))

theorem sinc2_congr (bits : List (Option Bool)) :
    sinc2Code (t.osr2 c) (t.sdValues c bits) = sinc2Code (s.osr2 c) (s.sdValues c bits) := by
  have hcfg := h (Reg.SDM_CFG c) (by simp [cmpRegs])
  rw [sdValues_of_rg hcfg, State.osr2, State.rf_of_rg 17 6 hcfg, State.osr2]

end Congr

/-! ### Settling (R123) -/

theorem State.cmpSettle_step (s : State) (c : Nat) (settled : Bool) : MeasStep [Reg.SDM_STAT] [] s (s.cmpSettle c settled) :=
  MeasStep.ite ((s.recover_step c true).meas _) (MeasStep.refl _ s)

theorem State.cmpSettle_meas (s : State) (c : Nat) (settled : Bool) :
    ∃ r w, (s.cmpSettle c settled).meas = { s.meas with recov := r, cmpWait := w } := by
  unfold State.cmpSettle
  split
  · obtain ⟨r, hr⟩ := s.recover_meas c true
    exact ⟨r, s.meas.cmpWait.put c false false, by simp only [hr]⟩
  · exact ⟨_, _, rfl⟩

theorem State.cmpSettle_cmpRegs (s : State) (c : Nat) (settled : Bool) :
    ∀ a ∈ cmpRegs c, (s.cmpSettle c settled).rg a = s.rg a := by
  intro a ha
  refine (s.cmpSettle_step c settled).regs a ?_
  simp only [cmpRegs, List.mem_cons, List.not_mem_nil, or_false] at ha ⊢
  unfold Reg.SDM_CFG Reg.SDM_CMP Reg.SDM_CMP_CFG Reg.SDM_RES at ha
  unfold Reg.SDM_STAT
  omega

/-! ### A comparator moves (R126, R128) -/

/-- The output stands beyond the threshold, or back within it by the hysteresis. -/
def State.cmpBeyond (s : State) (c : Nat) (hi : Bool) (v : Int) : Prop := if hi then s.cmpHi c < v else v < s.cmpLo c

def State.cmpBack (s : State) (c : Nat) (hi : Bool) (v : Int) : Prop :=
  if hi then v < s.cmpHi c - s.cmpHys c else s.cmpLo c + s.cmpHys c < v

/-- The bit of SDM_RES in which a comparator shows. -/
def cmpBit (hi : Bool) : Nat := if hi then 25 else 26

theorem cmpBit_lt (hi : Bool) : cmpBit hi < 32 := by cases hi <;> decide

theorem cmpBit_not_ne (hi : Bool) : cmpBit (!hi) ≠ cmpBit hi := by cases hi <;> decide

/-- The comparator of channel `c` asserted, and flagged. -/
def State.cmpFlagged (s : State) (c : Nat) (hi : Bool) : State :=
  (s.wbit (Reg.SDM_RES c) (cmpBit hi) true).wbit (Reg.SDM_CMPF (c / 32)) (c % 32) true

theorem cmpAssert_asserts {bits : List (Option Bool)} (hlive : s.cmpLive c hi = true) (hoff : s.cmpOn c hi = false)
    (h : s.cmpBeyond c hi (sinc2Code (s.osr2 c) (s.sdValues c bits))) : cmpAssert c hi bits s =
      (((s.cmpFlagged c hi).showSdm).raise (if hi then 0x0403 else 0x0404) c
        [c, unsigned 32 (sinc2Code (s.osr2 c) (s.sdValues c bits))]).sdAction c (if hi then 0 else 1) :=
  if_pos (by cases hi <;> simpa [hlive, hoff, State.cmpBeyond] using h)

theorem cmpAssert_idle {bits : List (Option Bool)} (hon : s.cmpOn c hi = true) : cmpAssert c hi bits s = s :=
  if_neg (by simp [hon])

theorem cmpDeassert_deasserts {bits : List (Option Bool)} (hlive : s.cmpLive c hi = true) (hon : s.cmpOn c hi = true)
    (h : s.cmpBack c hi (sinc2Code (s.osr2 c) (s.sdValues c bits))) :
    cmpDeassert c hi bits s = (s.wbit (Reg.SDM_RES c) (cmpBit hi) false).showSdm :=
  if_pos (by cases hi <;> simpa [hlive, hon, State.cmpBack] using h)

theorem cmpDeassert_idle {bits : List (Option Bool)} (h : ¬ s.cmpBack c hi (sinc2Code (s.osr2 c) (s.sdValues c bits))) :
    cmpDeassert c hi bits s = s :=
  if_neg (by cases hi <;> simp_all [State.cmpBack])

theorem State.cmpFlagged_step (s : State) (c : Nat) (hi : Bool) :
    MeasStep [Reg.SDM_RES c, Reg.SDM_CMPF (c / 32)] [] s (s.cmpFlagged c hi) :=
  ((MeasStep.refl _ s).wbit (by simp) _ true).wbit (by simp) _ true

theorem State.cmpFlagged_shows (s : State) (c : Nat) (hi : Bool) : (s.cmpFlagged c hi).cmpOn c hi = true ∧
    (s.cmpFlagged c hi).cmpOn c (!hi) = s.cmpOn c (!hi) ∧ (s.cmpFlagged c hi).bit (Reg.SDM_CMPF (c / 32)) (c % 32) = true := by
  have hne : Reg.SDM_RES c ≠ Reg.SDM_CMPF (c / 32) := by unfold Reg.SDM_RES Reg.SDM_CMPF; omega
  refine ⟨?_, ?_, State.bit_wbit_same _ _ _ (Nat.mod_lt _ (by decide))⟩
  · exact (State.bit_wbit_ne _ _ _ _ hne).trans (s.bit_wbit_same _ true (cmpBit_lt hi))
  · exact (State.bit_wbit_ne _ _ _ _ hne).trans (s.bit_wbit_apart _ true (cmpBit_lt hi) (cmpBit_not_ne hi))

theorem State.cmpFlagged_meas (s : State) (c : Nat) (hi : Bool) : (s.cmpFlagged c hi).meas = s.meas := by simp [State.cmpFlagged]

/-! ### What an assertion shows and tells -/

/-- What an assertion with reaction 0 shows and tells (R128, R329). -/
structure CmpTold (c : Nat) (hi : Bool) (v : Int) (s u : State) : Prop where
  asserted : u.cmpOn c hi = true
  other : u.cmpOn c (!hi) = s.cmpOn c (!hi)
  flag : u.bit (Reg.SDM_CMPF (c / 32)) (c % 32) = true
  stat : u.bit Reg.SDM_STAT 1 = true
  meas : u.meas = s.meas
  step : MeasStep [Reg.SDM_RES c, Reg.SDM_CMPF (c / 32), Reg.SDM_STAT, Reg.GPR_FLAGS]
    [(if hi then 0x0403 else 0x0404, c, [c, unsigned 32 v]), (0x0806, c, [c, if hi then 0 else 1])] s u

theorem cmpAssert_told {bits : List (Option Bool)} {v : Int} (hc : c < 72) (hv : v = sinc2Code (s.osr2 c) (s.sdValues c bits))
    (hlive : s.cmpLive c hi = true) (hoff : s.cmpOn c hi = false) (hbeyond : s.cmpBeyond c hi v)
    (hact : s.rf (Reg.GPR_SDACT c) (if hi then 0 else 2) 2 = 0) : CmpTold c hi v s (cmpAssert c hi bits s) := by
  subst hv
  have hflagged := s.cmpFlagged_step c hi
  obtain ⟨hon, hother, hflag⟩ := s.cmpFlagged_shows c hi
  have hmeas := s.cmpFlagged_meas c hi
  rw [cmpAssert_asserts hlive hoff hbeyond]
  generalize sinc2Code (s.osr2 c) (s.sdValues c bits) = v
  generalize s.cmpFlagged c hi = t at *
  have hstat := t.showSdm_asserted hc hon
  have hshown := t.showSdm_step
  have hres : t.showSdm.rg (Reg.SDM_RES c) = t.rg (Reg.SDM_RES c) := hshown.regs _ (by
    rw [List.mem_singleton]; unfold Reg.SDM_RES Reg.SDM_STAT; omega)
  have hcmpf : t.showSdm.rg (Reg.SDM_CMPF (c / 32)) = t.rg (Reg.SDM_CMPF (c / 32)) := hshown.regs _ (by
    rw [List.mem_singleton]; unfold Reg.SDM_CMPF Reg.SDM_STAT; omega)
  have hsdact : t.showSdm.rg (Reg.GPR_SDACT c) = s.rg (Reg.GPR_SDACT c) := by
    refine (hshown.regs _ ?_).trans (hflagged.regs _ ?_) <;> simp only [List.mem_cons, List.not_mem_nil, or_false]
    · unfold Reg.GPR_SDACT Reg.SDM_STAT; omega
    · unfold Reg.GPR_SDACT Reg.SDM_RES Reg.SDM_CMPF; omega
  have hmeas' : t.showSdm.meas = s.meas := t.showSdm_meas.trans hmeas
  have hstep : MeasStep [Reg.SDM_RES c, Reg.SDM_CMPF (c / 32), Reg.SDM_STAT, Reg.GPR_FLAGS] [] s t.showSdm :=
    (hflagged.mono (by simp)).trans (hshown.mono (by simp))
  generalize t.showSdm = w at *
  obtain ⟨code, hcode⟩ : ∃ code, code = if hi then 0x0403 else 0x0404 := ⟨_, rfl⟩
  rw [← hcode]
  have hactNow : (w.raise code c [c, unsigned 32 v]).rf (Reg.GPR_SDACT c) (2 * if hi then 0 else 1) 2 = 0 := by
    rw [State.rf_raise, State.rf_of_rg _ _ hsdact, show 2 * (if hi then 0 else 1) = if hi then 0 else 2 by cases hi <;> rfl]
    exact hact
  rw [State.sdAction_record _ hc hactNow]
  have hrecord := (w.raise code c [c, unsigned 32 v]).record_step (c := c) (if hi then 0 else 1)
  have hkeep (a : Nat) (h : a / 0x10000 = 4) :
      (((w.raise code c [c, unsigned 32 v]).wbit Reg.GPR_FLAGS 5 true).raise 0x0806 c [c, if hi then 0 else 1]).rg a = w.rg a := by
    have hne : a ∉ [Reg.GPR_FLAGS] := by rw [List.mem_singleton]; unfold Reg.GPR_FLAGS; omega
    rw [hrecord.regs a hne, State.rg_raise]
  have hresNow := (hkeep (Reg.SDM_RES c) (by unfold Reg.SDM_RES; omega)).trans hres
  have hcmpfNow := (hkeep (Reg.SDM_CMPF (c / 32)) (by unfold Reg.SDM_CMPF; omega)).trans hcmpf
  refine ⟨?_, ?_, (State.bit_of_rg _ hcmpfNow).trans hflag, (State.bit_of_rg 1 (hkeep _ (by decide))).trans hstat, ?_, ?_⟩
  · rw [State.cmpOn, State.bit_of_rg _ hresNow]
    exact hon
  · rw [State.cmpOn, State.bit_of_rg _ hresNow]
    exact hother
  · rw [State.raise_meas, State.wbit_meas, State.raise_meas, hmeas']
  · subst hcode
    exact (hstep.raise _ _ _).trans (hrecord.mono (by simp))

/-! ### The commands -/

section Command

variable {k : Chan} (hrun : s.running = true) {bits : List (Option Bool)} {settled : Bool} {v : Int}
  (hv : v = sinc2Code (s.osr2 k.val) (s.sdValues k.val bits))
include hrun hv

theorem does_fastComparatorAssert (hlive : (s.cmpSettle k.val settled).cmpLive k.val hi = true)
    (hact : s.rf (Reg.GPR_SDACT k.val) (if hi then 0 else 2) 2 = 0) (hoff : s.cmpOn k.val hi = false)
    (hbeyond : s.cmpBeyond k.val hi v) : Does (.fastComparatorAssert k hi (bits, settled)) s fun u =>
      u.cmpOn k.val hi = true ∧ u.cmpOn k.val (!hi) = s.cmpOn k.val (!hi) ∧
      u.bit (Reg.SDM_CMPF (k.val / 32)) (k.val % 32) = true ∧ u.bit Reg.SDM_STAT 1 = true ∧
      Raises s u [(if hi then 0x0403 else 0x0404, k.val, [k.val, unsigned 32 v]),
        (0x0806, k.val, [k.val, if hi then 0 else 1])] ∧
      KeepsRegs s u [Reg.SDM_RES k.val, Reg.SDM_CMPF (k.val / 32), Reg.SDM_STAT, Reg.GPR_FLAGS] ∧
      OnlyRegsAnd s u fun u => { u with meas.recov := s.meas.recov, meas.cmpWait := s.meas.cmpWait } := by
  refine Does_main s (fun s => cmpAssert k.val hi bits (s.cmpSettle k.val settled)) rfl hrun ?_
  have hregs := s.cmpSettle_cmpRegs k.val settled
  have hsettle := s.cmpSettle_step k.val settled
  obtain ⟨r, w, hmeas⟩ := s.cmpSettle_meas k.val settled
  show _ ∧ _
  generalize s.cmpSettle k.val settled = t at *
  have hactNow : t.rf (Reg.GPR_SDACT k.val) (if hi then 0 else 2) 2 = 0 := by
    refine (State.rf_of_rg _ _ (hsettle.regs _ ?_)).trans hact
    rw [List.mem_singleton]; unfold Reg.GPR_SDACT Reg.SDM_STAT; omega
  have hbeyondNow : t.cmpBeyond k.val hi v := by
    rw [State.cmpBeyond, cmpHi_congr hregs, cmpLo_congr hregs]
    exact hbeyond
  have htold := cmpAssert_told k.isLt (hv.trans (sinc2_congr hregs bits).symm) hlive ((cmpOn_congr hregs hi).trans hoff) hbeyondNow
    hactNow
  generalize cmpAssert k.val hi bits t = u at *
  have hstep := (hsettle.mono (by simp)).trans htold.step
  refine ⟨htold.asserted, htold.other.trans (cmpOn_congr hregs _), htold.flag, htold.stat, hstep.raises, hstep.regs,
    hstep.onlyRegsAnd (f := fun m => { m with recov := s.meas.recov, cmpWait := s.meas.cmpWait }) ?_⟩
  rw [htold.meas, hmeas]

theorem does_fastComparatorDeassert (hlive : (s.cmpSettle k.val settled).cmpLive k.val hi = true)
    (hon : s.cmpOn k.val hi = true) (hback : s.cmpBack k.val hi v) :
    Does (.fastComparatorDeassert k hi (bits, settled)) s fun u => u.cmpOn k.val hi = false ∧ Raises s u [] ∧
      KeepsRegs s u [Reg.SDM_RES k.val, Reg.SDM_STAT] ∧
      OnlyRegsAnd s u fun u => { u with meas.recov := s.meas.recov, meas.cmpWait := s.meas.cmpWait } := by
  refine Does_main s (fun s => cmpDeassert k.val hi bits (s.cmpSettle k.val settled)) rfl hrun ?_
  have hregs := s.cmpSettle_cmpRegs k.val settled
  have hsettle := s.cmpSettle_step k.val settled
  obtain ⟨r, w, hmeas⟩ := s.cmpSettle_meas k.val settled
  show _ ∧ _
  generalize s.cmpSettle k.val settled = t at *
  have hbackNow : t.cmpBack k.val hi (sinc2Code (t.osr2 k.val) (t.sdValues k.val bits)) := by
    rw [sinc2_congr hregs, ← hv, State.cmpBack, cmpHi_congr hregs, cmpLo_congr hregs, cmpHys_congr hregs]
    exact hback
  rw [cmpDeassert_deasserts hlive ((cmpOn_congr hregs hi).trans hon) hbackNow]
  have hclear := ((MeasStep.refl [Reg.SDM_RES k.val, Reg.SDM_STAT] t).wbit (a := Reg.SDM_RES k.val) (by simp) (cmpBit hi)
    false).trans ((State.showSdm_step _).mono (by simp))
  have hstep := (hsettle.mono (by simp)).trans hclear
  have hne : Reg.SDM_RES k.val ≠ Reg.SDM_STAT := by unfold Reg.SDM_RES Reg.SDM_STAT; omega
  refine ⟨?_, hstep.raises, hstep.regs,
    hstep.onlyRegsAnd (f := fun m => { m with recov := s.meas.recov, cmpWait := s.meas.cmpWait }) ?_⟩
  · rw [State.cmpOn, State.showSdm, State.bit_wn_ne _ _ _ hne]
    exact t.bit_wbit_same _ false (cmpBit_lt hi)
  · rw [State.showSdm_meas, State.wbit_meas, hmeas]

omit hv in
theorem leaves_fastComparatorAssert (hon : s.cmpOn k.val hi = true) : Leaves (.fastComparatorAssert k hi (bits, false)) s :=
  Leaves_main s (fun s => cmpAssert k.val hi bits (s.cmpSettle k.val false)) rfl hrun (cmpAssert_idle hon)

theorem leaves_fastComparatorDeassert (h : ¬ s.cmpBack k.val hi v) : Leaves (.fastComparatorDeassert k hi (bits, false)) s :=
  Leaves_main s (fun s => cmpDeassert k.val hi bits (s.cmpSettle k.val false)) rfl hrun (cmpDeassert_idle (hv ▸ h))

end Command

end Sys2Proof.Machine

open Sys2Proof Sys2Proof.Machine Sys2Proof.Safety

/-- Settles O11: a fault of a channel that is on and free is held, shown and recorded, and a comparator asserts beyond its
threshold and deasserts behind the hysteresis. -/
theorem channelFaultsAndComparators : Obligations.ChannelFaultsAndComparators := by
  unfold Obligations.ChannelFaultsAndComparators
  refine ⟨fun s c n rate hrun => ⟨fun p hp => ?_, fun hon _ => does_sdLossOfTransition_again hrun hon,
      does_sdRateFault_faulted hrun,
      fun x => does_sdChannelRecovered hrun, leaves_sdChannelRecovered hrun⟩,
    fun s c hi settled bits v hrun hv hlive hact =>
      ⟨fun hoff hbeyond => does_fastComparatorAssert hrun hv hlive hact hoff hbeyond,
      fun hon hback => does_fastComparatorDeassert hrun hv hlive hon hback, ?_, ?_⟩⟩
  · simp only [List.mem_cons, List.not_mem_nil, or_false] at hp
    rcases hp with rfl | rfl | rfl <;> dsimp only
    · exact ⟨fun hon hf hact => does_channelFault hrun (f := fun s => s.recover c.val false) rfl (by decide) hon hf hact rfl
          (faultReady_refl c.val s),
        fun hoff => leaves_channelFault hrun (f := fun s => s.recover c.val false) rfl rfl (.inl hoff),
        fun hf _ => leaves_channelFault hrun (f := fun s => s.recover c.val false) rfl rfl (.inr hf)⟩
    · exact ⟨fun hon hf hact => does_channelFault hrun (f := fun s => (s.recover c.val false).countViolations c.val n) rfl
          (by decide) hon hf hact (State.countViolations_counts hon hf) (faultReady_violations c.val n s),
        fun hoff => leaves_channelFault hrun (f := fun s => (s.recover c.val false).countViolations c.val n) rfl
          (State.countViolations_idle (.inl hoff)) (.inl hoff),
        fun hf _ => leaves_channelFault hrun (f := fun s => (s.recover c.val false).countViolations c.val n) rfl
          (State.countViolations_idle (.inr hf)) (.inr hf)⟩
    · exact ⟨fun hon hf hact => does_channelFault hrun (f := fun s => (s.recover c.val false).showRate c.val rate.toNat) rfl
          (by decide) hon hf hact (State.showRate_on hon) (faultReady_rate c.val rate s),
        fun hoff => leaves_channelFault hrun (f := fun s => (s.recover c.val false).showRate c.val rate.toNat) rfl
          (State.showRate_off hoff) (.inl hoff),
        fun _ h3 => absurd rfl h3⟩
  · rintro hon rfl
    exact leaves_fastComparatorAssert hrun hon
  · rintro - hwithin rfl
    refine leaves_fastComparatorDeassert hrun hv ?_
    cases hi
    · exact not_lt.2 hwithin
    · exact not_lt.2 hwithin
end

section
/-! PROOFS. Triggers of the converters (R132 to R134): what the work of one converter leaves of another, and a regular sequence that
a trigger starts. -/

namespace Sys2Proof.Machine

open Safety

variable {s t u : State} {k : Nat}

/-! ### Repeated changes -/

/-- Changes that do nothing leave the state. -/
theorem State.each_id {f : State → Nat → State} (n : Nat) (h : ∀ i < n, f s i = s) : s.each n f = s := by
  induction n with
  | zero => rfl
  | succ n ih => rw [State.each_succ, ih fun i hi => h i (by omega), h n (by omega)]

/-- Changes of which those in front of one, and those behind it, do nothing act as that one. -/
theorem State.each_only {f : State → Nat → State} {m : Nat} (n : Nat) (hm : m < n) (hbefore : ∀ i < m, f s i = s)
    (hbehind : ∀ i < n, m < i → f (f s m) i = f s m) : s.each n f = f s m := by
  induction n with
  | zero => omega
  | succ n ih =>
    rw [State.each_succ]
    by_cases hn : m = n
    · subst hn
      rw [State.each_id m hbefore]
    · rw [ih (by omega) fun i hi => hbehind i (by omega), hbehind n (by omega) (by omega)]

/-! ### A converter that is set -/

theorem State.setAdc_meas (s : State) (k : Nat) (a : Adc) :
    (s.setAdc k a).meas = { s.meas with conv := s.meas.conv.put k {} a } := State.wbit_meas ..

theorem State.adc_of_meas (h : t.meas = s.meas) (k : Nat) : t.adc k = s.adc k := by rw [State.adc, h, State.adc]

theorem State.adc_setAdc (s : State) (k j : Nat) (a : Adc) : (s.setAdc k a).adc j = if j = k then a else s.adc j := by
  rw [State.adc, State.setAdc_meas]
  exact Tab.get_set _ _ _ _ _

@[simp] theorem State.adc_setAdc_same (s : State) (k : Nat) (a : Adc) : (s.setAdc k a).adc k = a :=
  (s.adc_setAdc k k a).trans (if_pos rfl)

/-! ### Work of other converters -/

/-- The registers that the work of converters shows in. -/
def adcWork : List Nat := [Reg.ADC_STAT, Reg.ADC_FLAGS] ++ (List.range 8).map Reg.ADC_LOST ++ (List.range 8).map Reg.ADC_KSTAT

theorem adcWork_lost {j : Nat} (h : j < 8) : Reg.ADC_LOST j ∈ adcWork :=
  List.mem_append_left _ (List.mem_append_right _ (List.mem_map_of_mem (List.mem_range.2 h)))

theorem adcWork_kstat {j : Nat} (h : j < 8) : Reg.ADC_KSTAT j ∈ adcWork :=
  List.mem_append_right _ (List.mem_map_of_mem (List.mem_range.2 h))

theorem adcWork_seq : ∀ j < 8, Reg.ADC_SEQ j ∉ adcWork := by decide

theorem adcWork_cfg : ∀ j < 8, Reg.ADC_CFG j ∉ adcWork := by decide

theorem adcWork_sim : ∀ j < 4, Reg.ADC_SIM j ∉ adcWork := by decide

/-- The converters other than `k` may have worked: converter `k`, its bits of ADC_STAT and what it is configured as stand. -/
structure LeavesConv (k : Nat) (s t : State) : Prop where
  regs : KeepsRegs s t adcWork
  adc : t.adc k = s.adc k
  stat : ∀ i < 32, i % 8 = k → t.bit Reg.ADC_STAT i = s.bit Reg.ADC_STAT i
  kstat : t.rg (Reg.ADC_KSTAT k) = s.rg (Reg.ADC_KSTAT k)
  now : t.now = s.now
  keys : t.keys = s.keys
  delays : t.meas.delays = s.meas.delays

namespace LeavesConv

theorem refl (k : Nat) (s : State) : LeavesConv k s s := ⟨fun _ _ => rfl, rfl, fun _ _ _ => rfl, rfl, rfl, rfl, rfl⟩

theorem trans (h : LeavesConv k s t) (g : LeavesConv k t u) : LeavesConv k s u :=
  ⟨fun a ha => (g.regs a ha).trans (h.regs a ha), g.adc.trans h.adc, fun i hi hk => (g.stat i hi hk).trans (h.stat i hi hk),
    g.kstat.trans h.kstat, g.now.trans h.now, g.keys.trans h.keys, g.delays.trans h.delays⟩

/-- A register of another converter, or one they share but for ADC_STAT. -/
theorem wr (h : LeavesConv k s t) {a : Nat} (v : Word) (ha : a ∈ adcWork) (hs : a ≠ Reg.ADC_STAT) (hk : a ≠ Reg.ADC_KSTAT k) :
    LeavesConv k s (t.wr a v) := by
  refine ⟨fun b hb => ((t.wr_sameTick v ha).regs b hb).trans (h.regs b hb), h.adc, fun i hi hik => ?_, ?_, h.now, h.keys,
    h.delays⟩
  · exact (State.bit_of_rg i ((t.rg_wr a _ v).trans (if_neg hs.symm))).trans (h.stat i hi hik)
  · exact ((t.rg_wr a _ v).trans (if_neg hk.symm)).trans h.kstat

/-- A bit of another converter in ADC_STAT. -/
theorem wstat (h : LeavesConv k s t) {j : Nat} (hj : j < 8) (hne : j ≠ k) (b : Bool) :
    LeavesConv k s (t.wbit Reg.ADC_STAT j b) := by
  refine ⟨fun a ha => (t.rg_wbit_ne j b (ne_of_mem_of_not_mem (by decide) ha).symm).trans (h.regs a ha), h.adc,
    fun i hi hik => ?_, ?_, h.now, h.keys, h.delays⟩
  · exact (t.bit_wbit_apart _ b (by omega) (by omega)).trans (h.stat i hi hik)
  · exact (t.rg_wbit_ne j b (by unfold Reg.ADC_KSTAT Reg.ADC_STAT; omega)).trans h.kstat

theorem setAdc (h : LeavesConv k s t) {j : Nat} (hj : j < 8) (hne : j ≠ k) (a : Adc) : LeavesConv k s (t.setAdc j a) := by
  have hconv : LeavesConv k s { t with meas.conv := t.meas.conv.put j {} a } :=
    ⟨h.regs, (Tab.get_set_ne (fun _ => ({} : Adc)) t.meas.conv a hne.symm).trans h.adc, h.stat, h.kstat,
      h.now, h.keys, h.delays⟩
  exact hconv.wstat hj hne _

theorem raise (h : LeavesConv k s t) (c n : Nat) (d : List Nat) : LeavesConv k s (t.raise c n d) :=
  ⟨h.regs, h.adc, h.stat, h.kstat, h.now, h.keys, h.delays⟩

end LeavesConv

/-! ### What a converter is configured as -/

namespace LeavesConv

variable (h : LeavesConv k s t)
include h

theorem ilv {j : Nat} (hj : j < 8) : t.ilv j = s.ilv j := State.bit_of_rg 8 (h.regs _ (adcWork_cfg _ (by omega)))

theorem seqTrig {j : Nat} (hj : j < 8) : t.seqTrig j = s.seqTrig j := by
  rw [State.seqTrig, h.ilv hj, State.seqTrig]
  exact State.rf_of_rg 8 4 (h.regs _ (adcWork_seq _ (by split <;> omega)))

theorem setOf (j : Nat) : t.setOf j = s.setOf j := by
  have hsim (i : Nat) (hi : i < 4) : t.bit (Reg.ADC_SIM i) j = s.bit (Reg.ADC_SIM i) j :=
    State.bit_of_rg j (h.regs _ (adcWork_sim i hi))
  simp only [State.setOf, List.find?, hsim 0 (by decide), hsim 1 (by decide), hsim 2 (by decide), hsim 3 (by decide)]

theorem calibrating (hk : k < 8) : t.calibrating k = s.calibrating k := by
  rw [State.calibrating, h.stat (8 + k) (by omega) (by omega), h.stat (16 + k) (by omega) (by omega), State.calibrating]

end LeavesConv

/-! ### Work that leaves converter `k` -/

section Other

variable {j : Nat} (hj : j < 8) (hne : j ≠ k) (h : LeavesConv k s t)
include hj hne h

theorem LeavesConv.loseTrigger (x cause : Nat) : LeavesConv k s (t.loseTrigger j x cause) := by
  have hlost : LeavesConv k s (((t.satAdd (Reg.ADC_LOST j) 0 16 1).wf (Reg.ADC_LOST j) 16 3 cause).wbit Reg.ADC_FLAGS j true) := by
    have hne' : Reg.ADC_LOST j ≠ Reg.ADC_STAT ∧ Reg.ADC_LOST j ≠ Reg.ADC_KSTAT k := by
      unfold Reg.ADC_LOST Reg.ADC_STAT Reg.ADC_KSTAT; omega
    have hflags : Reg.ADC_FLAGS ≠ Reg.ADC_KSTAT k := by unfold Reg.ADC_FLAGS Reg.ADC_KSTAT; omega
    exact ((h.wr _ (adcWork_lost hj) hne'.1 hne'.2).wr _ (adcWork_lost hj) hne'.1 hne'.2).wr _ (by decide) (by decide) hflags
  simp only [State.loseTrigger]
  split
  · exact hlost
  · exact (hlost.setAdc hj hne _).raise _ _ _

theorem LeavesConv.startRegular (deferred : Bool) : LeavesConv k s (t.startRegular j deferred) := h.setAdc hj hne _

omit hne in
/-- A stream touches the two converters of its pair alone. -/
theorem LeavesConv.setStream (he : j % 2 = 0) (hpair : j / 2 ≠ k / 2) (x : Option Stream) : LeavesConv k s (t.setStream j x) := by
  have hk : Reg.ADC_KSTAT j ≠ Reg.ADC_STAT ∧ Reg.ADC_KSTAT (j + 1) ≠ Reg.ADC_STAT := by
    unfold Reg.ADC_KSTAT Reg.ADC_STAT; omega
  have hk' : Reg.ADC_KSTAT j ≠ Reg.ADC_KSTAT k ∧ Reg.ADC_KSTAT (j + 1) ≠ Reg.ADC_KSTAT k := by unfold Reg.ADC_KSTAT; omega
  exact (((h.setAdc hj (by omega) _).wstat (j := j + 1) (by omega) (by omega) _).wr _ (adcWork_kstat hj) hk.1 hk'.1).wr _
    (adcWork_kstat (by omega)) hk.2 hk'.2

theorem LeavesConv.fireStream (hpair : j / 2 ≠ k / 2) (x : Nat) : LeavesConv k s (t.fireStream j x) := by
  unfold State.fireStream
  split
  · split
    · exact LeavesConv.setStream hj h (by assumption) hpair _
    · exact h
  · split
    · exact h
    · exact LeavesConv.loseTrigger hj hne h x 1

/-- What another converter does on a trigger leaves converter `k`, which is not interleaved. -/
theorem LeavesConv.fireRegular (hilv : s.ilv k = false) (hk : k < 8) (x : Nat) : LeavesConv k s (t.fireRegular j x) := by
  unfold State.fireRegular
  split
  · exact LeavesConv.loseTrigger hj hne h x 3
  · split
    next hj' =>
      refine LeavesConv.fireStream hj hne h (fun hpair => ?_) x
      have hsame : t.ilv j = t.ilv k := by rw [State.ilv, hpair, State.ilv]
      rw [hsame, h.ilv hk, hilv] at hj'
      exact Bool.false_ne_true hj'
    next =>
      split
      · exact LeavesConv.loseTrigger hj hne h x 1
      · exact LeavesConv.startRegular hj hne h false

end Other

/-! ### The converter that a trigger starts (R134) -/

/-- The regular part of trigger `x` for one converter outside any simultaneous set. -/
def State.fireConv (x : Nat) (s : State) (j : Nat) : State :=
  if (s.setOf j).isNone && s.seqTrig j == x then s.fireRegular j x else s

theorem LeavesConv.fireConv {j : Nat} (hj : j < 8) (hne : j ≠ k) (h : LeavesConv k s t) (hilv : s.ilv k = false) (hk : k < 8)
    (x : Nat) : LeavesConv k s (t.fireConv x j) := by
  unfold State.fireConv
  split
  · exact LeavesConv.fireRegular hj hne h hilv hk x
  · exact h

/-- Converter `k` behind its regular sequence was started at its next step. -/
theorem State.startRegular_started (s : State) (hk : k < 8) : Started s (s.startRegular k false) k := by
  have hadc := State.adc_setAdc_same s k
  exact ⟨congrArg Adc.reg (hadc _), congrArg Adc.left (hadc _), State.bit_wbit_same _ _ _ (by omega)⟩

theorem Started.behind (h : Started t u k) (hs : LeavesConv k s t) (hk : k < 8) : Started s u k := by
  obtain ⟨hreg, hleft, hstat⟩ := h
  have hseq := hs.regs _ (adcWork_seq k hk)
  rw [State.bit_of_rg 4 hseq] at hreg hleft
  rw [State.rf_of_rg 2 4 hs.kstat, hs.now] at hreg
  rw [State.rf_of_rg 0 4 hseq] at hleft
  exact ⟨hreg, hleft, hstat⟩

theorem Started.ahead (h : Started s t k) (ht : LeavesConv k t u) (hk : k < 8) : Started s u k := by
  obtain ⟨hreg, hleft, hstat⟩ := h
  exact ⟨ht.adc ▸ hreg, ht.adc ▸ hleft, (ht.stat k (by omega) (by omega)).trans hstat⟩

section Fire

variable {x : Nat} (hk : k < 8) (hfree : FreeConverter s k x) (hset : s.setOf k = none)
include hk hfree

/-- The converters in front of `k` leave it. -/
theorem State.fireConv_before (n : Nat) (hn : n ≤ k) : LeavesConv k s (s.each n (State.fireConv x)) := by
  obtain ⟨-, -, hilv, -⟩ := hfree
  induction n with
  | zero => exact LeavesConv.refl k s
  | succ n ih =>
    rw [State.each_succ]
    exact (ih (by omega)).fireConv (by omega) (by omega) hilv hk x

include hset

/-- Converter `k` starts, where those in front of it have worked. -/
theorem State.fireConv_starts (h : LeavesConv k s t) : t.fireConv x k = t.startRegular k false := by
  obtain ⟨htrig, hcal, hilv, hreg⟩ := hfree
  have hseq : s.seqTrig k = x := by rw [State.seqTrig, hilv]; exact htrig
  simp [State.fireConv, State.fireRegular, h.setOf, hset, h.seqTrig hk, hseq, h.calibrating hk, hcal, h.ilv hk, hilv, h.adc, hreg]

/-- Converter `k` starts in its turn, and those behind it leave it. -/
theorem State.fireConv_behind (n : Nat) (hn : k < n) (h8 : n ≤ 8) :
    ∃ t, LeavesConv k s t ∧ LeavesConv k (t.startRegular k false) (s.each n (State.fireConv x)) := by
  induction n with
  | zero => omega
  | succ n ih =>
    rw [State.each_succ]
    by_cases hnk : n = k
    · subst hnk
      have hbefore := State.fireConv_before hk hfree n le_rfl
      exact ⟨_, hbefore, State.fireConv_starts hk hfree hset hbefore ▸ LeavesConv.refl n _⟩
    · obtain ⟨t, ht, hbehind⟩ := ih (by omega) (by omega)
      have hcfg : (t.startRegular k false).ilv k = t.ilv k :=
        State.bit_of_rg 8 (State.rg_wbit_ne _ _ _ (by unfold Reg.ADC_CFG Reg.ADC_STAT; omega))
      exact ⟨t, ht, hbehind.fireConv (by omega) hnk (hcfg.trans ((ht.ilv hk).trans hfree.2.2.1)) hk x⟩

end Fire

/-! ### A trigger (R133, R134) -/

/-- The injected entries of trigger `x`, and its simultaneous sets (R135 to R138). -/
def State.fireInjected (s : State) (x : Nat) : State := s.each 8 fun s k => s.each 4 fun s i =>
  if s.bit (Reg.ADC_INJ k i) 0 && s.rf (Reg.ADC_INJ k i) 4 4 == x then s.inject k x i else s

def State.fireSets (s : State) (x : Nat) : State := [0, 1, 2, 3].foldl (fun s j =>
  if s.rf (Reg.ADC_SIM j) 0 8 != 0 && s.rf (Reg.ADC_SIM j) 8 4 == x then s.fireSet j x else s) s

theorem State.fire_eq (s : State) (x : Nat) : s.fire x = ((s.fireInjected x).fireSets x).each 8 (State.fireConv x) := rfl

/-- Without simultaneous sets and injected entries a trigger goes to each converter in turn. -/
theorem State.fire_plain (h : PlainAdc s) (x : Nat) : s.fire x = s.each 8 (State.fireConv x) := by
  obtain ⟨hsim, hinj⟩ := h
  have hinjected : s.fireInjected x = s :=
    State.each_id 8 fun k hk => State.each_id 4 fun i hi => if_neg (by simp [hinj k hk i hi])
  have hsets : s.fireSets x = s := by simp [State.fireSets, hsim]
  rw [State.fire_eq, hinjected, hsets]

theorem State.setOf_plain (h : PlainAdc s) (hk : k < 8) : s.setOf k = none := by
  obtain ⟨hsim, -⟩ := h
  have hbit (j : Nat) (hj : j < 4) : s.bit (Reg.ADC_SIM j) k = false := by
    have hz := fld_bit_of_zero (hsim j hj) hk
    rw [Nat.zero_add] at hz
    simp [State.bit, State.rf, hz]
  simp [State.setOf, hbit]

/-- The trigger starts the free converter it serves. -/
theorem State.fire_starts {x : Nat} (hplain : PlainAdc s) (hk : k < 8) (hfree : FreeConverter s k x) :
    Started s (s.fire x) k ∧ (s.fire x).keys = s.keys ∧ (s.fire x).meas.delays = s.meas.delays := by
  obtain ⟨t, ht, hbehind⟩ := State.fireConv_behind hk hfree (State.setOf_plain hplain hk) 8 hk le_rfl
  rw [State.fire_plain hplain]
  refine ⟨Started.ahead (Started.behind (t.startRegular_started hk) ht hk) hbehind hk, hbehind.keys.trans ht.keys,
    hbehind.delays.trans ?_⟩
  exact (congrArg Meas.delays (State.setAdc_meas _ _ _)).trans ht.delays

end Sys2Proof.Machine
end

section
/-! PROOFS. The commands that fire a trigger (R132 to R134). -/

namespace Sys2Proof.Machine

open Safety

variable {s : State} {k x : Nat}

/-! ### Sources of a trigger -/

theorem State.sourceOf_plain (h : s.rf (Reg.ADC_TRIG_DLY_L x) 0 16 = 0) : s.sourceOf x = s.fire x := if_pos h

/-- `n` delays of trigger `x` run. -/
def State.withDelays (s : State) (x n : Nat) : State := { s with meas.delays := s.meas.delays.put x 0 n }

theorem State.withDelays_delays (s : State) (x n : Nat) : (s.withDelays x n).meas.delays.at x 0 = n := Tab.get_set_same _ _ _ _

/-- With a delay set and fewer than four of it running, the source starts one more. -/
theorem State.sourceOf_delayed (h : s.rf (Reg.ADC_TRIG_DLY_L x) 0 16 ≠ 0) (hn : s.meas.delays.at x 0 < 4) :
    s.sourceOf x = s.withDelays x (s.meas.delays.at x 0 + 1) :=
  (if_neg h).trans (if_pos hn)

theorem timerTrigger_named (h : s.rf (Reg.ADC_TRIG_SRC x) 0 6 = 0x20) : timerTrigger x s = s.sourceOf x := if_pos h

theorem timerTrigger_other (h : s.rf (Reg.ADC_TRIG_SRC x) 0 6 ≠ 0x20) : timerTrigger x s = s := if_neg h

/-- A software write that names trigger `x` alone. -/
theorem swTrigger_named {v : Word} (hx : x < 16) (hsrc : s.rf (Reg.ADC_TRIG_SRC x) 0 6 = 0x1f)
    (hv : ∀ j < 16, fld v j 1 = if j = x then 1 else 0) : swTrigger v s = s.sourceOf x := by
  have hother (u : State) (i : Nat) (hi : i < 16) (hne : i ≠ x) :
      (if fld v i 1 = 1 && u.rf (Reg.ADC_TRIG_SRC i) 0 6 = 0x1f then u.sourceOf i else u) = u := by simp [hv i hi, hne]
  refine (State.each_only 16 hx (fun i hi => hother s i (by omega) (by omega)) fun i hi hlt => hother _ i hi (by omega)).trans ?_
  simp [hv x hx, hsrc]

theorem triggerFire_idle (h : s.meas.delays.at x 0 = 0) : triggerFire x s = s := if_pos h

/-! ### The end of a delay -/

theorem triggerFire_delayed (h : 0 < s.meas.delays.at x 0) :
    triggerFire x s = (s.withDelays x (s.meas.delays.at x 0 - 1)).fire x := if_neg (by omega)

/-- The delays that run do not change what the trigger starts. -/
theorem State.fire_withDelays (hplain : PlainAdc s) (hk : k < 8) (hfree : FreeConverter s k x) (n : Nat) :
    Started s ((s.withDelays x n).fire x) k ∧ ((s.withDelays x n).fire x).meas.delays.at x 0 = n ∧
      KeepsMem s ((s.withDelays x n).fire x) := by
  have hplain' : PlainAdc (s.withDelays x n) := hplain
  have hfree' : FreeConverter (s.withDelays x n) k x := hfree
  obtain ⟨hstart, -, hdelays⟩ := State.fire_starts hplain' hk hfree'
  refine ⟨hstart, ?_, keepsMem_of_mem (State.fire_mem (s.withDelays x n) x)⟩
  rw [hdelays]
  exact s.withDelays_delays x n

end Sys2Proof.Machine

open Sys2Proof Sys2Proof.Machine Sys2Proof.Safety

/-- Settles O12: without sets and injected entries a trigger goes to each converter in turn, and the work of the others leaves the
free one as it was (`State.fire_starts`). -/
theorem triggers : Obligations.Triggers := by
  unfold Obligations.Triggers
  intro s src t k v hrun hplain hfree
  have hfire : Started s (s.fire t.val) k.val ∧ KeepsMem s (s.fire t.val) :=
    ⟨(State.fire_starts hplain k.isLt hfree).1, keepsMem_of_mem (State.fire_mem _ _)⟩
  refine ⟨fun hn => ?_, fun hn => ?_, fun hsrc => ⟨fun hd => ?_, fun hd hn => ?_⟩, fun hsrc => ?_,
    fun hreach hsrc hv hd => ?_⟩
  · exact Does_main_eq (triggerFire t.val) rfl hrun (triggerFire_delayed hn) (State.fire_withDelays hplain k.isLt hfree _)
  · exact Leaves_main s (triggerFire t.val) rfl hrun (triggerFire_idle hn)
  · have hsource : timerTrigger t.val s = s.fire t.val := (timerTrigger_named hsrc).trans (State.sourceOf_plain hd)
    exact Does_main_eq (timerTrigger t.val) rfl hrun hsource hfire
  · have hsource := (timerTrigger_named hsrc).trans (State.sourceOf_delayed hd hn)
    exact Does_main_eq (timerTrigger t.val) rfl hrun hsource ⟨s.withDelays_delays _ _, rfl⟩
  · exact Leaves_main s (timerTrigger t.val) rfl hrun (timerTrigger_other hsrc)
  · have hplain' : PlainAdc (s.disarm src) := hplain
    have hfree' : FreeConverter (s.disarm src) k.val t.val := hfree
    have hact : swTrigger v (s.disarm src) = (s.disarm src).fire t.val :=
      (swTrigger_named (s := s.disarm src) t.isLt hsrc hv).trans (State.sourceOf_plain (s := s.disarm src) hd)
    obtain ⟨hstart, hkeys, -⟩ := State.fire_starts hplain' k.isLt hfree'
    have hslot : ((s.disarm src).fire t.val).slot src = {} := by
      rw [State.slot, hkeys]
      exact s.slot_disarm src
    have hmem : KeepsMem s ((s.disarm src).fire t.val) := keepsMem_of_mem (State.fire_mem _ _)
    refine Does_unkeyed (swTrigger v) rfl hreach ?_
    rw [hact]
    exact ⟨hstart, hslot, hmem⟩
end

section
/-! PROOFS. Samples and conversions of the converters (R129 to R139). -/

namespace Sys2Proof.Machine

open Safety

variable {s t : State} {k e : Nat}

/-! ### A converter and a stream that are set -/

theorem MeasStep.setAdc {l : List Nat} {ev : List (Nat × Nat × List Nat)} (h : MeasStep l ev s t) (hl : Reg.ADC_STAT ∈ l)
    (k : Nat) (a : Adc) : MeasStep l ev s (t.setAdc k a) :=
  (h.meas { t.meas with conv := t.meas.conv.put k {} a }).wbit hl k _

theorem State.setAdc_step (s : State) (k : Nat) (a : Adc) : MeasStep [Reg.ADC_STAT] [] s (s.setAdc k a) :=
  (MeasStep.refl _ s).setAdc (List.mem_singleton_self _) k a

/-- A converter that is set touches ADC_STAT and what converters hold alone. -/
theorem State.setAdc_onlyRegsAnd (s : State) (k : Nat) (a : Adc) :
    OnlyRegsAnd s (s.setAdc k a) fun u => { u with meas.conv := s.meas.conv } := by
  refine (s.setAdc_step k a).onlyRegsAnd (f := fun m => { m with conv := s.meas.conv }) ?_
  rw [State.setAdc_meas]

theorem State.setStream_step (s : State) (e : Nat) (x : Option Stream) :
    MeasStep [Reg.ADC_STAT, Reg.ADC_KSTAT e, Reg.ADC_KSTAT (e + 1)] [] s (s.setStream e x) :=
  ((((MeasStep.refl _ s).setAdc (by simp) e _).wbit (by simp) (e + 1) _).wbit (by simp) 1 _).wbit (by simp) 1 _

theorem State.setStream_meas (s : State) (e : Nat) (x : Option Stream) :
    (s.setStream e x).meas = (s.setAdc e { s.adc e with stream := x }).meas := by
  simp only [State.setStream, State.wbit_meas]

theorem State.setStream_onlyRegsAnd (s : State) (e : Nat) (x : Option Stream) :
    OnlyRegsAnd s (s.setStream e x) fun u => { u with meas.conv := s.meas.conv } := by
  refine (s.setStream_step e x).onlyRegsAnd (f := fun m => { m with conv := s.meas.conv }) ?_
  rw [State.setStream_meas, State.setAdc_meas]

theorem State.setStream_stream (s : State) (e : Nat) (x : Option Stream) : ((s.setStream e x).adc e).stream = x := by
  rw [State.adc_of_meas (s.setStream_meas e x), State.adc_setAdc_same]

/-! ### Samples (R130, R136, R139) -/

/-- A stream behind its next sample. -/
def Stream.sampledAt (x : Stream) (now : Nat) : Stream :=
  let j : Job := { slot := x.slot, trig := x.trig, sampled := some now }
  { x with left := x.left.map (· - 1), odd := !x.odd, slot := (x.slot + 1) % 16
           evenJob := if x.odd then x.evenJob else some j, oddJob := if x.odd then some j else x.oddJob }

/-- The job of the converter whose turn it was is the sample, that of the other stands. -/
theorem Stream.sampledAt_jobs (x : Stream) (now : Nat) :
    (if x.odd then (x.sampledAt now).oddJob else (x.sampledAt now).evenJob) =
      some { slot := x.slot, trig := x.trig, sampled := some now } ∧
    (if x.odd then (x.sampledAt now).evenJob = x.evenJob else (x.sampledAt now).oddJob = x.oddJob) := by
  cases h : x.odd <;> simp [Stream.sampledAt, h]

theorem sampleInstant_stream {x : Stream} (hilv : s.ilv k = true) (hx : (s.adc (k / 2 * 2)).stream = some x)
    (hturn : x.odd = (k % 2 == 1)) (hleft : x.left ≠ some 0) (hfree : (if x.odd then x.oddJob else x.evenJob) = none) :
    sampleInstant k s = s.setStream (k / 2 * 2) (some (x.sampledAt s.now)) := by
  have hgo : (x.odd != (k % 2 == 1) || x.left == some 0 || (if x.odd then x.oddJob else x.evenJob).isSome) = false := by
    simp [← hturn, hleft, hfree]
  simp only [sampleInstant, hilv, if_true, State.sampleStream, hx, hgo]
  rfl

theorem sampleInstant_injected {j : Job} {rest : List Job} (hilv : s.ilv k = false) (hinj : (s.adc k).inj = j :: rest)
    (hj : j.sampled = none) :
    sampleInstant k s = s.setAdc k { s.adc k with inj := { j with sampled := some s.now } :: rest } := by
  simp [sampleInstant, hilv, hinj, hj]

theorem sampleInstant_regular {j : Job} (hilv : s.ilv k = false) (hinj : (s.adc k).inj = []) (hset : s.setOf k = none)
    (hreg : (s.adc k).reg = some j) :
    sampleInstant k s = s.setAdc k { s.adc k with reg := some { j with sampled := some s.now } } := by
  simp [sampleInstant, hilv, hinj, hset, State.sampleRegular, hreg]

/-! ### A result (R131, R150) -/

/-- The word of a result: its code, NEW, RESAMPLED, DEFERRED and its sample offset. -/
def resultWord (code : Int) (j : Job) (offset : Nat) : Nat :=
  unsigned 16 code + 65536 + j.resampled.toNat * 131072 + j.deferred.toNat * 262144 + min offset 8191 * 524288

theorem resultWord_fields (code : Int) (j : Job) {offset : Nat} (h : offset ≤ 8191) :
    fld (BitVec.ofNat 32 (resultWord code j offset)) 0 16 = unsigned 16 code ∧
    fld (BitVec.ofNat 32 (resultWord code j offset)) 16 1 = 1 ∧
    fld (BitVec.ofNat 32 (resultWord code j offset)) 17 1 = j.resampled.toNat ∧
    fld (BitVec.ofNat 32 (resultWord code j offset)) 18 1 = j.deferred.toNat ∧
    fld (BitVec.ofNat 32 (resultWord code j offset)) 19 13 = offset := by
  have hcode : unsigned 16 code < 65536 := by unfold unsigned; omega
  have hr := Bool.toNat_lt j.resampled
  have hd := Bool.toNat_lt j.deferred
  simp only [fld, BitVec.toNat_ofNat, resultWord, Nat.min_eq_left h]
  refine ⟨?_, ?_, ?_, ?_, ?_⟩ <;> omega

theorem State.putResult_rg (s : State) (r key : Nat) (code : Int) {j : Job} {w : Nat} (hw : j.sampled = some w) :
    (s.putResult r key code j).rg r = BitVec.ofNat 32 (resultWord code j (w - j.trig)) := by
  simp only [State.putResult, hw, Option.getD_some]
  exact (State.rg_wn _ _ _ _).trans (if_pos rfl)

theorem State.putResult_step (s : State) (r key : Nat) (code : Int) (j : Job) :
    MeasStep [r] [] s (s.putResult r key code j) :=
  ((MeasStep.refl _ s).meas _).wn (List.mem_singleton_self _) _

theorem State.putResult_adc (s : State) (r key : Nat) (code : Int) (j : Job) (k : Nat) :
    (s.putResult r key code j).adc k = s.adc k := rfl

/-! ### A step that ends (R134) -/

theorem State.nextStep_step (s : State) (k : Nat) (j : Job) : MeasStep [Reg.ADC_KSTAT k, Reg.ADC_STAT] [] s (s.nextStep k j) := by
  have hstep (n : Nat) := (MeasStep.refl [Reg.ADC_KSTAT k, Reg.ADC_STAT] s).wf (a := Reg.ADC_KSTAT k) (by simp) 2 4 n
  exact MeasStep.ite ((hstep _).setAdc (by simp) k _) ((hstep _).setAdc (by simp) k _)

/-- The last step of a sequence ends it. -/
theorem State.nextStep_reg (j : Job) (h : (s.adc k).left = 1) : ((s.nextStep k j).adc k).reg = none := by
  simp [State.nextStep, h]

/-- The result of a regular conversion that ends. -/
theorem conversionComplete_regular {j : Job} {nanovolt : Int} (hcal : s.bit (Reg.ADC_KSTAT k) 0 = true) {w : Nat}
    (hw : j.sampled = some w) (hinj : (s.adc k).inj = []) (hilv : s.ilv k = false) (hreg : (s.adc k).reg = some j) :
    conversionComplete k nanovolt s =
      (s.draw.putResult (Reg.ADC_RES k j.slot) (32 * k + j.slot) (adcCode nanovolt) j).nextStep k j := by
  have hilv' : s.draw.ilv k = false := hilv
  simp [conversionComplete, State.convCode, hcal, hilv', hinj, hreg, hw]

/-! ### The commands -/

section Command

variable {c : Conv} (hrun : s.running = true) {j : Job} {rest : List Job}
include hrun

theorem does_sampleInstant_stream (he : e = c.val / 2 * 2) {x : Stream} (hilv : s.ilv c.val = true) (hx : (s.adc e).stream = some x)
    (hturn : x.odd = (c.val % 2 == 1)) (hleft : x.left ≠ some 0) (hfree : (if x.odd then x.oddJob else x.evenJob) = none) :
    Does (.adcSampleInstant c) s fun u =>
      (∃ y, (u.adc e).stream = some y ∧ y.odd = !x.odd ∧ y.slot = (x.slot + 1) % 16 ∧ y.left = x.left.map (· - 1) ∧
        (if x.odd then y.oddJob else y.evenJob) = some { slot := x.slot, trig := x.trig, sampled := some s.now } ∧
        (if x.odd then y.evenJob = x.evenJob else y.oddJob = x.oddJob)) ∧ Raises s u [] ∧
      KeepsRegs s u [Reg.ADC_STAT, Reg.ADC_KSTAT e, Reg.ADC_KSTAT (e + 1)] ∧
      OnlyRegsAnd s u fun u => { u with meas.conv := s.meas.conv } := by
  subst he
  refine Does_main_eq (sampleInstant c.val) rfl hrun (sampleInstant_stream hilv hx hturn hleft hfree) ?_
  have hstep := s.setStream_step (c.val / 2 * 2) (some (x.sampledAt s.now))
  obtain ⟨hjob, hother⟩ := x.sampledAt_jobs s.now
  exact ⟨⟨_, s.setStream_stream _ _, rfl, rfl, rfl, hjob, hother⟩, hstep.raises, hstep.regs, s.setStream_onlyRegsAnd _ _⟩

theorem does_sampleInstant_injected (hilv : s.ilv c.val = false) (hinj : (s.adc c.val).inj = j :: rest) (hj : j.sampled = none) :
    Does (.adcSampleInstant c) s fun u =>
      (u.adc c.val).inj = { j with sampled := some s.now } :: rest ∧ (u.adc c.val).reg = (s.adc c.val).reg ∧ Raises s u [] ∧
      KeepsRegs s u [Reg.ADC_STAT] ∧ OnlyRegsAnd s u fun u => { u with meas.conv := s.meas.conv } := by
  refine Does_main_eq (sampleInstant c.val) rfl hrun (sampleInstant_injected hilv hinj hj) ?_
  have hstep := s.setAdc_step c.val
  exact ⟨by rw [State.adc_setAdc_same], by rw [State.adc_setAdc_same], (hstep _).raises, (hstep _).regs,
    s.setAdc_onlyRegsAnd _ _⟩

theorem does_sampleInstant_regular (hilv : s.ilv c.val = false) (hinj : (s.adc c.val).inj = []) (hset : s.setOf c.val = none)
    (hreg : (s.adc c.val).reg = some j) : Does (.adcSampleInstant c) s fun u =>
      (u.adc c.val).reg = some { j with sampled := some s.now } ∧ Raises s u [] ∧ KeepsRegs s u [Reg.ADC_STAT] ∧
      OnlyRegsAnd s u fun u => { u with meas.conv := s.meas.conv } := by
  refine Does_main_eq (sampleInstant c.val) rfl hrun (sampleInstant_regular hilv hinj hset hreg) ?_
  have hstep := s.setAdc_step c.val
  exact ⟨by rw [State.adc_setAdc_same], (hstep _).raises, (hstep _).regs, s.setAdc_onlyRegsAnd _ _⟩

theorem does_conversionComplete {w : Nat} {nanovolt : Int} (hcal : s.bit (Reg.ADC_KSTAT c.val) 0 = true) (hw : j.sampled = some w)
    (hage : w - j.trig ≤ 8191) (hslot : j.slot < 16) (hinj : (s.adc c.val).inj = []) (hilv : s.ilv c.val = false)
    (hreg : (s.adc c.val).reg = some j) (hleft : (s.adc c.val).left = 1) :
    Does (.adcConversionComplete c nanovolt) s fun u =>
      u.rf (Reg.ADC_RES c.val j.slot) 0 16 = unsigned 16 (adcCode nanovolt) ∧ u.bit (Reg.ADC_RES c.val j.slot) 16 = true ∧
      u.bit (Reg.ADC_RES c.val j.slot) 17 = j.resampled ∧ u.bit (Reg.ADC_RES c.val j.slot) 18 = j.deferred ∧
      u.rf (Reg.ADC_RES c.val j.slot) 19 13 = w - j.trig ∧ (u.adc c.val).reg = none ∧ Raises s u [] ∧
      KeepsRegs s u [Reg.ADC_RES c.val j.slot, Reg.ADC_KSTAT c.val, Reg.ADC_STAT] ∧
      OnlyRegsAnd s u fun u => { u with meas := s.meas, free := s.free } := by
  refine Does_main_eq (conversionComplete c.val nanovolt) rfl hrun (conversionComplete_regular hcal hw hinj hilv hreg) ?_
  have hres := s.draw.putResult_rg (Reg.ADC_RES c.val j.slot) (32 * c.val + j.slot) (adcCode nanovolt) hw
  have hput := s.draw.putResult_step (Reg.ADC_RES c.val j.slot) (32 * c.val + j.slot) (adcCode nanovolt) j
  have hadc := s.draw.putResult_adc (Reg.ADC_RES c.val j.slot) (32 * c.val + j.slot) (adcCode nanovolt) j c.val
  generalize s.draw.putResult (Reg.ADC_RES c.val j.slot) (32 * c.val + j.slot) (adcCode nanovolt) j = t at *
  have hnext := t.nextStep_step c.val j
  have hdone := State.nextStep_reg (s := t) j ((congrArg Adc.left hadc).trans hleft)
  have hne : Reg.ADC_RES c.val j.slot ∉ [Reg.ADC_KSTAT c.val, Reg.ADC_STAT] := by
    simp only [List.mem_cons, List.not_mem_nil, or_false]; unfold Reg.ADC_RES Reg.ADC_KSTAT Reg.ADC_STAT; omega
  have hword := (hnext.regs _ hne).trans hres
  obtain ⟨hcode, hnew, hres', hdef, hoff⟩ := resultWord_fields (adcCode nanovolt) j hage
  have hstep : MeasStep [Reg.ADC_RES c.val j.slot, Reg.ADC_KSTAT c.val, Reg.ADC_STAT] [] s.draw (t.nextStep c.val j) :=
    (hput.mono (by simp)).trans (hnext.mono (by simp))
  generalize t.nextStep c.val j = u at *
  refine ⟨?_, ?_, ?_, ?_, ?_, hdone, hstep.raises, hstep.regs, ?_⟩
  · rw [State.rf, hword, hcode]
  · simp [State.bit, State.rf, hword, hnew]
  · simp [State.bit, State.rf, hword, hres']
  · simp [State.bit, State.rf, hword, hdef]
  · rw [State.rf, hword, hoff]
  · obtain ⟨r, m, b, rfl⟩ := hstep.only
    rfl

end Command

end Sys2Proof.Machine
end

section
/-! PROOFS. Calibration of the converters (R140 to R142). -/

namespace Sys2Proof.Machine

open Safety

variable {s t : State} {k : Nat}

/-! ### Regular work that is discarded (R140) -/

/-- The event of a sequence that is interrupted. -/
def droppedEvents (k : Nat) : Option Job → List (Nat × Nat × List Nat)
  | some j => [(0x0414, k, [k, j.slot])]
  | none => []

/-- The event of an interrupted sequence of converter `k`, if one runs. -/
def State.tellDropped (s : State) (k : Nat) : State := (s.adc k).reg.elim s fun j => s.raise 0x0414 k [k, j.slot]

theorem State.tellDropped_step (s : State) (k : Nat) (l : List Nat) :
    MeasStep l (droppedEvents k (s.adc k).reg) s (s.tellDropped k) := by
  unfold State.tellDropped
  cases (s.adc k).reg with
  | none => exact MeasStep.refl _ s
  | some j => exact (MeasStep.refl _ s).raise _ _ _

theorem State.tellDropped_meas (s : State) (k : Nat) : (s.tellDropped k).meas = s.meas := by
  unfold State.tellDropped
  cases (s.adc k).reg <;> rfl

theorem State.dropRegular_eq (s : State) (k : Nat) : s.dropRegular k =
    ((s.tellDropped k).setAdc k { s.adc k with reg := none, left := 0 }).wf (Reg.ADC_KSTAT k) 2 4 0 := by
  simp only [State.dropRegular, State.tellDropped]
  cases (s.adc k).reg <;> rfl

theorem State.dropRegular_step (s : State) (k : Nat) :
    MeasStep [Reg.ADC_STAT, Reg.ADC_KSTAT k] (droppedEvents k (s.adc k).reg) s (s.dropRegular k) := by
  rw [State.dropRegular_eq]
  exact ((s.tellDropped_step k _).setAdc (by simp) k _).wf (by simp) 2 4 0

theorem State.dropRegular_adc (s : State) (k i : Nat) :
    (s.dropRegular k).adc i = if i = k then { s.adc k with reg := none, left := 0 } else s.adc i := by
  rw [State.dropRegular_eq, State.adc_of_meas (State.wf_meas ..), State.adc_setAdc, State.adc_of_meas (s.tellDropped_meas k)]

theorem State.dropRegular_stream (s : State) (k i : Nat) : ((s.dropRegular k).adc i).stream = (s.adc i).stream := by
  rw [State.dropRegular_adc]
  split
  next h => rw [h]
  next => rfl

/-! ### A calibration that becomes pending (R140, R141) -/

/-- A converter that calibrates alone: no simultaneous set holds it, and no stream runs on its pair. -/
abbrev CalibratesAlone (s : State) (k : Nat) : Prop :=
  s.setOf k = none ∧ s.calibrating k = false ∧ (s.adc (k / 2 * 2)).stream = none

theorem State.requestCal_alone (h : CalibratesAlone s k) :
    s.requestCal k = (s.dropRegular k).wbit Reg.ADC_STAT (16 + k) true := by
  obtain ⟨hset, hcal, hstream⟩ := h
  simp [State.requestCal, hcal, State.lockstep, hset, State.dropRegular_stream, hstream]

theorem State.requestCal_step (h : CalibratesAlone s k) :
    MeasStep [Reg.ADC_STAT, Reg.ADC_KSTAT k] (droppedEvents k (s.adc k).reg) s (s.requestCal k) := by
  rw [State.requestCal_alone h]
  exact (s.dropRegular_step k).wbit (by simp) (16 + k) true

theorem State.requestCal_pending (h : CalibratesAlone s k) (hk : k < 8) :
    (s.requestCal k).bit Reg.ADC_STAT (16 + k) = true ∧
      ((s.requestCal k).adc k).reg = none ∧ ((s.requestCal k).adc k).inj = (s.adc k).inj := by
  rw [State.requestCal_alone h, State.adc_of_meas (State.wbit_meas ..), State.dropRegular_adc, if_pos rfl]
  exact ⟨State.bit_wbit_same _ _ _ (by omega), rfl, rfl⟩

/-- A command that names converter `k` alone, where none is interleaved. -/
theorem calCmd_named {v : Word} (hk : k < 8) (hv : ∀ j < 8, fld v j 1 = if j = k then 1 else 0)
    (hilv : ∀ j < 8, s.ilv j = false) (h : CalibratesAlone s k) : calCmd v s = s.requestCal k := by
  have hother (u : State) (hu : ∀ j < 8, u.ilv j = false) (i : Nat) (hi : i < 8) (hne : i ≠ k) :
      (if fld v i 1 = 1 || (u.ilv i && fld v (i / 2 * 2) 2 != 0) then u.requestCal i else u) = u := by
    simp [hv i hi, hne, hu i hi]
  have hnamed : (if fld v k 1 = 1 || (s.ilv k && fld v (k / 2 * 2) 2 != 0) then s.requestCal k else s) = s.requestCal k := by
    simp [hv k hk]
  have hilv' (j : Nat) (hj : j < 8) : (s.requestCal k).ilv j = false := by
    have hne : Reg.ADC_CFG (j / 2 * 2) ∉ [Reg.ADC_STAT, Reg.ADC_KSTAT k] := by
      simp only [List.mem_cons, List.not_mem_nil, or_false]; unfold Reg.ADC_CFG Reg.ADC_STAT Reg.ADC_KSTAT; omega
    exact (State.bit_of_rg 8 ((State.requestCal_step h).regs _ hne)).trans (hilv j hj)
  refine (State.each_only 8 hk (fun i hi => hother s hilv i (by omega) (by omega)) fun i hi hlt => ?_).trans hnamed
  rw [hnamed]
  exact hother _ hilv' i hi (by omega)

/-! ### A calibration that starts (R140) -/

/-- The calibration of converter `k` is no longer pending but runs. -/
def State.calBegun (s : State) (k : Nat) : State :=
  (s.wbit Reg.ADC_STAT (16 + k) false).wbit Reg.ADC_STAT (8 + k) true

theorem State.calBegun_stat (s : State) (hk : k < 8) :
    (s.calBegun k).bit Reg.ADC_STAT (16 + k) = false ∧ (s.calBegun k).bit Reg.ADC_STAT (8 + k) = true := by
  refine ⟨?_, State.bit_wbit_same _ _ _ (by omega)⟩
  rw [State.calBegun, State.bit_wbit_apart _ _ _ (by omega) (by omega)]
  exact State.bit_wbit_same _ _ _ (by omega)

theorem State.calBegun_step (s : State) (k : Nat) : MeasStep [Reg.ADC_STAT] [] s (s.calBegun k) :=
  ((MeasStep.refl _ s).wbit (by simp) _ _).wbit (by simp) _ _

theorem State.calBegun_meas (s : State) (k : Nat) : (s.calBegun k).meas = s.meas := by
  rw [State.calBegun, State.wbit_meas, State.wbit_meas]

theorem calStart_pending (hpend : s.bit Reg.ADC_STAT (16 + k) = true) (hinj : (s.adc k).inj = []) :
    calStart k s = (s.calBegun k).raise 0x0410 k [k] := by simp [calStart, hpend, hinj, State.calBegun]

theorem calStart_undrained (hinj : (s.adc k).inj ≠ []) : calStart k s = s := by simp [calStart, hinj]

/-! ### A calibration that ends (R140, R142) -/

section Weights

variable (f : Nat → Nat) (v : Nat → Word)

theorem State.each_wr_ne {n a : Nat} (h : ∀ i < n, a ≠ f i) : (s.each n fun s i => s.wr (f i) (v i)).rg a = s.rg a := by
  induction n with
  | zero => rfl
  | succ n ih => rw [State.each_succ, State.rg_wr, if_neg (h n (by omega)), ih fun i hi => h i (by omega)]

theorem State.each_wr_same (hf : f.Injective) {n i : Nat} (hi : i < n) : (s.each n fun s i => s.wr (f i) (v i)).rg (f i) = v i := by
  induction n with
  | zero => omega
  | succ n ih =>
    rw [State.each_succ, State.rg_wr]
    by_cases hin : i = n
    · rw [hin, if_pos rfl]
    · rw [if_neg fun h => hin (hf h), ih (by omega)]

theorem State.each_wr_meas (n : Nat) : (s.each n fun s i => s.wr (f i) (v i)).meas = s.meas := by
  induction n with
  | zero => rfl
  | succ n ih => rw [State.each_succ]; exact ih

theorem MeasStep.each_wr {l : List Nat} {ev : List (Nat × Nat × List Nat)} (h : MeasStep l ev s t) (n : Nat)
    (hf : ∀ i < n, f i ∈ l) :
    MeasStep l ev s (t.each n fun s i => s.wr (f i) (v i)) := by
  induction n with
  | zero => exact h
  | succ n ih => rw [State.each_succ]; exact (ih fun i hi => hf i (by omega)).wr _ (hf n (by omega))

end Weights

/-- The corrections of converter `k` stored. -/
def State.corrected (s : State) (k : Nat) (offset gain : Word) (w : List Word) : State :=
  ((s.wr (Reg.ADC_CAL_OFS k) offset).wr (Reg.ADC_CAL_GAIN k) gain).each 16 fun s n => s.wr (Reg.ADC_CAL_W k n) (w.getD n 0)

/-- The calibration of converter `k` over, its sequence at step 0. -/
def State.calEnded (s : State) (k : Nat) : State :=
  (((s.wbit Reg.ADC_STAT (8 + k) false).wbit (Reg.ADC_KSTAT k) 0 true).wf (Reg.ADC_KSTAT k) 2 4 0).wbit Reg.ADC_FLAGS (8 + k) true

/-- The registers of the corrections of converter `k`. -/
def calRegs (k : Nat) : List Nat := [Reg.ADC_CAL_OFS k, Reg.ADC_CAL_GAIN k] ++ (List.range 16).map (Reg.ADC_CAL_W k)

theorem calRegs_apart {a : Nat} (h : a ∈ calRegs k) : a ∉ [Reg.ADC_STAT, Reg.ADC_KSTAT k, Reg.ADC_FLAGS] := by
  simp only [List.mem_cons, List.not_mem_nil, or_false]
  unfold Reg.ADC_STAT Reg.ADC_KSTAT Reg.ADC_FLAGS
  rcases List.mem_append.1 h with hcorr | hweight
  · simp only [List.mem_cons, List.not_mem_nil, or_false] at hcorr
    unfold Reg.ADC_CAL_OFS Reg.ADC_CAL_GAIN at hcorr
    omega
  · obtain ⟨n, hn, rfl⟩ := List.mem_map.1 hweight
    rw [List.mem_range] at hn
    unfold Reg.ADC_CAL_W
    omega

theorem State.corrected_step (s : State) (k : Nat) (offset gain : Word) (w : List Word) :
    MeasStep (calRegs k) [] s (s.corrected k offset gain w) :=
  (((MeasStep.refl _ s).wr offset (by simp [calRegs])).wr gain (by simp [calRegs])).each_wr _ _ 16 fun i hi =>
    List.mem_append_right _ (List.mem_map_of_mem (List.mem_range.2 hi))

theorem State.corrected_meas (s : State) (k : Nat) (offset gain : Word) (w : List Word) :
    (s.corrected k offset gain w).meas = s.meas := State.each_wr_meas _ _ 16

theorem State.corrected_rg (s : State) (k : Nat) (offset gain : Word) (w : List Word) :
    (s.corrected k offset gain w).rg (Reg.ADC_CAL_OFS k) = offset ∧
      (s.corrected k offset gain w).rg (Reg.ADC_CAL_GAIN k) = gain ∧
      ∀ n < 16, (s.corrected k offset gain w).rg (Reg.ADC_CAL_W k n) = w.getD n 0 := by
  have hofs : ∀ n < 16, Reg.ADC_CAL_OFS k ≠ Reg.ADC_CAL_W k n := fun n _ => by unfold Reg.ADC_CAL_OFS Reg.ADC_CAL_W; omega
  have hgain : ∀ n < 16, Reg.ADC_CAL_GAIN k ≠ Reg.ADC_CAL_W k n := fun n _ => by unfold Reg.ADC_CAL_GAIN Reg.ADC_CAL_W; omega
  have hne : Reg.ADC_CAL_OFS k ≠ Reg.ADC_CAL_GAIN k := by unfold Reg.ADC_CAL_OFS Reg.ADC_CAL_GAIN; omega
  have hinj : (Reg.ADC_CAL_W k).Injective := fun a b h => by unfold Reg.ADC_CAL_W at h; omega
  refine ⟨(State.each_wr_ne _ _ hofs).trans ?_, (State.each_wr_ne _ _ hgain).trans ?_,
    fun n hn => State.each_wr_same _ _ hinj hn⟩
  · rw [State.rg_wr, if_neg hne, State.rg_wr, if_pos rfl]
  · rw [State.rg_wr, if_pos rfl]

theorem State.calEnded_step (s : State) (k : Nat) :
    MeasStep [Reg.ADC_STAT, Reg.ADC_KSTAT k, Reg.ADC_FLAGS] [] s (s.calEnded k) :=
  ((((MeasStep.refl _ s).wbit (by simp) _ _).wbit (by simp) _ _).wf (by simp) 2 4 0).wbit (by simp) _ _

theorem State.calEnded_meas (s : State) (k : Nat) : (s.calEnded k).meas = s.meas := by
  simp only [State.calEnded, State.wbit_meas, State.wf_meas]

theorem State.calEnded_shows (s : State) (hk : k < 8) :
    (s.calEnded k).bit (Reg.ADC_KSTAT k) 0 = true ∧ (s.calEnded k).rf (Reg.ADC_KSTAT k) 2 4 = 0 ∧
      (s.calEnded k).bit Reg.ADC_STAT (8 + k) = false ∧ (s.calEnded k).bit Reg.ADC_FLAGS (8 + k) = true := by
  have hkf : Reg.ADC_KSTAT k ≠ Reg.ADC_FLAGS := by unfold Reg.ADC_KSTAT Reg.ADC_FLAGS; omega
  have hsk : Reg.ADC_STAT ≠ Reg.ADC_KSTAT k := by unfold Reg.ADC_KSTAT Reg.ADC_STAT; omega
  refine ⟨?_, ?_, ?_, State.bit_wbit_same _ _ _ (by omega)⟩ <;> rw [State.calEnded]
  · rw [State.bit_wbit_ne _ _ _ _ hkf, State.bit, State.rf_wf_apart _ _ _ (by decide) (.inr (by decide))]
    exact State.bit_wbit_same _ _ _ (by decide)
  · rw [State.rf_wbit_ne _ _ _ _ _ hkf]
    exact State.rf_wf_same _ _ _ _ _ (by decide)
  · rw [State.bit_wbit_ne _ _ _ _ (by decide), State.bit_of_rg _ (State.rg_wf_ne _ _ _ _ hsk), State.bit_wbit_ne _ _ _ _ hsk]
    exact State.bit_wbit_same _ _ _ (by omega)

theorem calComplete_running (offset gain : Word) (w : List Word) (h : s.bit Reg.ADC_STAT (8 + k) = true) :
    calComplete k offset gain w s =
      ((s.corrected k offset gain w).calEnded k).raise 0x0411 k [k, offset.toNat, gain.toNat] := by
  simp [calComplete, h, State.corrected, State.calEnded]

/-! ### The commands -/

section Command

variable {c : Conv}

theorem does_calCmd {src : Src} {v : Word} (hreach : Reaches s Reg.ADC_CAL_CMD)
    (hv : ∀ j < 8, fld v j 1 = if j = c.val then 1 else 0) (hilv : ∀ j < 8, s.ilv j = false) (h : CalibratesAlone s c.val) :
    Does (.adcCalCmd src v) s fun u =>
      u.bit Reg.ADC_STAT (16 + c.val) = true ∧ (u.adc c.val).reg = none ∧ (u.adc c.val).inj = (s.adc c.val).inj ∧
      Raises s u (droppedEvents c.val (s.adc c.val).reg) ∧ KeepsRegs s u [Reg.ADC_STAT, Reg.ADC_KSTAT c.val] ∧
      KeepsMem s u := by
  have h' : CalibratesAlone (s.disarm src) c.val := h
  obtain ⟨hpend, hreg, hinj⟩ := State.requestCal_pending h' c.isLt
  have hstep := State.requestCal_step h'
  refine Does_unkeyed (calCmd v) rfl hreach ?_
  rw [calCmd_named (s := s.disarm src) c.isLt hv hilv h']
  exact ⟨hpend, hreg, hinj, hstep.raises, hstep.regs, hstep.keepsMem⟩

variable (hrun : s.running = true)
include hrun

theorem does_calStart (hpend : s.bit Reg.ADC_STAT (16 + c.val) = true) (hinj : (s.adc c.val).inj = []) :
    Does (.adcCalStart c) s fun u =>
      u.bit Reg.ADC_STAT (16 + c.val) = false ∧ u.bit Reg.ADC_STAT (8 + c.val) = true ∧
      Raises s u [(0x0410, c.val, [c.val])] ∧ KeepsRegs s u [Reg.ADC_STAT] ∧ OnlyRegs s u := by
  refine Does_main_eq (calStart c.val) rfl hrun (calStart_pending hpend hinj) ?_
  have hstep := (s.calBegun_step c.val).raise 0x0410 c.val [c.val]
  obtain ⟨hover, hbegun⟩ := s.calBegun_stat c.isLt
  exact ⟨hover, hbegun, hstep.raises, hstep.regs, hstep.onlyRegs (s.calBegun_meas c.val)⟩

theorem leaves_calStart (hinj : (s.adc c.val).inj ≠ []) : Leaves (.adcCalStart c) s :=
  Leaves_main s (calStart c.val) rfl hrun (calStart_undrained hinj)

theorem does_calComplete (offset gain : Word) (w : List Word) (h : s.bit Reg.ADC_STAT (8 + c.val) = true) :
    Does (.adcCalComplete c offset gain w) s fun u =>
      u.rg (Reg.ADC_CAL_OFS c.val) = offset ∧ u.rg (Reg.ADC_CAL_GAIN c.val) = gain ∧
      (∀ n < 16, u.rg (Reg.ADC_CAL_W c.val n) = w.getD n 0) ∧ u.bit (Reg.ADC_KSTAT c.val) 0 = true ∧
      u.rf (Reg.ADC_KSTAT c.val) 2 4 = 0 ∧ u.bit Reg.ADC_STAT (8 + c.val) = false ∧ u.bit Reg.ADC_FLAGS (8 + c.val) = true ∧
      Raises s u [(0x0411, c.val, [c.val, offset.toNat, gain.toNat])] ∧ OnlyRegs s u := by
  refine Does_main_eq (calComplete c.val offset gain w) rfl hrun (calComplete_running offset gain w h) ?_
  obtain ⟨hofs, hgain, hw⟩ := s.corrected_rg c.val offset gain w
  have hmeas := s.corrected_meas c.val offset gain w
  have hcorrected := s.corrected_step c.val offset gain w
  generalize s.corrected c.val offset gain w = t at *
  obtain ⟨hcal, hseq, hstat, hflag⟩ := t.calEnded_shows c.isLt
  have hended := t.calEnded_step c.val
  have hmeas' := (t.calEnded_meas c.val).trans hmeas
  generalize t.calEnded c.val = u at *
  have hkept (a : Nat) (ha : a ∈ calRegs c.val) : u.rg a = t.rg a := hended.regs a (calRegs_apart ha)
  have hstep := ((hcorrected.mono (List.subset_append_left _ _)).trans (hended.mono (List.subset_append_right _ _))).raise 0x0411
    c.val [c.val, offset.toNat, gain.toNat]
  have hcalW (n : Nat) (hn : n < 16) : Reg.ADC_CAL_W c.val n ∈ calRegs c.val :=
    List.mem_append_right _ (List.mem_map_of_mem (List.mem_range.2 hn))
  exact ⟨(hkept _ (by simp [calRegs])).trans hofs, (hkept _ (by simp [calRegs])).trans hgain,
    fun n hn => (hkept _ (hcalW n hn)).trans (hw n hn), hcal, hseq, hstat, hflag, hstep.raises, hstep.onlyRegs hmeas'⟩

end Command

end Sys2Proof.Machine

open Sys2Proof Sys2Proof.Machine Sys2Proof.Safety

/-- Settles O13, command by command: a sample goes to the stream of the pair, else to the injected queue, else to the regular step;
a conversion that ends shows its result word; a calibration drops the regular work of its converter alone. -/
theorem conversionsAndCalibration : Obligations.ConversionsAndCalibration := by
  unfold Obligations.ConversionsAndCalibration
  refine ⟨fun s c nanovolt j rest w e x hrun he => ⟨does_sampleInstant_stream hrun he, does_sampleInstant_injected hrun,
      does_sampleInstant_regular hrun, fun hcal hw _ hage => does_conversionComplete hrun hcal hw hage⟩,
    fun s src c v offset gain w hrun => ⟨fun hreach hv hilv hset hcal hstream => ?_, does_calStart hrun, leaves_calStart hrun,
      does_calComplete hrun offset gain w⟩⟩
  have h := does_calCmd (src := src) hreach hv hilv ⟨hset, hcal, hstream⟩
  cases hreg : (s.adc c.val).reg with
  | none => exact hreg ▸ h
  | some j => exact hreg ▸ h
end
